-- ==== Sys2Proof/Word.lean ====
section
/-! DEFINITION. The word type of the module's own formats (bytes) and the plainest arithmetic on counts. -/

namespace Sys2Proof

/-- One byte of a frame, a record or a stored object. -/
abbrev Byte := BitVec 8

/-- A byte from a number (its low eight bits). -/
def byte (n : Nat) : Byte := BitVec.ofNat 8 n

/-- A count kept in a field of `w` bits. -/
def wrap (w n : Nat) : Nat := n % 2 ^ w

end Sys2Proof
end

