-- ==== Sys2Proof/Syntax.lean ====
section
/-! DEFINITION. The commands of the block: one constructor per row of spec/opcode_table.json, and the
operand records they carry. The first operand of every command is the instant at which it happens, in
ticks of the 122.88 MHz bus clock (log entry 1). What a command carries beside it is what the spec says
is measured, drawn at random, received from outside or judged by the Dome (log entry 2). -/

namespace Sys2Proof

/-- Where a frame came from or goes to on a host link. `family` 0 is the Spire link, 4 IPv4, 6 IPv6;
`bytes` is the address in network byte order. -/
structure Addr where
  family : Nat
  port : Nat
  bytes : List Byte
  deriving DecidableEq, Repr

/-- An OAP frame as a host link hands it over, with the Dome's verdict on its tag (`authentic`); the
payload is the plaintext that the verdict covers (R384, R441). `link` is 1 for Ethernet, 2 for Spire. -/
structure Frame where
  link : Nat
  src : Addr
  version : Nat
  shade : Nat
  flags : Nat
  op : Nat
  session : Nat
  seq : Nat
  lengthOk : Bool
  authentic : Bool
  payload : List Byte
  deriving DecidableEq, Repr

/-- A complex number: a sample, a correlation or an amplitude, in steps of the 14-bit converter (Table 1 of chapter 4). -/
structure Cx where
  re : Int
  im : Int
  deriving DecidableEq, Repr

/-- Samples of a quad at 10.24 MS/s, ports 0–3 each on its own, and those of the forward reference beside them (R137, R158). -/
structure Air where
  ports : List (List Cx)
  fwd : List Cx
  deriving DecidableEq, Repr

/-- A BLF hypothesis of the preamble detector: its BLF against the nominal one in 0.01 %, interpolated, and the correlation of the
preamble at each port (chapter 5, R162, R163). -/
structure Hypothesis where
  dev : Int
  corr : List Cx
  deriving DecidableEq, Repr

/-- A detection of a preamble as the front end declares it: the reply start in bus ticks after the command's last symbol, up to nine
hypotheses, the noise power of the ports and over how many listening samples it was taken (R162, R163). -/
structure Detection where
  start : Nat
  hyps : List Hypothesis
  noise : List Nat
  heard : Nat
  deriving DecidableEq, Repr

/-- What a quad's ports had before its receive window opens: up to 256 tracking samples each (R145, R159). -/
structure Opening where
  quad : Nat
  pre : List (List Cx)
  deriving DecidableEq, Repr

/-- What the separator's refinement gives for a stream: its signature at the four ports, its reply start in bus ticks after the
command's last symbol, and the index of the eigenvector it was started from (R172, R175). -/
structure StreamEst where
  signature : List Cx
  start : Nat
  eigen : Nat
  deriving DecidableEq, Repr

/-- The samples of the first data bits, and what the separator's refinement gives for each stream (R172). -/
structure Settled where
  air : Air
  est : List StreamEst
  deriving DecidableEq, Repr

/-- What an iteration of a port's canceller does: how far each component of the coarse and fine vectors moves, and the taps of the digital
canceller (chapter 4, R136–R138). -/
structure CancMove where
  coarseI : Int
  coarseQ : Int
  fineI : Int
  fineQ : Int
  taps : List Int
  deriving DecidableEq, Repr

/-- What an iteration of a port's canceller measures: the residual in 0.01 dBm at the land, both depths in 0.01 dB, and the DC at the VGA
input in DAC steps (chapter 4, R139, R144). -/
structure CancReading where
  residual : Int
  analog : Nat
  digital : Nat
  dcI : Int
  dcQ : Int
  deriving DecidableEq, Repr

/-- An iteration of a port's canceller (chapter 4, R136–R144). -/
structure CancIter extends CancMove, CancReading where
  deriving DecidableEq, Repr

/-- A reading of a port's coupler: the VSWR in 0.01 and the forward power in 0.01 dBm (chapter 3, R103). -/
structure Wave where
  vswr : Nat
  fwd : Int
  deriving DecidableEq, Repr

/-- A value that has been there since a tick. -/
structure Sustained where
  value : Nat
  since : Nat
  deriving DecidableEq, Repr

/-- A card's reply as the HF receiver decodes it: its bytes in air order with their check value, the frame delay time in
carrier cycles, the position of a first bit collision among the UID bits of an anticollision reply, and whether its
framing failed (chapter 9, R307, R309). A collision of whole frames (Type B, ISO/IEC 15693) is given as position 0. -/
structure CardReply where
  data : List Byte
  fdt : Nat
  collision : Option Nat
  framing : Bool
  deriving DecidableEq, Repr

/-- A band of a charter (Table 10 of chapter 3). -/
structure Band where
  low : Nat
  high : Nat
  conducted : Int
  eirp : Int
  dwell : Nat
  reuse : Nat
  period : Nat
  occupancy : Nat
  modulations : Nat
  minHop : Nat
  deriving DecidableEq, Repr

/-- A fused charter (Tables 11 and 12 of chapter 3, Table 1 of chapter 0). -/
structure Charter where
  uhfRule : Nat
  hfRule : Nat
  uhfCeiling : Int
  hfCeiling : Nat
  bands : List Band
  channels : List Nat
  check : Nat
  deriving DecidableEq, Repr

/-- The commands: one constructor per row of the table of operations and events (`spec/opcode_table.json`). -/
inductive Instr where
  /-- R663: The TMR2 compare marks a phase-slot boundary: due transactions take effect, forbidding changes cut exchanges, and the windows of the new slot open. -/
  | slotBoundary (t : Nat) (pings : List Nat)
  /-- R69: The TMR3 compare marks the usable end of the current window. -/
  | windowEnd (t : Nat)
  /-- R54: An accepted MAINS_SENSE edge is captured; the period and phase error are measured and the tracker state is updated. -/
  | mainsEdgeCapture (t : Nat) (incF : Nat) (want : Int)
  /-- R60: No accepted edge for (N + 2) nominal periods, or bad captures, puts the tracker in lost, and the Belfry free-runs. -/
  | mainsLost (t : Nat)
  /-- R75: A follower classifies a CAL_SYNC low pulse and aligns its frame boundary to it, or realigns after a slip under R77. -/
  | calSyncPulseReceived (t : Nat) (width incF : Nat) (want : Int)
  /-- R78: A follower with no valid pulse for two frame periods enters holdover and raises event 0x1005. -/
  | calSyncLost (t : Nat)
  /-- R79: A leader that sees CAL_SYNC low outside its own pulse stops driving the line and runs standalone. -/
  | calSyncConflict (t : Nat) (width : Nat)
  /-- R88: A quad hops its synthesizer to the chosen channel, warm from channel memory or cold with a full band search. -/
  | synthesizerHop (t : Nat) (quad draw : Nat) (calOk : Bool) (band cap : Nat)
  /-- R95: At the quad's stagger point the carrier ramp starts along a raised-cosine envelope. -/
  | rampStart (t : Nat) (quad : Nat)
  /-- R94: The ramp ends; the power loop engages, and the receivers begin settling. -/
  | carrierAtSetPower (t : Nat) (quad : Nat)
  /-- R139: A port's canceller meets its residual target and the port enters the tracking state. -/
  | cancellerSettled (t : Nat) (port : Nat) (residual : List Int) (coarse fine : List (Int × Int)) (taps : List (List Int)) (analog digital : List Nat) (dc : List (Int × Int))
  /-- R140: A canceller not settled 150 µs after the carrier reached power is shallow and raises event 0x2107. -/
  | cancellerShallow (t : Nat) (port : Nat) (moves : List CancMove) (readings : List CancReading)
  /-- R90: A synthesizer that loses lock with its carrier on turns the carrier off within 2 µs and abandons the exchange. -/
  | synthesizerUnlock (t : Nat) (quad : Nat)
  /-- R87: A quad recalibrates a stale or missing synthesizer part with its carrier off. -/
  | backgroundCalibration (t : Nat) (quad index port : Nat) (ok : Bool) (band cap : Nat)
  /-- R89: Every 600 s changed channel memory entries are written to MRAM. -/
  | channelMemoryWrite (t : Nat)
  /-- R99: Every 2 µs on an unmodulated carrier the loop measures forward power and moves the PA drive. -/
  | powerLoopMeasurement (t : Nat) (quad : Nat) (fwd : Int)
  /-- R99: Every 100 µs the feed-forward compensation for bank temperature and PA supply is refreshed. -/
  | feedForwardRefresh (t : Nat) (bank mv : Nat)
  /-- R101: At maximum drive, forward power more than 0.5 dB short for 20 µs is counted as a shortfall. -/
  | powerShortfall (t : Nat) (quad : Nat) (measured : Int)
  /-- R102: At most once every 20 µs, an adaptive tuner steps one bank by one code toward lower reflected power. -/
  | tunerStep (t : Nat) (port bank : Nat) (up : Bool) (vswr : Nat)
  /-- R103: VSWR above the trip threshold folds the PA back within 2 µs and faults the port. -/
  | mismatchTrip (t : Nat) (port : Nat) (wave : Wave)
  /-- R103: A hard short or PA over-current folds the PA back within 1 µs and faults the port. -/
  | hardShort (t : Nat) (port : Nat) (gamma : Option Nat)
  /-- R106: A bank's PA supply leaving 11.0–13.0 V holds that bank's ramps. -/
  | paSupplyOutOfWindow (t : Nat) (bank mv : Nat)
  /-- R106: A supply back in window for 2 µs resumes held ramps and raises event 0x2204. -/
  | paSupplyBackInWindow (t : Nat) (bank mv : Nat)
  /-- R106: A ramp held for 200 µs is abandoned with its carrier off and raises event 0x2205. -/
  | rampAbandoned (t : Nat) (quad : Nat)
  /-- R98: Every 100 µs the bank sensors are sampled, and derating, its end or over-temperature safe state follows. -/
  | temperatureSample (t : Nat) (tempA tempB tempC : Int)
  /-- R111: Once every probe interval, a faulted port is probed with a 50 µs carrier, which may set the cause-cleared flag. -/
  | portProbe (t : Nat) (port vswr : Nat) (overCurrent : Bool) (draw : Nat)
  /-- R119: Reaching the dwell or occupancy end turns the carrier off and starts the re-use off time. -/
  | dwellLimit (t : Nat) (quad : Nat)
  /-- R120: Every 60 s the fused charter is checked against its CRC-32, and a mismatch enters safe state. -/
  | fusedCharterCheck (t : Nat) (crc : Nat)
  /-- R122: The module drives CX_REQ high the request lead before a window's first carrier rise. -/
  | cxReqRaised (t : Nat)
  /-- R123: CX_GNT rising permits emission; CX_GNT falling with a carrier on raises event 0x2301 and applies the withdrawal action. -/
  | cxGntChange (t : Nat) (level : Bool)
  /-- R123: No CX_GNT within the grant wait limit gives up the window and raises event 0x2302. -/
  | grantWaitExpired (t : Nat)
  /-- R124: CX_ACT rising applies the CX_ACT action and raises event 0x2303. -/
  | foreignActivity (t : Nat)
  /-- R153: A quad dwells on one channel in a quiet slot and records the level at each port. -/
  | noiseSurveyDwell (t : Nat) (quad : Nat) (levels : List Int)
  /-- R146: Per block of 8 listening samples the AGC adjusts the VGA and the clip counters move. -/
  | agcBlock (t : Nat) (port : Nat) (block fwd : List Cx)
  /-- R230: The sequencer sends an ISO/IEC 18000-63 Select of the step. -/
  | isoSelect (t : Nat) (quad : Nat)
  /-- R221: The sequencer starts a round with a Query at the current Q. -/
  | query (t : Nat) (quad : Nat)
  /-- R220: The sequencer sends QueryAdjust when Q moves by one. -/
  | queryadjust (t : Nat) (quad : Nat)
  /-- R220: The sequencer sends QueryRep for the next slot at unchanged Q. -/
  | queryrep (t : Nat) (quad : Nat)
  /-- R209: The sequencer acknowledges the RN16 of the primary stream. -/
  | isoAck (t : Nat) (quad : Nat)
  /-- R210: The sequencer sends NAK after a failed EPC reply or access failure. -/
  | nak (t : Nat) (quad : Nat)
  /-- R212: The sequencer sends Req_RN for a handle or a fresh cover-coding RN16. -/
  | reqRn (t : Nat) (quad : Nat)
  /-- R211: The sequencer sends a Read of 1–64 words with retries. -/
  | isoRead (t : Nat) (quad : Nat)
  /-- R212: The sequencer sends a cover-coded Write of one word. -/
  | isoWrite (t : Nat) (quad : Nat)
  /-- R212: The sequencer sends the cover-coded Kill password halves. -/
  | kill (t : Nat) (quad : Nat)
  /-- R214: The sequencer sends Lock with its mask and action payload. -/
  | lock (t : Nat) (quad : Nat)
  /-- R212: The sequencer sends the cover-coded Access password halves. -/
  | access (t : Nat) (quad : Nat)
  /-- R194: The sequencer sends BlockWrite of 1–16 words. -/
  | blockwrite (t : Nat) (quad : Nat)
  /-- R194: The sequencer sends BlockErase of 1–16 words. -/
  | blockerase (t : Nat) (quad : Nat)
  /-- R214: The sequencer sends BlockPermalock. -/
  | blockpermalock (t : Nat) (quad : Nat)
  /-- R214: The sequencer sends Untraceable. -/
  | untraceable (t : Nat) (quad : Nat)
  /-- R215: The sequencer sends an ISO/IEC 29167-10 Authenticate with a fresh IChallenge. -/
  | authenticate (t : Nat) (quad : Nat) (challenge : List Byte)
  /-- R289: The sequencer sends HSB_Probe to a tag with a handle. -/
  | hsbProbe (t : Nat) (quad : Nat)
  /-- R289: The sequencer sends HSB_Load with the chosen code and loading map. -/
  | hsbLoad (t : Nat) (quad : Nat)
  /-- R286: The sequencer acknowledges 2 or 3 resolved RN16 streams in one GroupACK. -/
  | hsbGroupack (t : Nat) (quad : Nat)
  /-- R162: The quad DSP declares a reply, freezes gains and signatures, and applies the co-channel checks. -/
  | preambleDetected (t : Nat) (quad : Nat) (found : Detection)
  /-- R246: The hold limit or the held quad's slack runs out and ends the co-channel hold. -/
  | coChannelHoldLimit (t : Nat) (quad : Nat)
  /-- R164: Coding violations or low SNR within 16 bits withdraw a detection, and the search resumes. -/
  | detectionWithdrawn (t : Nat) (quad : Nat) (inPhase quadrature : List (List Int)) (fwd : List Cx)
  /-- R172: By the 6th data bit, stream signatures and zero-forcing weights settle and earlier bits are decided again. -/
  | separationSettled (t : Nat) (quad : Nat) (settled : Settled)
  /-- R170: The last-bit decision and CRC verdict reach the sequencer; the exchange is classified and the next command chosen. -/
  | replyDecision (t : Nat) (quad : Nat) (air : Air)
  /-- R201: A receive window closes with no detection and the exchange ends with no reply. -/
  | receiveWindowClose (t : Nat) (quad : Nat)
  /-- R272: The capability header and 16 subcarrier SNRs are ready and the loading is chosen. -/
  | probeAnalysisDone (t : Nat) (quad : Nat) (ports : List (List Cx)) (fwd : List Cx)
  /-- R190: An LDPC core finishes a codeword by syndrome or iteration limit. -/
  | ldpcCodewordDone (t : Nat) (core : Nat) (quads : List Nat) (ports : List (List (List Cx))) (fwd : List (List Cx))
  /-- R337: The Dome resolves or rejects a meter entry's pseudonym. -/
  | pseudonymResolved (t : Nat) (entry first : Nat)
  /-- R216: The Dome decrypts and checks a TAM reply and hands accepted counters to the metering service. -/
  | authenticationChecked (t : Nat) (entry : Nat) (ok : Bool) (custom : List Byte)
  /-- R239: A provisional entry not confirmed within its lifetime is cancelled and its merge undone. -/
  | provisionalLifetimeExpired (t : Nat) (entry : Nat)
  /-- R243: A confirmed entry whose last seen lies the age-out time past is freed. -/
  | entryAgeOut (t : Nat) (entry : Nat)
  /-- R232: A plan starts a pass when enabled, at each pass interval or when the previous pass ends. -/
  | passStart (t : Nat) (plan : Nat)
  /-- R232: A pass at its limit ends after the slot in progress and raises event 0x3003. -/
  | passLimitReached (t : Nat) (plan : Nat)
  /-- R475: The inventory engine takes the next result-queue entry in rotation. -/
  | resultTaken (t : Nat) (quad : Nat)
  /-- R474: A complete port FIFO entry moves to the quad result queue or is released. -/
  | fifoEntryMoved (t : Nat) (port : Nat)
  /-- R323: Each scan period the enabled capacitive channels are measured and detected, released, baselined or faulted. -/
  | capScan (t : Nat) (counts : List Nat)
  /-- R324: A channel detected for the stuck time with no service is re-baselined and raises event 0x4102. -/
  | channelStuck (t : Nat) (channel : Nat)
  /-- R296: A detection service takes a free transmitter, pre-empting a poll if needed, and raises the field. -/
  | hfServiceStart (t : Nat) (port : Nat)
  /-- R328: The guard time after the field reaches power elapses and the first card command is sent. -/
  | guardTimeExpiry (t : Nat) (port : Nat)
  /-- R304: The module sends REQA. -/
  | reqa (t : Nat) (port : Nat)
  /-- R304: The module sends WUPA. -/
  | wupa (t : Nat) (port : Nat)
  /-- R307: The module sends a Type A ANTICOLLISION at a cascade level. -/
  | anticollision (t : Nat) (port : Nat)
  /-- R304: The module sends a Type A SELECT at a cascade level. -/
  | selectTypeA (t : Nat) (port : Nat)
  /-- R314: The module sends HLTA. -/
  | hlta (t : Nat) (port : Nat)
  /-- R304: The module sends REQB. -/
  | reqb (t : Nat) (port : Nat)
  /-- R307: The module sends WUPB with N = 1, 4 or 16. -/
  | wupb (t : Nat) (port : Nat)
  /-- R304: The module sends a Type B Slot-MARKER. -/
  | slotMarker (t : Nat) (port : Nat)
  /-- R305: The module sends ATTRIB with CID 0, setting the rate. -/
  | attrib (t : Nat) (port : Nat)
  /-- R314: The module sends HLTB. -/
  | hltb (t : Nat) (port : Nat)
  /-- R305: The module sends RATS with FSDI 8 and CID 0. -/
  | rats (t : Nat) (port : Nat)
  /-- R305: The module sends PPS to raise the rate. -/
  | pps (t : Nat) (port : Nat)
  /-- R306: The module sends an I-block carrying a C-APDU. -/
  | iBlock (t : Nat) (port : Nat)
  /-- R306: The module sends R(ACK) in chaining. -/
  | rAck (t : Nat) (port : Nat)
  /-- R306: The module repeats a block with R(NAK). -/
  | rNak (t : Nat) (port : Nat)
  /-- R306: The module grants an S(WTX) request. -/
  | sWtx (t : Nat) (port : Nat)
  /-- R314: The module sends S(DESELECT). -/
  | sDeselect (t : Nat) (port : Nat)
  /-- R307: The module sends an ISO/IEC 15693 Inventory, 1-slot or 16-slot. -/
  | inventory (t : Nat) (port : Nat)
  /-- R304: The module sends ISO/IEC 15693 Stay quiet. -/
  | stayQuiet (t : Nat) (port : Nat)
  /-- R304: The module sends ISO/IEC 15693 Select. -/
  | select15693 (t : Nat) (port : Nat)
  /-- R314: The module sends ISO/IEC 15693 Reset to ready. -/
  | resetToReady (t : Nat) (port : Nat)
  /-- R304: The module sends Read single block. -/
  | readSingleBlock (t : Nat) (port : Nat)
  /-- R304: The module sends Read multiple blocks. -/
  | readMultipleBlocks (t : Nat) (port : Nat)
  /-- R304: The module sends Write single block. -/
  | writeSingleBlock (t : Nat) (port : Nat)
  /-- R304: The module sends Get system information. -/
  | getSystemInformation (t : Nat) (port : Nat)
  /-- R313: A card reply is timed on the grid, checked against the step and the plan proceeds. -/
  | cardReply (t : Nat) (port : Nat) (reply : CardReply)
  /-- R306: No valid reply within FWT repeats the block, or the card counts as lost. -/
  | cardReplyTimeout (t : Nat) (port : Nat)
  /-- R313: A card plan step or plan time limit expires and ends the step. -/
  | stepTimeout (t : Nat) (port : Nat)
  /-- R298: Every 10 µs outside card frames the field loop reads the driver and adjusts power. -/
  | hfFieldLoop (t : Nat) (port delivered limit : Nat)
  /-- R299: Driver current out of range for 5 µs faults the HF port. -/
  | hfPortFault (t : Nat) (port : Nat) (current : Sustained)
  /-- R302: Once every probe interval a faulted HF port is probed at 10 mW. -/
  | hfPortProbe (t : Nat) (port current : Nat)
  /-- R301: A write of an HF port's requested state enables it or forbids its field. -/
  | hfRequestedState (t : Nat) (f : Frame)
  /-- R302: A write of 1 to an HF port's re-arm returns it to ready if its cause has cleared. -/
  | hfReArm (t : Nat) (f : Frame)
  /-- R108: A write of a UHF port's requested state enables it or disables it from the next slot boundary. -/
  | requestedState (t : Nat) (f : Frame)
  /-- R110: A write of 1 to a UHF port's re-arm returns it to ready if its cause has cleared. -/
  | reArm (t : Nat) (f : Frame)
  /-- R664: A write of 1 clears all 256 channel memory entries of a quad. -/
  | invalidateChannelMemory (t : Nat) (f : Frame)
  /-- R253: A write of 1 clears the reading shade's routed bits. -/
  | forgetView (t : Nat) (f : Frame)
  /-- R343: The RTC reaches a class's interval boundary; the cycle is noted and the boundary plan starts. -/
  | intervalBoundary (t : Nat) (cls : Nat)
  /-- R342: At boundary plus capture span, one record per meter is formed, chained, signed and encrypted. -/
  | recordsFormed (t : Nat) (shade : Nat)
  /-- R350: A commit group's slots and control copy are written to the journal. -/
  | commitGroup (t : Nat)
  /-- R351: A group waiting for a stable supply is tried again every 10 ms. -/
  | commitSupplyRetry (t : Nat)
  /-- R352: A committed batch piece enters the shade's queue when room allows. -/
  | batchPieceQueued (t : Nat) (shade : Nat)
  /-- R353: A write acknowledges the shade's batches up to the sequence given. -/
  | acknowledgeThrough (t : Nat) (f : Frame)
  /-- R354: A write restarts batch delivery at the named batch. -/
  | redeliverFrom (t : Nat) (f : Frame)
  /-- R354: The redelivery interval passes and unacknowledged batches are delivered again. -/
  | redeliveryInterval (t : Nat) (shade : Nat)
  /-- R355: An acknowledged batch past its retention time is freed. -/
  | retentionExpired (t : Nat) (shade : Nat)
  /-- R359: A write enrols a meter identity with its class, counter and key. -/
  | enrol (t : Nat) (f : Frame)
  /-- R359: A write retires a meter with a kind 3 record. -/
  | retire (t : Nat) (f : Frame)
  /-- R339: A write marks a meter for resync over 4,096 counter values. -/
  | resync (t : Nat) (f : Frame)
  /-- R339: A resync mark clears after 24 h without a matching read. -/
  | resyncMarkExpired (t : Nat) (meter : Nat)
  /-- R410: An OAP READ returns values or descriptions of up to 16 items. -/
  | read (t : Nat) (f : Frame)
  /-- R412: An OAP WRITE of one object is checked and takes effect by its commit class. -/
  | write (t : Nat) (f : Frame)
  /-- R413: An OAP READ_BLOCK returns bytes of a long object or whole units of a stream. -/
  | readBlock (t : Nat) (f : Frame)
  /-- R418: An OAP TXN_OPEN opens a transaction in a free place. -/
  | txnOpen (t : Nat) (f : Frame)
  /-- R419: An OAP TXN_STAGE checks and stages up to 16 writes as a whole. -/
  | txnStage (t : Nat) (f : Frame)
  /-- R422: An OAP TXN_COMMIT checks the transaction and applies it or makes it wait for its boundary. -/
  | txnCommit (t : Nat) (f : Frame)
  /-- R426: An OAP TXN_ABORT discards a staging transaction or withdraws a waiting one. -/
  | txnAbort (t : Nat) (f : Frame)
  /-- R421: A staging transaction idle for 10 s is discarded and raises event 0x0403. -/
  | transactionExpired (t : Nat) (txn : Nat)
  /-- R428: A store refused at a boundary is retried every 10 ms. -/
  | storeAfterBoundaryRetry (t : Nat) (txn : Nat)
  /-- R434: An OAP SUBSCRIBE sets the shade's subscription and may take delivery. -/
  | subscribe (t : Nat) (f : Frame)
  /-- R436: The module sends an EVENT frame of numbered items to the delivery session. -/
  | event (t : Nat) (shade : Nat)
  /-- R437: An OAP ACK frees delivered items through the number given. -/
  | ack (t : Nat) (f : Frame)
  /-- R437: Items not acknowledged within the redelivery time are delivered again. -/
  | redeliveryTimeExpired (t : Nat) (shade : Nat)
  /-- R381: A HELLO phase 1 opens a half-open session and is answered with HELLO_REPLY phase 1. -/
  | helloPhase1 (t : Nat) (f : Frame)
  /-- R382: A HELLO phase 2 verifies the owner and opens the session with HELLO_REPLY phase 2. -/
  | helloPhase2 (t : Nat) (f : Frame)
  /-- R371: A claim-mode handshake proves the claim code and sets the Slate owner key. -/
  | claim (t : Nat) (f : Frame)
  /-- R373: A reclaim-mode handshake under SAFE_N replaces the Slate owner key. -/
  | reclaim (t : Nat) (f : Frame)
  /-- R386: A half-open session without phase 2 within 5 s is discarded. -/
  | halfOpenTimeout (t : Nat) (session : Nat)
  /-- R386: A session with no authenticated frame for the idle limit ends with reason 2. -/
  | sessionIdle (t : Nat) (session : Nat)
  /-- R386: A session ends with reason 3 at its lifetime. -/
  | sessionLifetime (t : Nat) (session : Nat)
  /-- R388: An OAP CLOSE ends a session and is answered with CLOSE. -/
  | close (t : Nat) (f : Frame)
  /-- R398: A write ends one of the shade's own sessions with reason 1. -/
  | endSession (t : Nat) (f : Frame)
  /-- R374: Committing an owner public key to a closed shade opens it with a new storage key and chain. -/
  | shadeOpened (t : Nat) (f : Frame)
  /-- R380: A shade commits a new owner key signed by its new private key. -/
  | rotateOwnerKey (t : Nat) (f : Frame)
  /-- R380: 1 s after the rotation reply, every session of the shade ends with reason 5. -/
  | rotationSessionsEnd (t : Nat) (shade : Nat)
  /-- R377: A write of 1 erases the shade at once. -/
  | erase (t : Nat) (f : Frame)
  /-- R376: Slate's write of 2 puts the shade in closing with an erase due in 72 h. -/
  | forcedErase (t : Nat) (f : Frame)
  /-- R376: Slate's write of 3 returns a closing shade to its former state. -/
  | cancelForcedErase (t : Nat) (f : Frame)
  /-- R376: The erase due time passes on the RTC and the closing shade is erased. -/
  | eraseDue (t : Nat) (shade : Nat)
  /-- R395: A failed continuous test stops random output and sets the Dome state to 1. -/
  | trngHealthFailure (t : Nat) (kind : Nat)
  /-- R395: Every 1 s the failed source is tested again and may recover. -/
  | trngRetest (t : Nat) (ok : Bool)
  /-- R453: An ARP request for an address held is answered. -/
  | arpRequest (t : Nat) (target : List Byte)
  /-- R453: A DHCPv4 server message advances the client and its lease. -/
  | dhcpv4Message (t : Nat) (kind : Nat) (address server mask router : List Byte) (lease : Nat)
  /-- R453: An IPv6 neighbour solicitation is answered with an advertisement. -/
  | neighbourSolicitation (t : Nat) (target : List Byte)
  /-- R453: A router advertisement sets the prefix and default router. -/
  | routerAdvertisement (t : Nat) (router : List Byte) (lifetime : Nat) (pfx : List Byte) (valid : Nat)
  /-- R453: An ICMP echo request is answered while echo reply is enabled. -/
  | echoRequest (t : Nat) (target : List Byte)
  /-- R455: An address failing duplicate detection or an ARP probe is withdrawn and raises event 0x0204. -/
  | addressDuplicate (t : Nat) (family : Nat)
  /-- R455: 10 s after a withdrawal, address acquisition is tried again. -/
  | addressRetry (t : Nat) (family : Nat)
  /-- R455: A DHCP lease runs out and the IPv4 address is lost. -/
  | dhcpLeaseExpired (t : Nat)
  /-- R450: At each poll interval the module reads PHY register 1 and resolves the link. -/
  | mdioPoll (t : Nat) (id reg1 reg5 reg10 : Nat)
  /-- R448: PLCA status leaves running and event 0x0207 is raised. -/
  | plcaStatusChanged (t : Nat)
  /-- R457: A write of Ethernet enable takes Ethernet out of use or starts it again. -/
  | ethernetEnable (t : Nat) (f : Frame)
  /-- R462: A write of Spire link enable forces or ends the busy pattern. -/
  | spireLinkEnable (t : Nat) (f : Frame)
  /-- R460: At SPI_SEL_N rising, the inbound frame is latched, confirmed and reassembled. -/
  | spireTransferEnd (t : Nat) (edges : Nat) (register : List Byte)
  /-- R461: Within 4 µs the busy pattern is replaced by the next outbound frame. -/
  | outboundFrameLoaded (t : Nat)
  /-- R471: No valid frame for the link timeout takes the Spire link down and enters restart. -/
  | spireLinkTimeout (t : Nat)
  /-- R483: A frame leaves the host-link transmit queue on its link. -/
  | frameTransmitted (t : Nat) (link collisions : Nat)
  /-- R494: An armed compare channel fires, applies its output action and disarms. -/
  | compareFire (t : Nat) (timer channel : Nat)
  /-- R498: A passed input edge latches the count into a capture channel. -/
  | capture (t : Nat) (timer channel : Nat) (rising : Bool)
  /-- R495: A write of the arm subindex in compare mode sets the value and arms the channel. -/
  | compareArm (t : Nat) (f : Frame)
  /-- R499: A write of the arm subindex in triggered mode sets the offset and waits for the master. -/
  | triggerArm (t : Nat) (f : Frame)
  /-- R496: A write drives a timer output to the level written. -/
  | forceOutput (t : Nat) (f : Frame)
  /-- R490: A prescaler change restarts the divider at the next bus clock edge. -/
  | prescaler (t : Nat) (timer : Nat)
  /-- R493: A withdrawn grant or erase releases a timer within 1 µs. -/
  | timerReleased (t : Nat) (timer : Nat)
  /-- R509: Once a minute, suppressed timer events are summed in event 0x1204. -/
  | timerEventsSuppressed (t : Nat) (timer channel : Nat)
  /-- R517: The clock increments one trimmed second and carries the fields. -/
  | rtcSecond (t : Nat)
  /-- R520: A read of the seconds field copies all eight fields to the session's shadow and starts its freeze. -/
  | secondsRead (t : Nat) (f : Frame)
  /-- R520: A read of the century field ends the session's freeze. -/
  | centuryRead (t : Nat) (f : Frame)
  /-- R520: A freeze ends 250 ms after it started. -/
  | freezeExpired (t : Nat) (session : Nat)
  /-- R522: A write of a time field 2–8 is staged in the session. -/
  | stagedTimeWrite (t : Nat) (f : Frame)
  /-- R522: Staged time values are discarded 10 s after the last staged write. -/
  | stagedTimeDiscarded (t : Nat) (session : Nat)
  /-- R523: A write of the seconds field commits the new time at the next 32.768 kHz edge. -/
  | timeCommit (t : Nat) (f : Frame)
  /-- R525: No 32.768 kHz edge for 1 ms holds the clock fields. -/
  | oscillatorStopped (t : Nat)
  /-- R525: The first edge after a stop resumes counting and sets the stopped flag. -/
  | oscillatorRestart (t : Nat)
  /-- R528: At each 32 s trim period end auto-trim moves T by one unit. -/
  | trimPeriodEnd (t : Nat)
  /-- R527: Each 2^20 crystal cycles the module measures the crystal error. -/
  | crystalMeasurement (t : Nat) (ticks : Nat)
  /-- R513: Every 60 s VBAK is measured and may raise event 0x1106. -/
  | vbakMeasurement (t : Nat) (mv : Nat)
  /-- R531: A write sets or cancels an off time for PWR_ON. -/
  | powerOffRequest (t : Nat) (f : Frame)
  /-- R531: At the off time PWR_ON goes low and event 0x1109 is raised. -/
  | powerOffByPwrOn (t : Nat)
  /-- R533: VSYS falling through 4.4 V locks host-side backup-domain writes. -/
  | writeLock (t : Nat)
  /-- R533: VSYS held at 4.6 V for 2 ms with the dictionary reachable releases the lock. -/
  | writeLockRelease (t : Nat)
  /-- R535: VSYS falling through 3.0 V moves the domain to VBAK and stamps the switch-over. -/
  | switchOverToVbak (t : Nat)
  /-- R535: VSYS rising through 3.1 V returns the domain to VSYS and stamps the return. -/
  | returnToVsys (t : Nat)
  /-- R512: A supply returning to a domain that lost it starts the domain afresh. -/
  | backupDomainSupplyReturn (t : Nat) (vbak : Nat)
  /-- R538: A store begins under the stable-supply precondition and writes its pages with trailers. -/
  | store (t : Nat) (partition page : Nat) (content : List Byte)
  /-- R540: A single-bit MRAM error is corrected, written back and counted. -/
  | correctedWord (t : Nat) (page : Nat)
  /-- R541: An uncorrectable MRAM word fails its page and raises event 0x0505. -/
  | uncorrectablePage (t : Nat) (page : Nat)
  /-- R540: In idle time every sealed page is read once every 7 days. -/
  | mramScrub (t : Nat) (page : Nat)
  /-- R550: A write of an image length starts loading the other firmware slot. -/
  | begin (t : Nat) (f : Frame)
  /-- R550: A write of a 1,024-byte block at the loading offset loads image bytes. -/
  | data (t : Nat) (f : Frame)
  /-- R551: A write of 1 checks the loaded image within 10 ms. -/
  | verify (t : Nat) (f : Frame)
  /-- R551: A write of Activate 1 puts a verified slot in trial. -/
  | activateTrial (t : Nat) (f : Frame)
  /-- R551: 100 ms after the activation reply, a full cold start begins. -/
  | activationColdStart (t : Nat)
  /-- R553: A write of Activate 2 confirms the trial slot as good and may raise the fused minimum. -/
  | activateConfirm (t : Nat) (f : Frame)
  /-- R553: An unconfirmed trial past its trial time fails and falls back with a cold start. -/
  | trialTimeExpired (t : Nat)
  /-- R560: A write computes a check value over supplied bits. -/
  | compute (t : Nat) (f : Frame)
  /-- R562: A write queues a memory scan of a region range. -/
  | start (t : Nat) (f : Frame)
  /-- R565: A write of 1 aborts the session's scan. -/
  | abort (t : Nat) (f : Frame)
  /-- R564: A memory scan ends done, or failed on an uncorrectable word. -/
  | scanComplete (t : Nat) (session : Nat) (error : Option Nat)
  /-- R569: Phase 2 signatures are compared and a failure enters safe state. -/
  | coldBistPhase2Done (t : Nat) (failed duration : Nat)
  /-- R578: A write of 1 starts an in-service sweep. -/
  | startSweep (t : Nat) (f : Frame)
  /-- R578: The sweep period passes and a new sweep starts. -/
  | sweepDue (t : Nat)
  /-- R570: A memory slice saves, March-tests, repairs and restores 4 KiB. -/
  | memorySlice (t : Nat) (failures : List (Nat × Nat × Nat × Nat)) (saveError : Option Nat)
  /-- R576: A logic slice tests one pattern set of a quad DSP. -/
  | logicSlice (t : Nat) (quad : Nat) (ok : Bool)
  /-- R578: A sweep not complete 24 h after start raises event 0x0605. -/
  | sweepLate (t : Nat)
  /-- R572: A corrected error in use moves its slice to the front of the sweep. -/
  | correctedMemoryError (t : Nat) (memory addr bit : Nat)
  /-- R572: An uncorrectable word in an on-die memory puts the module in safe state. -/
  | uncorrectableMemoryFault (t : Nat) (memory addr : Nat)
  /-- R574: A refused repair-table store is retried every 10 ms. -/
  | repairTableRetry (t : Nat)
  /-- R580: SAFE_N going low enters safe state. -/
  | safeNLow (t : Nat)
  /-- R580: SAFE_N high for 10 ms clears its cause. -/
  | safeNCleared (t : Nat)
  /-- R580: A write of 1 leaves safe state when no cause is active. -/
  | clear (t : Nat) (f : Frame)
  /-- R587: A write of 1 freezes the black box. -/
  | freeze (t : Nat) (f : Frame)
  /-- R587: A write of 1 releases a frozen black box. -/
  | release (t : Nat) (f : Frame)
  /-- R590: A write of 1 copies all 128 counters at one edge. -/
  | snapshot (t : Nat) (f : Frame)
  /-- R590: A write of 1 sets every live counter to 0. -/
  | countersClear (t : Nat) (f : Frame)
  /-- R591: At least every 100 ms a Lantern time record is sent. -/
  | lanternTimeRecord (t : Nat)
  /-- R598: VSYS held at 4.6 V for 1.0 ms after the minimum off time starts a power-up. -/
  | vsysHeld (t : Nat) (mv : Nat)
  /-- R598: A rail reaches regulation and the next rail is enabled. -/
  | railInRegulation (t : Nat)
  /-- R598: A rail not in regulation within 1.0 ms of enable fails and collapses the power-up. -/
  | railTimeout (t : Nat) (mv : Nat)
  /-- R598: 1.0 ms after the 3.3 V rail is in regulation the power-up ends. -/
  | internalRelease (t : Nat)
  /-- R599: Reset release starts cold BIST, the boot scan and start-up. -/
  | resetRelease (t : Nat) (phase1 duration straps vbak : Nat) (torn : List (Nat × Nat)) (lost : List (Nat × Nat))
  /-- R600: Boot completes to the point where the dictionary is reachable and at-boot events are raised. -/
  | dictionaryReachable (t : Nat)
  /-- R601: With BIST and charter passed and synthesizers locked, PA bias is enabled. -/
  | rfReady (t : Nat)
  /-- R602: VSYS falling through 4.5 V triggers a shutdown and orderly power-down. -/
  | vsysFall (t : Nat) (mv : Nat)
  /-- R603: A rail falls below 10 % and the next power-down step starts. -/
  | powerDownStep (t : Nat)
  /-- R604: A failing rail discharges all rails together and records event 0x0104. -/
  | railCollapse (t : Nat) (rail mv : Nat)
  /-- R607: The minimum off time ends and a power-up may follow. -/
  | minimumOffTime (t : Nat)
  /-- R608: RESET_N low for 1 µs turns RF off and holds the logic in reset. -/
  | resetNLow (t : Nat)
  /-- R599: RESET_N rising leads to reset release. -/
  | resetNRise (t : Nat)
  /-- R610: No REFCLK_IN edge for 1 µs turns RF off and holds the logic in reset. -/
  | refclkLost (t : Nat)
  /-- R610: REFCLK_IN running for 10 ms without a gap leads to reset release. -/
  | refclkReturned (t : Nat)
  /-- R611: A supervisor not served for 2 s triggers a full cold start. -/
  | supervisorTimeout (t : Nat)
  /-- R612: A sensor at 140 °C triggers an orderly power-down. -/
  | hardThermalLimit (t : Nat) (sensor : Nat) (temp : Int)
  /-- R612: Every 10 ms while off, the sensors are read to permit a power-up. -/
  | thermalOffReading (t : Nat) (tempA tempB tempC die : Int)
  /-- R596: VPA below 11.0 V on a bank raises event 0x0105. -/
  | vpaOutOfWindow (t : Nat) (mvA mvB mvC : Nat)
  /-- R614: A write of full operation powers the RF dies and returns to RF ready. -/
  | enterFullOperation (t : Nat) (f : Frame)
  /-- R614: A write of standby stops UHF work and unpowers the RF side. -/
  | enterStandby (t : Nat) (f : Frame)
  /-- R615: A write of deep standby shuts the host links and retains the control die. -/
  | enterDeepStandby (t : Nat) (f : Frame)
  /-- R616: An enabled wake source ends deep standby and raises event 0x0107. -/
  | wake (t : Nat) (source channel hfReady : Nat)
  /-- R620: A write switches the fabric clock spread off for the given minutes or restores it. -/
  | spreadOffFor (t : Nat) (f : Frame)
  /-- R620: The spread-off time runs out and the spread is restored. -/
  | spreadRestored (t : Nat)
  /-- R201: At the later of 2.0 µs and T1 minimum − 4.0 µs (or the HSB search start) after the last command symbol, the receive window opens, ports enter listening and exclusions are fixed. -/
  | receiveWindowOpen (t : Nat) (opening : Opening)
  /-- R143: A carrier's ramp-down ends; settled ports store their canceller vectors, a hop may start and CX_REQ falls within 2 µs when no rise is due. -/
  | rampDownComplete (t : Nat) (quad : Nat)
  /-- R124: CX_ACT goes low and ends the block on new carrier rises of actions 1 and 2. -/
  | cxActFalls (t : Nat)
  /-- R53: A MAINS_SENSE level change rejected by the digital filter, or an edge ignored by blanking, is counted at 0x1B00:0C. -/
  | mainsSenseEdgeRejected (t : Nat)
  /-- R338: Within 50 ms of an accepted authentication the Dome finishes the meter's new pseudonym window, after which reads resolve against it. -/
  | pseudonymWindowComputed (t : Nat) (meter : Nat)
  /-- R339: Within 2 s of a resync mark the Dome finishes computing the 4,096 pseudonyms against which the next read may resolve. -/
  | resyncSetComputed (t : Nat) (meter : Nat)
  /-- R511: With VSYS below 3.0 V and VBAK below 2.0 V the backup domain loses its supply and all its state. -/
  | backupDomainSupplyLost (t : Nat)
  /-- R606: VSYS rises above 4.6 V before the shutdown end, and the power controller records the power-down step at which it returned. -/
  | supplyReturnDuringShutdown (t : Nat)
  /-- R319: A card still present on its port once the re-serve interval has passed is served again. -/
  | reServeIntervalExpired (t : Nat) (port : Nat)
  /-- R442: A received frame that fails the R442 checks, or carries an unknown or module-only op, is discarded and counted or answered with an ERROR. -/
  | oapFrameDiscarded (t : Nat) (f : Frame)
  /-- R452: A VLAN-tagged, oversize or bad-FCS frame, or a bad or fragmented datagram, is discarded and counted. -/
  | ethernetFrameDiscarded (t : Nat) (why : Nat)
  /-- R455: Duplicate detection or the ARP probe completes with no conflict, and the address is taken into use with event 0x0203. -/
  | addressAcquired (t : Nat) (family : Nat)
  /-- R372: The claim lock time passes, and claims and reclaims are accepted again, with 0x1300:07 returning to 0. -/
  | claimLockExpired (t : Nat)
  /-- R448: A PLCA follower receives a BEACON and its PLCA status becomes running. -/
  | plcaBeaconReceived (t : Nat)
  /-- R543: Every 50 µs VSYS and its slope over the last 1 ms are measured for the stable-supply precondition. -/
  | vsysMeasurement (t : Nat) (mv : Nat) (slope : Int)
  /-- R121: A Bolith programming station writes the fused charter of a BLH-HJ48-G1 module, which takes effect at its next boot. -/
  | charterWrittenByStation (t : Nat) (charter : Charter)
  deriving DecidableEq, Repr

end Sys2Proof
end

