-- ==== Sys2Proof/Decode.lean ====
section
/-! DEFINITION. The words of commands. The block has no processor's decoder: the table of operations and events gives
none of its rows bits, so no word spells a command. -/

namespace Sys2Proof

/-- The command that the `nbits` bits of `w` spell: none, since no row of the table has an encoding. -/
def decodeTableWord (_nbits _w : Nat) : Option Instr := none

end Sys2Proof
end

