-- ==== Sys2Proof/Machine/Maps.lean ====
section
/-! DEFINITION. Plain-data containers: sparse maps kept as lists of (key, value) pairs in rising key
order, fixed-length tables, and byte strings in the little-endian form of R11. -/

namespace Sys2Proof

/-- A sparse map: (key, value) pairs. In canonical form its keys strictly rise (`NMap.wf`). -/
abbrev NMap (α : Type) := List (Nat × α)

namespace NMap
variable {α : Type}

/-- The value at a key, if one is listed. -/
def get? (m : NMap α) (k : Nat) : Option α :=
  match m with
  | [] => none
  | (a, v) :: r => if a = k then some v else get? r k

/-- The value at a key, or `d` where none is listed. -/
def getD (m : NMap α) (k : Nat) (d : α) : α := (get? m k).getD d

/-- The map without a key. -/
def erase (m : NMap α) (k : Nat) : NMap α :=
  match m with
  | [] => []
  | (a, v) :: r => if a = k then erase r k else (a, v) :: erase r k

/-- Insert a pair before the first greater key. -/
def ins (m : NMap α) (k : Nat) (v : α) : NMap α :=
  match m with
  | [] => [(k, v)]
  | (a, w) :: r => if k < a then (k, v) :: (a, w) :: r else (a, w) :: ins r k v

/-- The map with `v` at `k`. -/
def put (m : NMap α) (k : Nat) (v : α) : NMap α := ins (erase m k) k v

/-- The map with the value at `k` changed by `f`, where one is listed. -/
def upd (m : NMap α) (k : Nat) (f : α → α) : NMap α :=
  match m with
  | [] => []
  | (a, v) :: r => if a = k then (a, f v) :: upd r k f else (a, v) :: upd r k f

/-- Every listed key is above `b`, and the keys strictly rise. -/
def wfFrom (b : Nat) : NMap α → Bool
  | [] => true
  | (a, _) :: r => decide (b ≤ a) && wfFrom (a + 1) r

/-- The canonical form: keys strictly rise. -/
def wf (m : NMap α) : Bool := wfFrom 0 m

end NMap

/-- The element of a table at an index, or `d` past its end. -/
def tget {α : Type} (l : List α) (i : Nat) (d : α) : α := l.getD i d

/-- The table with the element at an index changed by `f`; unchanged past its end. -/
def tmod {α : Type} (l : List α) (i : Nat) (f : α → α) : List α :=
  match l, i with
  | [], _ => []
  | x :: r, 0 => f x :: r
  | x :: r, i + 1 => x :: tmod r i f

/-- `n` bytes of a number, least significant first (R11). -/
def le (n v : Nat) : List Byte :=
  match n with
  | 0 => []
  | n + 1 => byte v :: le n (v / 256)

/-- The number that bytes spell, least significant first (R11). -/
def ofLe : List Byte → Nat
  | [] => 0
  | b :: r => b.toNat + 256 * ofLe r

/-- `n` bytes of a number, most significant first. -/
def be (n v : Nat) : List Byte := (le n v).reverse

/-- The number that bytes spell, most significant first. -/
def ofBe (l : List Byte) : Nat := ofLe l.reverse

/-- `n` bytes of a two's complement number, least significant first. -/
def leInt (n : Nat) (v : Int) : List Byte := le n (v.emod (2 ^ (8 * n))).toNat

/-- The two's complement number that bytes spell, least significant first. -/
def ofLeInt (l : List Byte) : Int :=
  let v := ofLe l
  if 2 * v < 2 ^ (8 * l.length) then (v : Int) else (v : Int) - 2 ^ (8 * l.length)

/-- `n` bytes of a byte string from an offset. -/
def slice (l : List Byte) (off n : Nat) : List Byte := (l.drop off).take n

/-- The little-endian number in `n` bytes at an offset. -/
def fieldAt (l : List Byte) (off n : Nat) : Nat := ofLe (slice l off n)

/-- The byte at an offset, as a number; 0 past the end. -/
def byteAt (l : List Byte) (off : Nat) : Nat := (l.getD off 0#8).toNat

/-- `n` zero bytes. -/
def zeros (n : Nat) : List Byte := List.replicate n 0#8

/-- A byte string cut or padded with zeros to `n` bytes. -/
def fit (n : Nat) (l : List Byte) : List Byte := l.take n ++ zeros (n - l.length)

/-- Bit `i` of a number. -/
def bitOf (v i : Nat) : Bool := v.testBit i

/-- A number with bit `i` set or cleared. -/
def setBit (v i : Nat) (b : Bool) : Nat :=
  if v.testBit i then (if b then v else v - 2 ^ i) else (if b then v + 2 ^ i else v)

/-- 1 for true, 0 for false. -/
def b01 (b : Bool) : Nat := if b then 1 else 0

/-- A count that stops at `m`. -/
def satTo (m v : Nat) : Nat := if v ≤ m then v else m

/-- ⌈a ÷ b⌉. -/
def ceilDiv (a b : Nat) : Nat := (a + b - 1) / b

/-- The number of set bits among the low `n` bits. -/
def popcount (n v : Nat) : Nat := ((List.range n).filter (fun i => v.testBit i)).length

/-- The numbers below `n` whose bit is set in `v`, rising. -/
def bitsOf (n v : Nat) : List Nat := (List.range n).filter (fun i => v.testBit i)

/-- The sum of a list. -/
def sumOf (l : List Nat) : Nat := l.foldl (· + ·) 0

/-- The larger of two counts. -/
def peak (a b : Nat) : Nat := if a < b then b else a

/-- The ASCII bytes of a string. -/
def ascii (s : String) : List Byte := s.toList.map (fun c => byte c.toNat)

end Sys2Proof
end

