-- ==== Sys2Proof/Machine/Crc.lean ====
section
/-! DEFINITION. The six cyclic redundancy checks of Table 1 of chapter 18 (R557–R559). -/

namespace Sys2Proof.Machine

/-- An algorithm of Table 1 of chapter 18. -/
structure CrcAlg where
  width : Nat
  poly : Nat
  preset : Nat
  refin : Bool
  refout : Bool
  final : Nat
  residue : Nat
  deriving DecidableEq, Repr

/-- Table 1 of chapter 18 by code. -/
def crcAlg (code : Nat) : CrcAlg :=
  if code = 0 then ⟨5, 0x09, 0x09, false, false, 0x00, 0x00⟩
  else if code = 1 then ⟨16, 0x1021, 0xFFFF, false, false, 0xFFFF, 0x1D0F⟩
  else if code = 2 then ⟨16, 0x1021, 0xC6C6, true, true, 0x0000, 0x0000⟩
  else if code = 3 then ⟨16, 0x1021, 0xFFFF, true, true, 0xFFFF, 0xF0B8⟩
  else if code = 4 then ⟨32, 0x04C11DB7, 0xFFFFFFFF, true, true, 0xFFFFFFFF, 0xDEBB20E3⟩
  else ⟨32, 0x1EDC6F41, 0xFFFFFFFF, true, true, 0xFFFFFFFF, 0xB798B438⟩

/-- One input bit combined with the register under the polynomial. -/
def crcBit (a : CrcAlg) (reg : Nat) (b : Bool) : Nat :=
  let shifted := (2 * reg) % 2 ^ a.width
  if (reg.testBit (a.width - 1)) != b then shifted ^^^ a.poly else shifted

/-- `f n`, with `n` computed first: a long recursion then holds one number and not a term that grows with every step. -/
def computed {α : Type} (n : Nat) (f : Nat → α) : α :=
  match n with
  | 0 => f 0
  | k + 1 => f (k + 1)

@[simp] theorem computed_eq {α : Type} (n : Nat) (f : Nat → α) : computed n f = f n := by cases n <;> rfl

/-- The register after a string of bits. -/
def crcRun (a : CrcAlg) (reg : Nat) : List Bool → Nat
  | [] => reg
  | b :: r => computed (crcBit a reg b) (fun next => crcRun a next r)

/-- A value with its low `w` bits in the opposite order. -/
def reflect (w v : Nat) : Nat :=
  (List.range w).foldl (fun acc i => if v.testBit i then acc + 2 ^ (w - 1 - i) else acc) 0

/-- A register as subindex 3 of `0x1801` shows it and Table 1 gives its residue: reflected where Refout is TRUE, as the example of
chapter 18 has both (log entry 34). It is its own inverse. -/
def crcShown (a : CrcAlg) (reg : Nat) : Nat := if a.refout then reflect a.width reg else reg

/-- The check value that a register gives: reflection, then the final XOR. -/
def crcOut (a : CrcAlg) (reg : Nat) : Nat := crcShown a reg ^^^ a.final

/-- The bits of a byte from bit 7 down to bit 0. -/
def bitsDown (b : Byte) : List Bool :=
  [b.getLsbD 7, b.getLsbD 6, b.getLsbD 5, b.getLsbD 4, b.getLsbD 3, b.getLsbD 2, b.getLsbD 1, b.getLsbD 0]

/-- The bits of bytes in the order the algorithm takes them (R558). -/
def crcBits (a : CrcAlg) (l : List Byte) : List Bool :=
  match l with
  | [] => []
  | b :: r => (if a.refin then (bitsDown b).reverse else bitsDown b) ++ crcBits a r

/-- The check value of bytes. -/
def crcBytes (code : Nat) (l : List Byte) : Nat :=
  let a := crcAlg code
  crcOut a (crcRun a a.preset (crcBits a l))

/-- The check value of a string of bits in air order. -/
def crcAir (code : Nat) (l : List Bool) : Nat :=
  let a := crcAlg code
  crcOut a (crcRun a a.preset l)

/-- `n` bits of a number, most significant first (the air order of R11). -/
def bitsMsb (n v : Nat) : List Bool :=
  match n with
  | 0 => []
  | n + 1 => v.testBit n :: bitsMsb n v

/-- The number that bits spell, most significant first. -/
def ofBits (l : List Bool) : Nat := l.foldl (fun acc b => 2 * acc + b01 b) 0

/-- Bytes as bits, most significant first. -/
def bitsOfBytes (l : List Byte) : List Bool := l.flatMap bitsDown

end Sys2Proof.Machine
end

