-- ==== Sys2Proof/Config.lean ====
section
/-! DEFINITION. What an implementation fixes and the values the spec leaves open. Every constant here is
opaque: nothing in Lean can evaluate it, so a statement that holds, holds whatever it is. -/

namespace Sys2Proof.Config

/-- A free value: the n-th value that the spec leaves open (log entry 3). `State.freeCount` is n. -/
opaque freeValue : Nat → Nat

/-- SHA-256 of a byte string (32 bytes). The algorithm is FIPS 180-4's, not the spec's (log entry 4). -/
opaque sha256 : List Byte → List Byte

/-- HMAC-SHA-256 of a key and a message (log entry 4). -/
opaque hmacSha256 : List Byte → List Byte → List Byte

/-- HKDF-Extract with SHA-256: salt, input keying material (log entry 4). -/
opaque hkdfExtract : List Byte → List Byte → List Byte

/-- HKDF-Expand with SHA-256: PRK, info, length (log entry 4). -/
opaque hkdfExpand : List Byte → List Byte → Nat → List Byte

/-- HKDF-SHA-256: salt, input keying material, info, length. -/
def hkdf (salt ikm info : List Byte) (n : Nat) : List Byte := hkdfExpand (hkdfExtract salt ikm) info n

/-- AES-256-GCM sealing: key, nonce, additional data, plaintext; the ciphertext then the 16-byte tag
(log entry 4). -/
opaque gcmSeal : List Byte → List Byte → List Byte → List Byte → List Byte

/-- AES-128 of one block: key, block (log entry 4). -/
opaque aes128 : List Byte → List Byte → List Byte

/-- The P-256 public key, compressed, of a private key (log entry 4). -/
opaque p256Public : List Byte → List Byte

/-- The x-coordinate of the P-256 ECDH product of a private key and a public key (log entry 4). -/
opaque p256Ecdh : List Byte → List Byte → List Byte

/-- The ECDSA P-256 signature, r then s, of the device identity key over a message, with the nonce drawn
for it (log entry 4). -/
opaque deviceSign : List Byte → List Byte → List Byte

/-- Whether a compressed SEC 1 string is a point of P-256 (log entry 4). -/
opaque onCurve : List Byte → Bool

/-- Whether an ECDSA P-256 signature, r then s, of a message holds under a public key: key, message, signature
(log entry 4). -/
opaque verify : List Byte → List Byte → List Byte → Bool

/-- The key K_claim of R382, derived from the claim code on the label (log entry 4). -/
opaque claimKey : List Byte

/-- Whether Bolith's signature of a firmware image holds: message, signature (R549, log entry 4). -/
opaque firmwareVerify : List Byte → List Byte → Bool

/-- The device public key of `0x1300:02` (33 bytes), certified at manufacture (R378). -/
opaque devicePublicKey : List Byte

/-- The device certificate of `0x1300:04`, DER (R378). -/
opaque deviceCertificate : List Byte

/-- The serial number of `0x1018:04`. -/
opaque serialNumber : Nat

/-- The MAC address of `0x1200:02`, 6 bytes in transmission order. -/
opaque macAddress : List Byte

/-- The receive calibration of a port: the level at its land in 0.01 dBm of a unit signature at gain index 0 (R180; log entry 100). -/
opaque rxLevel : Nat → Int

/-- The receive phase calibration of a port in 256ths of a turn (R181; log entry 100). -/
opaque rxPhase : Nat → Nat

/-- The maximum PA drive of a quad in 0.01 dB, on the scale of `Tx.drive` (R101; log entry 90). -/
opaque maxDrive : Int

end Sys2Proof.Config
end

