-- ==== Sys2Proof/Machine/State.lean ====
section
/-! DEFINITION. The state of the block: every register, queue, buffer, counter, mode and pin the spec
gives it, as plain data, and the queue of the commands that wait. Objects of the dictionary that only
hold a number or bytes stand in `State.dict` under the key 256 × index + subindex (their names, types,
defaults and rules are the rows of Machine/Objects.lean); what machinery works on has a field of its
own. INVENTORY.md lists each with its rule and reset value. -/

namespace Sys2Proof.Machine

/-- Why the block stops for good. No command of the spec's table stops it: every effect the spec gives is
a next state, so no constructor is raised (kept for the host's interface; safe). -/
inductive Fault where
  /-- Raised by nothing. Safe. -/
  | none
  deriving DecidableEq, Repr

/-- Why a command has no meaning here. -/
inductive Refusal where
  /-- Raised by the dispatch for a command that has no meaning yet. Safe. -/
  | notModelled (mnemonic : String)
  deriving DecidableEq, Repr

/-- The value of a dictionary object: a number, or the bytes of an OCT or STR object. -/
inductive Val where
  | num (n : Int)
  | oct (b : List Byte)
  deriving DecidableEq, Repr

/-! ### Host links, sessions, transactions, queues -/

/-- A check-value computation of a session, `0x1801` (R560). -/
structure CheckReg where
  used : Bool
  algorithm : Nat
  value : Nat
  register : Nat
  residue : Bool
  deriving DecidableEq, Repr

/-- A memory scan of a session, `0x1810` (R562–R565). `state` is 0 idle, 1 queued, 2 running, 3 done,
4 failed, 5 aborted; `order` is the place in the order of acceptance. -/
structure Scan where
  state : Nat
  region : Nat
  algorithm : Nat
  offset : Nat
  length : Nat
  result : Nat
  done : Nat
  error : Nat
  errorOffset : Nat
  changed : Bool
  order : Nat
  deriving DecidableEq, Repr

/-- One session, half-open or open (R381–R388). `keys` is PRK, from which the four keys of R381 come;
`seen` holds the accepted sequences among the 64 below `hiSeq` (R385). -/
structure Session where
  id : Nat
  shade : Nat
  isOpen : Bool
  mode : Nat
  link : Nat
  peer : Addr
  th1 : List Byte
  keys : List Byte
  startTick : Nat
  openedSec : Nat
  lastTick : Nat
  lastSec : Nat
  hiSeq : Nat
  seen : List Nat
  txSeq : Nat
  authFails : Nat
  lastAuthError : Option Nat
  /-- A tick at which the session ends and the reason (R380). -/
  endDue : Option (Nat × Nat)
  viewCursor : Nat
  viewPart : Nat
  meterCursor : Nat
  meterPart : Nat
  batchCursor : Nat
  batchPart : Nat
  check : CheckReg
  scan : Scan
  /-- The RTC shadow: the tick of its start and the unreduced second count it holds (R520). -/
  shadow : Option (Nat × Nat)
  /-- Staged RTC fields, (subindex, BCD value), and the tick of the last staged write (R522). -/
  staged : List (Nat × Nat)
  stagedTick : Nat
  deriving DecidableEq, Repr

/-- One staged write of a transaction: the object's key, the value and the change count recorded when
the object was first staged (R423). -/
structure Staged where
  key : Nat
  val : Val
  count : Nat
  deriving DecidableEq, Repr

/-- The boundary that a transaction waits for (Table 9 of chapter 2, R80, R83). `kind` is 0 the slot boundary at which the slot count
is `slot`, 1 a frame boundary and 2 a frame boundary with the cascade frame number `frame`, each the first from slot count `slot` on. -/
structure Boundary where
  kind : Nat
  slot : Nat
  frame : Nat
  deriving DecidableEq, Repr

/-- A transaction staging or waiting (R417–R427). `boundary` is what it waits for, `accepted` its place in the order of acceptance
(R82). -/
structure Txn where
  num : Nat
  session : Nat
  shade : Nat
  waiting : Bool
  lastTick : Nat
  staged : List Staged
  boundary : Boundary
  accepted : Nat
  deriving DecidableEq, Repr

/-- A shade's transactions since reset: in effect, conflicts, expiries, dropped at a boundary (Table 15 of chapter 12). -/
structure TxnStats where
  commits : Nat
  conflicts : Nat
  expiries : Nat
  dropped : Nat
  deriving DecidableEq, Repr

/-- A store that the supply refused at a boundary and that is tried again (R428). -/
structure LateStore where
  num : Nat
  shade : Nat
  nextTick : Nat
  deriving DecidableEq, Repr

/-- An item of a shade's outbound queue (R434, R479). `cls` is 0 an event, 1 a tag or card copy, 2 a meter
batch piece, 3 an overrun report, 4 another report. `number` is its delivery number once delivered. -/
structure QItem where
  isEvent : Bool
  cls : Nat
  content : List Byte
  number : Option Nat
  sentTick : Nat
  /-- Whether it is to be delivered again, with its own number (R437). -/
  again : Bool
  lines : List Nat
  deriving DecidableEq, Repr

/-- A shade's keys, queue, subscription and delivery (R364–R380, R434–R437, R476–R481). -/
structure Shade where
  storageKey : List Byte
  sramKey : List Byte
  /-- The state that a cancelled forced erase returns to (R376). -/
  before : Nat
  items : List QItem
  credits : Nat
  wasFull : Bool
  overrun : Bool
  dropFlags : Nat
  dropped : Nat
  firstDrop : Nat
  subFlags : Nat
  classMask : Nat
  delivery : Nat
  nextNumber : Nat
  ackedThrough : Nat
  redelivered : Nat
  filtered : Nat
  /-- Overruns, copies dropped and events dropped live in `dict` at `0x5010`+s. -/
  pieces : Nat
  /-- Waiting transactions lost at a reset, for event 0x0404 (R430). -/
  lostTxns : Nat
  deriving DecidableEq, Repr

/-- A line of shared SRAM in the Dome's line table: tag 0–8 or 15, generation, written bit (R389, R390). -/
structure Line where
  tag : Nat
  gen : Nat
  written : Bool
  deriving DecidableEq, Repr

/-- A frame in the host-link transmit queue (R445). `payload` is the plaintext; `key` is the 44-byte key
and IV that seals it (empty for a frame in clear, R384). -/
structure OutFrame where
  link : Nat
  /-- The own address that it is sent from, empty on the Spire link (R456). -/
  src : List Byte
  dst : Addr
  shade : Nat
  session : Nat
  op : Nat
  reply : Bool
  seq : Nat
  key : List Byte
  payload : List Byte
  deriving DecidableEq, Repr

/-- Ethernet's own state (R450–R455): the IP addresses on probe with how each was got (1 static, 2 DHCP, 3 SLAAC), the
source of the IPv4 address in use, when acquisition is tried again, the DHCP client (0 idle, 1 discovering, 2 requesting,
3 bound) with its server and lease, the SLAAC prefix, the echo replies of the last second, MDIO polling, and whether the
PHY's result has been refused. `sent` is what the last command made the module send of its own: the kind of each frame
(1 ARP reply, 2 ARP probe, 3 ARP announcement, 4 DHCPDISCOVER, 5 DHCPREQUEST, 6 neighbour advertisement, 7 neighbour
solicitation for duplicate detection, 8 router solicitation, 9 MLDv2 report, 10 ICMP echo reply) and its subject. -/
structure Eth where
  tentative4 : List Byte
  tentative4Source : Nat
  source4 : Nat
  tentative6 : List Byte
  tentative6Source : Nat
  retry4 : Option Nat
  retry6 : Option Nat
  leaseEnd : Option Nat
  leaseMask : List Byte
  leaseRouter : List Byte
  dhcpState : Nat
  dhcpServer : List Byte
  prefix6 : List Byte
  echoes : List Nat
  nextPoll : Nat
  mdioStarted : Bool
  unsupported : Bool
  sent : List (Nat × List Byte)
  /-- The IPv4 and IPv6 addresses held before the commit that the next reply answers, where that commit changed them (R456). -/
  replyFrom : Option (List Byte × List Byte)
  deriving DecidableEq, Repr

/-- One fragment of an OAP frame on the Spire link: number 0–2, First, Last, bytes. -/
structure Fragment where
  num : Nat
  first : Bool
  last : Bool
  bytes : List Byte
  deriving DecidableEq, Repr

/-- The Spire link (R460–R471). `outReg` is what the shift register holds, `loaded` whether the busy pattern has been
replaced, `restart` whether the module is in restart (R469). -/
structure Spire where
  outReg : List Byte
  loaded : Bool
  restart : Bool
  /-- Sequence of the last fragment accepted from the host: the Echo sent. -/
  lastIn : Nat
  /-- Whether the module's frame of the last transfer promised Ready. -/
  promised : Bool
  /-- Fragments sent and not confirmed, oldest first, each with its number. -/
  unconfirmed : List Fragment
  /-- Number that the next fragment takes. -/
  nextNum : Nat
  /-- Fragments of the frame in progress that have not gone out yet. -/
  toSend : List Fragment
  /-- The fragments of the frames in progress, from the first of the oldest, to start again after a restart. -/
  current : List Fragment
  /-- Number of the fragment in the register, sent in the next transfer. -/
  inReg : Option Nat
  /-- Number of the fragment sent last. -/
  lastOut : Option Nat
  /-- Number of the fragment sent in the last transfer, and whether that sending is void. -/
  prevSent : Option Nat
  prevVoid : Bool
  resendFrom : Option Nat
  /-- Whether the host's last frame was valid with Ready set, and whether its last valid frame carried Echo 0b11. -/
  peerReady : Bool
  peerRestart : Bool
  partialIn : List Byte
  assembling : Bool
  /-- Reassembled OAP frames, as bytes, waiting to be opened by the Dome. -/
  inbox : List (List Byte)
  lastValid : Nat
  /-- Errors of the last minute, 0 invalid frame, 1 length error, 2 busy pattern, with their ticks (R472). -/
  errors : List (Nat × Nat)
  deriving DecidableEq, Repr

/-! ### Power, reset, self-test, store, clock -/

/-- The power controller and the reset logic (R598–R616). `stage` is 0 rails off, 1 powering up, 2 rails
up, 3 powering down, 4 abandoned after three collapses, 5 collapsed and discharging. `step` is the rail
being enabled (1–4) or the step of Table 5 in progress. -/
structure Power where
  stage : Nat
  step : Nat
  rails : Nat
  paBias : Bool
  offUntil : Nat
  /-- Both supplies were lost before the minimum off time had passed: it counts anew from the return of VSYS (R607). -/
  offBroken : Bool
  shutdownEnd : Nat
  collapses : Nat
  attempts : Nat
  trigger : Nat
  cause : Nat
  internalRelease : Bool
  resetLow : Bool
  refclkLost : Bool
  /-- Tick at which REFCLK_IN was lost, and the length of the loss in µs. -/
  refclkLostAt : Nat
  refclkLoss : Nat
  released : Bool
  releaseTick : Nat
  reachable : Bool
  reachTick : Nat
  rfPending : Bool
  vsys : Nat
  slope : Int
  lowestVsys : Nat
  vsysHeld : Bool
  returnStep : Option Nat
  thermalOff : Bool
  thermalSensor : Nat
  thermalTemp : Int
  offSince : Nat
  offSinceSec : Nat
  /-- Operating mode: 0 full, 1 standby, 2 deep standby. -/
  mode : Nat
  modeDue : Option Nat
  deepSince : Nat
  phase1Failed : Nat
  phase2Done : Bool
  phase2Passed : Bool
  charterChecked : Bool
  charterTick : Nat
  spreadEnd : Option Nat
  recovery : Bool
  deriving DecidableEq, Repr

/-- The pins that commands and rules read and drive. -/
structure Pins where
  safeN : Bool
  safeStatN : Bool
  cxReq : Bool
  cxGnt : Bool
  cxAct : Bool
  pwrOn : Bool
  straps : Nat
  deriving DecidableEq, Repr

/-- Safe state beyond `0x1110`: the cause of the last entry (R373, R580), and whether ports stay
blocked until the next slot boundary after a Clear (R582). -/
structure Safe where
  entryCause : Nat
  leaving : Bool
  deriving DecidableEq, Repr

/-- The black box: 256 slots of 16-byte records (R586, R587). `hold` counts the slots used after a
freeze, 0–8, and `holdNext` the next of the 8; `last` is the slot most recently written. -/
structure BlackBox where
  slots : List (List Byte)
  records : Nat
  next : Nat
  frozen : Nat
  frozenAt : Nat
  notKept : Nat
  freezeSlot : Nat
  holdNext : Nat
  last : Nat
  deriving DecidableEq, Repr

/-- The Lantern port: records that wait, the tick at which the last of them left (R591, R592). -/
structure Lantern where
  fifo : List (List Byte)
  sentTick : Nat
  dropped : Nat
  lastTime : Nat
  deriving DecidableEq, Repr

/-- The in-service sweep (R570–R578). `front` is a memory slice moved to the front. -/
structure Sweep where
  running : Bool
  suspended : Bool
  startTick : Nat
  nextMem : Nat
  memDone : Nat
  logicDone : List Nat
  front : List Nat
  late : Bool
  failures : Nat
  /-- Rows repaired: memory, bank, failing row, spare row. -/
  repairs : List (Nat × Nat × Nat × Nat)
  /-- Spares used or failed in each bank, keyed 256 × memory + bank. -/
  sparesUsed : List (Nat × Nat)
  /-- Repair table generations of the two copies, and whether each is valid. -/
  genA : Nat
  genB : Nat
  validA : Bool
  validB : Bool
  retryTick : Option Nat
  everStarted : Bool
  deriving DecidableEq, Repr

/-- A trailer state of a page of MRAM, keyed by page number in `Store.pages`: whether it is sealed, its
operation and write count; a page not listed was never written (R538, R539). -/
structure Page where
  isSealed : Bool
  operation : Nat
  writes : Nat
  endurance : Bool
  /-- The tick from which the page is next read in idle time (R540). -/
  readDue : Nat
  deriving DecidableEq, Repr

/-- A firmware slot's trailer and what its image's header says (R549–R553). -/
structure FwSlot where
  state : Nat
  trialBoots : Nat
  sequence : Nat
  length : Nat
  version : Nat
  security : Nat
  verifies : Bool
  deriving DecidableEq, Repr

/-- The seal of a stored item: the shade, its configuration key and the nonce (R379). -/
structure Seal where
  shade : Nat
  configKey : List Byte
  nonce : List Byte
  deriving DecidableEq, Repr

/-- A configuration copy: its generation, whether its header and bodies are sealed, what it holds
(R547, R548), and which of its items stand under a shade's configuration key (R379; log entry 113). -/
structure ConfigCopy where
  valid : Bool
  generation : Nat
  content : List (Nat × Val)
  seals : List (Nat × Seal)
  deriving DecidableEq, Repr

/-- The MRAM store (R537–R556). `mram` holds bytes by address in canonical form; an unlisted byte
reads 0, a page never written. -/
structure Store where
  mram : List Host.Cell
  pages : List (Nat × Page)
  copyA : ConfigCopy
  copyB : ConfigCopy
  copyInUse : Nat
  slotA : FwSlot
  slotB : FwSlot
  running : Nat
  minSecurity : Nat
  loadLength : Nat
  lastBoot : Nat
  trialStart : Nat
  coldStartDue : Option Nat
  correctedHour : Nat
  /-- The tick of the last periodic write of channel memory (R89). -/
  chanTick : Nat
  gateShut : Bool
  inRecoveryBefore : Bool
  deriving DecidableEq, Repr

/-- The real-time clock and backup domain (R510–R535). `total` is the unreduced count of seconds from
2000-01-01 00:00:00, from which the eight fields follow; `k` is the second of the trim period. -/
structure Rtc where
  total : Nat
  prescale : Nat
  running : Bool
  stoppedAt : Nat
  k : Nat
  pinned : Nat
  onVbak : Bool
  unreported : Bool
  vbakLowRaised : Bool
  /-- The tick from which VBAK is next measured (R513). -/
  vbakDue : Nat
  /-- A trim period has ended and its step of auto-trim is still to come (R528). -/
  periodEnded : Bool
  domainUp : Bool
  lostPending : Bool
  offDue : Option Nat
  locked : Bool
  /-- Alarms that fired while VSYS was absent: alarm, second (R530). -/
  lateAlarms : List (Nat × Nat)
  lastSecondTick : Nat
  deriving DecidableEq, Repr

/-! ### The Belfry -/

/-- The Belfry (R53–R79). `phase` is the number of cycles since reset in units of 2^−48: its low 48 bits
are the accumulator. `slots` counts the slot boundaries acted on (R63). `ceilK` is 1000 × the ceiling
rate published at the last boundary (R58). `frameBase` is added to the cycle count to give the cycle
within the frame. -/
structure Belfry where
  phase : Nat
  tick : Nat
  incF : Nat
  incC : Int
  ceilK : Nat
  slots : Nat
  frameBase : Nat
  edges : Nat
  lastEdge : Option Nat
  lastCapture : Option Nat
  estimate : Bool
  good : Nat
  badFrequency : Nat
  overUnlock : Nat
  validSince : Nat
  pinned : Nat
  hadCalSync : Bool
  lastPulse : Nat
  pulseEnd : Nat
  skipInc : Bool
  slotTick : Nat
  conflict : Bool
  noWindow : Bool
  /-- The tick of the last wake from deep standby, in which nothing is sampled: losses count from it (R617; log entry 118). -/
  wakeTick : Nat
  calendarChanged : Bool
  placementChanged : Bool
  deriving DecidableEq, Repr

/-! ### The UHF air side: banks, quads and ports -/

/-- A bank: temperature, PA supply and feed-forward compensation (R98, R99, R105): `ffTick` is the tick of the last refresh,
`outTick` that of the last supply measured outside its window. -/
structure Bank where
  temp : Int
  supply : Nat
  inWindow : Bool
  derating : Bool
  ffTemp : Int
  ffSupply : Nat
  ffTick : Nat
  outTick : Nat
  deriving DecidableEq, Repr

/-- A channel memory entry (Table 1 of chapter 3). `tuner` holds C1, C2, C3 of the four ports packed as
`0x2100`+n:11; `blocks` the four canceller blocks of 24 bytes (Table 4 of chapter 4). -/
structure ChanEntry where
  channel : Nat
  port : Nat
  synthValid : Bool
  tunerValid : Bool
  cancValid : Bool
  vcoBand : Nat
  capCode : Nat
  calTemp : Int
  calTime : Nat
  tuner : List Nat
  blocks : List (List Byte)
  deriving DecidableEq, Repr

/-- A stretch of carrier-on time of a quad on a channel (R119); `stop` is none while it lasts. -/
structure Dwell where
  index : Nat
  start : Nat
  stop : Option Nat
  deriving DecidableEq, Repr

/-- The transmitter of a quad. `carrier` is 0 off, 1 ramping up, 2 on, 3 ramp held, 4 ramping down. `index`
is the list index of the channel in use; `ramped` the ticks of a held ramp already run; `offReason` why a
carrier goes off: 1 dwell limit, else 0. `short` is the tick since which the drive has stood at its maximum with the power more than
0.5 dB short, and whether that has been counted (R101); `badEntries` are the entries that failed their check at boot (R89). -/
structure Tx where
  carrier : Nat
  index : Option Nat
  port : Nat
  hopped : Bool
  coldFails : Nat
  faulted : Bool
  coldNext : List Nat
  rampTick : Nat
  ramped : Nat
  heldTick : Nat
  onTick : Nat
  powerTick : Nat
  loopTick : Nat
  pinned : Nat
  drive : Int
  short : Option (Nat × Bool)
  badEntries : List Nat
  noCommandUntil : Nat
  offReason : Nat
  dwells : List Dwell
  reuse : List (Nat × Nat)
  lastIndex : Option Nat
  surveyNext : Nat
  surveyDone : Nat
  /-- The list index of the survey dwell in progress and the tick at which it began (R153). -/
  survey : Option (Nat × Nat)
  dirty : List Nat
  deriving DecidableEq, Repr

/-- A command that a quad's sequencer will send next: its index in Table 1 of chapter 6 (18 HSB_Probe, 19
HSB_Load, 20 HSB_GroupACK), an argument and the plan step it belongs to (0 for none). -/
structure Due where
  cmd : Nat
  arg : Nat
  step : Nat
  deriving DecidableEq, Repr

/-- One tag that a slot singulated: RN16, handle, cover RN16, table entry and EPC. -/
structure Tag where
  rn16 : Nat
  handle : Nat
  cover : Nat
  entry : Option Nat
  pc : Nat
  epc : List Byte
  /-- Whether its reply to a GroupACK was a relay suspect (R284). -/
  relay : Bool
  deriving DecidableEq, Repr

/-- What an HSB step has learned and chosen (R271, R274, R289). -/
structure HsbStep where
  words : Nat
  constellation : Nat
  ldpc34 : Bool
  groupAck : Bool
  tick : Nat
  snr : List Nat
  code : Nat
  map : List Nat
  loads : Nat
  relay : Bool
  failedWords : Nat
  iterations : Nat
  codewords : Nat
  /-- Codewords of the frame handed to the decoder pool, and those decoded: place, and information bits where it is satisfied. -/
  delivered : Nat
  decoded : List (Nat × List Bool)
  deriving DecidableEq, Repr

/-- The tracking loops of a stream: the common phase as a vector, the deviation from the BLF fixed at detection in 0.01 %, and the
violations counted (R167, R168). -/
structure Loop where
  reference : Cx
  deviation : Int
  violations : Nat
  deriving DecidableEq, Repr

/-- What a detection fixed and the separator added: the BLF deviation in 0.01 %, the composite signature and noise power at each port
(R163), the streams counted, 0 before separation settles, their signatures (R172), and the loops of each stream as they ended. -/
structure Reception where
  dev : Int
  signature : List Cx
  noise : List Nat
  k : Nat
  est : List StreamEst
  loops : List Loop
  deriving DecidableEq, Repr

/-- The sequencer of a quad. `state` is 0 no work, 1 a command is due, 2 command sent, 3 receive window open,
4 reply detected. `next` is the slot command that follows the slot in progress: 0 none, 1 QueryRep, 2
QueryAdjust up, 3 QueryAdjust down, 4 Query, 5 the inventory is complete. -/
structure Seq where
  state : Nat
  plan : Option Nat
  port : Nat
  shade : Nat
  due : List Due
  earliest : Nat
  cmd : Due
  cmdStart : Nat
  cmdEnd : Nat
  exchange : Nat
  reserved : Bool
  credits : Nat
  creditShade : Nat
  inSlot : Bool
  next : Nat
  q : Nat
  slots : Nat
  replied : Bool
  qPinned : Nat
  tag : Tag
  waiting : List Tag
  listed : Nat
  /-- The reply slot of a GroupACK that is received next, from 1; 0 outside one. -/
  slot : Nat
  failed : Bool
  retries : Nat
  attempts : Nat
  challenge : List Byte
  hsb : HsbStep
  detectStart : Nat
  reception : Reception
  /-- The channel of the last command, for the timing bus (R183). -/
  cmdChannel : Nat
  withdrawn : Bool
  overlap : Bool
  ambiguous : Bool
  /-- Co-channel holds on the quad: the detecting quad of each and when it began (R246); and how many holds that the quad's own detection
  began have kept a command back (Table 10 of chapter 7). -/
  holds : List (Nat × Nat)
  holdsBegun : Nat
  satOut : Option Nat
  window : Nat
  starved : Bool
  granted : Bool
  /-- The carrier goes off after the slot in progress, or after the exchange in progress. -/
  offAfter : Bool
  offNow : Bool
  /-- Values that the exchange in progress started with and that a commit has changed since (R46). -/
  frozen : List (Nat × Val)
  deriving DecidableEq, Repr

/-- A quad: transmitter, 256 channel memory entries (entry 4i + p), sequencer, result queue (256 entries of 48 bytes), and the reply
buffer with its lines of shared SRAM (R179, R389). -/
structure Quad where
  tx : Tx
  mem : List (Nat × ChanEntry)
  seq : Seq
  results : List (List Byte)
  buffer : List Byte
  bufferLines : List Nat
  deriving DecidableEq, Repr

/-- A tone canceller: the tone's offset from the carrier in 1024ths of a turn a sample, 10 kHz each, and its amplitude in units of 2^-14
(R159). -/
structure Tone where
  offset : Int
  amp : Cx
  deriving DecidableEq, Repr

/-- A port's own loops and its event FIFO: entries of 32 bytes, each with the 16 bytes that its result queue
entry adds, empty for an entry without a result (64 entries, reserved or complete). `enabled` is the
requested state as it is in effect (R109), `causeBefore` the fault cause that a fault of the quad stands in front of (R90). -/
structure Port where
  enabled : Bool
  causeBefore : Nat
  tunerPinned : Nat
  tunerTick : Nat
  cancPinned : Nat
  agcPinned : Nat
  lastClamp : Nat
  shallowRaised : Bool
  excluded : Bool
  /-- The tick of the block that clipped in the reply in progress (R130, R166). -/
  clippedAt : Option Nat
  /-- Whether the trip threshold was lowered since the last slot boundary (R109). -/
  lowered : Bool
  /-- The canceller: coarse I and Q, fine I and Q, the four taps of the digital canceller, the depths and the residual at the last
  iteration, and the residuals of the last five, newest first (R136–R139). -/
  vector : List Int
  taps : List Int
  analog : Nat
  digital : Nat
  residual : Int
  recent : List Int
  /-- The DC servo's integrals, I and Q, in millionths of a DAC step (R144). -/
  servo : List Int
  /-- The sum of the last 32 samples before the blanked state, and the high-pass filter's last input and output (R145). -/
  dcSum : Cx
  filterIn : Cx
  filterOut : Cx
  /-- The noise power of the tracking samples before the last blank (R162). -/
  trackNoise : Nat
  tones : List Tone
  probeTick : Nat
  reserved : Nat
  fifo : List (List Byte × List Byte)
  deriving DecidableEq, Repr

/-- The state of a plan's round on one port (R218, R222, R235), keyed 64 × plan + port. `group` counts the
groups from 0; `qfp` is in hundredths. -/
structure Round where
  group : Nat
  qfp : Option Nat
  selectsSent : Bool
  finished : Bool
  request : Option Int
  deriving DecidableEq, Repr

/-- A round plan as it runs (R230–R235). `due` is the tick at which its next pass starts, none when disabled;
`ended` the quads whose part has ended; `lastAir` the tick at which each quad last gave it air. -/
structure PlanRun where
  running : Bool
  started : Nat
  due : Option Nat
  overrun : Bool
  ended : Nat
  confirmed : Nat
  cause : Nat
  lastWindow : Nat
  unfit : Bool
  /-- Whether the plan's tags are known to lack GroupACK (R286). -/
  noGroupAck : Bool
  lastAir : List (Nat × Nat)
  deriving DecidableEq, Repr

/-! ### The tag table -/

/-- A port record of a tag-table entry. -/
structure PortRec where
  port : Nat
  rssi : Nat
  phase : Nat
  passes : Nat
  deriving DecidableEq, Repr

/-- The undo record of a merge (R240). -/
structure Undo where
  reads : Nat
  lastSeen : Nat
  lastCycle : Nat
  ports : List PortRec
  deriving DecidableEq, Repr

/-- A tag-table entry (Table 5 of chapter 7). `born` and `confirmedAt` are ticks; `reply` is the TAM2 reply that
waits for the Dome, `resolved` and `usable` the Dome's findings (R216, R239, R337). -/
structure TagEntry where
  confirmed : Bool
  meter : Bool
  authenticated : Bool
  pending : Bool
  relay : Bool
  ambiguous : Bool
  clipped : Bool
  arrival : Nat
  plan : Nat
  pc : Nat
  words : Nat
  epc : List Byte
  crc : Nat
  claimQuad : Nat
  claimPlan : Nat
  claimPass : Nat
  identity : Nat
  owner : Nat
  merged : Option Nat
  routed : Nat
  firstSeen : Nat
  lastSeen : Nat
  firstCycle : Nat
  lastCycle : Nat
  reads : Nat
  heard : Nat
  ports : List PortRec
  undo : Option Undo
  exchange : Nat
  quad : Nat
  born : Nat
  confirmedAt : Nat
  holds : Nat
  credited : Bool
  reply : List Byte
  challenge : List Byte
  resolved : Bool
  /-- The pseudonym counter that the Dome matched, and whether under a resync mark (R337, R339). -/
  counter : Nat
  resync : Bool
  /-- The quad that created the entry (R238), the shade of the window in which the tag was last read (R251), and the step results
  that wait for the confirmation of a provisional entry: step, status and data (R247). -/
  maker : Nat
  window : Nat
  reports : List (Nat × Nat × List Byte)
  deriving DecidableEq, Repr

/-- A codeword of a quad's frame: the exchange and its place in the frame, its code, and its 1024 values of 6 bits (R190, R191). -/
structure Codeword where
  quad : Nat
  exchange : Nat
  place : Nat
  code : Nat
  values : List Int
  deriving DecidableEq, Repr

/-- Coexistence: the tick CX_REQ rose for a window, and whether it waits for its grant (R122, R123). -/
structure Coex where
  reqTick : Nat
  waiting : Bool
  deriving DecidableEq, Repr


/-! ### Timers (chapter 15) -/

/-- A channel of a timer. `state` is 0 disarmed, 1 armed, 2 waiting for its master; `action` the action of a strike,
which stands in place of the configured one; `armTick` the edge at which the arm landed; `fires` fires or captures. -/
structure Chan where
  state : Nat
  compare : Nat
  offset : Nat
  capture : Nat
  action : Option Nat
  armTick : Nat
  fires : Nat
  suppressed : Nat
  summed : Nat
  deriving DecidableEq, Repr

/-- A timer: its prescaler in effect, the count `base` at the tick `baseTick`, the tick from which it counts by
32.768 kHz edges, the edge at which the bus clock counts again after a wake (R507), its output, its channels, the tick at which channel 1 last fired, and the shade that holds it
(0xFE the Belfry, 0xFF none). -/
structure Timer where
  p : Nat
  base : Nat
  baseTick : Nat
  slow : Option Nat
  resume : Nat
  output : Bool
  ch0 : Chan
  ch1 : Chan
  fired1 : Option Nat
  holder : Nat
  deriving DecidableEq, Repr

/-! ### HF card ports and capacitive sensing (chapter 9) -/

/-- A card frame that a service sends: its place in Table 4 of chapter 9 (1 REQA, 2 WUPA, 3 ANTICOLLISION, 4 SELECT,
5 HLTA, 6 REQB, 7 WUPB, 8 Slot-MARKER, 9 ATTRIB, 10 HLTB, 11 RATS, 12 PPS, 13 I-block, 14 R(ACK), 15 R(NAK), 16 S(WTX),
17 S(DESELECT), 18 Inventory, 19 Stay quiet, 20 Select, 21 Reset to ready, 22 Read single block, 23 Read multiple
blocks, 24 Write single block, 25 Get system information) and an argument. -/
structure HfCmd where
  code : Nat
  arg : Nat
  deriving DecidableEq, Repr

/-- The card of a service. `param` is SAK, the ATTRIB reply parameter or DSFID; `rates` the capability byte of ATQB; `level` the
cascade level, or the N of WUPB; `known` the UID bits of the cascade level in progress; `block` the block number, or the
slot of a 16-slot Inventory. -/
structure HfCard where
  found : Bool
  uid : List Byte
  atqa : List Byte
  param : Nat
  more : Bool
  random : Bool
  rate : Nat
  rates : Nat
  fsc : Nat
  fwi : Nat
  level : Nat
  known : List Bool
  block : Nat
  layer4 : Bool
  deriving DecidableEq, Repr

/-- One service of a port. `phase` is 1 field rising to its guard, 2 working, 3 ending; `protos` the protocols that a
poll still has to try; `left` the plans not tried yet; `out` the bytes of an APDU not yet acknowledged; `resp` the reply
gathered so far; `again` whether the card must be activated again before the next plan. -/
structure HfService where
  poll : Bool
  phase : Nat
  tx : Nat
  onTick : Nat
  shade : Nat
  proto : Nat
  protos : List Nat
  due : List HfCmd
  sent : HfCmd
  sentTick : Nat
  sentEnd : Nat
  waiting : Bool
  lastBit : Bool
  earliest : Nat
  retries : Nat
  plan : Option Nat
  left : List Nat
  matched : Bool
  again : Bool
  planTick : Nat
  step : Nat
  stepTick : Nat
  failed : Bool
  out : List Byte
  resp : List Byte
  relay : Bool
  credits : Nat
  identity : Bool
  /-- The tick by which a pre-empted poll is over (R33, R296). -/
  endBy : Nat
  fdt : Nat
  grid : Int
  card : HfCard
  /-- The power that the field loop asks of the driver, in mW, and the tick of its last step (R298). -/
  drive : Nat
  loopTick : Nat
  /-- Values that the frame exchange in progress started with and that a commit has changed since (R46). -/
  frozen : List (Nat × Val)
  deriving DecidableEq, Repr

/-- An HF port: the requested state in effect, a request that waits for a transmitter (its tick, and whether it is a
poll), the service, whether the card served is still present, when the last service ended, the last fixed UID served,
the ping's baseline, the field loop's pinned steps, and the cards that polls have skipped (R319; no object shows the count). -/
structure HfPort where
  enabled : Bool
  request : Option (Nat × Bool)
  pollShade : Nat
  service : Option HfService
  isPresent : Bool
  servedTick : Nat
  lastUid : List Byte
  probeTick : Nat
  baseline : Nat
  pinned : Nat
  skips : Nat
  deriving DecidableEq, Repr

/-- A capacitive channel: its baseline in 65536ths of a count, the scans and the sum of the first four, the runs of
scans above threshold, below release and out of range, when it was detected and when it was last measured. -/
structure Cap where
  baseline : Nat
  scans : Nat
  sum : Nat
  above : Nat
  below : Nat
  high : Nat
  low : Nat
  last : Nat
  detectTick : Nat
  scanTick : Nat
  deriving DecidableEq, Repr

/-! ### Metering (chapter 10) -/

/-- An adopted reading: raw counter, RTC seconds, mains cycle, whether the mains was not locked, and whether the read
resolved under a resync mark. -/
structure Reading where
  raw : Nat
  time : Nat
  cycle : Nat
  unlocked : Bool
  resync : Bool
  deriving DecidableEq, Repr

/-- An enrolled meter (R337–R344, Table 8). `winFrom` is the first counter of the pseudonym window in force, `winDue` the
tick by which the next one is computed; `readings` are the readings adopted since the last boundary's span; `pending`
the reading that a deferred boundary keeps (R356); `baseRaw` the counter of the last interval record. -/
structure Meter where
  cls : Nat
  ref : List Byte
  key : List Byte
  cNext : Nat
  cLast : Option Nat
  winFrom : Nat
  winDue : Option Nat
  marked : Option Nat
  setReady : Bool
  retiring : Bool
  last : Option Reading
  readings : List Reading
  pending : Option Reading
  flags : Nat
  baseRaw : Option Nat
  baseBoundary : Option Nat
  lastSeq : Nat
  lastBoundary : Nat
  lastFlags : Nat
  missing : Nat
  backward : Nat
  accepted : Nat
  readsNow : Nat
  deriving DecidableEq, Repr

/-- A class as it runs: the last boundary noted or stepped over, and the boundary whose records are not formed yet with
the cycle count at it (R342–R344). -/
structure ClassRun where
  seen : Nat
  begun : Option (Nat × Nat)
  deriving DecidableEq, Repr

/-- A committed batch: its sequence, number of records, bytes, and the RTC second of its acknowledgement. -/
structure Batch where
  seq : Nat
  n : Nat
  bytes : List Byte
  acked : Option Nat
  deriving DecidableEq, Repr

/-- The place of a shade's chain: its value (empty before the shade is opened), next record and batch sequences, and
whether the record of kind 4 has been formed. -/
structure ChainEnd where
  value : List Byte
  nextRecord : Nat
  nextBatch : Nat
  started : Bool
  deriving DecidableEq, Repr

/-- A shade's journal: the chain as formed, as committed, and as the older control copy has it, the batches held, and delivery: the batch and piece that
enter the queue next, the sequence below which they are redeliveries, the batches delivered so far, the tick at which
the oldest unacknowledged one was last delivered (R346–R356). -/
structure Journal where
  work : ChainEnd
  committed : ChainEnd
  older : ChainEnd
  batches : List Batch
  nextOut : Nat
  piece : Nat
  again : Nat
  delivered : Nat
  lastOut : Nat
  formed : Nat
  deriving DecidableEq, Repr

/-- A commit group that waits in shared SRAM: its shade, class and boundary (none for an enrolment or retirement), its
batches, the meters it retires, whether event 0x5008 has been raised and the tick of the next try (R350, R351). -/
structure CommitGroup where
  shade : Nat
  boundary : Option Nat
  batches : List Batch
  retire : List Nat
  chain : ChainEnd
  waited : Bool
  nextTick : Nat
  deriving DecidableEq, Repr

/-! ### The charter and the state as a whole -/

/-- The fuses: ordering code (0 E1, 1 U1, 2 G1), the charter in effect, its reported state, and a charter
that a programming station has written and the next boot takes into use (R1–R5, R121). -/
structure Fuses where
  ordering : Nat
  charterState : Nat
  charter : Charter
  written : Option Charter
  deriving DecidableEq, Repr

/-- A delivery that a rate limit counts (R665): event code, unit and tick. -/
structure Delivered where
  code : Nat
  unit : Nat
  tick : Nat
  deriving DecidableEq, Repr

/-- An event to be raised once the dictionary is reachable: code and detail bytes. -/
structure BootEvent where
  code : Nat
  detail : List Nat
  deriving DecidableEq, Repr

/-- The state of the block. -/
structure State where
  /-- The instant of the last command, in bus ticks (log entry 1). -/
  now : Nat
  /-- The commands that wait, first in, first out (the model's own). -/
  pending : List Instr
  /-- How many open values have been drawn (the model's own, log entry 3). -/
  freeCount : Nat
  /-- Objects of the dictionary, in effect. -/
  dict : List (Nat × Val)
  /-- Values of class B stored and not yet in effect (R402). -/
  bootDict : List (Nat × Val)
  /-- What changes that forbid emission replaced since the last slot boundary, and whether one of them shortened a dwell or an
  occupancy: emission follows the old values up to that boundary (R109). -/
  heldBack : List (Nat × Val)
  dwellLowered : Bool
  /-- Change counts of objects (R423). -/
  changes : List (Nat × Nat)
  delivered : List Delivered
  fuses : Fuses
  shades : List Shade
  sessions : List Session
  txns : List Txn
  lateStores : List LateStore
  txnStats : List TxnStats
  /-- Erased shades whose calendar entries become quiet entries at the next frame boundary (R377). -/
  quietDue : List Nat
  nextTxn : Nat
  nextOrder : Nat
  txq : List OutFrame
  waitingReplies : List OutFrame
  unknownErrors : List Nat
  lines : List (Nat × Line)
  /-- The lines that hold a round plan's passwords and write data (number of the plan), or a meter's counters (64 + identity), under the
  storage key of the owner (R213, R217, R228). -/
  heldLines : List (Nat × List Nat)
  /-- The IChallenges sent since reset; none is sent twice (R215). -/
  challenges : List (List Byte)
  freeLines : List Nat
  nextLine : Nat
  /-- The boot nonce of R391 and the module's own SRAM key pair, for lines of tag 8. -/
  bootNonce : List Byte
  moduleKey : List Byte
  /-- The test of the random source that failed (event 0x030D) and the tick of its last retest (R395). -/
  trngKind : Nat
  trngTick : Nat
  eth : Eth
  spire : Spire
  power : Power
  pins : Pins
  safe : Safe
  box : BlackBox
  counters : List Nat
  lantern : Lantern
  sweep : Sweep
  store : Store
  rtc : Rtc
  belfry : Belfry
  bootEvents : List BootEvent
  banks : List Bank
  quads : List Quad
  ports : List Port
  rounds : List (Nat × Round)
  plans : List PlanRun
  tags : List (Nat × TagEntry)
  coex : Coex
  hsbErrors : List (Nat × List Int)
  ldpc : List Nat
  /-- The decoder pool: its input queue and what its four cores work on (R190, R191). -/
  ldpcQueue : List Codeword
  ldpcCores : List (Option Codeword)
  timers : List Timer
  hfPorts : List HfPort
  /-- The port that each HF transmitter drives. -/
  hfTx : List (Option Nat)
  caps : List Cap
  meters : List (Nat × Meter)
  /-- Meter state as the journal's control area holds it (R350, R351). -/
  savedMeters : List (Nat × Meter)
  /-- The same as the older control copy holds it, and which of the two copies, 0 or 1, is the newer (R350). -/
  olderMeters : List (Nat × Meter)
  newerControl : Nat
  classes : List ClassRun
  journals : List Journal
  groups : List CommitGroup
  /-- The shade, the quad and the port that the stages of the drain order served last (R483). -/
  served : List Nat
  /-- Enrolments (2) and retirements (3) of a shade whose records wait for the Dome's random source (R395). -/
  unregistered : List (Nat × List (Nat × Nat))
  /-- The write counters of the records of the Dome's sealed store, by record number (R392). -/
  sealed : List (Nat × Nat)
  /-- Unresolved pseudonyms by the class field of the EPC, since reset (event 0x5001). -/
  unresolved : List (Nat × Nat)
  deriving DecidableEq, Repr

/-! ### Reset -/

/-- The charter of ordering code E1 (Tables 1 and 11). The check value and the band edges are the
model's (log entry 6). -/
def charterE1 : Charter :=
  { uhfRule := 1, hfRule := 1, uhfCeiling := 3150, hfCeiling := 1000,
    bands := [
      { low := 100, high := 160, conducted := 3150, eirp := 3515, dwell := 4000, reuse := 100,
        period := 0, occupancy := 0, modulations := 7, minHop := 1 },
      { low := 1100, high := 1220, conducted := 3150, eirp := 3815, dwell := 4000, reuse := 100,
        period := 0, occupancy := 0, modulations := 7, minHop := 1 }],
    channels := [114, 126, 138, 150, 1126, 1150, 1174, 1198],
    check := 0 }

/-- The charter of ordering code U1 (Tables 1 and 11). -/
def charterU1 : Charter :=
  { uhfRule := 2, hfRule := 2, uhfCeiling := 3000, hfCeiling := 1000,
    bands := [
      { low := 840, high := 1360, conducted := 3000, eirp := 3600, dwell := 400, reuse := 0,
        period := 20000, occupancy := 400, modulations := 7, minHop := 50 }],
    channels := (List.range 50).map (fun i => 855 + 10 * i),
    check := 0 }

/-- The charter of ordering code G1 before it is chartered (Tables 1 and 11). -/
def charterG1 : Charter :=
  { uhfRule := 0, hfRule := 0, uhfCeiling := 0, hfCeiling := 0, bands := [], channels := [], check := 0 }

/-- A shade as it leaves the factory: no keys, an empty queue, every class subscribed (R364, R434). -/
def shadeAtReset : Shade :=
  { storageKey := [], sramKey := [], before := 0, items := [], credits := 0, wasFull := false,
    overrun := false, dropFlags := 0, dropped := 0, firstDrop := 0, subFlags := 3,
    classMask := 0x1000100030007000F0007007E, delivery := 0, nextNumber := 0,
    ackedThrough := 0xFFFFFFFF, redelivered := 0, filtered := 0, pieces := 0,
    lostTxns := 0 }

/-- Ethernet before any address is acquired. -/
def ethAtReset : Eth :=
  { tentative4 := [], tentative4Source := 0, source4 := 0, tentative6 := [], tentative6Source := 0, retry4 := none,
    retry6 := none, leaseEnd := none, leaseMask := [], leaseRouter := [], dhcpState := 0, dhcpServer := [],
    prefix6 := [], echoes := [], nextPoll := 0, mdioStarted := false, unsupported := false, sent := [],
    replyFrom := none }

/-- The Spire link after a reset: in restart, the busy pattern in its register (R461, R469). -/
def spireAtReset : Spire :=
  { outReg := List.replicate 68 0xC3#8, loaded := false, restart := true, lastIn := 2, promised := false,
    unconfirmed := [], nextNum := 0, toSend := [], current := [], inReg := none, lastOut := none, prevSent := none,
    prevVoid := false, resendFrom := none, peerReady := false, peerRestart := false,
    partialIn := [], assembling := false, inbox := [], lastValid := 0, errors := [] }

/-- The power controller right after the reset release of a power-on. -/
def powerAtReset : Power :=
  { stage := 2, step := 0, rails := 15, paBias := false, offUntil := 0, offBroken := false, shutdownEnd := 0, collapses := 0,
    attempts := 1, trigger := 0, cause := 1, internalRelease := true, resetLow := false,
    refclkLost := false, refclkLostAt := 0, refclkLoss := 0, released := true, releaseTick := 0,
    reachable := false, reachTick := 0, rfPending := true, vsys := 5000, slope := 0, lowestVsys := 5000,
    vsysHeld := true, returnStep := none, thermalOff := false, thermalSensor := 0, thermalTemp := 0,
    offSince := 0, offSinceSec := 0, mode := 0, modeDue := none,
    deepSince := 0, phase1Failed := 0, phase2Done := false, phase2Passed := false, charterChecked := false, charterTick := 0,
    spreadEnd := none, recovery := false }

/-- The pins right after reset release: SAFE_STAT_N is asserted until RF ready (R583). -/
def pinsAtReset : Pins :=
  { safeN := true, safeStatN := false, cxReq := false, cxGnt := false, cxAct := false, pwrOn := true,
    straps := 0 }

/-- An empty black box. -/
def boxAtReset : BlackBox :=
  { slots := List.replicate 256 [], records := 0, next := 0, frozen := 0, frozenAt := 0, notKept := 0,
    freezeSlot := 0, holdNext := 0, last := 0 }

/-- The sweep before its first start: no row repaired, both copies of the repair table never written. -/
def sweepAtReset : Sweep :=
  { running := false, suspended := false, startTick := 0, nextMem := 0, memDone := 0,
    logicDone := List.replicate 12 0, front := [], late := false, failures := 0, repairs := [],
    sparesUsed := [], genA := 0, genB := 0, validA := false, validB := false, retryTick := none,
    everStarted := false }

/-- MRAM as a module leaves the factory: copy A of the configuration sealed at generation 1 with every
default, copy B blank (R548), firmware 2.4.0 good in slot A. -/
def storeAtReset : Store :=
  { mram := [], pages := [], copyA := { valid := true, generation := 1, content := [], seals := [] },
    copyB := { valid := false, generation := 0, content := [], seals := [] }, copyInUse := 0,
    slotA := { state := 4, trialBoots := 0, sequence := 1, length := 1024, version := 0x03020400,
               security := 1, verifies := true },
    slotB := { state := 0, trialBoots := 0, sequence := 0, length := 0, version := 0, security := 0,
               verifies := false },
    running := 0, minSecurity := 1, loadLength := 0, lastBoot := 0, trialStart := 0, coldStartDue := none,
    correctedHour := 0, chanTick := 0, gateShut := false, inRecoveryBefore := false }

/-- The backup domain as it starts afresh (R512): 2000-01-01 00:00:00, the oscillator-stopped flag set. -/
def rtcAtReset : Rtc :=
  { total := 0, prescale := 0, running := true, stoppedAt := 0, k := 0, pinned := 0, onVbak := false,
    unreported := false, vbakLowRaised := false, vbakDue := 0, periodEnded := false, domainUp := true, lostPending := true,
    offDue := none, locked := false, lateAlarms := [], lastSecondTick := 0 }

/-- The Belfry at reset: acquiring, on nominal free-run at 50 Hz (R666). -/
def belfryAtReset : Belfry :=
  { phase := 0, tick := 0, incF := 114532461, incC := 0, ceilK := 114532461 * 1020, slots := 0,
    frameBase := 0, edges := 0, lastEdge := none, lastCapture := none, estimate := false, good := 0,
    badFrequency := 0, overUnlock := 0, validSince := 0, pinned := 0, hadCalSync := false, lastPulse := 0,
    pulseEnd := 0, skipInc := false, slotTick := 0,
    conflict := false, noWindow := false, wakeTick := 0, calendarChanged := false,
    placementChanged := false }

/-- A bank at reset: 25.0 °C and 12.00 V stand until the first samples (log entry 14). -/
def bankAtReset : Bank :=
  { temp := 250, supply := 12000, inWindow := true, derating := false, ffTemp := 250, ffSupply := 12000, ffTick := 0,
    outTick := 0 }

/-- A transmitter with its carrier off and no channel. -/
def txAtReset : Tx :=
  { carrier := 0, index := none, port := 0, hopped := false, coldFails := 0, faulted := false,
    coldNext := [], rampTick := 0, ramped := 0, heldTick := 0, onTick := 0, powerTick := 0, loopTick := 0,
    pinned := 0, drive := 0, short := none, badEntries := [], noCommandUntil := 0, offReason := 0,
    dwells := [], reuse := [], lastIndex := none, surveyNext := 0, surveyDone := 0, survey := none,
    dirty := [] }

/-- No command. -/
def noDue : Due := { cmd := 0, arg := 0, step := 0 }

/-- No tag. -/
def noTag : Tag := { rn16 := 0, handle := 0, cover := 0, entry := none, pc := 0, epc := [], relay := false }

/-- An HSB step not begun. -/
def noHsb : HsbStep :=
  { words := 0, constellation := 0, ldpc34 := false, groupAck := true, tick := 0, snr := [], code := 0,
    map := [], loads := 0, relay := false, failedWords := 0, iterations := 0, codewords := 0,
    delivered := 0, decoded := [] }

/-- No reply is being received. -/
def noReception : Reception := { dev := 0, signature := [], noise := [], k := 0, est := [], loops := [] }

/-- A sequencer with no work. -/
def seqAtReset : Seq :=
  { state := 0, plan := none, port := 0, shade := 0, due := [], earliest := 0, cmd := noDue, cmdStart := 0,
    cmdEnd := 0, exchange := 0, reserved := false, credits := 0, creditShade := 0, inSlot := false,
    next := 0, q := 0, slots := 0, replied := false, qPinned := 0, tag := noTag, waiting := [], listed := 0,
    slot := 0, failed := false, retries := 0, attempts := 0, challenge := [], hsb := noHsb, detectStart := 0,
    reception := noReception, cmdChannel := 0xFFFF, withdrawn := false, overlap := false, ambiguous := false, holds := [],
    holdsBegun := 0, satOut := none, window := 0, starved := false, granted := false, offAfter := false, offNow := false, frozen := [] }

/-- A quad at reset: empty channel memory until the boot loads it from MRAM (R89). -/
def quadAtReset : Quad := { tx := txAtReset, mem := [], seq := seqAtReset, results := [], buffer := [], bufferLines := [] }

/-- A port at reset. -/
def portAtReset : Port :=
  { enabled := false, causeBefore := 0, tunerPinned := 0, tunerTick := 0, cancPinned := 0, agcPinned := 0, lastClamp := 0,
    shallowRaised := false, excluded := false, clippedAt := none, lowered := false, vector := [0, 0, 0, 0],
    taps := [0, 0, 0, 0], analog := 0, digital := 0, residual := 0, recent := [], servo := [0, 0], dcSum := { re := 0, im := 0 },
    filterIn := { re := 0, im := 0 }, filterOut := { re := 0, im := 0 }, trackNoise := 0, tones := [], probeTick := 0, reserved := 0, fifo := [] }

/-- A plan that does not run. -/
def planAtReset : PlanRun :=
  { running := false, started := 0, due := none, overrun := false, ended := 0, confirmed := 0, cause := 0,
    lastWindow := 0, unfit := false, noGroupAck := false, lastAir := [] }


/-- A channel that is disarmed. -/
def chanAtReset : Chan :=
  { state := 0, compare := 0, offset := 0, capture := 0, action := none, armTick := 0, fires := 0, suppressed := 0,
    summed := 0 }

/-- A timer at reset: count 0, output low (R489, R496). -/
def timerAtReset (n : Nat) : Timer :=
  { p := 0, base := 0, baseTick := 0, slow := none, resume := 0, output := false, ch0 := chanAtReset, ch1 := chanAtReset,
    fired1 := none, holder := if n < 4 then 0xFE else 0xFF }

/-- No card. -/
def noCard : HfCard :=
  { found := false, uid := [], atqa := [0#8, 0#8], param := 0, more := false, random := false, rate := 0, rates := 0,
    fsc := 32, fwi := 4, level := 1, known := [], block := 0, layer4 := false }

/-- A service that begins. -/
def newService : HfService :=
  { poll := false, phase := 1, tx := 0, onTick := 0, shade := 0, proto := 1, protos := [], due := [],
    sent := { code := 0, arg := 0 }, sentTick := 0, sentEnd := 0, waiting := false, lastBit := false, earliest := 0,
    retries := 0, plan := none, left := [], matched := false, again := false, planTick := 0, step := 0, stepTick := 0,
    failed := false, out := [], resp := [], relay := false, credits := 0, identity := false, endBy := 0, fdt := 0, grid := 0,
    card := noCard, drive := 0, loopTick := 0, frozen := [] }

/-- An HF port at reset. -/
def hfPortAtReset : HfPort :=
  { enabled := false, request := none, pollShade := 0, service := none, isPresent := false, servedTick := 0, lastUid := [],
    probeTick := 0, baseline := 10000, pinned := 0, skips := 0 }

/-- A capacitive channel that has not been scanned. -/
def capAtReset : Cap :=
  { baseline := 0, scans := 0, sum := 0, above := 0, below := 0, high := 0, low := 0, last := 0, detectTick := 0,
    scanTick := 0 }

/-- A chain that has not begun (R346). -/
def chainAtReset : ChainEnd := { value := [], nextRecord := 0, nextBatch := 0, started := false }

/-- An empty journal of a shade. -/
def journalAtReset : Journal :=
  { work := chainAtReset, committed := chainAtReset, older := chainAtReset, batches := [], nextOut := 0, piece := 0, again := 0, delivered := 0,
    lastOut := 0, formed := 0 }

/-- The block right after the reset release of its first boot after manufacture. -/
def State.reset : State :=
  { now := 0, pending := [], freeCount := 0, dict := [], bootDict := [], heldBack := [], dwellLowered := false, changes := [], delivered := [],
    fuses := { ordering := 0, charterState := 1, charter := charterE1, written := none },
    shades := List.replicate 8 shadeAtReset, sessions := [], txns := [], lateStores := [], txnStats := List.replicate 8 { commits := 0, conflicts := 0, expiries := 0, dropped := 0 },
    quietDue := [], nextTxn := 1,
    nextOrder := 0, txq := [], waitingReplies := [], unknownErrors := [], lines := [], heldLines := [], challenges := [], freeLines := [],
    nextLine := 0, bootNonce := [], moduleKey := [], trngKind := 0, trngTick := 0, eth := ethAtReset, spire := spireAtReset, power := powerAtReset, pins := pinsAtReset,
    safe := { entryCause := 0, leaving := false }, box := boxAtReset,
    counters := List.replicate 128 0,
    lantern := { fifo := [], sentTick := 0, dropped := 0, lastTime := 0 }, sweep := sweepAtReset,
    store := storeAtReset, rtc := { rtcAtReset with lostPending := false }, belfry := belfryAtReset,
    bootEvents := [{ code := 0x0601, detail := [1, 0, 100, 0] }, { code := 0x0608, detail := [0] }, { code := 0x1104, detail := [0, 0] }],
    banks := List.replicate 3 bankAtReset, quads := List.replicate 12 quadAtReset,
    ports := List.replicate 48 portAtReset, rounds := [], plans := List.replicate 64 planAtReset,
    tags := [], coex := { reqTick := 0, waiting := false },
    hsbErrors := [], ldpc := [], ldpcQueue := [], ldpcCores := [none, none, none, none],
    timers := (List.range 16).map timerAtReset,
    hfPorts := List.replicate 8 hfPortAtReset, hfTx := [none, none], caps := List.replicate 8 capAtReset,
    meters := [], savedMeters := [], olderMeters := [], newerControl := 1, classes := List.replicate 32 { seen := 0, begun := none },
    journals := List.replicate 8 journalAtReset, groups := [], served := [7, 11, 47], unregistered := [], sealed := [], unresolved := []
  }

end Sys2Proof.Machine
end

