-- ==== Sys2Proof/Machine/Objects.lean ====
section
/-! DEFINITION. The object tables of the dictionary (chapter 12 and the object tables of every chapter):
type, access, commit class, default and range of each object, and how values are spelled on the wire
(Table 1 of chapter 12). -/

namespace Sys2Proof.Machine

/-- The types of Table 1 of chapter 12. -/
inductive OType where
  | bool | u8 | u16 | u32 | u64 | i8 | i16 | i32 | i64 | f32 | bcd8
  | oct (n : Nat)
  | str (n : Nat)
  deriving DecidableEq, Repr

/-- The access codes of Table 2 of chapter 12. -/
inductive Acc where
  | const | ro | wo | rw | rwt
  deriving DecidableEq, Repr

/-- The commit classes of Table 3 of chapter 12. -/
inductive Cls where
  | none | i | t | c | b
  deriving DecidableEq, Repr

/-- The range that an object's description gives: any value of its type, both ends included, the values
listed, the bits that are not reserved (R12), or multiples of `k` between two ends. -/
inductive Rng where
  | any
  | btw (lo hi : Int)
  | among (l : List Int)
  | mask (m : Nat)
  | step (k lo hi : Int)
  deriving DecidableEq, Repr

/-- A row of an object table: `count` records from index `base`, subindices `lo`–`hi` of each. -/
structure ObjRow where
  base : Nat
  count : Nat
  lo : Nat
  hi : Nat
  ty : OType
  acc : Acc
  cls : Cls
  dflt : Val
  rng : Rng
  deriving DecidableEq, Repr

/-- Object rows of the indices 0x1000–0x10FF. -/
def rows10 : List ObjRow := [
  ⟨0x1000, 1, 0, 0, .u32, .const, .none, (.num 4718594), .any⟩,
  ⟨0x1008, 1, 0, 0, (.str 16), .const, .none, (.oct (ascii "HJ48")), .any⟩,
  ⟨0x1009, 1, 0, 0, .u8, .const, .none, (.num 3), .any⟩,
  ⟨0x100a, 1, 0, 0, (.str 16), .const, .none, (.oct (ascii "2.4.0")), .any⟩,
  ⟨0x1018, 1, 0, 0, .u8, .const, .none, (.num 4), .any⟩,
  ⟨0x1018, 1, 1, 1, .u32, .const, .none, (.num 45073), .any⟩,
  ⟨0x1018, 1, 2, 2, .u32, .const, .none, (.num 18992), .any⟩,
  ⟨0x1018, 1, 3, 3, .u32, .const, .none, (.num 50463744), .any⟩,
  ⟨0x1018, 1, 4, 4, .u32, .const, .none, (.num 0), .any⟩]

/-- Object rows of the indices 0x1100–0x11FF. -/
def rows11a : List ObjRow := [
  ⟨0x1100, 1, 0, 0, .u8, .const, .none, (.num 12), .any⟩,
  ⟨0x1100, 1, 1, 1, .u8, .ro, .none, (.num 0), .any⟩,
  ⟨0x1100, 1, 2, 2, .bool, .ro, .none, (.num 0), .any⟩,
  ⟨0x1100, 1, 3, 3, .u16, .ro, .none, (.num 0), .any⟩,
  ⟨0x1100, 1, 4, 6, .u16, .ro, .none, (.num 0), .any⟩,
  ⟨0x1100, 1, 7, 7, .u8, .ro, .none, (.num 0), .any⟩,
  ⟨0x1100, 1, 8, 8, .i16, .ro, .none, (.num 0), .any⟩,
  ⟨0x1100, 1, 9, 9, .u32, .ro, .none, (.num 0), .any⟩,
  ⟨0x1100, 1, 10, 10, .u16, .ro, .none, (.num 0), .any⟩,
  ⟨0x1100, 1, 11, 11, .u16, .ro, .none, (.num 0), .any⟩,
  ⟨0x1100, 1, 12, 12, .i16, .const, .none, (.num 1400), .any⟩,
  ⟨0x1101, 1, 0, 0, .u8, .const, .none, (.num 6), .any⟩,
  ⟨0x1101, 1, 1, 1, .u8, .wo, .i, (.num 0), .btw 0 2⟩,
  ⟨0x1101, 1, 2, 2, .u8, .rw, .t, (.num 0), .among [0, 1]⟩,
  ⟨0x1101, 1, 3, 3, .u8, .rw, .t, (.num 7), .mask 0x7⟩,
  ⟨0x1101, 1, 4, 4, .u8, .ro, .none, (.num 0), .any⟩,
  ⟨0x1101, 1, 5, 5, .u32, .ro, .none, (.num 0), .any⟩,
  ⟨0x1101, 1, 6, 6, .u32, .ro, .none, (.num 0), .any⟩,
  ⟨0x1102, 1, 0, 0, .u8, .const, .none, (.num 6), .any⟩,
  ⟨0x1102, 1, 1, 1, .u8, .ro, .none, (.num 1), .any⟩,
  ⟨0x1102, 1, 2, 2, .u32, .ro, .none, (.num 0), .any⟩,
  ⟨0x1102, 1, 3, 3, .u32, .ro, .none, (.num 0), .any⟩,
  ⟨0x1102, 1, 4, 4, .u8, .ro, .none, (.num 0), .any⟩,
  ⟨0x1102, 1, 5, 5, .u16, .ro, .none, (.num 65535), .any⟩,
  ⟨0x1102, 1, 6, 6, .u32, .ro, .none, (.num 0), .any⟩,
  ⟨0x1104, 1, 0, 0, .u8, .const, .none, (.num 5), .any⟩,
  ⟨0x1104, 1, 1, 1, .bool, .ro, .none, (.num 1), .any⟩,
  ⟨0x1104, 1, 2, 2, .bool, .ro, .none, (.num 1), .any⟩,
  ⟨0x1104, 1, 3, 3, .u16, .wo, .i, (.num 0), .btw 0 1440⟩,
  ⟨0x1104, 1, 4, 4, .u16, .ro, .none, (.num 0), .any⟩,
  ⟨0x1104, 1, 5, 5, .u32, .ro, .none, (.num 0), .any⟩,
  ⟨0x1110, 1, 0, 0, .u8, .const, .none, (.num 10), .any⟩,
  ⟨0x1110, 1, 1, 1, .bool, .ro, .none, (.num 0), .any⟩,
  ⟨0x1110, 1, 2, 2, .u8, .ro, .none, (.num 0), .any⟩,
  ⟨0x1110, 1, 3, 3, .u8, .ro, .none, (.num 0), .any⟩,
  ⟨0x1110, 1, 4, 4, .u8, .ro, .none, (.num 0), .any⟩,
  ⟨0x1110, 1, 5, 5, .u8, .wo, .i, (.num 0), .among [1]⟩,
  ⟨0x1110, 1, 6, 6, .u32, .ro, .none, (.num 0), .any⟩,
  ⟨0x1110, 1, 7, 7, .u32, .ro, .none, (.num 0), .any⟩,
  ⟨0x1110, 1, 8, 8, .u32, .ro, .none, (.num 0), .any⟩]

/-- Object rows of the indices 0x1100–0x11FF. -/
def rows11b : List ObjRow := [
  ⟨0x1110, 1, 9, 9, .bool, .ro, .none, (.num 0), .any⟩,
  ⟨0x1110, 1, 10, 10, .u8, .ro, .none, (.num 255), .any⟩]

/-- Object rows of the indices 0x1200–0x12FF. -/
def rows12a : List ObjRow := [
  ⟨0x1200, 1, 0, 0, .u8, .const, .none, (.num 11), .any⟩,
  ⟨0x1200, 1, 1, 1, .u8, .ro, .none, (.num 0), .any⟩,
  ⟨0x1200, 1, 2, 2, (.oct 6), .const, .none, (.oct []), .any⟩,
  ⟨0x1200, 1, 3, 3, .u8, .ro, .none, (.num 0), .any⟩,
  ⟨0x1200, 1, 4, 4, .u16, .ro, .none, (.num 0), .any⟩,
  ⟨0x1200, 1, 5, 5, .bool, .rw, .t, (.num 1), .any⟩,
  ⟨0x1200, 1, 6, 6, .bool, .rw, .t, (.num 1), .any⟩,
  ⟨0x1200, 1, 7, 7, .u32, .ro, .none, (.num 0), .any⟩,
  ⟨0x1200, 1, 8, 8, .u32, .ro, .none, (.num 0), .any⟩,
  ⟨0x1200, 1, 9, 9, .u32, .ro, .none, (.num 0), .any⟩,
  ⟨0x1200, 1, 10, 10, .u32, .ro, .none, (.num 0), .any⟩,
  ⟨0x1200, 1, 11, 11, .u32, .ro, .none, (.num 0), .any⟩,
  ⟨0x1201, 1, 0, 0, .u8, .const, .none, (.num 10), .any⟩,
  ⟨0x1201, 1, 1, 1, .bool, .rw, .t, (.num 1), .any⟩,
  ⟨0x1201, 1, 2, 2, .u8, .rw, .t, (.num 1), .btw 0 254⟩,
  ⟨0x1201, 1, 3, 3, .u8, .rw, .t, (.num 8), .btw 2 255⟩,
  ⟨0x1201, 1, 4, 4, .u8, .rw, .t, (.num 32), .btw 1 255⟩,
  ⟨0x1201, 1, 5, 5, .u8, .rw, .t, (.num 0), .any⟩,
  ⟨0x1201, 1, 6, 6, .u8, .rw, .t, (.num 128), .btw 1 255⟩,
  ⟨0x1201, 1, 7, 7, .bool, .rw, .t, (.num 0), .any⟩,
  ⟨0x1201, 1, 8, 8, .u8, .ro, .none, (.num 0), .any⟩,
  ⟨0x1201, 1, 9, 9, .u32, .ro, .none, (.num 0), .any⟩,
  ⟨0x1201, 1, 10, 10, .u32, .ro, .none, (.num 0), .any⟩,
  ⟨0x1202, 1, 0, 0, .u8, .const, .none, (.num 7), .any⟩,
  ⟨0x1202, 1, 1, 1, .u8, .rw, .t, (.num 0), .btw 0 31⟩,
  ⟨0x1202, 1, 2, 2, .u8, .rw, .t, (.num 1), .among [0, 1]⟩,
  ⟨0x1202, 1, 3, 3, .u8, .rw, .t, (.num 0), .among [0, 1]⟩,
  ⟨0x1202, 1, 4, 4, .u8, .rw, .t, (.num 0), .among [0, 1]⟩,
  ⟨0x1202, 1, 5, 5, .u8, .rw, .t, (.num 3), .btw 1 3⟩,
  ⟨0x1202, 1, 6, 6, .u32, .ro, .none, (.num 0), .any⟩,
  ⟨0x1202, 1, 7, 7, .u16, .rw, .t, (.num 100), .btw 10 1000⟩,
  ⟨0x1203, 1, 0, 0, .u8, .const, .none, (.num 12), .any⟩,
  ⟨0x1203, 1, 1, 1, .u8, .rw, .t, (.num 1), .btw 0 2⟩,
  ⟨0x1203, 1, 2, 2, (.oct 4), .rw, .t, (.oct []), .any⟩,
  ⟨0x1203, 1, 3, 3, .u8, .rw, .t, (.num 24), .btw 8 30⟩,
  ⟨0x1203, 1, 4, 4, (.oct 4), .rw, .t, (.oct []), .any⟩,
  ⟨0x1203, 1, 5, 5, (.oct 4), .ro, .none, (.oct []), .any⟩,
  ⟨0x1203, 1, 6, 6, .u32, .ro, .none, (.num 0), .any⟩,
  ⟨0x1203, 1, 7, 7, .u8, .rw, .t, (.num 1), .btw 0 2⟩,
  ⟨0x1203, 1, 8, 8, (.oct 16), .rw, .t, (.oct []), .any⟩]

/-- Object rows of the indices 0x1200–0x12FF. -/
def rows12b : List ObjRow := [
  ⟨0x1203, 1, 9, 9, .u8, .rw, .t, (.num 64), .btw 16 128⟩,
  ⟨0x1203, 1, 10, 10, (.oct 16), .ro, .none, (.oct []), .any⟩,
  ⟨0x1203, 1, 11, 11, (.oct 16), .ro, .none, (.oct []), .any⟩,
  ⟨0x1203, 1, 12, 12, (.oct 16), .ro, .none, (.oct []), .any⟩,
  ⟨0x1210, 1, 0, 0, .u8, .const, .none, (.num 10), .any⟩,
  ⟨0x1210, 1, 1, 1, .bool, .rw, .t, (.num 1), .any⟩,
  ⟨0x1210, 1, 2, 2, .u16, .rw, .t, (.num 1000), .btw 100 60000⟩,
  ⟨0x1210, 1, 3, 3, .u8, .ro, .none, (.num 0), .any⟩,
  ⟨0x1210, 1, 4, 4, .u32, .ro, .none, (.num 0), .any⟩,
  ⟨0x1210, 1, 5, 5, .u32, .ro, .none, (.num 0), .any⟩,
  ⟨0x1210, 1, 6, 6, .u32, .ro, .none, (.num 0), .any⟩,
  ⟨0x1210, 1, 7, 7, .u32, .ro, .none, (.num 0), .any⟩,
  ⟨0x1210, 1, 8, 8, .u32, .ro, .none, (.num 0), .any⟩,
  ⟨0x1210, 1, 9, 9, .u32, .ro, .none, (.num 0), .any⟩,
  ⟨0x1210, 1, 10, 10, .u32, .ro, .none, (.num 0), .any⟩]

/-- Object rows of the indices 0x1300–0x13FF. -/
def rows13 : List ObjRow := [
  ⟨0x1300, 1, 0, 0, .u8, .const, .none, (.num 11), .any⟩,
  ⟨0x1300, 1, 1, 1, .u8, .ro, .none, (.num 0), .any⟩,
  ⟨0x1300, 1, 2, 2, (.oct 33), .const, .none, (.oct []), .any⟩,
  ⟨0x1300, 1, 3, 3, .u16, .const, .none, (.num 0), .any⟩,
  ⟨0x1300, 1, 4, 4, (.oct 640), .const, .none, (.oct []), .any⟩,
  ⟨0x1300, 1, 5, 5, .u16, .rw, .t, (.num 300), .btw 30 3600⟩,
  ⟨0x1300, 1, 6, 6, .u8, .ro, .none, (.num 0), .any⟩,
  ⟨0x1300, 1, 7, 7, .u32, .ro, .none, (.num 0), .any⟩,
  ⟨0x1300, 1, 8, 8, .u8, .ro, .none, (.num 0), .any⟩,
  ⟨0x1300, 1, 9, 9, .u32, .ro, .none, (.num 0), .any⟩,
  ⟨0x1300, 1, 10, 10, .u32, .ro, .none, (.num 0), .any⟩,
  ⟨0x1300, 1, 11, 11, .u32, .ro, .none, (.num 0), .any⟩,
  ⟨0x1310, 8, 0, 0, .u8, .const, .none, (.num 16), .any⟩,
  ⟨0x1310, 8, 1, 1, .u8, .ro, .none, (.num 0), .any⟩,
  ⟨0x1310, 8, 2, 2, (.str 16), .rwt, .t, (.oct []), .any⟩,
  ⟨0x1310, 8, 3, 3, (.oct 33), .rwt, .t, (.oct []), .any⟩,
  ⟨0x1310, 8, 4, 4, (.oct 97), .wo, .t, (.oct []), .any⟩,
  ⟨0x1310, 8, 5, 5, .u16, .rwt, .t, (.num 0), .btw 0 1000⟩,
  ⟨0x1310, 8, 6, 6, .u64, .rwt, .t, (.num 0), .mask 0xffffffffffff⟩,
  ⟨0x1310, 8, 7, 7, .u8, .rwt, .t, (.num 0), .any⟩,
  ⟨0x1310, 8, 8, 8, .u16, .rwt, .t, (.num 0), .mask 0xfff0⟩,
  ⟨0x1310, 8, 9, 9, .u16, .rwt, .t, (.num 0), .btw 0 4096⟩,
  ⟨0x1310, 8, 10, 10, .u32, .rwt, .t, (.num 467840), .btw 0 467840⟩,
  ⟨0x1310, 8, 11, 11, .u8, .rwt, .t, (.num 2), .btw 1 4⟩,
  ⟨0x1310, 8, 12, 12, .u32, .ro, .none, (.num 0), .any⟩,
  ⟨0x1310, 8, 13, 13, .u32, .ro, .none, (.num 0), .any⟩,
  ⟨0x1310, 8, 14, 14, .u8, .wo, .t, (.num 0), .any⟩,
  ⟨0x1310, 8, 15, 15, .u32, .ro, .none, (.num 0), .any⟩,
  ⟨0x1310, 8, 16, 16, .u8, .ro, .none, (.num 0), .any⟩,
  ⟨0x1320, 8, 0, 0, .u8, .const, .none, (.num 5), .any⟩,
  ⟨0x1320, 8, 1, 4, (.oct 32), .ro, .none, (.oct []), .any⟩,
  ⟨0x1320, 8, 5, 5, .u32, .wo, .i, (.num 0), .any⟩]

/-- Object rows of the indices 0x1400–0x14FF. -/
def rows14 : List ObjRow := [
  ⟨0x1400, 1, 0, 0, .u8, .const, .none, (.num 12), .any⟩,
  ⟨0x1400, 1, 1, 1, .u8, .ro, .none, (.num 0), .any⟩,
  ⟨0x1400, 1, 2, 2, .u8, .ro, .none, (.num 0), .any⟩,
  ⟨0x1400, 1, 3, 3, .u16, .const, .none, (.num 10), .any⟩,
  ⟨0x1400, 1, 4, 4, .u8, .const, .none, (.num 64), .any⟩,
  ⟨0x1400, 1, 5, 5, .u16, .const, .none, (.num 4096), .any⟩,
  ⟨0x1400, 1, 6, 6, .u32, .ro, .none, (.num 0), .any⟩,
  ⟨0x1400, 1, 7, 7, .u32, .ro, .none, (.num 0), .any⟩,
  ⟨0x1400, 1, 8, 8, .u32, .ro, .none, (.num 0), .any⟩,
  ⟨0x1400, 1, 9, 9, .u32, .ro, .none, (.num 0), .any⟩,
  ⟨0x1400, 1, 10, 10, .u64, .ro, .none, (.num 0), .any⟩,
  ⟨0x1400, 1, 11, 11, .u8, .ro, .none, (.num 0), .any⟩,
  ⟨0x1400, 1, 12, 12, .bool, .ro, .none, (.num 0), .any⟩]

/-- Object rows of the indices 0x1500–0x15FF. -/
def rows15 : List ObjRow := [
  ⟨0x1500, 1, 0, 0, .u8, .const, .none, (.num 9), .any⟩,
  ⟨0x1500, 1, 1, 1, .u8, .ro, .none, (.num 3), .any⟩,
  ⟨0x1500, 1, 2, 2, (.oct 32), .ro, .none, (.oct []), .any⟩,
  ⟨0x1500, 1, 3, 3, .u32, .ro, .none, (.num 0), .any⟩,
  ⟨0x1500, 1, 4, 4, .u32, .ro, .none, (.num 0), .any⟩,
  ⟨0x1500, 1, 5, 5, .u32, .ro, .none, (.num 4294967295), .any⟩,
  ⟨0x1500, 1, 6, 6, .u16, .ro, .none, (.num 0), .any⟩,
  ⟨0x1500, 1, 7, 7, .u16, .rw, .t, (.num 2000), .btw 200 60000⟩,
  ⟨0x1500, 1, 8, 8, .u32, .ro, .none, (.num 0), .any⟩,
  ⟨0x1500, 1, 9, 9, .u32, .ro, .none, (.num 0), .any⟩]

/-- Object rows of the indices 0x1600–0x16FF. -/
def rows16 : List ObjRow := [
  ⟨0x1600, 1, 0, 0, .u8, .const, .none, (.num 12), .any⟩,
  ⟨0x1600, 1, 1, 1, .u8, .ro, .none, (.num 0), .any⟩,
  ⟨0x1600, 1, 2, 2, .u16, .ro, .none, (.num 0), .any⟩,
  ⟨0x1600, 1, 3, 3, .i16, .ro, .none, (.num 0), .any⟩,
  ⟨0x1600, 1, 4, 4, .u32, .ro, .none, (.num 0), .any⟩,
  ⟨0x1600, 1, 5, 5, .u32, .ro, .none, (.num 0), .any⟩,
  ⟨0x1600, 1, 6, 6, .u32, .ro, .none, (.num 0), .any⟩,
  ⟨0x1600, 1, 7, 7, .u32, .ro, .none, (.num 0), .any⟩,
  ⟨0x1600, 1, 8, 8, .u32, .ro, .none, (.num 0), .any⟩,
  ⟨0x1600, 1, 9, 9, .u32, .ro, .none, (.num 0), .any⟩,
  ⟨0x1600, 1, 10, 10, .u8, .ro, .none, (.num 0), .any⟩,
  ⟨0x1600, 1, 11, 11, .u64, .ro, .none, (.num 0), .any⟩,
  ⟨0x1600, 1, 12, 12, .u32, .ro, .none, (.num 0), .any⟩,
  ⟨0x1610, 1, 0, 0, .u8, .const, .none, (.num 10), .any⟩,
  ⟨0x1610, 1, 1, 1, .u8, .ro, .none, (.num 0), .any⟩,
  ⟨0x1610, 1, 2, 2, .u8, .ro, .none, (.num 0), .any⟩,
  ⟨0x1610, 1, 3, 3, .u8, .ro, .none, (.num 0), .any⟩,
  ⟨0x1610, 1, 4, 4, .u32, .ro, .none, (.num 0), .any⟩,
  ⟨0x1610, 1, 5, 5, .u32, .ro, .none, (.num 0), .any⟩,
  ⟨0x1610, 1, 6, 6, .u32, .ro, .none, (.num 0), .any⟩,
  ⟨0x1610, 1, 7, 7, .u32, .ro, .none, (.num 0), .any⟩,
  ⟨0x1610, 1, 8, 8, .u8, .ro, .none, (.num 0), .any⟩,
  ⟨0x1610, 1, 9, 9, .u32, .ro, .none, (.num 0), .any⟩,
  ⟨0x1610, 1, 10, 10, .u8, .ro, .none, (.num 0), .any⟩,
  ⟨0x1620, 1, 0, 0, .u8, .const, .none, (.num 8), .any⟩,
  ⟨0x1620, 1, 1, 1, .u32, .wo, .i, (.num 0), .any⟩,
  ⟨0x1620, 1, 2, 2, .u32, .ro, .none, (.num 0), .any⟩,
  ⟨0x1620, 1, 3, 3, (.oct 1028), .wo, .i, (.oct []), .any⟩,
  ⟨0x1620, 1, 4, 4, .u8, .wo, .i, (.num 0), .among [1]⟩,
  ⟨0x1620, 1, 5, 5, .u8, .wo, .i, (.num 0), .among [1, 2]⟩,
  ⟨0x1620, 1, 6, 6, .u8, .ro, .none, (.num 0), .any⟩,
  ⟨0x1620, 1, 7, 7, .u16, .rw, .t, (.num 900), .btw 60 65535⟩,
  ⟨0x1620, 1, 8, 8, .u8, .ro, .none, (.num 0), .any⟩]

/-- Object rows of the indices 0x1700–0x17FF. -/
def rows17a : List ObjRow := [
  ⟨0x1700, 1, 0, 0, .u8, .const, .none, (.num 18), .any⟩,
  ⟨0x1700, 1, 1, 1, .bool, .rw, .t, (.num 1), .any⟩,
  ⟨0x1700, 1, 2, 2, .u8, .rw, .t, (.num 24), .btw 1 24⟩,
  ⟨0x1700, 1, 3, 3, .u8, .wo, .i, (.num 0), .among [1]⟩,
  ⟨0x1700, 1, 4, 4, .u8, .ro, .none, (.num 0), .any⟩,
  ⟨0x1700, 1, 5, 5, .u16, .ro, .none, (.num 0), .any⟩,
  ⟨0x1700, 1, 6, 6, .u16, .const, .none, (.num 6016), .any⟩,
  ⟨0x1700, 1, 7, 7, .u16, .ro, .none, (.num 0), .any⟩,
  ⟨0x1700, 1, 8, 8, .u16, .const, .none, (.num 384), .any⟩,
  ⟨0x1700, 1, 9, 9, .u32, .ro, .none, (.num 0), .any⟩,
  ⟨0x1700, 1, 10, 10, .u32, .ro, .none, (.num 0), .any⟩,
  ⟨0x1700, 1, 11, 11, .u8, .ro, .none, (.num 0), .any⟩,
  ⟨0x1700, 1, 12, 12, .u32, .ro, .none, (.num 0), .any⟩,
  ⟨0x1700, 1, 13, 13, .u8, .ro, .none, (.num 0), .any⟩,
  ⟨0x1700, 1, 14, 17, .u32, .ro, .none, (.num 0), .any⟩,
  ⟨0x1700, 1, 18, 18, .u32, .ro, .none, (.num 0), .any⟩,
  ⟨0x1710, 1, 0, 0, .u8, .const, .none, (.num 8), .any⟩,
  ⟨0x1710, 1, 1, 1, .u16, .ro, .none, (.num 0), .any⟩,
  ⟨0x1710, 1, 2, 2, .u8, .ro, .none, (.num 0), .any⟩,
  ⟨0x1710, 1, 3, 3, (.oct 4096), .ro, .none, (.oct []), .any⟩,
  ⟨0x1710, 1, 4, 4, .u8, .wo, .i, (.num 0), .among [1]⟩,
  ⟨0x1710, 1, 5, 5, .u8, .wo, .i, (.num 0), .among [1]⟩,
  ⟨0x1710, 1, 6, 6, .u8, .ro, .none, (.num 0), .any⟩,
  ⟨0x1710, 1, 7, 7, .u32, .ro, .none, (.num 0), .any⟩,
  ⟨0x1710, 1, 8, 8, .u32, .ro, .none, (.num 0), .any⟩,
  ⟨0x1720, 1, 0, 0, .u8, .const, .none, (.num 16), .any⟩,
  ⟨0x1720, 1, 1, 16, (.oct 16), .ro, .none, (.oct []), .any⟩,
  ⟨0x1730, 1, 0, 0, .u8, .const, .none, (.num 5), .any⟩,
  ⟨0x1730, 1, 1, 1, .bool, .rw, .t, (.num 0), .any⟩,
  ⟨0x1730, 1, 2, 2, .u16, .rw, .t, (.num 33278), .mask 0xfffe⟩,
  ⟨0x1730, 1, 3, 3, .u16, .rw, .t, (.num 4095), .mask 0xfff⟩,
  ⟨0x1730, 1, 4, 4, .u32, .ro, .none, (.num 0), .any⟩,
  ⟨0x1730, 1, 5, 5, .u32, .ro, .none, (.num 0), .any⟩,
  ⟨0x1750, 1, 0, 0, .u8, .const, .none, (.num 4), .any⟩,
  ⟨0x1750, 1, 1, 1, .u8, .wo, .i, (.num 0), .among [1]⟩,
  ⟨0x1750, 1, 2, 2, .u8, .wo, .i, (.num 0), .among [1]⟩,
  ⟨0x1750, 1, 3, 3, .u32, .ro, .none, (.num 0), .any⟩,
  ⟨0x1750, 1, 4, 4, .u32, .ro, .none, (.num 0), .any⟩,
  ⟨0x1751, 1, 1, 128, .u16, .rw, .t, (.num 0), .any⟩,
  ⟨0x1751, 1, 0, 0, .u8, .const, .none, (.num 128), .any⟩]

/-- Object rows of the indices 0x1700–0x17FF. -/
def rows17b : List ObjRow := [
  ⟨0x1752, 1, 1, 128, .u32, .ro, .none, (.num 0), .any⟩,
  ⟨0x1752, 1, 0, 0, .u8, .const, .none, (.num 128), .any⟩]

/-- Object rows of the indices 0x1800–0x18FF. -/
def rows18 : List ObjRow := [
  ⟨0x1800, 1, 0, 0, .u8, .const, .none, (.num 3), .any⟩,
  ⟨0x1800, 1, 1, 1, .u32, .ro, .none, (.num 0), .any⟩,
  ⟨0x1800, 1, 2, 2, .u8, .ro, .none, (.num 0), .any⟩,
  ⟨0x1800, 1, 3, 3, .u32, .ro, .none, (.num 0), .any⟩,
  ⟨0x1801, 1, 0, 0, .u8, .const, .none, (.num 4), .any⟩,
  ⟨0x1801, 1, 1, 1, (.oct 1032), .wo, .i, (.oct []), .any⟩,
  ⟨0x1801, 1, 2, 2, .u32, .ro, .none, (.num 0), .any⟩,
  ⟨0x1801, 1, 3, 3, .u32, .ro, .none, (.num 0), .any⟩,
  ⟨0x1801, 1, 4, 4, .bool, .ro, .none, (.num 0), .any⟩,
  ⟨0x1810, 1, 0, 0, .u8, .const, .none, (.num 8), .any⟩,
  ⟨0x1810, 1, 1, 1, (.oct 12), .wo, .i, (.oct []), .any⟩,
  ⟨0x1810, 1, 2, 2, .u8, .wo, .i, (.num 0), .among [1]⟩,
  ⟨0x1810, 1, 3, 3, .u8, .ro, .none, (.num 0), .any⟩,
  ⟨0x1810, 1, 4, 4, .u32, .ro, .none, (.num 0), .any⟩,
  ⟨0x1810, 1, 5, 5, .u32, .ro, .none, (.num 0), .any⟩,
  ⟨0x1810, 1, 6, 6, .u8, .ro, .none, (.num 0), .any⟩,
  ⟨0x1810, 1, 7, 7, .u32, .ro, .none, (.num 0), .any⟩,
  ⟨0x1810, 1, 8, 8, .u8, .ro, .none, (.num 0), .any⟩]

/-- Object rows of the indices 0x1900–0x19FF. -/
def rows19 : List ObjRow := [
  ⟨0x1900, 1, 0, 0, .u8, .const, .none, (.num 4), .any⟩,
  ⟨0x1900, 1, 1, 1, .u8, .rw, .b, (.num 0), .among [0, 1]⟩,
  ⟨0x1900, 1, 2, 2, .u16, .const, .none, (.num 3750), .any⟩,
  ⟨0x1900, 1, 3, 3, .u32, .ro, .none, (.num 0), .any⟩,
  ⟨0x1900, 1, 4, 4, .u32, .ro, .none, (.num 0), .any⟩,
  ⟨0x1910, 16, 0, 0, .u8, .const, .none, (.num 13), .any⟩,
  ⟨0x1910, 16, 1, 1, .u8, .ro, .none, (.num 0), .any⟩,
  ⟨0x1910, 16, 2, 2, .u8, .rw, .t, (.num 0), .btw 0 15⟩,
  ⟨0x1910, 16, 3, 3, .u32, .ro, .none, (.num 0), .any⟩,
  ⟨0x1910, 16, 4, 4, .bool, .ro, .none, (.num 0), .any⟩,
  ⟨0x1910, 16, 5, 5, .u32, .rw, .t, (.num 0), .any⟩,
  ⟨0x1910, 16, 6, 6, .u32, .wo, .i, (.num 0), .any⟩,
  ⟨0x1910, 16, 7, 7, .u32, .ro, .none, (.num 0), .any⟩,
  ⟨0x1910, 16, 8, 8, .u32, .ro, .none, (.num 0), .any⟩,
  ⟨0x1910, 16, 9, 9, .u32, .rw, .t, (.num 0), .any⟩,
  ⟨0x1910, 16, 10, 10, .u32, .wo, .i, (.num 0), .any⟩,
  ⟨0x1910, 16, 11, 11, .u32, .ro, .none, (.num 0), .any⟩,
  ⟨0x1910, 16, 12, 12, .u32, .ro, .none, (.num 0), .any⟩,
  ⟨0x1910, 16, 13, 13, .u8, .wo, .i, (.num 0), .among [0, 1]⟩,
  ⟨0x1940, 16, 0, 0, .u8, .const, .none, (.num 6), .any⟩,
  ⟨0x1940, 16, 1, 1, .u8, .rw, .t, (.num 0), .btw 0 2⟩,
  ⟨0x1940, 16, 2, 2, .u8, .rw, .t, (.num 255), .among [4, 5, 6, 7, 8, 9, 10, 11, 12, 13, 14, 15, 255]⟩,
  ⟨0x1940, 16, 3, 3, .bool, .rw, .t, (.num 0), .any⟩,
  ⟨0x1940, 16, 4, 4, .bool, .rw, .t, (.num 0), .any⟩,
  ⟨0x1940, 16, 5, 5, .u8, .rw, .t, (.num 0), .among [0, 1]⟩,
  ⟨0x1940, 16, 6, 6, .bool, .ro, .none, (.num 0), .any⟩]

/-- Object rows of the indices 0x1a00–0x1aFF. -/
def rows1Aa : List ObjRow := [
  ⟨0x1a00, 1, 0, 0, .u8, .const, .none, (.num 8), .any⟩,
  ⟨0x1a00, 1, 1, 1, .bcd8, .rw, .i, (.num 0), .btw 0 89⟩,
  ⟨0x1a00, 1, 2, 2, .bcd8, .rw, .i, (.num 0), .btw 0 89⟩,
  ⟨0x1a00, 1, 3, 3, .bcd8, .rw, .i, (.num 0), .btw 0 35⟩,
  ⟨0x1a00, 1, 4, 4, .bcd8, .rw, .i, (.num 6), .btw 1 7⟩,
  ⟨0x1a00, 1, 5, 5, .bcd8, .rw, .i, (.num 1), .btw 1 49⟩,
  ⟨0x1a00, 1, 6, 6, .bcd8, .rw, .i, (.num 1), .btw 1 18⟩,
  ⟨0x1a00, 1, 7, 7, .bcd8, .rw, .i, (.num 0), .btw 0 153⟩,
  ⟨0x1a00, 1, 8, 8, .bcd8, .rw, .i, (.num 32), .btw 32 35⟩,
  ⟨0x1a01, 1, 0, 0, .u8, .const, .none, (.num 2), .any⟩,
  ⟨0x1a01, 1, 1, 1, .u32, .ro, .none, (.num 0), .any⟩,
  ⟨0x1a01, 1, 2, 2, .u16, .ro, .none, (.num 0), .any⟩,
  ⟨0x1a02, 1, 0, 0, .u8, .const, .none, (.num 11), .any⟩,
  ⟨0x1a02, 1, 1, 1, .bool, .ro, .none, (.num 1), .any⟩,
  ⟨0x1a02, 1, 2, 2, .u8, .ro, .none, (.num 2), .any⟩,
  ⟨0x1a02, 1, 3, 3, .u32, .ro, .none, (.num 0), .any⟩,
  ⟨0x1a02, 1, 4, 4, .u32, .ro, .none, (.num 0), .any⟩,
  ⟨0x1a02, 1, 5, 5, .u32, .ro, .none, (.num 0), .any⟩,
  ⟨0x1a02, 1, 6, 6, .u32, .ro, .none, (.num 0), .any⟩,
  ⟨0x1a02, 1, 7, 7, .u32, .ro, .none, (.num 0), .any⟩,
  ⟨0x1a02, 1, 8, 8, .u16, .ro, .none, (.num 0), .any⟩,
  ⟨0x1a02, 1, 9, 9, .u16, .rw, .t, (.num 2200), .btw 2000 3300⟩,
  ⟨0x1a02, 1, 10, 10, .bool, .ro, .none, (.num 0), .any⟩,
  ⟨0x1a02, 1, 11, 11, .u32, .ro, .none, (.num 0), .any⟩,
  ⟨0x1a03, 1, 0, 0, .u8, .const, .none, (.num 5), .any⟩,
  ⟨0x1a03, 1, 1, 1, .i16, .rw, .t, (.num 0), .btw (-512) (511)⟩,
  ⟨0x1a03, 1, 2, 2, .bool, .rw, .t, (.num 0), .any⟩,
  ⟨0x1a03, 1, 3, 3, .i32, .ro, .none, (.num 0), .any⟩,
  ⟨0x1a03, 1, 4, 4, .bool, .ro, .none, (.num 0), .any⟩,
  ⟨0x1a03, 1, 5, 5, .u32, .ro, .none, (.num 0), .any⟩,
  ⟨0x1a10, 2, 0, 0, .u8, .const, .none, (.num 11), .any⟩,
  ⟨0x1a10, 2, 1, 1, .bool, .rw, .t, (.num 0), .any⟩,
  ⟨0x1a10, 2, 2, 2, .bcd8, .rw, .t, (.num 0), .btw 0 89⟩,
  ⟨0x1a10, 2, 3, 3, .bcd8, .rw, .t, (.num 0), .btw 0 89⟩,
  ⟨0x1a10, 2, 4, 4, .bcd8, .rw, .t, (.num 0), .btw 0 35⟩,
  ⟨0x1a10, 2, 5, 5, .bcd8, .rw, .t, (.num 1), .btw 1 7⟩,
  ⟨0x1a10, 2, 6, 6, .bcd8, .rw, .t, (.num 1), .btw 1 49⟩,
  ⟨0x1a10, 2, 7, 7, .bcd8, .rw, .t, (.num 1), .btw 1 18⟩,
  ⟨0x1a10, 2, 8, 8, .u8, .rw, .t, (.num 63), .mask 0x3f⟩,
  ⟨0x1a10, 2, 9, 9, .u8, .rw, .t, (.num 1), .mask 0xf⟩]

/-- Object rows of the indices 0x1a00–0x1aFF. -/
def rows1Ab : List ObjRow := [
  ⟨0x1a10, 2, 10, 10, .bool, .ro, .none, (.num 0), .any⟩,
  ⟨0x1a10, 2, 11, 11, .u32, .ro, .none, (.num 0), .any⟩,
  ⟨0x1a20, 1, 0, 0, .u8, .const, .none, (.num 4), .any⟩,
  ⟨0x1a20, 1, 1, 1, .bool, .ro, .none, (.num 1), .any⟩,
  ⟨0x1a20, 1, 2, 2, .u16, .wo, .i, (.num 0), .btw 0 3600⟩,
  ⟨0x1a20, 1, 3, 3, .u32, .ro, .none, (.num 0), .any⟩,
  ⟨0x1a20, 1, 4, 4, .u32, .ro, .none, (.num 0), .any⟩]

/-- Object rows of the indices 0x1b00–0x1bFF. -/
def rows1B : List ObjRow := [
  ⟨0x1b00, 1, 0, 0, .u8, .const, .none, (.num 12), .any⟩,
  ⟨0x1b00, 1, 1, 1, .u8, .ro, .none, (.num 0), .any⟩,
  ⟨0x1b00, 1, 2, 2, .u8, .ro, .none, (.num 1), .any⟩,
  ⟨0x1b00, 1, 3, 3, .u32, .ro, .none, (.num 0), .any⟩,
  ⟨0x1b00, 1, 4, 4, .u32, .ro, .none, (.num 0), .any⟩,
  ⟨0x1b00, 1, 5, 5, .u64, .ro, .none, (.num 0), .any⟩,
  ⟨0x1b00, 1, 6, 6, .u8, .ro, .none, (.num 0), .any⟩,
  ⟨0x1b00, 1, 7, 7, .u16, .ro, .none, (.num 0), .any⟩,
  ⟨0x1b00, 1, 8, 8, .i16, .ro, .none, (.num 0), .any⟩,
  ⟨0x1b00, 1, 9, 9, .u32, .ro, .none, (.num 0), .any⟩,
  ⟨0x1b00, 1, 10, 10, .u8, .ro, .none, (.num 0), .any⟩,
  ⟨0x1b00, 1, 11, 11, .bool, .ro, .none, (.num 0), .any⟩,
  ⟨0x1b00, 1, 12, 12, .u32, .ro, .none, (.num 0), .any⟩,
  ⟨0x1b01, 1, 0, 0, .u8, .const, .none, (.num 10), .any⟩,
  ⟨0x1b01, 1, 1, 1, .u16, .rw, .t, (.num 5000), .btw 4500 6600⟩,
  ⟨0x1b01, 1, 2, 2, .u8, .rw, .t, (.num 0), .among [0, 1]⟩,
  ⟨0x1b01, 1, 3, 3, .u8, .rw, .t, (.num 1), .among [1, 2, 4, 8, 16]⟩,
  ⟨0x1b01, 1, 4, 4, .u8, .rw, .t, (.num 16), .btw 1 255⟩,
  ⟨0x1b01, 1, 5, 5, .u16, .rw, .t, (.num 500), .btw 100 900⟩,
  ⟨0x1b01, 1, 6, 6, .i16, .rw, .t, (.num 0), .btw (-2000) (2000)⟩,
  ⟨0x1b01, 1, 7, 7, .u8, .rw, .t, (.num 1), .btw 0 2⟩,
  ⟨0x1b01, 1, 8, 8, .u16, .rw, .t, (.num 200), .btw 10 3000⟩,
  ⟨0x1b01, 1, 9, 9, .u16, .rw, .t, (.num 1000), .btw 100 9000⟩,
  ⟨0x1b01, 1, 10, 10, .u16, .rw, .t, (.num 20), .btw 5 50⟩,
  ⟨0x1b02, 1, 0, 0, .u8, .const, .none, (.num 7), .any⟩,
  ⟨0x1b02, 1, 1, 1, .u8, .rw, .b, (.num 0), .btw 0 2⟩,
  ⟨0x1b02, 1, 2, 2, .u8, .rwt, .c, (.num 0), .btw 0 7⟩,
  ⟨0x1b02, 1, 3, 3, .u8, .rwt, .c, (.num 2), .btw 1 15⟩,
  ⟨0x1b02, 1, 4, 4, .u8, .rw, .b, (.num 0), .btw 0 2⟩,
  ⟨0x1b02, 1, 5, 5, .u16, .rwt, .c, (.num 0), .btw 0 200⟩,
  ⟨0x1b02, 1, 6, 6, .u16, .rw, .t, (.num 0), .btw 0 1000⟩,
  ⟨0x1b02, 1, 7, 7, .bool, .rw, .t, (.num 0), .any⟩,
  ⟨0x1b10, 1, 0, 0, .u8, .const, .none, (.num 128), .any⟩,
  ⟨0x1b10, 1, 1, 128, .u32, .rwt, .c, (.num 0), .any⟩]

/-- Object rows of the indices 0x2000–0x20FF. -/
def rows20a : List ObjRow := [
  ⟨0x2000, 1, 0, 0, .u8, .const, .none, (.num 8), .any⟩,
  ⟨0x2000, 1, 1, 1, (.str 12), .const, .none, (.oct []), .any⟩,
  ⟨0x2000, 1, 2, 2, .u8, .ro, .none, (.num 0), .any⟩,
  ⟨0x2000, 1, 3, 3, .u8, .const, .none, (.num 0), .any⟩,
  ⟨0x2000, 1, 4, 4, .u8, .const, .none, (.num 0), .any⟩,
  ⟨0x2000, 1, 5, 5, .i16, .const, .none, (.num 0), .any⟩,
  ⟨0x2000, 1, 6, 6, .u16, .const, .none, (.num 0), .any⟩,
  ⟨0x2000, 1, 7, 7, .u32, .const, .none, (.num 0), .any⟩,
  ⟨0x2000, 1, 8, 8, .u8, .const, .none, (.num 0), .any⟩,
  ⟨0x2001, 1, 0, 0, .u8, .const, .none, (.num 0), .any⟩,
  ⟨0x2001, 1, 1, 64, .u16, .const, .none, (.num 0), .any⟩,
  ⟨0x2010, 4, 0, 0, .u8, .const, .none, (.num 10), .any⟩,
  ⟨0x2010, 4, 1, 1, .u16, .const, .none, (.num 0), .any⟩,
  ⟨0x2010, 4, 2, 2, .u16, .const, .none, (.num 0), .any⟩,
  ⟨0x2010, 4, 3, 3, .i16, .const, .none, (.num 0), .any⟩,
  ⟨0x2010, 4, 4, 4, .i16, .const, .none, (.num 0), .any⟩,
  ⟨0x2010, 4, 5, 5, .u16, .const, .none, (.num 0), .any⟩,
  ⟨0x2010, 4, 6, 6, .u16, .const, .none, (.num 0), .any⟩,
  ⟨0x2010, 4, 7, 7, .u32, .const, .none, (.num 0), .any⟩,
  ⟨0x2010, 4, 8, 8, .u32, .const, .none, (.num 0), .any⟩,
  ⟨0x2010, 4, 9, 9, .u8, .const, .none, (.num 0), .any⟩,
  ⟨0x2010, 4, 10, 10, .u8, .const, .none, (.num 0), .any⟩,
  ⟨0x2020, 4, 0, 0, .u8, .const, .none, (.num 10), .any⟩,
  ⟨0x2020, 4, 1, 1, .u16, .ro, .none, (.num 0), .any⟩,
  ⟨0x2020, 4, 2, 2, .u16, .ro, .none, (.num 0), .any⟩,
  ⟨0x2020, 4, 3, 3, .i16, .rwt, .t, (.num 0), .step 25 1000 3150⟩,
  ⟨0x2020, 4, 4, 4, .i16, .rwt, .t, (.num 0), .any⟩,
  ⟨0x2020, 4, 5, 5, .u16, .rwt, .t, (.num 0), .any⟩,
  ⟨0x2020, 4, 6, 6, .u16, .rwt, .t, (.num 0), .any⟩,
  ⟨0x2020, 4, 7, 7, .u32, .rwt, .t, (.num 0), .any⟩,
  ⟨0x2020, 4, 8, 8, .u32, .rwt, .t, (.num 0), .any⟩,
  ⟨0x2020, 4, 9, 9, .u8, .rwt, .t, (.num 0), .mask 0x7⟩,
  ⟨0x2020, 4, 10, 10, .u8, .ro, .none, (.num 0), .any⟩,
  ⟨0x2030, 1, 0, 0, .u8, .const, .none, (.num 4), .any⟩,
  ⟨0x2030, 1, 1, 1, .u8, .rw, .i, (.num 0), .among [0, 1]⟩,
  ⟨0x2030, 1, 2, 2, .u32, .ro, .none, (.num 0), .any⟩,
  ⟨0x2030, 1, 3, 3, .u64, .rwt, .t, (.num 0), .any⟩,
  ⟨0x2030, 1, 4, 4, .u16, .rwt, .t, (.num 0), .any⟩,
  ⟨0x2040, 8, 0, 0, .u8, .const, .none, (.num 3), .any⟩,
  ⟨0x2040, 8, 1, 1, .i16, .rw, .t, (.num 3150), .step 25 1000 3150⟩]

/-- Object rows of the indices 0x2000–0x20FF. -/
def rows20b : List ObjRow := [
  ⟨0x2040, 8, 2, 2, .u64, .rw, .t, (.num 18446744073709551615), .any⟩,
  ⟨0x2040, 8, 3, 3, .u8, .rw, .t, (.num 7), .mask 0x7⟩,
  ⟨0x2050, 8, 0, 0, .u8, .const, .none, (.num 3), .any⟩,
  ⟨0x2050, 8, 1, 1, .u8, .rw, .t, (.num 0), .among [0, 1]⟩,
  ⟨0x2050, 8, 2, 2, .u8, .rw, .t, (.num 40), .btw 0 63⟩,
  ⟨0x2050, 8, 3, 3, .u8, .rw, .t, (.num 63), .btw 18 63⟩,
  ⟨0x2060, 1, 0, 0, .u8, .const, .none, (.num 11), .any⟩,
  ⟨0x2060, 1, 1, 1, .i16, .rw, .t, (.num 1100), .btw 950 1200⟩,
  ⟨0x2060, 1, 2, 2, .u8, .rw, .t, (.num 10), .btw 5 40⟩,
  ⟨0x2060, 1, 3, 3, .i16, .const, .none, (.num 1250), .any⟩,
  ⟨0x2060, 1, 4, 4, .u16, .rw, .t, (.num 1000), .btw 250 4000⟩,
  ⟨0x2060, 1, 5, 7, .i16, .ro, .none, (.num 0), .any⟩,
  ⟨0x2060, 1, 8, 8, .u8, .ro, .none, (.num 7), .any⟩,
  ⟨0x2060, 1, 9, 11, .i16, .ro, .none, (.num 3150), .any⟩]

/-- Object rows of the indices 0x2100–0x21FF. -/
def rows21 : List ObjRow := [
  ⟨0x2100, 48, 0, 0, .u8, .const, .none, (.num 16), .any⟩,
  ⟨0x2100, 48, 1, 1, .u8, .rw, .i, (.num 0), .among [0, 1]⟩,
  ⟨0x2100, 48, 2, 2, .u8, .ro, .none, (.num 0), .any⟩,
  ⟨0x2100, 48, 3, 3, .u8, .ro, .none, (.num 0), .any⟩,
  ⟨0x2100, 48, 4, 4, .bool, .ro, .none, (.num 0), .any⟩,
  ⟨0x2100, 48, 5, 5, .u8, .wo, .i, (.num 0), .among [1]⟩,
  ⟨0x2100, 48, 6, 6, .i16, .rw, .t, (.num 600), .btw (-500) (1400)⟩,
  ⟨0x2100, 48, 7, 7, .u16, .rw, .t, (.num 0), .btw 0 1000⟩,
  ⟨0x2100, 48, 8, 8, .i16, .ro, .none, (.num 0), .any⟩,
  ⟨0x2100, 48, 9, 9, .u8, .rw, .t, (.num 2), .btw 0 5⟩,
  ⟨0x2100, 48, 10, 10, .u8, .rw, .t, (.num 0), .among [0, 1]⟩,
  ⟨0x2100, 48, 11, 11, .u32, .ro, .none, (.num 0), .any⟩,
  ⟨0x2100, 48, 12, 12, .u32, .rw, .t, (.num 0), .mask 0x3ffff⟩,
  ⟨0x2100, 48, 13, 13, .u16, .ro, .none, (.num 0), .any⟩,
  ⟨0x2100, 48, 14, 14, .u16, .rw, .t, (.num 10), .btw 1 3600⟩,
  ⟨0x2100, 48, 15, 15, .u32, .ro, .none, (.num 0), .any⟩,
  ⟨0x2100, 48, 16, 16, .u32, .ro, .none, (.num 0), .any⟩,
  ⟨0x2130, 48, 0, 0, .u8, .const, .none, (.num 14), .any⟩,
  ⟨0x2130, 48, 1, 1, .u8, .rw, .t, (.num 0), .among [0, 1]⟩,
  ⟨0x2130, 48, 2, 2, .u8, .ro, .none, (.num 0), .any⟩,
  ⟨0x2130, 48, 3, 3, .u8, .ro, .none, (.num 0), .any⟩,
  ⟨0x2130, 48, 4, 4, .i16, .ro, .none, (.num 0), .any⟩,
  ⟨0x2130, 48, 5, 5, .u16, .ro, .none, (.num 0), .any⟩,
  ⟨0x2130, 48, 6, 6, .u16, .ro, .none, (.num 0), .any⟩,
  ⟨0x2130, 48, 7, 7, .u8, .ro, .none, (.num 0), .any⟩,
  ⟨0x2130, 48, 8, 8, .u8, .ro, .none, (.num 0), .any⟩,
  ⟨0x2130, 48, 9, 9, .u8, .ro, .none, (.num 0), .any⟩,
  ⟨0x2130, 48, 10, 10, .u32, .ro, .none, (.num 0), .any⟩,
  ⟨0x2130, 48, 11, 11, .u32, .ro, .none, (.num 0), .any⟩,
  ⟨0x2130, 48, 12, 12, .u32, .ro, .none, (.num 0), .any⟩,
  ⟨0x2130, 48, 13, 13, .u32, .ro, .none, (.num 0), .any⟩,
  ⟨0x2130, 48, 14, 14, .u32, .ro, .none, (.num 0), .any⟩]

/-- Object rows of the indices 0x2200–0x22FF. -/
def rows22a : List ObjRow := [
  ⟨0x2200, 12, 0, 0, .u8, .const, .none, (.num 16), .any⟩,
  ⟨0x2200, 12, 1, 1, .u8, .ro, .none, (.num 0), .any⟩,
  ⟨0x2200, 12, 2, 2, .u16, .ro, .none, (.num 65535), .any⟩,
  ⟨0x2200, 12, 3, 3, .u8, .ro, .none, (.num 255), .any⟩,
  ⟨0x2200, 12, 4, 4, .i16, .ro, .none, (.num 0), .any⟩,
  ⟨0x2200, 12, 5, 5, .i16, .ro, .none, (.num 0), .any⟩,
  ⟨0x2200, 12, 6, 6, .u8, .rw, .t, (.num 0), .among [0, 1]⟩,
  ⟨0x2200, 12, 7, 7, .u8, .rw, .t, (.num 20), .btw 5 100⟩,
  ⟨0x2200, 12, 8, 8, .u8, .ro, .none, (.num 0), .any⟩,
  ⟨0x2200, 12, 9, 9, .u16, .ro, .none, (.num 0), .any⟩,
  ⟨0x2200, 12, 10, 10, .u32, .ro, .none, (.num 0), .any⟩,
  ⟨0x2200, 12, 11, 11, .u32, .ro, .none, (.num 0), .any⟩,
  ⟨0x2200, 12, 12, 12, .u32, .ro, .none, (.num 0), .any⟩,
  ⟨0x2200, 12, 13, 13, .u32, .ro, .none, (.num 0), .any⟩,
  ⟨0x2200, 12, 14, 14, .u32, .ro, .none, (.num 0), .any⟩,
  ⟨0x2200, 12, 15, 15, .bool, .rw, .t, (.num 1), .any⟩,
  ⟨0x2200, 12, 16, 16, .u8, .wo, .i, (.num 0), .among [1]⟩,
  ⟨0x2210, 12, 0, 0, .u8, .const, .none, (.num 10), .any⟩,
  ⟨0x2210, 12, 1, 1, .i16, .rw, .t, (.num (-2500)), .btw (-4000) (-1500)⟩,
  ⟨0x2210, 12, 2, 2, .u8, .rw, .t, (.num 12), .btw 6 24⟩,
  ⟨0x2210, 12, 3, 3, .u8, .rw, .t, (.num 63), .btw 18 63⟩,
  ⟨0x2210, 12, 4, 4, .bool, .rw, .t, (.num 0), .any⟩,
  ⟨0x2210, 12, 5, 5, .u16, .rw, .t, (.num 200), .btw 50 1000⟩,
  ⟨0x2210, 12, 6, 6, .u64, .rw, .t, (.num 18446744073709551615), .any⟩,
  ⟨0x2210, 12, 7, 7, .u32, .ro, .none, (.num 0), .any⟩,
  ⟨0x2210, 12, 8, 8, .u32, .ro, .none, (.num 0), .any⟩,
  ⟨0x2210, 12, 9, 9, .u32, .ro, .none, (.num 0), .any⟩,
  ⟨0x2210, 12, 10, 10, .u32, .ro, .none, (.num 0), .any⟩,
  ⟨0x2220, 12, 0, 0, .u8, .const, .none, (.num 65), .any⟩,
  ⟨0x2220, 12, 1, 64, .u32, .ro, .none, (.num 0), .any⟩,
  ⟨0x2220, 12, 65, 65, .u32, .ro, .none, (.num 0), .any⟩,
  ⟨0x2230, 12, 0, 0, .u8, .const, .none, (.num 14), .any⟩,
  ⟨0x2230, 12, 1, 1, .u8, .rw, .t, (.num 36), .btw 16 80⟩,
  ⟨0x2230, 12, 2, 2, .u8, .rw, .t, (.num 2), .btw 1 8⟩,
  ⟨0x2230, 12, 3, 3, .u8, .rw, .t, (.num 1), .among [0, 1]⟩,
  ⟨0x2230, 12, 4, 4, .u8, .rw, .t, (.num 24), .btw 12 48⟩,
  ⟨0x2230, 12, 5, 5, .u8, .rw, .t, (.num 40), .btw 20 80⟩,
  ⟨0x2230, 12, 6, 6, .bool, .rw, .t, (.num 1), .any⟩,
  ⟨0x2230, 12, 7, 7, .u8, .rw, .t, (.num 4), .btw 0 4⟩,
  ⟨0x2230, 12, 8, 8, .u32, .ro, .none, (.num 0), .any⟩]

/-- Object rows of the indices 0x2200–0x22FF. -/
def rows22b : List ObjRow := [
  ⟨0x2230, 12, 9, 9, .u32, .ro, .none, (.num 0), .any⟩,
  ⟨0x2230, 12, 10, 10, .u32, .ro, .none, (.num 0), .any⟩,
  ⟨0x2230, 12, 11, 11, .u32, .ro, .none, (.num 0), .any⟩,
  ⟨0x2230, 12, 12, 12, .u32, .ro, .none, (.num 0), .any⟩,
  ⟨0x2230, 12, 13, 13, .u32, .ro, .none, (.num 0), .any⟩,
  ⟨0x2230, 12, 14, 14, .i16, .ro, .none, (.num 0), .any⟩,
  ⟨0x2240, 1, 0, 0, .u8, .const, .none, (.num 7), .any⟩,
  ⟨0x2240, 1, 1, 1, .u8, .rw, .t, (.num 20), .btw 1 20⟩,
  ⟨0x2240, 1, 2, 2, .bool, .rw, .t, (.num 1), .any⟩,
  ⟨0x2240, 1, 3, 3, .u32, .ro, .none, (.num 0), .any⟩,
  ⟨0x2240, 1, 4, 4, .u32, .ro, .none, (.num 0), .any⟩,
  ⟨0x2240, 1, 5, 5, .u16, .ro, .none, (.num 0), .any⟩,
  ⟨0x2240, 1, 6, 6, .u32, .ro, .none, (.num 0), .any⟩,
  ⟨0x2240, 1, 7, 7, .u8, .ro, .none, (.num 0), .any⟩]

/-- Object rows of the indices 0x2300–0x23FF. -/
def rows23 : List ObjRow := [
  ⟨0x2300, 1, 0, 0, .u8, .const, .none, (.num 9), .any⟩,
  ⟨0x2300, 1, 1, 1, .bool, .rw, .t, (.num 0), .any⟩,
  ⟨0x2300, 1, 2, 2, .u16, .rw, .t, (.num 50), .btw 0 1000⟩,
  ⟨0x2300, 1, 3, 3, .u16, .rw, .t, (.num 100), .btw 1 1000⟩,
  ⟨0x2300, 1, 4, 4, .u8, .rw, .t, (.num 0), .among [0, 1]⟩,
  ⟨0x2300, 1, 5, 5, .u8, .rw, .t, (.num 0), .btw 0 2⟩,
  ⟨0x2300, 1, 6, 6, .u8, .ro, .none, (.num 0), .any⟩,
  ⟨0x2300, 1, 7, 7, .u32, .ro, .none, (.num 0), .any⟩,
  ⟨0x2300, 1, 8, 8, .u32, .ro, .none, (.num 0), .any⟩,
  ⟨0x2300, 1, 9, 9, .u32, .ro, .none, (.num 0), .any⟩]

/-- Object rows of the indices 0x2400–0x24FF. -/
def rows24 : List ObjRow := [
  ⟨0x2400, 8, 0, 0, .u8, .const, .none, (.num 20), .any⟩,
  ⟨0x2400, 8, 1, 1, .u8, .rw, .i, (.num 0), .among [0, 1]⟩,
  ⟨0x2400, 8, 2, 2, .u8, .ro, .none, (.num 0), .any⟩,
  ⟨0x2400, 8, 3, 3, .u8, .ro, .none, (.num 0), .any⟩,
  ⟨0x2400, 8, 4, 4, .bool, .ro, .none, (.num 0), .any⟩,
  ⟨0x2400, 8, 5, 5, .u8, .wo, .i, (.num 0), .among [1]⟩,
  ⟨0x2400, 8, 6, 6, .u16, .rw, .t, (.num 250), .btw 10 1000⟩,
  ⟨0x2400, 8, 7, 7, .u8, .rw, .t, (.num 1), .btw 0 3⟩,
  ⟨0x2400, 8, 8, 8, .u16, .rw, .t, (.num 5100), .btw 1000 20000⟩,
  ⟨0x2400, 8, 9, 9, .u16, .rw, .t, (.num 0), .btw 0 3600⟩,
  ⟨0x2400, 8, 10, 10, .u8, .rw, .t, (.num 6), .btw 2 32⟩,
  ⟨0x2400, 8, 11, 11, .u8, .rw, .t, (.num 32), .btw 4 32⟩,
  ⟨0x2400, 8, 12, 12, .u8, .rw, .t, (.num 0), .among [0, 1]⟩,
  ⟨0x2400, 8, 13, 13, .u16, .rw, .t, (.num 300), .btw 20 5000⟩,
  ⟨0x2400, 8, 14, 14, .u16, .rw, .t, (.num 10), .btw 1 3600⟩,
  ⟨0x2400, 8, 15, 15, .u8, .ro, .none, (.num 255), .any⟩,
  ⟨0x2400, 8, 16, 16, .u16, .ro, .none, (.num 0), .any⟩,
  ⟨0x2400, 8, 17, 17, .u32, .ro, .none, (.num 0), .any⟩,
  ⟨0x2400, 8, 18, 18, .u32, .ro, .none, (.num 0), .any⟩,
  ⟨0x2400, 8, 19, 19, .u32, .ro, .none, (.num 0), .any⟩,
  ⟨0x2400, 8, 20, 20, .u32, .ro, .none, (.num 0), .any⟩]

/-- Object rows of the indices 0x2500–0x25FF. -/
def rows25 : List ObjRow := [
  ⟨0x2500, 1, 0, 0, .u8, .const, .none, (.num 27), .any⟩,
  ⟨0x2500, 1, 1, 1, .u8, .rw, .t, (.num 0), .any⟩,
  ⟨0x2500, 1, 2, 2, .u8, .rw, .t, (.num 3), .btw 0 3⟩,
  ⟨0x2500, 1, 3, 3, .u16, .rw, .t, (.num 100), .btw 50 400⟩,
  ⟨0x2500, 1, 4, 4, .u8, .rw, .t, (.num 1), .btw 1 4⟩,
  ⟨0x2500, 1, 5, 5, .u8, .rw, .t, (.num 4), .btw 1 16⟩,
  ⟨0x2500, 1, 6, 6, .u16, .rw, .t, (.num 20), .btw 1 600⟩,
  ⟨0x2500, 1, 7, 7, .u16, .rw, .t, (.num 60), .btw 5 3600⟩,
  ⟨0x2500, 1, 8, 15, .u16, .rw, .t, (.num 120), .btw 8 4000⟩,
  ⟨0x2500, 1, 16, 16, .u8, .rw, .t, (.num 50), .btw 10 90⟩,
  ⟨0x2500, 1, 17, 24, .u32, .ro, .none, (.num 0), .any⟩,
  ⟨0x2500, 1, 25, 25, .u8, .ro, .none, (.num 0), .any⟩,
  ⟨0x2500, 1, 26, 26, .u8, .ro, .none, (.num 0), .any⟩,
  ⟨0x2500, 1, 27, 27, .u32, .ro, .none, (.num 0), .any⟩]

/-- Object rows of the indices 0x3000–0x30FF. -/
def rows30 : List ObjRow := [
  ⟨0x3000, 64, 0, 0, .u8, .const, .none, (.num 46), .any⟩,
  ⟨0x3000, 64, 1, 1, .u8, .rw, .t, (.num 255), .among [0, 1, 2, 3, 4, 5, 6, 7, 255]⟩,
  ⟨0x3000, 64, 2, 2, .bool, .rw, .t, (.num 0), .any⟩,
  ⟨0x3000, 64, 3, 3, .u8, .rw, .t, (.num 4), .btw 0 7⟩,
  ⟨0x3000, 64, 4, 4, .u64, .rw, .t, (.num 0), .mask 0xffffffffffff⟩,
  ⟨0x3000, 64, 5, 5, .u8, .rw, .t, (.num 0), .btw 0 15⟩,
  ⟨0x3000, 64, 6, 6, .u8, .rw, .t, (.num 0), .btw 0 3⟩,
  ⟨0x3000, 64, 7, 7, .u8, .rw, .t, (.num 0), .btw 0 2⟩,
  ⟨0x3000, 64, 8, 8, .u8, .rw, .t, (.num 6), .btw 0 31⟩,
  ⟨0x3000, 64, 9, 9, .u32, .rw, .t, (.num 0), .btw 0 86400000⟩,
  ⟨0x3000, 64, 10, 10, .u32, .rw, .t, (.num 60000), .btw 100 3600000⟩,
  ⟨0x3000, 64, 11, 11, .i16, .rw, .t, (.num 3000), .step 25 1000 3150⟩,
  ⟨0x3000, 64, 12, 12, .i16, .rw, .t, (.num 3000), .step 25 1000 3150⟩,
  ⟨0x3000, 64, 13, 13, .bool, .rw, .t, (.num 1), .any⟩,
  ⟨0x3000, 64, 14, 14, .bool, .rw, .t, (.num 0), .any⟩,
  ⟨0x3000, 64, 15, 15, .u32, .wo, .t, (.num 0), .any⟩,
  ⟨0x3000, 64, 16, 16, .u32, .wo, .t, (.num 0), .any⟩,
  ⟨0x3000, 64, 17, 17, (.oct 32), .rw, .t, (.oct []), .any⟩,
  ⟨0x3000, 64, 18, 25, (.oct 40), .rw, .t, (.oct []), .any⟩,
  ⟨0x3000, 64, 26, 41, (.oct 16), .rw, .t, (.oct []), .any⟩,
  ⟨0x3000, 64, 42, 42, .u8, .ro, .none, (.num 0), .any⟩,
  ⟨0x3000, 64, 43, 43, .u32, .ro, .none, (.num 0), .any⟩,
  ⟨0x3000, 64, 44, 44, .u32, .ro, .none, (.num 0), .any⟩,
  ⟨0x3000, 64, 45, 45, .u32, .ro, .none, (.num 0), .any⟩,
  ⟨0x3000, 64, 46, 46, .u32, .ro, .none, (.num 0), .any⟩]

/-- Object rows of the indices 0x3100–0x31FF. -/
def rows31 : List ObjRow := [
  ⟨0x3100, 1, 0, 0, .u8, .const, .none, (.num 4), .any⟩,
  ⟨0x3100, 1, 1, 1, .u16, .ro, .none, (.num 0), .any⟩,
  ⟨0x3100, 1, 2, 2, .u16, .rw, .i, (.num 0), .any⟩,
  ⟨0x3100, 1, 3, 3, (.oct 1024), .ro, .none, (.oct []), .any⟩,
  ⟨0x3100, 1, 4, 4, .u8, .wo, .i, (.num 0), .among [1]⟩,
  ⟨0x3101, 1, 0, 0, .u8, .const, .none, (.num 14), .any⟩,
  ⟨0x3101, 1, 1, 1, .u32, .rw, .t, (.num 600), .btw 1 86400⟩,
  ⟨0x3101, 1, 2, 2, .u16, .rw, .t, (.num 10), .btw 1 3600⟩,
  ⟨0x3101, 1, 3, 3, .u16, .rw, .t, (.num 250), .btw 20 2000⟩,
  ⟨0x3101, 1, 4, 4, .u16, .rw, .t, (.num 3000), .btw 0 20000⟩,
  ⟨0x3101, 1, 5, 5, .u16, .ro, .none, (.num 0), .any⟩,
  ⟨0x3101, 1, 6, 6, .u8, .ro, .none, (.num 0), .any⟩,
  ⟨0x3101, 1, 7, 7, .u32, .ro, .none, (.num 0), .any⟩,
  ⟨0x3101, 1, 8, 8, .u32, .ro, .none, (.num 0), .any⟩,
  ⟨0x3101, 1, 9, 9, .u32, .ro, .none, (.num 0), .any⟩,
  ⟨0x3101, 1, 10, 10, .u32, .ro, .none, (.num 0), .any⟩,
  ⟨0x3101, 1, 11, 11, .u32, .ro, .none, (.num 0), .any⟩,
  ⟨0x3101, 1, 12, 12, .u32, .ro, .none, (.num 0), .any⟩,
  ⟨0x3101, 1, 13, 13, .u32, .ro, .none, (.num 0), .any⟩,
  ⟨0x3101, 1, 14, 14, .u32, .ro, .none, (.num 0), .any⟩,
  ⟨0x3110, 8, 0, 0, .u8, .const, .none, (.num 8), .any⟩,
  ⟨0x3110, 8, 1, 1, .u8, .rw, .t, (.num 0), .btw 0 2⟩,
  ⟨0x3110, 8, 2, 2, .u64, .rw, .t, (.num 281474976710655), .mask 0xffffffffffff⟩,
  ⟨0x3110, 8, 3, 3, .i16, .rw, .t, (.num (-12800)), .any⟩,
  ⟨0x3110, 8, 4, 4, .bool, .rw, .t, (.num 0), .any⟩,
  ⟨0x3110, 8, 5, 8, (.oct 24), .rw, .t, (.oct []), .any⟩]

/-- Object rows of the indices 0x3200–0x32FF. -/
def rows32 : List ObjRow := [
  ⟨0x3200, 1, 0, 0, .u8, .const, .none, (.num 16), .any⟩,
  ⟨0x3200, 1, 1, 1, .bool, .rw, .t, (.num 1), .any⟩,
  ⟨0x3200, 1, 2, 2, .u8, .rw, .t, (.num 16), .btw 12 24⟩,
  ⟨0x3200, 1, 3, 3, .u8, .rw, .t, (.num 2), .btw 1 4⟩,
  ⟨0x3200, 1, 4, 4, .u8, .rw, .t, (.num 16), .btw 4 32⟩,
  ⟨0x3200, 1, 5, 5, .u8, .rw, .t, (.num 16), .btw 8 64⟩,
  ⟨0x3200, 1, 6, 6, .u8, .rw, .t, (.num 1), .btw 0 3⟩,
  ⟨0x3200, 1, 7, 7, .u8, .rw, .t, (.num 12), .btw 0 40⟩,
  ⟨0x3200, 1, 8, 8, .u8, .rw, .t, (.num 0), .among [0, 1]⟩,
  ⟨0x3200, 1, 9, 9, .u32, .ro, .none, (.num 0), .any⟩,
  ⟨0x3200, 1, 10, 10, .u32, .ro, .none, (.num 0), .any⟩,
  ⟨0x3200, 1, 11, 11, .u32, .ro, .none, (.num 0), .any⟩,
  ⟨0x3200, 1, 12, 12, .u32, .ro, .none, (.num 0), .any⟩,
  ⟨0x3200, 1, 13, 13, .u32, .ro, .none, (.num 0), .any⟩,
  ⟨0x3200, 1, 14, 14, .u32, .ro, .none, (.num 0), .any⟩,
  ⟨0x3200, 1, 15, 15, .u32, .ro, .none, (.num 0), .any⟩,
  ⟨0x3200, 1, 16, 16, .u32, .ro, .none, (.num 0), .any⟩,
  ⟨0x3201, 1, 0, 0, .u8, .const, .none, (.num 48), .any⟩,
  ⟨0x3201, 1, 1, 48, .u8, .rw, .t, (.num 0), .btw 0 32⟩,
  ⟨0x3202, 1, 0, 0, .u8, .const, .none, (.num 48), .any⟩,
  ⟨0x3202, 1, 1, 48, .i16, .ro, .none, (.num 0), .any⟩]

/-- Object rows of the indices 0x3300–0x33FF. -/
def rows33 : List ObjRow := [
  ⟨0x3300, 16, 0, 0, .u8, .const, .none, (.num 24), .any⟩,
  ⟨0x3300, 16, 1, 1, .bool, .rw, .t, (.num 0), .any⟩,
  ⟨0x3300, 16, 2, 2, .u16, .rw, .t, (.num 0), .btw 6250 25000⟩,
  ⟨0x3300, 16, 3, 3, .u16, .rw, .t, (.num 0), .btw 1500 2000⟩,
  ⟨0x3300, 16, 4, 4, .u16, .rw, .t, (.num 500), .btw 265 525⟩,
  ⟨0x3300, 16, 5, 5, .u32, .rw, .t, (.num 0), .btw 40000 640000⟩,
  ⟨0x3300, 16, 6, 6, .u8, .rw, .t, (.num 1), .among [0, 1]⟩,
  ⟨0x3300, 16, 7, 7, .u8, .rw, .t, (.num 0), .among [1, 2, 4, 8]⟩,
  ⟨0x3300, 16, 8, 8, .bool, .rw, .t, (.num 0), .any⟩,
  ⟨0x3300, 16, 9, 9, .u8, .rw, .t, (.num 0), .btw 0 2⟩,
  ⟨0x3300, 16, 10, 10, .u8, .rw, .t, (.num 90), .btw 80 100⟩,
  ⟨0x3300, 16, 11, 11, .u16, .rw, .t, (.num 100), .btw 50 330⟩,
  ⟨0x3300, 16, 12, 12, .u8, .rw, .t, (.num 16), .btw 12 76⟩,
  ⟨0x3300, 16, 13, 13, .u16, .rw, .t, (.num 220), .btw 50 250⟩,
  ⟨0x3300, 16, 14, 14, .u8, .rw, .t, (.num 5), .btw 1 20⟩,
  ⟨0x3300, 16, 15, 15, .u8, .rw, .t, (.num 5), .btw 1 20⟩,
  ⟨0x3300, 16, 16, 16, .u8, .rw, .t, (.num 2), .btw 0 7⟩,
  ⟨0x3300, 16, 17, 17, .u8, .rw, .t, (.num 4), .btw 0 15⟩,
  ⟨0x3300, 16, 18, 18, .u8, .rw, .t, (.num 0), .btw 0 15⟩,
  ⟨0x3300, 16, 19, 19, .u8, .rw, .t, (.num 15), .btw 0 15⟩,
  ⟨0x3300, 16, 20, 20, .u8, .rw, .t, (.num 30), .btw 10 50⟩,
  ⟨0x3300, 16, 21, 21, .u32, .ro, .none, (.num 0), .any⟩,
  ⟨0x3300, 16, 22, 22, .u16, .ro, .none, (.num 0), .any⟩,
  ⟨0x3300, 16, 23, 23, .u16, .ro, .none, (.num 0), .any⟩,
  ⟨0x3300, 16, 24, 24, .u16, .ro, .none, (.num 0), .any⟩,
  ⟨0x3310, 1, 0, 0, .u8, .const, .none, (.num 10), .any⟩,
  ⟨0x3310, 1, 1, 1, .u8, .rw, .t, (.num 255), .any⟩,
  ⟨0x3310, 1, 2, 2, .u8, .rw, .t, (.num 255), .any⟩,
  ⟨0x3310, 1, 3, 3, .u8, .rw, .t, (.num 1), .among [0, 1, 2, 4, 8, 16, 32, 64, 128]⟩,
  ⟨0x3310, 1, 4, 4, .u8, .rw, .t, (.num 1), .among [0, 1, 2, 4, 8, 16, 32, 64, 128]⟩,
  ⟨0x3310, 1, 5, 5, .u32, .ro, .none, (.num 0), .any⟩,
  ⟨0x3310, 1, 6, 6, .u32, .ro, .none, (.num 0), .any⟩,
  ⟨0x3310, 1, 7, 7, .u32, .ro, .none, (.num 0), .any⟩,
  ⟨0x3310, 1, 8, 8, .u32, .ro, .none, (.num 0), .any⟩,
  ⟨0x3310, 1, 9, 9, .u32, .ro, .none, (.num 0), .any⟩,
  ⟨0x3310, 1, 10, 10, .u32, .ro, .none, (.num 0), .any⟩]

/-- Object rows of the indices 0x3400–0x34FF. -/
def rows34 : List ObjRow := [
  ⟨0x3400, 32, 0, 0, .u8, .const, .none, (.num 32), .any⟩,
  ⟨0x3400, 32, 1, 1, .u8, .rw, .t, (.num 255), .among [0, 1, 2, 3, 4, 5, 6, 7, 255]⟩,
  ⟨0x3400, 32, 2, 2, .bool, .rw, .t, (.num 0), .any⟩,
  ⟨0x3400, 32, 3, 3, .u8, .rw, .t, (.num 4), .btw 0 7⟩,
  ⟨0x3400, 32, 4, 4, .u8, .rw, .t, (.num 0), .any⟩,
  ⟨0x3400, 32, 5, 5, .u8, .rw, .t, (.num 1), .btw 1 3⟩,
  ⟨0x3400, 32, 6, 6, .u8, .rw, .t, (.num 0), .btw 0 3⟩,
  ⟨0x3400, 32, 7, 7, (.oct 8), .rw, .t, (.oct []), .any⟩,
  ⟨0x3400, 32, 8, 8, .u8, .rw, .t, (.num 3), .mask 0x3⟩,
  ⟨0x3400, 32, 9, 9, .bool, .rw, .t, (.num 1), .any⟩,
  ⟨0x3400, 32, 10, 10, .bool, .rw, .t, (.num 1), .any⟩,
  ⟨0x3400, 32, 11, 11, .u16, .rw, .t, (.num 500), .btw 20 5000⟩,
  ⟨0x3400, 32, 12, 12, .u32, .rw, .t, (.num 0), .among [0]⟩,
  ⟨0x3400, 32, 13, 28, (.oct 64), .rw, .t, (.oct []), .any⟩,
  ⟨0x3400, 32, 29, 29, .u8, .ro, .none, (.num 0), .any⟩,
  ⟨0x3400, 32, 30, 30, .u32, .ro, .none, (.num 0), .any⟩,
  ⟨0x3400, 32, 31, 31, .u32, .ro, .none, (.num 0), .any⟩,
  ⟨0x3400, 32, 32, 32, .u32, .ro, .none, (.num 0), .any⟩]

/-- Object rows of the indices 0x4000–0x40FF. -/
def rows40 : List ObjRow := [
  ⟨0x4000, 1, 0, 0, .u8, .const, .none, (.num 16), .any⟩,
  ⟨0x4000, 1, 1, 1, .u16, .ro, .none, (.num 0), .any⟩,
  ⟨0x4000, 1, 2, 2, .u32, .ro, .none, (.num 0), .any⟩,
  ⟨0x4000, 1, 3, 3, .u8, .rw, .t, (.num 0), .among [0]⟩,
  ⟨0x4000, 1, 4, 11, .u32, .rw, .t, (.num 0), .any⟩,
  ⟨0x4000, 1, 12, 12, .u32, .ro, .none, (.num 0), .any⟩,
  ⟨0x4000, 1, 13, 13, .u32, .ro, .none, (.num 0), .any⟩,
  ⟨0x4000, 1, 14, 14, .u32, .ro, .none, (.num 0), .any⟩,
  ⟨0x4000, 1, 15, 15, .u32, .ro, .none, (.num 0), .any⟩,
  ⟨0x4000, 1, 16, 16, .u32, .ro, .none, (.num 0), .any⟩,
  ⟨0x4010, 32, 0, 0, .u8, .const, .none, (.num 15), .any⟩,
  ⟨0x4010, 32, 1, 1, .u8, .rw, .t, (.num 255), .among [0, 1, 2, 3, 4, 5, 6, 7, 255]⟩,
  ⟨0x4010, 32, 2, 2, .u8, .rw, .t, (.num 0), .any⟩,
  ⟨0x4010, 32, 3, 3, .u16, .rw, .t, (.num 0), .btw 0 959⟩,
  ⟨0x4010, 32, 4, 4, .u8, .rw, .t, (.num 32), .btw 8 48⟩,
  ⟨0x4010, 32, 5, 5, .u8, .rw, .t, (.num 0), .among [0, 1]⟩,
  ⟨0x4010, 32, 6, 6, .u8, .rw, .t, (.num 8), .btw 1 14⟩,
  ⟨0x4010, 32, 7, 7, .i8, .rw, .t, (.num 0), .btw (-6) (6)⟩,
  ⟨0x4010, 32, 8, 8, .u8, .rw, .t, (.num 1), .btw 0 5⟩,
  ⟨0x4010, 32, 9, 9, .u32, .rw, .t, (.num 100000), .btw 1 4294967295⟩,
  ⟨0x4010, 32, 10, 10, .u32, .rw, .t, (.num 0), .btw 0 2147483648⟩,
  ⟨0x4010, 32, 11, 11, .u16, .rw, .t, (.num 15), .among [1, 2, 3, 4, 5, 6, 8, 9, 10, 12, 15, 16, 18, 20, 24, 30, 32, 36, 40, 45, 48, 60, 72, 80, 90, 96, 120, 144, 160, 180, 240, 288, 360, 480, 720, 1440]⟩,
  ⟨0x4010, 32, 12, 12, .u16, .rw, .t, (.num 60), .btw 10 43200⟩,
  ⟨0x4010, 32, 13, 13, .u8, .rw, .t, (.num 255), .among ((List.range 64).map Int.ofNat ++ [255])⟩,
  ⟨0x4010, 32, 14, 14, .u8, .rw, .t, (.num 8), .btw 2 64⟩,
  ⟨0x4010, 32, 15, 15, .u16, .ro, .none, (.num 0), .any⟩,
  ⟨0x4030, 1, 0, 0, .u8, .const, .none, (.num 3), .any⟩,
  ⟨0x4030, 1, 1, 1, .u16, .ro, .none, (.num 0), .any⟩,
  ⟨0x4030, 1, 2, 2, .u16, .rw, .i, (.num 0), .any⟩,
  ⟨0x4030, 1, 3, 3, (.oct 1024), .ro, .none, (.oct []), .any⟩,
  ⟨0x4031, 1, 0, 0, .u8, .const, .none, (.num 3), .any⟩,
  ⟨0x4031, 1, 1, 1, (.oct 40), .wo, .t, (.oct []), .any⟩,
  ⟨0x4031, 1, 2, 2, .u16, .wo, .t, (.num 0), .any⟩,
  ⟨0x4031, 1, 3, 3, .u16, .wo, .i, (.num 0), .any⟩]

/-- Object rows of the indices 0x4100–0x41FF. -/
def rows41 : List ObjRow := [
  ⟨0x4100, 1, 0, 0, .u8, .const, .none, (.num 8), .any⟩,
  ⟨0x4100, 1, 1, 1, .u32, .const, .none, (.num 467840), .any⟩,
  ⟨0x4100, 1, 2, 2, .u32, .ro, .none, (.num 0), .any⟩,
  ⟨0x4100, 1, 3, 3, .u8, .rw, .t, (.num 90), .btw 50 99⟩,
  ⟨0x4100, 1, 4, 4, .u32, .rw, .t, (.num 604800), .btw 0 31536000⟩,
  ⟨0x4100, 1, 5, 5, .u16, .rw, .t, (.num 60), .btw 10 3600⟩,
  ⟨0x4100, 1, 6, 6, .u32, .ro, .none, (.num 0), .any⟩,
  ⟨0x4100, 1, 7, 7, .u32, .ro, .none, (.num 0), .any⟩,
  ⟨0x4100, 1, 8, 8, .u32, .ro, .none, (.num 0), .any⟩,
  ⟨0x4110, 8, 0, 0, .u8, .const, .none, (.num 11), .any⟩,
  ⟨0x4110, 8, 1, 1, .u32, .ro, .none, (.num 0), .any⟩,
  ⟨0x4110, 8, 2, 2, .u32, .ro, .none, (.num 0), .any⟩,
  ⟨0x4110, 8, 3, 3, .u32, .ro, .none, (.num 4294967295), .any⟩,
  ⟨0x4110, 8, 4, 4, .u32, .wo, .i, (.num 0), .any⟩,
  ⟨0x4110, 8, 5, 5, .u32, .wo, .i, (.num 0), .any⟩,
  ⟨0x4110, 8, 6, 6, .u32, .ro, .none, (.num 0), .any⟩,
  ⟨0x4110, 8, 7, 7, .u32, .ro, .none, (.num 0), .any⟩,
  ⟨0x4110, 8, 8, 8, (.oct 32), .ro, .none, (.oct []), .any⟩,
  ⟨0x4110, 8, 9, 9, .u32, .rw, .i, (.num 0), .any⟩,
  ⟨0x4110, 8, 10, 10, (.oct 1024), .ro, .none, (.oct []), .any⟩,
  ⟨0x4110, 8, 11, 11, .u32, .ro, .none, (.num 0), .any⟩]

/-- Object rows of the indices 0x5000–0x50FF. -/
def rows50 : List ObjRow := [
  ⟨0x5000, 1, 0, 0, .u8, .const, .none, (.num 8), .any⟩,
  ⟨0x5000, 1, 1, 1, .u16, .ro, .none, (.num 0), .any⟩,
  ⟨0x5000, 1, 2, 2, .u16, .ro, .none, (.num 0), .any⟩,
  ⟨0x5000, 1, 3, 3, .u16, .ro, .none, (.num 0), .any⟩,
  ⟨0x5000, 1, 4, 4, .u16, .ro, .none, (.num 0), .any⟩,
  ⟨0x5000, 1, 5, 5, .u32, .ro, .none, (.num 0), .any⟩,
  ⟨0x5000, 1, 6, 6, .u32, .ro, .none, (.num 0), .any⟩,
  ⟨0x5000, 1, 7, 7, .u32, .ro, .none, (.num 0), .any⟩,
  ⟨0x5000, 1, 8, 8, .u32, .ro, .none, (.num 0), .any⟩,
  ⟨0x5010, 8, 0, 0, .u8, .const, .none, (.num 12), .any⟩,
  ⟨0x5010, 8, 1, 1, .u16, .ro, .none, (.num 0), .any⟩,
  ⟨0x5010, 8, 2, 2, .u16, .ro, .none, (.num 0), .any⟩,
  ⟨0x5010, 8, 3, 3, .u16, .ro, .none, (.num 0), .any⟩,
  ⟨0x5010, 8, 4, 4, .bool, .ro, .none, (.num 0), .any⟩,
  ⟨0x5010, 8, 5, 5, .bool, .ro, .none, (.num 0), .any⟩,
  ⟨0x5010, 8, 6, 6, .u32, .ro, .none, (.num 0), .any⟩,
  ⟨0x5010, 8, 7, 7, .u16, .ro, .none, (.num 0), .any⟩,
  ⟨0x5010, 8, 8, 8, .u16, .ro, .none, (.num 0), .any⟩,
  ⟨0x5010, 8, 9, 9, .u16, .ro, .none, (.num 0), .any⟩,
  ⟨0x5010, 8, 10, 10, .u32, .ro, .none, (.num 0), .any⟩,
  ⟨0x5010, 8, 11, 11, .u32, .ro, .none, (.num 0), .any⟩,
  ⟨0x5010, 8, 12, 12, .u32, .ro, .none, (.num 0), .any⟩,
  ⟨0x5020, 12, 0, 0, .u8, .const, .none, (.num 9), .any⟩,
  ⟨0x5020, 12, 1, 1, .u16, .ro, .none, (.num 0), .any⟩,
  ⟨0x5020, 12, 2, 2, .u16, .ro, .none, (.num 0), .any⟩,
  ⟨0x5020, 12, 3, 6, .u8, .ro, .none, (.num 0), .any⟩,
  ⟨0x5020, 12, 7, 7, .u8, .ro, .none, (.num 0), .any⟩,
  ⟨0x5020, 12, 8, 8, .u32, .ro, .none, (.num 0), .any⟩,
  ⟨0x5020, 12, 9, 9, .u32, .ro, .none, (.num 0), .any⟩]

/-- The rows of the object tables whose indices share the high byte `p`. -/
def rowsOfPage (p : Nat) : List ObjRow :=
  if p = 0x10 then rows10 else
  if p = 0x11 then rows11a ++ rows11b else
  if p = 0x12 then rows12a ++ rows12b else
  if p = 0x13 then rows13 else
  if p = 0x14 then rows14 else
  if p = 0x15 then rows15 else
  if p = 0x16 then rows16 else
  if p = 0x17 then rows17a ++ rows17b else
  if p = 0x18 then rows18 else
  if p = 0x19 then rows19 else
  if p = 0x1a then rows1Aa ++ rows1Ab else
  if p = 0x1b then rows1B else
  if p = 0x20 then rows20a ++ rows20b else
  if p = 0x21 then rows21 else
  if p = 0x22 then rows22a ++ rows22b else
  if p = 0x23 then rows23 else
  if p = 0x24 then rows24 else
  if p = 0x25 then rows25 else
  if p = 0x30 then rows30 else
  if p = 0x31 then rows31 else
  if p = 0x32 then rows32 else
  if p = 0x33 then rows33 else
  if p = 0x34 then rows34 else
  if p = 0x40 then rows40 else
  if p = 0x41 then rows41 else
  if p = 0x50 then rows50 else
  []

/-- The key of an object in the dictionary. -/
def key (index sub : Nat) : Nat := 256 * index + sub

/-- The subindex in the object table. Each shade has its own instance of `0x1500` (R438): that of shade s stands in
the dictionary under the subindices 16 × s + subindex. -/
def tableSub (k : Nat) : Nat := if k / 256 = 0x1500 then k % 16 else k % 256

/-- The row of an object's table, if the object exists. -/
def rowOf? (k : Nat) : Option ObjRow :=
  (rowsOfPage (k / 65536)).find? (fun r =>
    decide (r.base ≤ k / 256) && decide (k / 256 < r.base + r.count) &&
    decide (r.lo ≤ tableSub k) && decide (tableSub k ≤ r.hi))

/-- Whether any object stands at an index (R406). -/
def indexExists (index : Nat) : Bool :=
  (rowsOfPage (index / 256)).any (fun r => decide (r.base ≤ index) && decide (index < r.base + r.count))

/-- The highest subindex of an index's objects; 0 for a single value. -/
def highestSub (index : Nat) : Nat :=
  ((rowsOfPage (index / 256)).filter (fun r => decide (r.base ≤ index) && decide (index < r.base + r.count))).foldl
    (fun m r => peak m r.hi) 0

/-- The delivered link profiles (Table 3 of chapter 6): Valid, Tari, Data-1, BLF, encoding, modulation by
profile; profiles 4–15 are as profile 0 and not valid. -/
def profileDefault (p sub : Nat) : Option Int :=
  let row : Int × Int × Int × Int × Int × Int :=
    if p = 1 then (1, 25000, 2000, 160000, 8, 0)
    else if p = 2 then (1, 6250, 2000, 640000, 1, 2)
    else if p = 3 then (1, 12500, 2000, 320000, 2, 0)
    else (if p = 0 then 1 else 0, 12500, 1500, 256000, 4, 0)
  if sub = 1 then some row.1
  else if sub = 2 then some row.2.1
  else if sub = 3 then some row.2.2.1
  else if sub = 5 then some row.2.2.2.1
  else if sub = 7 then some row.2.2.2.2.1
  else if sub = 9 then some row.2.2.2.2.2
  else none

/-- The default display names of the shades (Table 2 of chapter 11). -/
def shadeNames : List String := ["Slate", "Ochre", "Teal", "Umber", "Indigo", "Sienna", "Jade", "Ivory"]

/-- The value of an object that nothing has written: its default (R404). -/
def objDefault (k : Nat) : Val :=
  let index := k / 256
  let sub := k % 256
  let table : Val := match rowOf? k with
    | some r => r.dflt
    | none => .num 0
  if 0x3300 ≤ index ∧ index < 0x3310 then
    match profileDefault (index - 0x3300) sub with
    | some v => .num v
    | none => table
  else if 0x1310 ≤ index ∧ index < 0x1318 ∧ sub = 2 then .oct (ascii (tget shadeNames (index - 0x1310) ""))
  else table

/-- Bytes of a type's value on the wire; `none` for a string, whose length varies. -/
def OType.size : OType → Option Nat
  | .bool | .u8 | .i8 | .bcd8 => some 1
  | .u16 | .i16 => some 2
  | .u32 | .i32 | .f32 => some 4
  | .u64 | .i64 => some 8
  | .oct n => some n
  | .str _ => none

/-- The type code of Table 1 of chapter 12. -/
def OType.code : OType → Nat
  | .bool => 1 | .u8 => 2 | .u16 => 3 | .u32 => 4 | .u64 => 5
  | .i8 => 6 | .i16 => 7 | .i32 => 8 | .i64 => 9 | .f32 => 10 | .bcd8 => 11
  | .oct _ => 12 | .str _ => 13

/-- The length a description reports (R410): the bytes of the value. -/
def OType.width : OType → Nat
  | .oct n => n
  | .str n => n
  | t => t.size.getD 0

/-- The access code of Table 2 of chapter 12. -/
def Acc.code : Acc → Nat
  | .const => 0 | .ro => 1 | .wo => 2 | .rw => 3 | .rwt => 4

/-- The commit class code of Table 3 of chapter 12; 0 for none. -/
def Cls.code : Cls → Nat
  | .none => 0 | .i => 1 | .t => 2 | .c => 3 | .b => 4

/-- Whether a type is signed. -/
def OType.isSigned : OType → Bool
  | .i8 | .i16 | .i32 | .i64 => true
  | _ => false

/-- The value that bytes of a WRITE spell, for a type; `none` where the length is wrong (check 7). -/
def OType.parse (t : OType) (b : List Byte) : Option Val :=
  match t with
  | .oct n => if b.length = n then some (.oct b) else none
  | .str n => if b.length ≤ n then some (.oct b) else none
  | t => if some b.length = t.size then some (.num (if t.isSigned then ofLeInt b else (ofLe b : Int))) else none

/-- The bytes of a value on the wire; strings lose their padding. -/
def OType.bytes (t : OType) (v : Val) : List Byte :=
  match t, v with
  | .oct n, .oct b => fit n b
  | .oct n, .num i => leInt n i
  | .str n, .oct b => (b.take n).takeWhile (fun x => decide (x ≠ 0#8))
  | .str _, .num _ => []
  | t, .num i => leInt (t.size.getD 0) i
  | t, .oct b => fit (t.size.getD 0) b

/-- Whether both nibbles of a byte are decimal digits (BCD8). -/
def isBcd (v : Int) : Bool :=
  decide (0 ≤ v) && decide (v.toNat % 16 ≤ 9) && decide (v.toNat / 16 ≤ 9)

/-- The range that a type itself imposes (Table 1 of chapter 12). -/
def OType.admits (t : OType) (v : Val) : Bool :=
  match t, v with
  | .bool, .num i => decide (i = 0) || decide (i = 1)
  | .bcd8, .num i => isBcd i
  | .f32, .num i => decide ((i.toNat / 2 ^ 23) % 256 ≠ 255)
  | .str _, .oct b => b.all (fun x => decide (0x20 ≤ x.toNat) && decide (x.toNat ≤ 0x7E))
  | _, _ => true

/-- Whether a value lies in a range. -/
def Rng.admits (r : Rng) (v : Val) : Bool :=
  match r, v with
  | .any, _ => true
  | .btw lo hi, .num i => decide (lo ≤ i) && decide (i ≤ hi)
  | .among l, .num i => l.contains i
  | .mask m, .num i => decide (0 ≤ i) && decide (i.toNat &&& m = i.toNat)
  | .step k lo hi, .num i => decide (lo ≤ i) && decide (i ≤ hi) && decide (i.emod k = 0)
  | _, .oct _ => true

end Sys2Proof.Machine
end

