-- ==== Sys2Proof/Machine/Ops.lean ====
section
/-! DEFINITION. The named operations that every command is built from: time, the dictionary's values,
who an event reaches, the black box, the counters, Lantern, admission to a shade queue and raising an
event. -/

namespace Sys2Proof.Machine

/-- What a command answers. -/
abbrev Out := Host.Outcome State Fault Refusal

/-! ### Time -/

/-- `n` µs in bus ticks: 122.88 ticks each, rounded down (R9). -/
def us (n : Nat) : Nat := n * 3072 / 25

/-- `n` ms in bus ticks. -/
def ms (n : Nat) : Nat := n * 122880

/-- `n` s in bus ticks. -/
def sec (n : Nat) : Nat := n * 122880000

/-- `n` ns in bus ticks, rounded down. -/
def ns (n : Nat) : Nat := n * 3072 / 25000

/-- The rate at which the accumulator advances, × 1000: INC_f + INC_c, never above the ceiling published at
the last slot boundary (R56, R58). -/
def Belfry.rateK (b : Belfry) : Nat :=
  let wanted := 1000 * ((b.incF : Int) + b.incC).toNat
  if wanted ≤ b.ceilK then wanted else b.ceilK

/-- The accumulator advanced to a tick. -/
def Belfry.advance (b : Belfry) (t : Nat) : Belfry :=
  { b with phase := b.phase + (t - b.tick) * b.rateK / 1000, tick := peak b.tick t }

/-- Lantern sends one byte each 61.44 MHz clock, so a 16-byte record takes 32 bus ticks (R591). -/
def Lantern.drain (l : Lantern) (t : Nat) : Nat × Lantern :=
  let n := (t - l.sentTick) / 32
  if n < l.fifo.length then (n, { l with fifo := l.fifo.drop n, sentTick := l.sentTick + 32 * n })
  else (l.fifo.length, { l with fifo := [], sentTick := peak l.sentTick t })

/-! ### Dictionary values -/

/-- The value of an object held in the dictionary, its default where nothing has written it (R404). -/
def State.val (s : State) (k : Nat) : Val := (NMap.get? s.dict k).getD (objDefault k)

/-- A value as a number. -/
def Val.toInt : Val → Int
  | .num n => n
  | .oct b => ofLe b

/-- A value as bytes; a number has none. -/
def Val.toBytes : Val → List Byte
  | .num _ => []
  | .oct b => b

/-- A numeric object. -/
def State.int (s : State) (index sub : Nat) : Int := (s.val (key index sub)).toInt

/-- A numeric object that is not negative. -/
def State.nat (s : State) (index sub : Nat) : Nat := (s.int index sub).toNat

/-- A BOOL object. -/
def State.flag (s : State) (index sub : Nat) : Bool := decide (s.int index sub ≠ 0)

/-- An OCT or STR object, padded to `n` bytes. -/
def State.bytes (s : State) (index sub n : Nat) : List Byte := fit n (s.val (key index sub)).toBytes

/-- Set a status or counter object. -/
def State.set (s : State) (index sub : Nat) (v : Int) : State :=
  { s with dict := NMap.put s.dict (key index sub) (.num v) }

/-- Set a status object of bytes. -/
def State.setBytes (s : State) (index sub : Nat) (b : List Byte) : State :=
  { s with dict := NMap.put s.dict (key index sub) (.oct b) }

/-- Set a status flag. -/
def State.setFlag (s : State) (index sub : Nat) (b : Bool) : State := s.set index sub (b01 b)

/-- Add to a 32-bit counter object, which wraps. -/
def State.addTo (s : State) (index sub n : Nat) : State := s.set index sub ((s.nat index sub + n) % 2 ^ 32 : Nat)

/-- Count one at a counter object. -/
def State.count (s : State) (index sub : Nat) : State := s.addTo index sub 1

/-- Keep the larger of an object and a value. -/
def State.setPeak (s : State) (index sub n : Nat) : State := s.set index sub (peak (s.nat index sub) n : Nat)

/-- Raise an object's change count (R423). -/
def State.touch (s : State) (k : Nat) : State :=
  { s with changes := NMap.put s.changes k (NMap.getD s.changes k 0 + 1) }

/-- A change that the module itself makes to a kept object: its change count rises only when the value
changes (R423). -/
def State.selfSet (s : State) (k : Nat) (v : Val) : State :=
  if s.val k = v then s else ({ s with dict := NMap.put s.dict k v } : State).touch k

/-- An object back at its default, as an owner reset or an erase leaves it (R404). -/
def State.toDefault (s : State) (k : Nat) : State := s.selfSet k (objDefault k)

/-- Values of the dictionary put back for a while: those of a list, where it has any, stand in place of the ones in effect. -/
def State.overlay (s : State) (old : List (Nat × Val)) : State :=
  { s with dict := old.foldl (fun m e => NMap.put m e.1 e.2) s.dict }

/-- The values that emission follows up to the next slot boundary (R109). -/
def State.inForce (s : State) : State := s.overlay s.heldBack

/-- The entries of the dictionary that a list names are as they are in another state. -/
def State.dictAs (s o : State) (old : List (Nat × Val)) : State :=
  { s with dict := old.foldl (fun m e => match NMap.get? o.dict e.1 with
      | some v => NMap.put m e.1 v
      | none => NMap.erase m e.1) s.dict }

/-- The instant moved on to `t`, the accumulator and Lantern with it. Time never runs back. -/
def State.at (s : State) (t : Nat) : State :=
  let d := s.lantern.drain t
  let s1 : State := { s with now := peak s.now t, belfry := s.belfry.advance t, lantern := d.2 }
  if d.1 = 0 then s1 else s1.addTo 0x1730 4 d.1

/-- In deep standby the control die is in retention: what falls due for it is done after the wake (R615). -/
def State.awake (s : State) (f : State → State) : State := if s.power.mode = 2 then s else f s

/-- The next open value (log entry 3). -/
def State.free (s : State) : Nat := Config.freeValue s.freeCount

/-- One open value has been used. -/
def State.drawn (s : State) : State := { s with freeCount := s.freeCount + 1 }

/-- The open values that one READ can show have been used: the die temperature, the input power, 16 input
levels and the EIRP figure of 48 ports without a channel. -/
def State.drawnByRead (s : State) : State := { s with freeCount := s.freeCount + 66 }

/-! ### Clock, shades and reach -/

/-- RTC seconds since 2000 (R518). -/
def State.rtcSec (s : State) : Nat := s.rtc.total % 2 ^ 32

/-- Whether the Dome's random source gives no output (R395). -/
def State.domeFailed (s : State) : Bool := decide (s.nat 0x1300 1 = 1)

/-- The cycle count of `0x1B00:04` (R63). -/
def State.cycle (s : State) : Nat := (s.belfry.slots / 16) % 2 ^ 32

/-- The state of a shade (Table 1 of chapter 11). -/
def State.shadeState (s : State) (i : Nat) : Nat := s.nat (0x1310 + i) 1

/-- A shade's typed part. -/
def State.shade (s : State) (i : Nat) : Shade := tget s.shades i shadeAtReset

/-- Change a shade's typed part. -/
def State.modShade (s : State) (i : Nat) (f : Shade → Shade) : State := { s with shades := tmod s.shades i f }

/-- Whether a shade is joined; Slate is while it is claimed, and a closing shade stays so (R364). -/
def State.joined (s : State) (i : Nat) : Bool :=
  decide (s.shadeState i = 2) || decide (s.shadeState i = 3)

/-- Every joined shade, and Slate, whose black box records the event even while it is unclaimed (R433, R586);
no queue takes it then (`State.deliverEvent`). -/
def State.allJoined (s : State) : List Nat := 0 :: ((List.range 8).drop 1).filter (fun i => s.joined i)

/-- Whether a shade has permission on a UHF port. -/
def State.permits (s : State) (sh port : Nat) : Bool := bitOf (s.nat (0x1310 + sh) 6) port

/-- Whether a shade has permission on an HF port. -/
def State.permitsHf (s : State) (sh port : Nat) : Bool := bitOf (s.nat (0x1310 + sh) 7) port

/-- Slate and every shade with permission on a UHF port (R433). -/
def State.reachPort (s : State) (port : Nat) : List Nat :=
  0 :: ((List.range 8).drop 1).filter (fun i => s.permits i port)

/-- Slate and every shade with permission on an HF port (R433). -/
def State.reachHf (s : State) (port : Nat) : List Nat :=
  0 :: ((List.range 8).drop 1).filter (fun i => s.permitsHf i port)

/-- A shade and Slate, each named once. -/
def withSlate (sh : Nat) : List Nat := if sh = 0 then [0] else [sh, 0]

/-- Slate and every shade with permission on any port of a list (a quad's ports, a bank's ports). -/
def State.reachPorts (s : State) (ports : List Nat) : List Nat :=
  0 :: ((List.range 8).drop 1).filter (fun i => ports.any (fun p => s.permits i p))

/-! ### Lantern -/

/-- A Lantern record (Table 12 of chapter 19). -/
def State.lanternRecord (s : State) (ty : Nat) (content : List Nat) : List Byte :=
  let body := [0xA5#8, byte ty] ++ le 4 (s.now - s.power.releaseTick) ++ fit 8 (content.map byte)
  body ++ le 2 (crcBytes 1 body)

/-- A record enters the FIFO of 256, or is dropped and counted; the overflow record goes first once there
is room (R592). -/
def State.lanternPush (s : State) (ty : Nat) (content : List Nat) : State :=
  if !s.flag 0x1730 1 || decide (s.power.mode = 2) then s
  else if !(decide (ty = 1) || decide (ty = 15) || bitOf (s.nat 0x1730 2) ty) then s
  else
    let l := s.lantern
    let overflow := if 0 < l.dropped ∧ l.fifo.length < 256 then [s.lanternRecord 15 ((le 4 l.dropped).map (·.toNat))] else []
    if l.fifo.length + overflow.length < 256 then
      { s with lantern := { l with
          fifo := l.fifo ++ overflow ++ [s.lanternRecord ty content]
          dropped := if overflow.isEmpty then l.dropped else 0
          sentTick := if l.fifo.isEmpty then s.now else l.sentTick } }
    else ({ s with lantern := { l with fifo := l.fifo ++ overflow, dropped := (if overflow.isEmpty then l.dropped else 0) + 1 } } : State).count 0x1730 5

/-- A record that names a quad is also under the quad mask (R592). -/
def State.lanternQuad (s : State) (q ty : Nat) (content : List Nat) : State :=
  if bitOf (s.nat 0x1730 3) q then s.lanternPush ty content else s

/-- The quad whose mask bit governs a loop record: loops 1 and 5 name a quad, loops 2–4 a port. -/
def loopQuad (loop unit : Nat) : Option Nat :=
  if loop = 1 ∨ loop = 5 then some unit else if 2 ≤ loop ∧ loop ≤ 4 then some (unit / 4) else none

/-- A loop state record (Table 13 of chapter 19). -/
def State.lanternLoop (s : State) (loop unit : Nat) (value bound : Int) (pinned : Nat) : State :=
  let c := [loop, unit] ++ (leInt 2 value ++ leInt 2 bound).map (·.toNat) ++ [satTo 255 pinned]
  match loopQuad loop unit with
  | some q => s.lanternQuad q 6 c
  | none => s.lanternPush 6 c

/-! ### The black box and the counters -/

/-- A record appended to the black box: in slot order, or, while frozen, only classes 0x01 and 0x11 into
the 8 slots after the freeze record (R586, R587). -/
def BlackBox.append (b : BlackBox) (code : Nat) (record : List Byte) : BlackBox :=
  if b.frozen = 0 then
    { b with
             slots := tmod b.slots b.next (fun _ => record)
             records := satTo 256 (b.records + 1)
             next := (b.next + 1) % 256
             last := b.next }
  else if code / 256 = 0x01 ∨ code / 256 = 0x11 then
    let slot := (b.freezeSlot + 1 + b.holdNext) % 256
    { b with
             slots := tmod b.slots slot (fun _ => record)
             records := if (tget b.slots slot []).isEmpty then satTo 256 (b.records + 1) else b.records
             holdNext := (b.holdNext + 1) % 8
             last := slot }
  else { b with notKept := (b.notKept + 1) % 2 ^ 32 }

/-- Whether a counter's selection counts an event (R589). -/
def selects (sel code : Nat) : Bool :=
  decide (sel ≠ 0) && (decide (sel = code) || (decide (sel % 256 = 255) && decide (sel / 256 = code / 256)))

/-- Every counter whose selection names the event counts one (R589). -/
def State.countEvent (s : State) (code : Nat) : State :=
  { s with counters := s.counters.mapIdx (fun i v => if selects (s.nat 0x1751 (i + 1)) code then (v + 1) % 2 ^ 32 else v) }

/-! ### Lines of shared SRAM -/

/-- Lines that an item of a length takes (R473). -/
def linesFor (len : Nat) : Nat := (len + 4 + 63) / 64

/-- Allocate `n` lines under a tag: each generation rises, the written bit clears (R389, R390); freed lines
are used first, then the lines never used (log entry 12). -/
def State.allocLines (s : State) (n tag : Nat) : State × List Nat :=
  match n with
  | 0 => (s, [])
  | n + 1 =>
    let pick : Nat × List Nat × Nat := match s.freeLines with
      | l :: r => (l, r, s.nextLine)
      | [] => (s.nextLine, [], s.nextLine + 1)
    let old := NMap.getD s.lines pick.1 { tag := 15, gen := 0, written := false }
    let s1 : State := { s with
      freeLines := pick.2.1, nextLine := pick.2.2,
      lines := NMap.put s.lines pick.1 { tag := tag, gen := old.gen + 1, written := true } }
    let rest := s1.allocLines n tag
    (rest.1, pick.1 :: rest.2)

/-- Free lines: each generation rises and the written bit clears; a line whose generation reaches 2^28 − 1
is withdrawn until the next cold start (R390). Answers the lines withdrawn. -/
def State.freeLinesOf (s : State) (ls : List Nat) : State × List Nat :=
  match ls with
  | [] => (s, [])
  | l :: r =>
    let old := NMap.getD s.lines l { tag := 15, gen := 0, written := false }
    let gone := decide (2 ^ 28 - 1 ≤ old.gen + 1)
    let s1 : State := { s with
      lines := NMap.put s.lines l { tag := 15, gen := old.gen + 1, written := false }
      freeLines := if gone then s.freeLines else s.freeLines ++ [l] }
    let rest := State.freeLinesOf (if gone then s1.count 0x1300 11 else s1) r
    (rest.1, if gone then l :: rest.2 else rest.2)

/-! ### Admission to a shade queue -/

/-- A shade's quota. -/
def State.quota (s : State) (sh : Nat) : Nat := s.nat (0x1310 + sh) 9

/-- Items queued, delivered and unacknowledged included (R476). -/
def State.fill (s : State) (sh : Nat) : Nat := (s.shade sh).items.length

/-- Fill plus credits. -/
def State.load (s : State) (sh : Nat) : Nat := s.fill sh + (s.shade sh).credits

/-- Append an item to a shade's queue under lines of its tag; the fill's peak follows. -/
def State.appendItem (s : State) (sh : Nat) (isEvent : Bool) (cls : Nat) (content : List Byte) : State :=
  let a := s.allocLines (linesFor content.length) sh
  let s1 := a.1.modShade sh (fun x => { x with
    items := x.items ++ [{ isEvent := isEvent, cls := cls, content := content, number := none, sentTick := 0, again := false, lines := a.2 }],
    pieces := if cls = 2 then x.pieces + 1 else x.pieces })
  s1.setPeak (0x5010 + sh) 9 (s1.fill sh)

/-- The overrun report (Table 3 of chapter 14). -/
def overrunReport (flags dropped first now : Nat) : List Byte :=
  [48#8, byte flags, 0#8, 0#8] ++ le 4 (satTo 0xFFFFFFFF dropped) ++ le 4 first ++ le 4 now

/-- Whether an overrun report waits undelivered in the queue. -/
def Shade.reportWaits (x : Shade) : Bool := x.items.any (fun i => decide (i.cls = 3) && decide (i.number = none))

/-- The bit of an overrun report for a class of item: events, tag or card copies, other reports. -/
def dropBit (cls : Nat) : Nat := if cls = 0 then 1 else if cls = 1 then 2 else 4

/-- An item that does not enter is dropped: the overrun flag is set, the drop counted, and added to the
report that waits, if one does (R479, R481). -/
def State.dropItem (s : State) (sh cls : Nat) : State :=
  let x := s.shade sh
  let flags := x.dropFlags ||| dropBit cls
  let first := if x.dropped = 0 then s.rtcSec else x.firstDrop
  let s1 := s.modShade sh (fun x =>
    if x.reportWaits then
      { x with overrun := true, items := x.items.map (fun i =>
          if i.cls = 3 ∧ i.number = none then
            { i with
              content := [48#8, byte (byteAt i.content 1 ||| dropBit cls), 0#8, 0#8] ++
                le 4 (satTo 0xFFFFFFFF (fieldAt i.content 4 4 + 1)) ++ slice i.content 8 8 }
          else i) }
    else { x with overrun := true, dropFlags := flags, dropped := x.dropped + 1, firstDrop := first })
  let s2 := s1.count (0x5010 + sh) 6
  if cls = 0 then s2.count (0x5010 + sh) 12 else if cls = 1 then s2.count (0x5010 + sh) 11 else s2

/-- The overrun report enters ahead of the next uncredited item that has room (R481). -/
def State.formOverrun (s : State) (sh : Nat) : State :=
  let x := s.shade sh
  if 0 < x.dropped ∧ x.reportWaits = false ∧ s.load sh < s.quota sh then
    (s.appendItem sh false 3 (overrunReport x.dropFlags x.dropped x.firstDrop s.rtcSec)).modShade sh
      (fun x => { x with dropped := 0, dropFlags := 0 })
  else s

/-- An uncredited item enters only while fill plus credits is below the quota (R479). -/
def State.takeIn (s : State) (sh : Nat) (isEvent : Bool) (cls : Nat) (content : List Byte) : State :=
  if s.load sh < s.quota sh then
    let s1 := s.formOverrun sh
    if s1.load sh < s1.quota sh then s1.appendItem sh isEvent cls content else s1.dropItem sh cls
  else s.dropItem sh cls

/-- A credited item always enters; its credit becomes one entry of fill (R479). -/
def State.admitCredited (s : State) (sh cls : Nat) (content : List Byte) : State :=
  (s.modShade sh (fun x => { x with credits := x.credits - 1 })).appendItem sh false cls content

/-- Whether a meter batch piece has room (R479). -/
def State.pieceRoom (s : State) (sh : Nat) : Bool :=
  decide ((s.shade sh).pieces < 256) && decide (s.load sh + 1 + 16 ≤ s.quota sh)

/-- Take `n` credits of a shade queue, or refuse and count (R476). -/
def State.takeCredit (s : State) (sh n : Nat) : Bool × State :=
  if n = 0 then (true, s)
  else if s.quota sh < s.load sh + n then (false, s.count (0x5010 + sh) 10)
  else (true, s.modShade sh (fun x => { x with credits := x.credits + n }))

/-- Give back `n` credits (R44). -/
def State.giveCredit (s : State) (sh n : Nat) : State :=
  s.modShade sh (fun x => { x with credits := x.credits - n })

/-- Bytes of a scan region are written: a running scan whose range holds any of them notes it (R564). -/
def State.noteChange (s : State) (region off len : Nat) : State :=
  { s with sessions := s.sessions.map (fun x =>
      let c := x.scan
      if c.state = 2 ∧ c.region = region ∧ 0 < len ∧ off < c.offset + c.length ∧ c.offset < off + len then
        { x with scan := { c with changed := true } }
      else x) }

/-- A record appended to the black box, in the memory that region 4 scans. -/
def State.boxAppend (s : State) (code : Nat) (record : List Byte) : State :=
  let b := s.box.append code record
  ({ s with box := b } : State).noteChange 4 (16 * b.last) (if s.box.frozen = 0 ∨ code / 256 = 0x01 ∨ code / 256 = 0x11 then 16 else 0)

/-! ### Raising an event -/

/-- A rate limit: at most `n` deliveries to queues in `period` ticks for one unit (R665). -/
structure Limit where
  n : Nat
  period : Nat
  unit : Nat
  deriving DecidableEq, Repr

/-- Once a minute per unit. -/
def perMinute (unit : Nat) : Option Limit := some { n := 1, period := sec 60, unit := unit }

/-- The 16-byte event record (R16). -/
def State.eventRecord (s : State) (code : Nat) (detail : List Nat) : List Byte :=
  le 2 code ++ le 4 s.rtcSec ++ le 4 s.cycle ++ fit 6 (detail.map byte)

/-- Whether a limit lets an occurrence be delivered now (R665). -/
def State.mayDeliver (s : State) (code : Nat) (lim : Option Limit) : Bool :=
  match lim with
  | none => true
  | some l => decide ((s.delivered.filter (fun d =>
      decide (d.code = code) && decide (d.unit = l.unit) && decide (s.now < d.tick + l.period))).length < l.n)

/-- The delivery noted for its limit; older notes of the same event and unit fall away. -/
def State.noteDelivery (s : State) (code : Nat) (lim : Option Limit) : State :=
  match lim with
  | none => s
  | some l => { s with delivered :=
      s.delivered.filter (fun d => !(decide (d.code = code) && decide (d.unit = l.unit) && decide (d.tick + l.period ≤ s.now)))
        ++ [{ code := code, unit := l.unit, tick := s.now }] }

/-- Events that enter a queue whatever the class mask says (R434). -/
def unmasked (code : Nat) : Bool :=
  decide (code = 0x3106) || decide (code = 0x0301) || decide (code = 0x0305) || decide (code = 0x0307) ||
  decide (code / 256 = 0x04)

/-- An event's record into the queue of one shade it reaches, under the class mask (R434); a shade that is
closed or erasing has no queue running. -/
def State.deliverEvent (s : State) (code : Nat) (record : List Byte) (sh : Nat) : State :=
  if s.shadeState sh = 0 ∨ s.shadeState sh = 4 then s
  else if unmasked code || bitOf (s.shade sh).classMask (code / 256) then s.takeIn sh true 0 record
  else s.modShade sh (fun x => { x with filtered := x.filtered + 1 })

/-- Raise an event without looking at the full flags: the counters count it, the black box keeps it when it
reaches Slate, Lantern traces it, and, where its rate limit allows, it enters the queues it reaches
(R16, R434, R586, R589, R665). -/
def State.raise0 (s : State) (code : Nat) (detail : List Nat) (reach : List Nat) (lim : Option Limit) : State :=
  let rec16 := s.eventRecord code detail
  let s1 := s.countEvent code
  let s2 : State := if reach.contains 0 then s1.boxAppend code rec16 else s1
  let s3 := s2.lanternPush 8 [code % 256, code / 256]
  if s3.mayDeliver code lim then
    reach.foldl (fun st sh => st.deliverEvent code rec16 sh) (s3.noteDelivery code lim)
  else s3

/-- Whether a shade queue is full: fill plus credits equals or exceeds the quota (R480). -/
def State.isFull (s : State) (sh : Nat) : Bool := decide (s.quota sh ≤ s.load sh)

/-- The full flag of a shade queue follows its load; event 0x6001 when it is set (R480). -/
def State.settleFull (s : State) (sh : Nat) : State :=
  let full := s.isFull sh
  let was := (s.shade sh).wasFull
  let s1 := s.modShade sh (fun x => { x with wasFull := full })
  if full && !was && decide (s.shadeState sh ≠ 0) then
    s1.raise0 0x6001 ([sh] ++ (le 2 (s1.fill sh) ++ le 2 (s1.quota sh)).map (·.toNat) ++ [satTo 255 (s1.shade sh).credits])
      [0] (perMinute sh)
  else s1

/-- After a queue's load has changed: an overrun report that the queue has room for now enters, and the full flags follow; Slate's queue
last, since it receives the events (R480, R481). -/
def State.settle (s : State) : State := [1, 2, 3, 4, 5, 6, 7, 0].foldl (fun st sh => (st.formOverrun sh).settleFull sh) s

/-- Raise an event: code, detail bytes 0–5, the shades it reaches and its rate limit. -/
def State.raise (s : State) (code : Nat) (detail : List Nat) (reach : List Nat) (lim : Option Limit := none) : State :=
  (s.raise0 code detail reach lim).settle

/-- Bytes of a number as numbers, for a detail field. -/
def dU (n v : Nat) : List Nat := (le n v).map (·.toNat)

/-- Bytes of a signed number as numbers, for a detail field. -/
def dI (n : Nat) (v : Int) : List Nat := (leInt n v).map (·.toNat)

/-- Free lines, with event 0x030E for each that is withdrawn (R390). -/
def State.releaseLines (s : State) (ls : List Nat) : State :=
  let f := s.freeLinesOf ls
  f.2.foldl (fun st l => st.raise 0x030E (dU 4 l) [0]) f.1

/-- The lines that a unit holds are freed. -/
def State.dropLines (s : State) (id : Nat) : State :=
  ({ s with heldLines := NMap.erase s.heldLines id } : State).releaseLines (NMap.getD s.heldLines id [])

/-- A unit takes lines under the key of a shade, in place of those it held (R389). -/
def State.holdLines (s : State) (id n sh : Nat) : State :=
  let a := (s.dropLines id).allocLines n sh
  { a.1 with heldLines := NMap.put a.1.heldLines id a.2 }

/-- Whether the module is in safe state. -/
def State.inSafe (s : State) : Bool := s.flag 0x1110 1

/-- The frame slot of `0x1B00:06`: 16 × cycle of the frame + phase slot (R63). -/
def State.frameSlot (s : State) : Nat :=
  16 * ((s.belfry.slots / 16 + s.belfry.frameBase) % 8) + s.belfry.slots % 16

end Sys2Proof.Machine
end

