-- ==== Sys2Proof/Machine/Rtc.lean ====
section
/-! DEFINITION. The real-time clock and the backup domain (chapter 16). -/

namespace Sys2Proof.Machine

/-! ### The calendar (R514–R518) -/

/-- A date: year 2000–2399, month, day of the month. -/
structure Date where
  year : Nat
  month : Nat
  day : Nat
  deriving DecidableEq, Repr

/-- Seconds in the 400 years 2000–2399: 146,097 days (R517). -/
def centuriesSec : Nat := 146097 * 86400

/-- Whether a year is a leap year: its year field a multiple of 4 and not 00, or 00 with century 20 (R516). -/
def isLeap (y : Nat) : Bool := decide (y % 4 = 0) && (decide (y % 100 ≠ 0) || decide (y % 400 = 0))

/-- Days of a month (R516). -/
def monthDays (y m : Nat) : Nat :=
  if m = 2 then (if isLeap y then 29 else 28)
  else if m = 4 ∨ m = 6 ∨ m = 9 ∨ m = 11 then 30
  else 31

/-- The date a number of days after 2000-01-01, in the Gregorian cycle of 146,097 days. -/
def dateOf (days : Nat) : Date :=
  let doe := (days + 146037) % 146097
  let yoe := (doe - doe / 1460 + doe / 36524 - doe / 146096) / 365
  let doy := doe - (365 * yoe + yoe / 4 - yoe / 100)
  let mp := (5 * doy + 2) / 153
  let m := if mp < 10 then mp + 3 else mp - 9
  { year := 2000 + (yoe + (if m ≤ 2 then 1 else 0)) % 400
    month := m
    day := doy - (153 * mp + 2) / 5 + 1 }

/-- Days from 2000-01-01 to a date. -/
def daysOf (d : Date) : Nat :=
  let yoe := (d.year - 2000 + 400 - (if d.month ≤ 2 then 1 else 0)) % 400
  let doy := (153 * (if 2 < d.month then d.month - 3 else d.month + 9) + 2) / 5 + d.day - 1
  (365 * yoe + yoe / 4 - yoe / 100 + doy + 60) % 146097

/-- Day of the week, Monday 1 (R514): 2000-01-01 is a Saturday. -/
def weekdayOf (days : Nat) : Nat := (days + 5) % 7 + 1

/-- A number below 100 as packed BCD. -/
def bcd (n : Nat) : Nat := 16 * (n / 10 % 10) + n % 10

/-- The number a packed BCD byte holds. -/
def unbcd (v : Nat) : Nat := 10 * (v / 16) + v % 16

/-- The live BCD value of a field of `0x1A00` at a count of seconds: 1 seconds, 2 minutes, 3 hours, 4 day of
week, 5 date, 6 month, 7 year, 8 century. -/
def rtcField (total sub : Nat) : Nat :=
  let days := total / 86400
  let date := dateOf days
  if sub = 1 then bcd (total % 60)
  else if sub = 2 then bcd (total / 60 % 60)
  else if sub = 3 then bcd (total / 3600 % 24)
  else if sub = 4 then bcd (weekdayOf days)
  else if sub = 5 then bcd date.day
  else if sub = 6 then bcd date.month
  else if sub = 7 then bcd (date.year % 100)
  else bcd (date.year / 100)

/-- Whether VSYS supplies the backup domain (R511). -/
def State.vsysPresent (s : State) : Bool := !s.rtc.onVbak

/-! ### Alarms (R529, R530) -/

/-- The index of an alarm: A is 0, B is 1. -/
def alarmIndex (a : Nat) : Nat := 0x1A10 + a

/-- Whether an enabled alarm's unmasked fields all equal the live fields (R529). -/
def State.alarmMatches (s : State) (a total : Nat) : Bool :=
  let mask := s.nat (alarmIndex a) 8
  (List.range 6).all (fun i => bitOf mask i || decide (s.nat (alarmIndex a) (i + 2) = rtcField total (i + 1)))

/-- An alarm fires: the fired flag and time, then its actions; without bit 3 it clears its own enable. While
VSYS is absent the event waits for the next boot (R530). -/
def State.fireAlarm (s : State) (a : Nat) : State :=
  let acts := s.nat (alarmIndex a) 9
  let s1 := (s.setFlag (alarmIndex a) 10 true).set (alarmIndex a) 11 s.rtcSec
  let s2 : State := if bitOf acts 2 then ({ s1 with pins := { s1.pins with pwrOn := true } } : State).setFlag 0x1A20 1 true else s1
  let s3 : State :=
    if bitOf acts 0 then
      if s2.vsysPresent then s2.raise 0x1101 ([a, 0] ++ dU 4 s2.rtcSec) s2.allJoined
      else { s2 with rtc := { s2.rtc with lateAlarms := s2.rtc.lateAlarms ++ [(a, s2.rtcSec)] } }
    else s2
  if bitOf acts 3 then s3 else s3.selfSet (key (alarmIndex a) 1) (.num 0)

/-- Each enabled alarm compares at a second increment (R529). -/
def State.checkAlarm (s : State) (a : Nat) : State :=
  if s.flag (alarmIndex a) 1 && s.alarmMatches a s.rtc.total then s.fireAlarm a else s

/-- Whether an alarm is enabled that drives PWR_ON high (R532). -/
def State.restores (s : State) (a : Nat) : Bool := s.flag (alarmIndex a) 1 && bitOf (s.nat (alarmIndex a) 9) 2

/-- Seconds until an alarm next matches, searched over eight years of days and the seconds of a day. -/
def State.nextMatch (s : State) (a : Nat) : Nat :=
  let now := s.rtc.total
  let dayOk := fun days => (List.range 3).all (fun i =>
    bitOf (s.nat (alarmIndex a) 8) (i + 3) || decide (s.nat (alarmIndex a) (i + 5) = rtcField (days * 86400) (i + 4)))
  let timeOk := fun t => (List.range 3).all (fun i =>
    bitOf (s.nat (alarmIndex a) 8) i || decide (s.nat (alarmIndex a) (i + 2) = rtcField t (i + 1)))
  let hit := fun days => (List.range 86400).find? (fun t => timeOk t && decide (now < days * 86400 + t))
  match (List.range 2923).find? (fun d => dayOk (now / 86400 + d) && (hit (now / 86400 + d)).isSome) with
  | none => 2 ^ 32
  | some d => (now / 86400 + d) * 86400 + (hit (now / 86400 + d)).getD 0 - now

/-- The alarm that will restore power: the earlier if both will (event 0x1109). -/
def State.restoringAlarm (s : State) : Nat :=
  if s.restores 0 && s.restores 1 then (if s.nextMatch 1 < s.nextMatch 0 then 1 else 0)
  else if s.restores 1 then 1 else 0

/-! ### Commands -/

/-- The clock increments one trimmed second and carries, and the alarms compare (R517, R526, R529). While the
oscillator is stopped, or the domain has no supply, nothing counts (R525, R511). -/
def State.rtcSecond (s : State) : State :=
  if s.rtc.running && s.rtc.domainUp then
    let next := s.rtc.total + 1
    let s1 : State := { s with rtc := { s.rtc with
      total := next % centuriesSec, prescale := 0, k := (s.rtc.k + 1) % 32, lastSecondTick := s.now,
      periodEnded := s.rtc.periodEnded || decide (s.rtc.k % 32 = 31) } }
    let s2 := if next = centuriesSec then s1.raise 0x1107 [1] s1.allJoined else s1
    (s2.checkAlarm 0).checkAlarm 1
  else s

/-- `RTC_SECOND`. -/
def execRtcSecond (t : Nat) (s : State) : Out := .next (s.at t).rtcSecond

/-- The trim cycles a_k that second k of a trim period gains or loses (R526). -/
def trimCycles (trim : Int) (k : Nat) : Int := ((k + 1 : Int) * trim).fdiv 32 - ((k : Int) * trim).fdiv 32

/-- The prescaler's terminal count in second k of a trim period (R526). -/
def terminalCount (trim : Int) (k : Nat) : Int := 32768 - trimCycles trim k

/-- The prescaler count in the current second of `0x1A01:02`, from the bus clock while the crystal runs. -/
def State.fraction (s : State) : Nat :=
  if s.rtc.running then
    satTo (terminalCount (s.int 0x1A03 1) s.rtc.k - 1).toNat (s.rtc.prescale + (s.now - s.rtc.lastSecondTick) / 3750) % 32768
  else s.rtc.prescale % 32768

/-- The trim that auto-trim wants: −round(error ÷ 0.9537 ppm), with the error in 0.01 ppm (R528). -/
def wantedTrim (error : Int) : Int := - ((2 * error * 2 ^ 20 + 10 ^ 8).fdiv (2 * 10 ^ 8))

/-- The step of auto-trim: T moves one unit toward the wanted value, clamped to its range; the 64th consecutive
clamped step raises event 0x1108 (R528, R39). -/
def State.autoTrim (s : State) : State :=
  if s.flag 0x1A03 2 && s.vsysPresent then
    let want := wantedTrim (s.int 0x1A03 3)
    let clamped : Int := if want < -512 then -512 else if 511 < want then 511 else want
    let now := s.int 0x1A03 1
    let next := if now < clamped then now + 1 else if clamped < now then now - 1 else now
    let s1 := s.selfSet (key 0x1A03 1) (.num next)
    if want = clamped then { s1 with rtc := { s1.rtc with pinned := 0 } }
    else
      let n := s1.rtc.pinned + 1
      let s2 := ({ s1 with rtc := { s1.rtc with pinned := n } } : State).count 0x1A03 5
      let s2 := s2.lanternLoop 8 0 next clamped n
      if n = 64 then s2.raise 0x1108 (dI 2 next ++ dI 4 (s2.int 0x1A03 3)) [0] else s2
  else s

/-- At the end of a trim period auto-trim takes its one step (R528); a period that has not ended gives none. -/
def State.trimPeriodEnd (s : State) : State :=
  if s.rtc.periodEnded then
    ({ s with rtc := { s.rtc with periodEnded := false } } : State).autoTrim
  else s

/-- `TRIM_PERIOD_END`. -/
def execTrimPeriodEnd (t : Nat) (s : State) : Out := .next (s.at t).trimPeriodEnd

/-- The raw error of the crystal from the bus ticks of 2^20 cycles, in 0.01 ppm (R527). -/
def crystalError (ticks : Nat) : Int := ((3932160000 - (ticks : Int)) * 10 ^ 8).fdiv (if ticks = 0 then 1 else ticks)

/-- A full period has been measured (R527). -/
def State.crystalMeasured (s : State) (ticks : Nat) : State :=
  if s.vsysPresent && !s.power.refclkLost && s.rtc.running then
    (s.set 0x1A03 3 (crystalError ticks)).setFlag 0x1A03 4 true
  else s

/-- `CRYSTAL_MEASUREMENT`. -/
def execCrystalMeasurement (t ticks : Nat) (s : State) : Out := .next ((s.at t).crystalMeasured ticks)

/-- VBAK is measured, every 60 s while VSYS is present; event 0x1106 when it is below the threshold, again only after a measurement above
(R513). -/
def State.vbakMeasured (s : State) (mv : Nat) : State :=
  if s.vsysPresent && decide (s.rtc.vbakDue ≤ s.now) then
    let s1 := s.set 0x1A02 8 mv
    let low := decide (mv < s1.nat 0x1A02 9)
    let s2 : State :=
      if low && !s1.rtc.vbakLowRaised then
        s1.raise 0x1106 (dU 2 mv ++ dU 2 (s1.nat 0x1A02 9)) [0]
      else s1
    { s2 with rtc := { s2.rtc with
        vbakDue := s.now + sec 60
        vbakLowRaised := if low then true else if s1.nat 0x1A02 9 < mv then false else s.rtc.vbakLowRaised } }
  else s

/-- `VBAK_MEASUREMENT`. -/
def execVbakMeasurement (t mv : Nat) (s : State) : Out := .next ((s.at t).vbakMeasured mv)

/-- No 32.768 kHz edge for 1 ms: the fields and the prescaler hold (R525). -/
def State.oscillatorStopped (s : State) : State :=
  if s.rtc.running then
    { s with rtc := { s.rtc with running := false, stoppedAt := s.now, prescale := s.fraction } }
  else s

/-- `OSCILLATOR_STOPPED`. -/
def execOscillatorStopped (t : Nat) (s : State) : Out := .next (s.at t).oscillatorStopped

/-- The first edge after a stop resumes counting and sets the flag with cause 1; with VSYS present, event
0x1103 (R525). -/
def State.oscillatorRestart (s : State) : State :=
  if s.rtc.running then s
  else
    let len := (s.now - s.rtc.stoppedAt) / 122880
    let s1 : State := { s with rtc := { s.rtc with running := true, lastSecondTick := s.now } }
    let s2 := (s1.setFlag 0x1A02 1 true).set 0x1A02 2 1
    if s2.vsysPresent then s2.raise 0x1103 (dU 2 (satTo 65535 len) ++ dU 4 s2.rtcSec) [0] else s2

/-- `OSCILLATOR_RESTART`. -/
def execOscillatorRestart (t : Nat) (s : State) : Out := .next (s.at t).oscillatorRestart

/-- At the off time PWR_ON goes low (R531). -/
def State.powerOffByPwrOn (s : State) : State :=
  match s.rtc.offDue with
  | none => s
  | some due =>
    if due ≤ s.rtc.total then
      let s1 : State := { s with rtc := { s.rtc with offDue := none }, pins := { s.pins with pwrOn := false } }
      let s2 := ((s1.setFlag 0x1A20 1 false).set 0x1A20 3 0).count 0x1A20 4
      s2.raise 0x1109 (dU 4 s2.rtcSec ++ [s2.restoringAlarm]) s2.allJoined
    else s

/-- `POWER_OFF_BY_PWR_ON`. -/
def execPowerOffByPwrOn (t : Nat) (s : State) : Out := .next (s.at t).powerOffByPwrOn

/-- VSYS falling through 4.4 V locks host-side writes of the backup domain (R533). -/
def State.lockWrites (s : State) : State :=
  ({ s with rtc := { s.rtc with locked := true }, power := { s.power with vsys := 4400 } } : State).setFlag 0x1A02 10 true

/-- `WRITE_LOCK`. -/
def execWriteLock (t : Nat) (s : State) : Out := .next (s.at t).lockWrites

/-- VSYS held at 4.6 V for 2 ms with the dictionary reachable releases the lock (R533). -/
def State.unlockWrites (s : State) : State :=
  if s.power.reachable then
    ({ s with rtc := { s.rtc with locked := false }, power := { s.power with vsys := peak s.power.vsys 4600 } } : State).setFlag 0x1A02 10 false
  else s

/-- `WRITE_LOCK_RELEASE`. -/
def execWriteLockRelease (t : Nat) (s : State) : Out := .next (s.at t).unlockWrites

/-- The domain moves to VBAK and stamps the switch-over (R511, R535); a power controller that has stopped
trying is armed again by the fall of VSYS below 3.0 V (R605). -/
def State.switchToVbak (s : State) : State :=
  if s.rtc.onVbak || !s.rtc.domainUp then s
  else
    let s1 : State := { s with
      rtc := { s.rtc with onVbak := true, unreported := true }
      power := { s.power with vsys := 3000, lowestVsys := if s.power.lowestVsys < 3000 then s.power.lowestVsys else 3000,
                              stage := if s.power.stage = 4 then 0 else s.power.stage,
                              collapses := if s.power.stage = 4 then 0 else s.power.collapses, vsysHeld := false } }
    let s2 := s1.set 0x1A02 4 s1.rtcSec
    let s3 := if s2.nat 0x1A02 3 = 0 then s2.set 0x1A02 3 s2.rtcSec else s2
    s3.count 0x1A02 6

/-- `SWITCH_OVER_TO_VBAK`. -/
def execSwitchOverToVbak (t : Nat) (s : State) : Out := .next (s.at t).switchToVbak

/-- The domain returns to VSYS and stamps the return (R511, R535). -/
def State.returnToVsys (s : State) : State :=
  if s.rtc.onVbak then
    let s1 : State := { s with rtc := { s.rtc with onVbak := false }, power := { s.power with vsys := peak s.power.vsys 3100 } }
    let s2 := s1.set 0x1A02 5 s1.rtcSec
    s2.set 0x1A02 7 ((s2.rtcSec + 2 ^ 32 - s2.nat 0x1A02 4) % 2 ^ 32 : Nat)
  else s

/-- `RETURN_TO_VSYS`. -/
def execReturnToVsys (t : Nat) (s : State) : Out := .next (s.at t).returnToVsys

/-- The domain loses its supply and all its state (R511); a minimum off time that has not passed is no longer counted (R607). -/
def State.domainLost (s : State) : State :=
  { s with
    rtc := { s.rtc with domainUp := false, running := false, offDue := none }
    power := { s.power with offBroken := s.power.offBroken || decide (s.now < s.power.offUntil) } }

/-- `BACKUP_DOMAIN_SUPPLY_LOST`. -/
def execBackupDomainSupplyLost (t : Nat) (s : State) : Out := .next (s.at t).domainLost

/-- The domain's counters and status that a loss of its supply clears (R512). -/
def domainKeys : List Nat :=
  (List.range 8).map (fun i => key 0x1A02 (i + 1)) ++ [key 0x1A20 1, key 0x1A20 3, key 0x1A20 4,
    key 0x1A10 10, key 0x1A10 11, key 0x1A11 10, key 0x1A11 11, key 0x1102 2, key 0x1104 5]

/-- A supply returning to a domain that lost it: the time takes its default, the flag is set with cause 2, the
switch-over record and the black box are cleared, PWR_ON is driven high (R512). -/
def State.domainAfresh (s : State) (vbak : Nat) : State :=
  if s.rtc.domainUp then s
  else
    let s1 : State := { s with
      dict := domainKeys.foldl NMap.erase s.dict
      rtc := { rtcAtReset with onVbak := s.rtc.onVbak, lastSecondTick := s.now }
      pins := { s.pins with pwrOn := true }
      box := boxAtReset }
    s1.set 0x1A02 8 vbak

/-- `BACKUP_DOMAIN_SUPPLY_RETURN`. -/
def execBackupDomainSupplyReturn (t vbak : Nat) (s : State) : Out := .next ((s.at t).domainAfresh vbak)

/-! ### Setting the time (R522–R524) -/

/-- The staged value of a field, or its live value. -/
def stagedOr (staged : List (Nat × Nat)) (total sub : Nat) : Nat := NMap.getD staged sub (rtcField total sub)

/-- The count of seconds that a write of the seconds field commits, if the date exists and a staged day of
week is its weekday (R523). -/
def newTime (total : Nat) (staged : List (Nat × Nat)) (seconds : Nat) : Option Nat :=
  let date : Date :=
    { year := 100 * unbcd (stagedOr staged total 8) + unbcd (stagedOr staged total 7)
      month := unbcd (stagedOr staged total 6)
      day := unbcd (stagedOr staged total 5) }
  if date.month < 1 ∨ 12 < date.month ∨ date.day < 1 ∨ monthDays date.year date.month < date.day then none
  else
    let days := daysOf date
    match NMap.get? staged 4 with
    | some w => if unbcd w = weekdayOf days then
        some (days * 86400 + 3600 * unbcd (stagedOr staged total 3) + 60 * unbcd (stagedOr staged total 2) + unbcd seconds)
      else none
    | none => some (days * 86400 + 3600 * unbcd (stagedOr staged total 3) + 60 * unbcd (stagedOr staged total 2) + unbcd seconds)

/-- An accepted commit lands: the fields, the prescaler and the trim period restart, the flags of R524 clear,
event 0x1102 is raised. -/
def State.landTime (s : State) (new : Nat) (dowComputed : Bool) : State :=
  let stepSec : Int := (new : Int) - (s.rtc.total : Int)
  let sat : Int := if stepSec < -(2 ^ 31) then -(2 ^ 31) else if 2 ^ 31 - 1 < stepSec then 2 ^ 31 - 1 else stepSec
  let was := s.flag 0x1A02 1
  let s1 : State := { s with rtc := { s.rtc with total := new, prescale := 0, k := 0, periodEnded := false, lastSecondTick := s.now } }
  let s2 := (((s1.setFlag 0x1A02 1 false).set 0x1A02 2 0).set 0x1A02 3 0).set 0x1A02 6 0
  s2.raise 0x1102 (dI 4 sat ++ [b01 was, b01 dowComputed]) s2.allJoined

end Sys2Proof.Machine
end

