-- ==== Sys2Proof/Machine/Mram.lean ====
section
/-! DEFINITION. The MRAM store: bytes, pages and trailers, the stable-supply precondition, the two
configuration copies and the firmware slots (chapter 17). -/

namespace Sys2Proof.Machine

/-! ### Bytes -/

/-- What an unlisted byte of MRAM reads as: a page never written is all zero (R539). -/
def Memory.unlisted : Byte := 0#8

/-- One byte of memory. -/
def Memory.read (m : List Host.Cell) (a : Nat) : Byte := (NMap.get? m a).getD Memory.unlisted

/-- Memory with one byte written; the value of an unlisted byte is not listed. -/
def Memory.write (m : List Host.Cell) (a : Nat) (b : Byte) : List Host.Cell :=
  if b = Memory.unlisted then NMap.erase m a else NMap.put m a b

/-- Memory with a run of bytes written from an address. -/
def Memory.writeAll (m : List Host.Cell) (a : Nat) : List Byte → List Host.Cell
  | [] => m
  | b :: r => Memory.writeAll (Memory.write m a b) (a + 1) r

/-- `n` bytes of memory from an address. -/
def Memory.readAll (m : List Host.Cell) (a n : Nat) : List Byte := (List.range n).map (fun i => Memory.read m (a + i))

/-- The canonical form: addresses strictly rise and no listed byte equals an unlisted one. -/
def Memory.wf (m : List Host.Cell) : Bool := NMap.wf m && m.all (fun c => decide (c.2 ≠ Memory.unlisted))

/-! ### Partitions and pages -/

/-- The first page of a partition (Table 1 of chapter 17). -/
def partitionBase (p : Nat) : Nat :=
  if p = 0 then 0 else if p = 1 then 1024 else if p = 2 then 2048 else if p = 3 then 2304 else if p = 4 then 2432 else 2560

/-- The partition of a page (Table 1 of chapter 17). -/
def partitionOf (page : Nat) : Nat :=
  if page < 1024 then 0 else if page < 2048 then 1 else if page < 2304 then 2 else if page < 2432 then 3
  else if page < 2560 then 4 else 5

/-- A page as it stands: never written where it is not listed. -/
def State.page (s : State) (p : Nat) : Page :=
  NMap.getD s.store.pages p { isSealed := false, operation := 0, writes := 0, endurance := false, readDue := 0 }

/-- The 4,096 bytes of a sealed page: content, trailer, CRC-32 and seal word (Table 2 of chapter 17). -/
def pageBytes (op partition writes : Nat) (content : List Byte) : List Byte :=
  let body := fit 4080 content ++ le 2 0x5AA5 ++ [byte op, byte partition] ++ le 4 writes ++ le 4 0x4C414553
  body ++ le 4 (crcBytes 4 body)

/-- Bytes of MRAM are written: scans of the regions that lie in it note it (Table 3 of chapter 18). -/
def State.noteMram (s : State) (a len : Nat) : State :=
  if a < 4194304 then s.noteChange 0 a len
  else if a < 8388608 then s.noteChange 1 (a - 4194304) len
  else if 9961472 ≤ a ∧ a < 10485760 then s.noteChange 3 (a - 9961472) len
  else s

/-- A page is sealed once more: its write count, the highest one at `0x1600:09`, and event 0x050A when the count passes 9 × 10^8
(R538, R541). -/
def State.wearPage (s : State) (page op : Nat) : State :=
  let old := s.page page
  let w := satTo 0xFFFFFFFF (old.writes + 1)
  let p : Page := { isSealed := true, operation := op, writes := w, endurance := old.endurance || decide (900000000 < w),
                    readDue := old.readDue }
  let s2 := ({ s with store := { s.store with pages := NMap.put s.store.pages page p } } : State).setPeak 0x1600 9 w
  if 900000000 < w ∧ old.endurance = false then
    s2.raise 0x050A ([partitionOf page] ++ dU 2 (page - partitionBase (partitionOf page))) [0]
  else s2

/-- A page write or clear, run through its four steps: content, trailer and seal (R538). -/
def State.writePage (s : State) (page op : Nat) (content : List Byte) : State :=
  let w := satTo 0xFFFFFFFF ((s.page page).writes + 1)
  let s1 : State := { s with store := { s.store with
    mram := Memory.writeAll s.store.mram (4096 * page) (pageBytes op (partitionOf page) w (if op = 2 then [] else content)) } }
  (s1.noteMram (4096 * page) 4096).wearPage page op

/-! ### The stable-supply precondition (R543) -/

/-- A store may begin: VSYS at least 4.75 V, falling no faster than 50 mV/ms, the write gate open. -/
def State.supplyStable (s : State) : Bool :=
  decide (4750 ≤ s.power.vsys) && decide (-50 ≤ s.power.slope) && !s.store.gateShut

/-- A store refused for the supply is counted; event 0x0501 at most once a minute (R543). -/
def State.storeRefused (s : State) (partition : Nat) : State :=
  (s.count 0x1600 5).raise 0x0501 (dU 2 s.power.vsys ++ dI 2 s.power.slope ++ [partition]) [0] (perMinute 0)

/-- A store was done. -/
def State.storeDone (s : State) : State := s.count 0x1600 4

/-! ### Configuration copies (R547, R548) -/

/-- Cursors and time fields are RW but hold no stored value (R405). -/
def isCursor (k : Nat) : Bool :=
  decide (k = key 0x3100 2) || decide (k = key 0x4030 2) ||
  (decide (key 0x4110 9 ≤ k) && decide (k ≤ key 0x4117 9) && decide (k % 256 = 9)) || decide (k / 256 = 0x1A00)

/-- Whether an object keeps its value across reset and loss of power (R405). -/
def isKept (k : Nat) : Bool :=
  match rowOf? k with
  | none => false
  | some r => (decide (r.acc = .rw) || decide (r.acc = .rwt)) && !isCursor k

/-- What a configuration store writes: every kept object, with the values of class B that wait for a boot. -/
def State.configContent (s : State) : List (Nat × Val) :=
  s.bootDict.foldl (fun m e => NMap.put m e.1 e.2) (s.dict.filter (fun e => isKept e.1))

/-- The configuration generation of `0x1400:0A`: the higher of the two copies', whole or not, so that none repeats. -/
def State.generation (s : State) : Nat := peak s.store.copyA.generation s.store.copyB.generation

/-- The generation of a copy that a store or a boot goes by: a copy that is not whole has none (R539). -/
def ConfigCopy.order (c : ConfigCopy) : Nat := if c.valid then c.generation else 0

/-- The shade whose private part of the configuration an object belongs to: round plans, card plans and meter classes of an owner, routing
filters, emission and receive policies (R379). -/
def State.privateOf (s : State) (k : Nat) : Option Nat :=
  let index := k / 256
  let owned := fun (sh : Nat) => if sh < 8 then some sh else none
  if (0x3000 ≤ index ∧ index < 0x3040) ∨ (0x3400 ≤ index ∧ index < 0x3420) ∨ (0x4010 ≤ index ∧ index < 0x4030) then owned (s.nat index 1)
  else if 0x3110 ≤ index ∧ index < 0x3118 then some (index - 0x3110)
  else if 0x2040 ≤ index ∧ index < 0x2048 then some (index - 0x2040)
  else if 0x2050 ≤ index ∧ index < 0x2058 then some (index - 0x2050)
  else none

/-- A shade's configuration key (R379). -/
def State.configKey (s : State) (sh : Nat) : List Byte := Config.hkdf [] (s.shade sh).storageKey (ascii "HJ48 config") 32

/-- The seals of a content at a generation: the nonce is the item's number, which is its object's, and the generation (R379; log entry
113). -/
def State.sealsOf (s : State) (g : Nat) (content : List (Nat × Val)) : List (Nat × Seal) :=
  content.filterMap (fun e => (s.privateOf e.1).map (fun sh =>
    (e.1, { shade := sh, configKey := s.configKey sh, nonce := le 4 e.1 ++ le 8 g })))

/-- Whether an item of a copy opens: it has no seal, or its shade still has the key. -/
def State.opens (s : State) (c : ConfigCopy) (k : Nat) : Bool :=
  match NMap.get? c.seals k with
  | some x => decide (s.configKey x.shade = x.configKey) && !(s.shade x.shade).storageKey.isEmpty
  | none => true

/-- A configuration store: the whole content goes into the copy with the lower generation, its header page last (R547). -/
def State.storeConfig (s : State) : State :=
  let g := s.generation + 1
  let c : ConfigCopy := { valid := true, generation := g, content := s.configContent, seals := s.sealsOf g s.configContent }
  let s1 : State :=
    if s.store.copyB.order < s.store.copyA.order then ({ s with store := { s.store with copyB := c, copyInUse := 1 } } : State).wearPage 2176 1
    else ({ s with store := { s.store with copyA := c, copyInUse := 0 } } : State).wearPage 2048 1
  s1.storeDone

/-- The copy that a boot takes: that with the higher generation among the valid ones (R548). -/
def Store.bootCopy (st : Store) : Option (Nat × ConfigCopy) :=
  if st.copyA.valid ∧ (st.copyB.valid = false ∨ st.copyB.generation < st.copyA.generation) then some (0, st.copyA)
  else if st.copyB.valid then some (1, st.copyB)
  else none

/-- Its content. -/
def Store.bootContent (st : Store) : Option (Nat × List (Nat × Val)) := st.bootCopy.map (fun c => (c.1, c.2.content))

/-! ### Firmware slots (R549–R553) -/

/-- Page number of a slot's first page. -/
def slotBase (slot : Nat) : Nat := 1024 * slot

/-- A firmware slot: 0 is A, 1 is B. -/
def Store.slot (st : Store) (i : Nat) : FwSlot := if i = 0 then st.slotA else st.slotB

/-- The store with a slot changed. -/
def Store.setSlot (st : Store) (i : Nat) (f : FwSlot) : Store :=
  if i = 0 then { st with slotA := f } else { st with slotB := f }

/-- The slot that is not running: loading always targets it (R550). -/
def Store.target (st : Store) : Nat := 1 - st.running

/-- Bytes 0–15 of a slot's trailer page (Table 5 of chapter 17). -/
def trailerBytes (f : FwSlot) : List Byte :=
  [byte f.state, byte f.trialBoots, 0#8, 0#8] ++ le 4 f.sequence ++ le 4 f.length ++ le 4 f.security

/-- A slot's state changes and its trailer is stored. -/
def State.setSlot (s : State) (i : Nat) (f : FwSlot) : State :=
  let s1 : State := { s with store := s.store.setSlot i f }
  (s1.writePage (slotBase i + 1023) 1 (trailerBytes f)).storeDone

/-- Begin: the target slot is loading, the loading offset 0 (R550). -/
def State.fwBegin (s : State) (len : Nat) : State :=
  let i := s.store.target
  let s1 := s.setSlot i { state := 1, trialBoots := 0, sequence := (s.store.slot i).sequence, length := len,
                          version := 0, security := 0, verifies := false }
  ({ s1 with store := { s1.store with loadLength := len } } : State).set 0x1620 2 0

/-- Whether a block of 1,024 bytes at an offset is accepted: at the loading offset, or the previous block again
(R550). -/
def State.fwDataFits (s : State) (off : Nat) : Bool :=
  decide ((s.store.slot s.store.target).state = 1) &&
  ((decide (off = s.nat 0x1620 2) && decide (off + 1024 ≤ 4190208)) || decide (off + 1024 = s.nat 0x1620 2))

/-- A block is written; four blocks fill a slot page, which is programmed as one store (R550). -/
def State.fwData (s : State) (off : Nat) (bytes : List Byte) : State :=
  let a := 4096 * slotBase s.store.target + off
  let s1 := ({ s with store := { s.store with mram := Memory.writeAll s.store.mram a bytes } } : State).noteMram a bytes.length
  let s2 := if off = s.nat 0x1620 2 then s1.set 0x1620 2 (off + 1024) else s1
  if (off + 1024) % 4096 = 0 then
    (s2.wearPage (slotBase s.store.target + off / 4096) 1).storeDone
  else s2

/-- The header bytes of the image in a slot. -/
def State.fwHeader (s : State) (i : Nat) : List Byte := Memory.readAll s.store.mram (4096 * slotBase i) 1024

/-- The first failing check of R549 over a slot's image, with the verdicts on the body hash and the signature;
0 when it verifies. -/
def State.fwCheck (s : State) (i : Nat) (hashOk signatureOk : Bool) : Nat :=
  let h := s.fwHeader i
  let len := fieldAt h 12 4
  if fieldAt h 0 4 ≠ 0x3834484A ∨ byteAt h 4 ≠ 1 then 1
  else if byteAt h 5 ≠ s.nat 0x1009 0 then 2
  else if 4190208 < len ∨ len % 1024 ≠ 0 ∨ len < 1024 ∨ len ≠ s.store.loadLength then 3
  else if !hashOk then 4
  else if !signatureOk then 5
  else if fieldAt h 16 4 < s.store.minSecurity then 6
  else 0

/-- Verify: a success sets the slot to verified and raises event 0x0506; a failure sets it to empty (R551). -/
def State.fwVerify (s : State) (hashOk signatureOk : Bool) : State :=
  let i := s.store.target
  let r := s.fwCheck i hashOk signatureOk
  let h := s.fwHeader i
  let f := s.store.slot i
  let s1 := s.set 0x1620 8 r
  if r = 0 then
    (s1.setSlot i { f with
      state := 2, verifies := true, length := fieldAt h 12 4, security := fieldAt h 16 4,
      version := 0x03000000 + byteAt h 6 * 65536 + byteAt h 7 * 256 + byteAt h 8 }).raise 0x0506
      [i, byteAt h 6, byteAt h 7, byteAt h 8, fieldAt h 16 4] [0]
  else s1.setSlot i { f with state := 0, verifies := false }

/-- Activate 1: the verified slot is in trial, its sequence one above the other's; a full cold start follows
100 ms after the reply (R551). -/
def State.fwActivate (s : State) : State :=
  let i := s.store.target
  let f := s.store.slot i
  let s1 := s.setSlot i { f with state := 3, trialBoots := 0, sequence := (s.store.slot (1 - i)).sequence + 1 }
  { s1 with store := { s1.store with coldStartDue := some (s1.now + ms 100) } }

/-- Whether the module runs a trial slot. -/
def Store.inTrial (st : Store) : Bool := decide ((st.slot st.running).state = 3)

/-- Activate 2: the trial slot is good, event 0x0508, and the fused minimum may rise (R553). -/
def State.fwConfirm (s : State) : State :=
  let i := s.store.running
  let f := s.store.slot i
  let raised := decide (s.store.minSecurity < f.security)
  let s1 := s.setSlot i { f with state := 4 }
  let s2 : State := if raised then { s1 with store := { s1.store with
      minSecurity := f.security
      slotA := { s1.store.slotA with verifies := s1.store.slotA.verifies && decide (f.security ≤ s1.store.slotA.security) }
      slotB := { s1.store.slotB with verifies := s1.store.slotB.verifies && decide (f.security ≤ s1.store.slotB.security) } } } else s1
  s2.raise 0x0508 [i, f.security, b01 raised] [0]

/-- The boot ROM writes a slot's trailer: its state or its trial boots change (R552). -/
def State.bootTrailer (s : State) (i : Nat) (f : FwSlot) : State :=
  ({ s with store := s.store.setSlot i f } : State).writePage (slotBase i + 1023) 1 (trailerBytes f)

/-- The boot ROM's choice of R552, with event 0x0507 or 0x0509; slot 2 stands for recovery mode. -/
def State.bootSlot (s : State) : State :=
  let a := s.store.slotA
  let b := s.store.slotB
  let inC := fun (f : FwSlot) => f.verifies && (decide (f.state = 3) || decide (f.state = 4))
  let t : Option Nat := if inC a && decide (a.state = 3) then some 0 else if inC b && decide (b.state = 3) then some 1 else none
  let good : Option Nat :=
    let ga := inC a && decide (a.state = 4)
    let gb := inC b && decide (b.state = 4)
    if ga && gb then some (if a.sequence < b.sequence then 1 else 0)
    else if ga then some 0 else if gb then some 1 else none
  let fallback : State × Nat := match t with
    | some i =>
      let f := s.store.slot i
      if f.trialBoots < 3 then
        let s1 := s.bootTrailer i { f with trialBoots := f.trialBoots + 1 }
        (({ s1 with store := { s1.store with running := i, lastBoot := 1 } } : State), 1)
      else
        let s1 := s.bootTrailer i { f with state := 5 }
        (({ s1 with bootEvents := s1.bootEvents ++ [{ code := 0x0509, detail := [i, 1] }] } : State), 2)
    | none => (s, 0)
  if fallback.2 = 1 then
    let i := fallback.1.store.running
    { fallback.1 with bootEvents := fallback.1.bootEvents ++ [{ code := 0x0507, detail := [i, (fallback.1.store.slot i).trialBoots] }] }
  else
    match good with
    | some g =>
      let left := s.store.inRecoveryBefore
      { fallback.1 with
        store := { fallback.1.store with
          running := g, lastBoot := if fallback.2 = 2 ∨ s.store.lastBoot = 4 then 2 else 0, inRecoveryBefore := false }
        bootEvents := fallback.1.bootEvents ++ (if left then [{ code := 0x050B, detail := [g] }] else []) }
    | none => { fallback.1 with
        store := { fallback.1.store with lastBoot := 3, inRecoveryBefore := true }
        power := { fallback.1.power with recovery := true } }

/-! ### Commands -/

/-- A store begins: the configuration for partition 2, otherwise one page with its trailer; a supply that does
not meet the precondition refuses it (R538, R543, R547). -/
def State.store1 (s : State) (partition page : Nat) (content : List Byte) : State :=
  if s.supplyStable then
    if partition = 2 then s.storeConfig
    else (s.writePage (partitionBase partition + page) (if partition = 5 then 3 else 1) content).storeDone
  else s.storeRefused partition

/-- `STORE`. -/
def execStore (t partition page : Nat) (content : List Byte) (s : State) : Out :=
  .next ((s.at t).store1 partition page content)

/-- A corrected word is counted and written back as a store; event 0x0504 at most once an hour (R540). -/
def State.correctedWord (s : State) (page : Nat) : State :=
  let s1 : State := { s with store := { s.store with correctedHour := s.store.correctedHour + 1 } }
  let s2 := s1.count 0x1600 7
  let s3 := if s2.supplyStable then s2.storeDone else s2.storeRefused (partitionOf page)
  let lim : Option Limit := some { n := 1, period := sec 3600, unit := 0 }
  let now := s3.mayDeliver 0x0504 lim
  let s4 := s3.raise 0x0504 (dU 4 s3.store.correctedHour) [0] lim
  if now then { s4 with store := { s4.store with correctedHour := 0 } } else s4

/-- `CORRECTED_WORD`. -/
def execCorrectedWord (t page : Nat) (s : State) : Out := .next ((s.at t).correctedWord page)

/-- An uncorrectable word fails its page: counted, event 0x0505, and the page handled as its partition says
(R541, Table 1 of chapter 17). -/
def State.uncorrectablePage (s : State) (page : Nat) : State :=
  let p := partitionOf page
  let old := s.page page
  let s1 : State := { s with
   store := { s.store with
    pages := NMap.put s.store.pages page { old with isSealed := false }
    slotA := if p = 0 then { s.store.slotA with verifies := false } else s.store.slotA
    slotB := if p = 1 then { s.store.slotB with verifies := false } else s.store.slotB
    copyA := if p = 2 ∧ page < 2176 then { s.store.copyA with valid := false } else s.store.copyA
    copyB := if p = 2 ∧ 2176 ≤ page then { s.store.copyB with valid := false } else s.store.copyB }
   sweep := { s.sweep with validA := s.sweep.validA && decide (page ≠ 2558), validB := s.sweep.validB && decide (page ≠ 2559) } }
  (s1.count 0x1600 8).raise 0x0505 ([p] ++ dU 2 (page - partitionBase p)) [0]

/-- `UNCORRECTABLE_PAGE`. -/
def execUncorrectablePage (t page : Nat) (s : State) : Out := .next ((s.at t).uncorrectablePage page)

/-- In idle time every sealed page of partitions 2–5 is read once every 7 days (R540). -/
def State.scrub (s : State) (page : Nat) : State :=
  if 2048 ≤ page ∧ page < 8192 ∧ (s.page page).isSealed ∧ (s.page page).readDue ≤ s.now then
    ({ s with store := { s.store with
        pages := NMap.put s.store.pages page { s.page page with readDue := s.now + sec 604800 } } } : State).count 0x1600 12
  else s

/-- `MRAM_SCRUB`. -/
def execMramScrub (t page : Nat) (s : State) : Out := .next ((s.at t).awake (fun st => st.scrub page))

/-- VSYS and its slope are measured (R543). -/
def State.vsysMeasured (s : State) (mv : Nat) (slope : Int) : State :=
  { s with power := { s.power with
    vsys := mv, slope := slope, lowestVsys := if mv < s.power.lowestVsys then mv else s.power.lowestVsys } }

/-- `VSYS_MEASUREMENT`. -/
def execVsysMeasurement (t mv : Nat) (slope : Int) (s : State) : Out := .next ((s.at t).vsysMeasured mv slope)

end Sys2Proof.Machine
end

