-- ==== Sys2Proof/Machine/Charter.lean ====
section
/-! DEFINITION. The charters and the shade emission policy: bands, masks, hop sets, power limits
(chapter 3, R1–R5, R38, R96, R97, R114–R118, R668). -/

namespace Sys2Proof.Machine

/-- No band: what a band record reads as where the fused charter has none. -/
def noBand : Band :=
  { low := 0xFFFF, high := 0xFFFF, conducted := 0, eirp := 0, dwell := 0, reuse := 0, period := 0,
    occupancy := 0, modulations := 0, minHop := 0 }

/-- Whether the fused charter is in effect (R3, R120, R121). -/
def State.chartered (s : State) : Bool := decide (s.fuses.charterState = 1)

/-- The fused band record b. -/
def State.fusedBand (s : State) (b : Nat) : Band := tget s.fuses.charter.bands b noBand

/-- A field of a band record as `0x2010`+b gives it, subindices 1–10. -/
def bandField (b : Band) (sub : Nat) : Int :=
  if sub = 1 then b.low else if sub = 2 then b.high else if sub = 3 then b.conducted
  else if sub = 4 then b.eirp else if sub = 5 then b.dwell else if sub = 6 then b.reuse
  else if sub = 7 then b.period else if sub = 8 then b.occupancy else if sub = 9 then b.modulations
  else b.minHop

/-- A field of site band record b: what Slate has committed, or the fused value (Table 10). -/
def State.siteField (s : State) (b sub : Nat) : Int :=
  match NMap.get? s.dict (key (0x2020 + b) sub) with
  | some v => v.toInt
  | none => bandField (s.fusedBand b) sub

/-- The site band record b. -/
def State.siteBand (s : State) (b : Nat) : Band :=
  let f := s.siteField b
  { low := (f 1).toNat, high := (f 2).toNat, conducted := f 3, eirp := f 4, dwell := (f 5).toNat,
    reuse := (f 6).toNat, period := (f 7).toNat, occupancy := (f 8).toNat, modulations := (f 9).toNat,
    minHop := (f 10).toNat }

/-- Whether a site band record only narrows the fused one (R668). -/
def narrows (site fused : Band) : Bool :=
  decide (site.conducted ≤ fused.conducted) && decide (site.eirp ≤ fused.eirp) && decide (site.dwell ≤ fused.dwell) &&
  decide (fused.reuse ≤ site.reuse) && decide (site.modulations &&& fused.modulations = site.modulations) &&
  (decide (fused.period = 0) ||
    (decide (fused.period ≤ site.period) && decide (site.period ≠ 0) && decide (site.occupancy ≤ fused.occupancy)))

/-- The channel list of the fused charter. -/
def State.channels (s : State) : List Nat := s.fuses.charter.channels

/-- The channel number at a list index. -/
def State.channelAt (s : State) (i : Nat) : Nat := tget s.channels i 0xFFFF

/-- Every list index of the fused channel list as a mask. -/
def State.fusedMask (s : State) : Nat := 2 ^ s.channels.length - 1

/-- The site channel mask; all fused channels where Slate has written none (Table 13). -/
def State.siteMask (s : State) : Nat :=
  match NMap.get? s.dict (key 0x2030 3) with
  | some v => v.toInt.toNat
  | none => s.fusedMask

/-- The band that a channel number lies in. -/
def State.bandOf (s : State) (ch : Nat) : Option Nat :=
  (List.range 4).find? (fun b => decide ((s.fusedBand b).low ≠ 0xFFFF) && decide ((s.fusedBand b).low ≤ ch) &&
    decide (ch ≤ (s.fusedBand b).high))

/-- Whether both channel masks permit a list index for a shade (R117). -/
def State.indexPermitted (s : State) (sh i : Nat) : Bool :=
  decide (i < s.channels.length) && bitOf s.siteMask i && bitOf (s.nat (0x2040 + sh) 2) i

/-- The channels of a band that both masks permit for a shade (R117). -/
def State.bandCount (s : State) (sh b : Nat) : Nat :=
  ((List.range s.channels.length).filter (fun i => s.indexPermitted sh i && decide (s.bandOf (s.channelAt i) = some b))).length

/-- Whether a shade's count in a band is at least one but below the band's minimum (R117). -/
def State.bandShort (s : State) (sh b : Nat) : Bool :=
  decide (0 < s.bandCount sh b) && decide (s.bandCount sh b < (s.fusedBand b).minHop)

/-- Whether the modulation masks of a band and of the shade permit a modulation (R93). -/
def State.modulationPermitted (s : State) (sh b m : Nat) : Bool :=
  bitOf (s.fusedBand b).modulations m && bitOf (s.siteBand b).modulations m && bitOf (s.nat (0x2040 + sh) 3) m

/-- The list indices on which a shade's windows may have an unmodulated carrier: permitted by both masks, in a band that is not
short of channels (R111, R117). -/
def State.carrierSet (s : State) (sh : Nat) : List Nat :=
  if s.chartered then
    (List.range s.channels.length).filter (fun i => s.indexPermitted sh i &&
      (match s.bandOf (s.channelAt i) with
       | some b => !s.bandShort sh b
       | none => false))
  else []

/-- The hop set of a quad in a window of a shade for a modulation (R117). -/
def State.hopSet (s : State) (sh m : Nat) : List Nat :=
  if s.chartered then
    (List.range s.channels.length).filter (fun i => s.indexPermitted sh i &&
      (match s.bandOf (s.channelAt i) with
       | some b => s.modulationPermitted sh b m && !s.bandShort sh b
       | none => false))
  else []

/-- Whether the module's state stops UHF emission: safe state, up to the slot boundary after it is left (R582), an
unchartered or failed charter, or no permitted channel (Table 6). -/
def State.blocked (s : State) : Bool :=
  s.inSafe || s.safe.leaving || !s.chartered || decide (s.inForce.siteMask &&& s.fusedMask = 0)

/-- The HF ceiling: the fused one narrowed by the site's (Table 13, R297). -/
def State.siteHf (s : State) : Nat :=
  match NMap.get? s.dict (key 0x2030 4) with
  | some v => v.toInt.toNat
  | none => s.fuses.charter.hfCeiling

/-- The bands that are short of channels for a shade in a state and were not in another: event 0x2005 names each (R117). -/
def State.newlyShort (o s : State) : List (Nat × Nat) :=
  (List.range 8).flatMap (fun sh => ((List.range 4).filter (fun b => s.bandShort sh b && !o.bandShort sh b)).map (fun b => (sh, b)))

/-- The detail of event 0x2005 (Table 16). -/
def State.shortDetail (s : State) (e : Nat × Nat) : List Nat := [e.2, e.1, satTo 255 (s.bandCount e.1 e.2), (s.fusedBand e.2).minHop]

/-- Event 0x2005 for each band that a change other than a commit left short of channels (R117). -/
def State.hopSetsFell (o s : State) : State := (State.newlyShort o s).foldl (fun st e => st.raise 0x2005 (s.shortDetail e) st.allJoined) s

/-- An EIRP limit as a conducted limit at the land of a port: L − G + C (R97). -/
def State.fromEirp (s : State) (port : Nat) (l : Int) : Int := l - s.int (0x2100 + port) 6 + s.int (0x2100 + port) 7

/-- A power rounded down to a 0.25 dB step (R96). -/
def quarter (p : Int) : Int := p.fdiv 25 * 25

/-- The thermal limit of a bank: +31.50 dBm less the slope for each kelvin above the threshold, in whole 0.01 dBm rounded down
(R98). -/
def State.thermalLimit (s : State) (temp : Int) : Int :=
  if temp ≤ s.int 0x2060 1 then 3150
  else (31500 - (temp - s.int 0x2060 1) * s.int 0x2060 2 * 5).fdiv 10

/-- The seven limits of R96 in their order: request, fused conducted, fused EIRP, site conducted, site EIRP,
shade policy, thermal. -/
def State.powerLimits (s : State) (sh port b : Nat) (request : Int) : List Int :=
  [request, (s.fusedBand b).conducted, s.fromEirp port (s.fusedBand b).eirp, (s.siteBand b).conducted,
   s.fromEirp port (s.siteBand b).eirp, s.int (0x2040 + sh) 1,
   s.thermalLimit (tget s.banks (port / 16) bankAtReset).temp]

/-- The smallest of the limits, each rounded down to a 0.25 dB step. -/
def smallest (l : List Int) : Int := l.foldl (fun m x => if quarter x < m then quarter x else m) 10000

/-- The target power of R96. -/
def State.targetPower (s : State) (sh port b : Nat) (request : Int) : Int := smallest (s.powerLimits sh port b request)

/-- The binding limit: the highest code among the limits that equal the target (R96). -/
def State.bindingLimit (s : State) (sh port b : Nat) (request : Int) : Nat :=
  let l := s.powerLimits sh port b request
  ((List.range 7).filter (fun i => decide (quarter (tget l i 10000) = smallest l))).foldl peak 0

/-- Whether a charter that a station writes keeps the ceilings of Table 1 of chapter 0, and its bands the UHF ceiling (R1, R2, R114). -/
def charterFits (c : Charter) : Bool :=
  decide (c.uhfCeiling ≤ 3150) && decide (c.hfCeiling ≤ 1000) && c.bands.all (fun b => decide (b.conducted ≤ c.uhfCeiling))

/-- The clear VSWR at a probe, 0.01, by trip code (Table 4). -/
def clearVswr (code : Nat) : Nat := tget [180, 220, 260, 340, 420, 500] code 180

/-- The trip VSWR, 0.01, by trip code (Table 4). -/
def tripVswr (code : Nat) : Nat := tget [200, 250, 300, 400, 500, 600] code 200

/-- The requested state of a port (R107). -/
def State.enabled (s : State) (port : Nat) : Bool := decide (s.nat (0x2100 + port) 1 = 1)

end Sys2Proof.Machine
end

