-- ==== Sys2Proof/Machine/Timers.lean ====
section
/-! DEFINITION. Timers and counters: counts, compares, captures, triggers, strikes, releases, deep-standby counting
(chapter 15, R489–R509). -/

namespace Sys2Proof.Machine

/-- A timer. -/
def State.timer (s : State) (n : Nat) : Timer := tget s.timers n (timerAtReset n)

/-- Change a timer. -/
def State.modTimer (s : State) (n : Nat) (f : Timer → Timer) : State := { s with timers := tmod s.timers n f }

/-- A channel of a timer. -/
def Timer.ch (x : Timer) (c : Nat) : Chan := if c = 0 then x.ch0 else x.ch1

/-- A timer with a channel changed. -/
def Timer.modCh (x : Timer) (c : Nat) (f : Chan → Chan) : Timer :=
  if c = 0 then { x with ch0 := f x.ch0 } else { x with ch1 := f x.ch1 }

/-- Bus ticks that a timer has counted since its base tick. In HJ12 deep standby, and from a wake to the next edge, they come
in steps of 3750, one for each 32.768 kHz edge from the entry on (R507; log entry 25). -/
def Timer.elapsed (x : Timer) (t : Nat) : Nat :=
  match x.slow with
  | none => (if t < x.resume then x.resume - 3750 else t) - x.baseTick
  | some d => (d - x.baseTick) + (t - d) / 3750 * 3750

/-- The count at a tick (R489). -/
def Timer.count (x : Timer) (t : Nat) : Nat := (x.base + x.elapsed t / 2 ^ x.p) % 2 ^ 32

/-- A channel of a Belfry timer fires or captures, with the value that its record shows (R491, Table 2 of chapter 15). -/
def State.belfryTick (s : State) (n c v : Nat) : State :=
  s.modTimer n (fun x => x.modCh c (fun y => { y with compare := v % 2 ^ 32, capture := v % 2 ^ 32, fires := (y.fires + 1) % 2 ^ 30 }))

/-- A change of prescaler: the count keeps its value and the divider restarts at the next edge (R490). -/
def Timer.setPrescaler (x : Timer) (t p : Nat) : Timer :=
  { x with p := p, base := x.count t, baseTick := t + 1, slow := x.slow.map (fun _ => t + 1), resume := 0 }

/-! ### Configuration (Table 8 of chapter 15) -/

/-- The configuration of a channel. -/
def State.chanConfig (s : State) (n c : Nat) : Nat := s.nat (0x1910 + n) (if c = 0 then 5 else 9)

/-- The mode of a configuration: 0 off, 1 compare, 2 capture, 3 triggered compare. -/
def modeOf (config : Nat) : Nat := config % 8

/-- The action of a configuration: 0 none, 1 set, 2 clear, 3 toggle. -/
def actionOf (config : Nat) : Nat := config / 8 % 4

/-- The master of a configuration, timer and channel. -/
def masterOf (config : Nat) : Nat × Nat := (config / 2 ^ 24 % 16, config / 2 ^ 28 % 2)

/-- The shade to which a timer is granted by `0x1310`+s:08; 0xFF none (R492). -/
def State.granteeOf (s : State) (n : Nat) : Nat :=
  if n < 4 then 0xFE
  else ((List.range 8).find? (fun i => bitOf (s.nat (0x1310 + i) 8) n && decide (s.shadeState i ≠ 0))).getD 0xFF

/-- Whom a timer's events reach: its owner and Slate (R509). -/
def State.timerReach (s : State) (n : Nat) : List Nat :=
  let h := (s.timer n).holder
  if h < 8 then withSlate h else [0]

/-! ### Events (R509) -/

/-- Event 0x1202 or 0x1203 of a channel, at most 10 deliveries a second; the others are counted for event 0x1204. -/
def State.timerEvent (s : State) (code n c v : Nat) : State :=
  let lim : Option Limit := some { n := 10, period := sec 1, unit := 2 * n + c }
  let s1 := if s.mayDeliver code lim then s
    else (s.modTimer n (fun x => x.modCh c (fun y => { y with suppressed := y.suppressed + 1 }))).count 0x1900 4
  s1.raise code ([n, c] ++ dU 4 v) (s.timerReach n) lim

/-! ### Master events (R499, R500) -/

/-- Whether a channel takes an event of a master: it waits, or it is armed with the retrigger bit. -/
def State.takesMaster (s : State) (n c m mc : Nat) : Bool :=
  let cfg := s.chanConfig n c
  let y := (s.timer n).ch c
  decide (modeOf cfg = 3) && decide (masterOf cfg = (m, mc)) && (decide (y.state = 2) || (decide (y.state = 1) && bitOf cfg 29))

/-- A channel's compare is placed its offset after the master's event, at the next bus clock edge. -/
def State.placeChannel (s : State) (n c : Nat) : State :=
  s.modTimer n (fun x => x.modCh c (fun y => { y with
    state := 1, compare := (x.count (s.now + 1) + y.offset) % 2 ^ 32, armTick := s.now + 1 }))

/-- Every channel that a master's event places. -/
def State.masterEvent (s : State) (m mc : Nat) : State :=
  (List.range 32).foldl (fun st i => if s.takesMaster (i / 2) (i % 2) m mc then st.placeChannel (i / 2) (i % 2) else st) s

/-! ### Compare (R494–R496, R502) -/

/-- Whether an armed channel fires at this edge. -/
def Timer.due (x : Timer) (c now : Nat) : Bool :=
  let y := x.ch c
  decide (y.state = 1) && decide (y.armTick < now) && decide ((x.count now + 2 ^ 32 - y.compare) % 2 ^ 32 < 2 ^ 31)

/-- An output after an action. -/
def applyAction (action : Nat) (level : Bool) : Bool :=
  if action = 1 then true else if action = 2 then false else if action = 3 then !level else level

/-- A channel fires: it disarms, or waits for its master again; its action applies unless channel 1 fires at the same
edge too; masters and events follow. -/
def State.fire (s : State) (n c : Nat) : State :=
  let x := s.timer n
  let cfg := s.chanConfig n c
  if !x.due c s.now then s
  else
    let y := x.ch c
    let lost := decide (c = 0) && (x.due 1 s.now || decide (x.fired1 = some s.now))
    let act := if lost then 0 else y.action.getD (actionOf cfg)
    let s1 := s.modTimer n (fun x =>
      { x.modCh c (fun y => { y with
          state := if modeOf cfg = 3 then 2 else 0, action := none, fires := (y.fires + 1) % 2 ^ 30 }) with
        output := applyAction act x.output, fired1 := if c = 1 then some s.now else x.fired1 })
    let s2 := s1.masterEvent n c
    if bitOf cfg 5 then s2.timerEvent 0x1202 n c y.compare else s2

/-- `COMPARE_FIRE`. -/
def execCompareFire (t timer channel : Nat) (s : State) : Out := .next ((s.at t).fire timer channel)

/-- Arm a channel by a write of its arm subindex; answers the status (R495, R499): 0x0106 while the channel is off or
captures, or where an offset exceeds 2^31 − 1. -/
def State.armChannel (s : State) (n c v : Nat) : Nat × State :=
  let mode := modeOf (s.chanConfig n c)
  if mode = 1 then
    (0, s.modTimer n (fun x => x.modCh c (fun y => { y with state := 1, compare := v % 2 ^ 32, action := none, armTick := s.now })))
  else if mode = 3 then
    if 2 ^ 31 ≤ v then (0x0106, s)
    else (0, s.modTimer n (fun x => x.modCh c (fun y => { y with state := 2, offset := v, action := none })))
  else (0x0106, s)

/-- Drive an output to a level (R496). -/
def State.forceOutput (s : State) (n : Nat) (level : Bool) : State := s.modTimer n (fun x => { x with output := level })

/-- A configuration takes effect: a change of mode or master disarms the channel (R502). -/
def State.configChanged (s : State) (n c old : Nat) : State :=
  let new := s.chanConfig n c
  if modeOf new = modeOf old ∧ masterOf new = masterOf old then s
  else s.modTimer n (fun x => x.modCh c (fun y => { y with state := 0, action := none }))

/-- A prescaler of the dictionary takes effect (R490). -/
def State.applyPrescaler (s : State) (n : Nat) : State :=
  let p := s.nat (0x1910 + n) 2
  if (s.timer n).p = p then s else s.modTimer n (fun x => x.setPrescaler s.now p)

/-- `PRESCALER`: the prescaler that a commit left takes effect at the first edge after it. -/
def execPrescaler (t timer : Nat) (s : State) : Out := .next ((s.at t).applyPrescaler timer)

/-! ### Capture (R498) -/

/-- Whether a channel may capture its GPIO: an input whose record names the channel's timer. -/
def State.mayCapture (s : State) (n config : Nat) : Bool :=
  let g := config / 2 ^ 8 % 16
  decide (s.nat (0x1940 + g) 1 = 0) && decide (s.nat (0x1940 + g) 2 = n)

/-- Whether a channel passes an edge of a direction. -/
def passesEdge (config : Nat) (rising : Bool) : Bool :=
  let e := config / 2 ^ 6 % 4
  decide (e = 2) || decide (e = (if rising then 0 else 1))

/-- An input edge that the divider passes latches the count (R498). -/
def State.captureEdge (s : State) (n c : Nat) (rising : Bool) : State :=
  let cfg := s.chanConfig n c
  if modeOf cfg = 2 ∧ s.mayCapture n cfg = true ∧ passesEdge cfg rising = true then
    let v := (s.timer n).count s.now
    let s1 := s.modTimer n (fun x => x.modCh c (fun y => { y with capture := v, fires := (y.fires + 1) % 2 ^ 30 }))
    let s2 := s1.masterEvent n c
    if bitOf cfg 5 then s2.timerEvent 0x1203 n c v else s2
  else s

/-- `CAPTURE`: the direction of the edge. -/
def execCapture (t timer channel : Nat) (rising : Bool) (s : State) : Out := .next ((s.at t).captureEdge timer channel rising)

/-! ### Strikes (R317, R318, R497) -/

/-- A pulse length in ticks of a timer, rounded up. -/
def Timer.pulseTicks (x : Timer) (millis : Nat) : Nat := ceilDiv (ms millis) (2 ^ x.p)

/-- A strike: channel 0 sets the output at the next edge, unless it is high already; channel 1 clears it after the
pulse. Answers whether the pulse is new. -/
def State.strikeTimer (s : State) (n millis : Nat) : Bool × State :=
  let x := s.timer n
  let now := x.count s.now
  let arm := fun (v action : Nat) (y : Chan) => ({ y with state := 1, compare := v % 2 ^ 32, action := some action, armTick := s.now } : Chan)
  let s1 := s.modTimer n (fun x => x.modCh 1 (arm (now + x.pulseTicks millis) 2))
  if x.output then (false, s1) else (true, s1.modTimer n (fun x => x.modCh 0 (arm now 1)))

/-! ### Release (R493) -/

/-- A timer's record returns to its defaults, its channels disarmed and its output low; the count runs on. -/
def State.clearTimer (s : State) (n : Nat) : State :=
  let i := 0x1910 + n
  let s1 := [2, 5, 9].foldl (fun st sub => st.toDefault (key i sub)) s
  (s1.applyPrescaler n).modTimer n (fun x => { x with ch0 := chanAtReset, ch1 := chanAtReset, output := false })

/-- Release a timer: event 0x1201 with its cause, 1 grant withdrawn, 2 shade erased. -/
def State.releaseTimer (s : State) (n cause : Nat) : State :=
  let h := (s.timer n).holder
  let s1 := (s.clearTimer n).modTimer n (fun x => { x with holder := 0xFF })
  if h < 8 then s1.raise 0x1201 [n, h, cause] (withSlate h) else s1

/-- A timer follows its grant: a withdrawn one is released (R493). -/
def State.followGrant (s : State) (n cause : Nat) : State :=
  let g := s.granteeOf n
  let h := (s.timer n).holder
  if n < 4 ∨ g = h then s
  else (if h < 8 then s.releaseTimer n cause else s).modTimer n (fun x => { x with holder := g })

/-- Every timer follows its grant. -/
def State.followGrants (s : State) (cause : Nat) : State :=
  (List.range 16).foldl (fun st n => st.followGrant n cause) s

/-- `TIMER_RELEASED`: a grant that was withdrawn releases the timer. -/
def execTimerReleased (t timer : Nat) (s : State) : Out := .next ((s.at t).followGrant timer 1)

/-- Once a minute, the events of a channel that the limit held back are summed in event 0x1204 (R509). -/
def State.sumSuppressed (s : State) (n c : Nat) : State :=
  let y := (s.timer n).ch c
  if 0 < y.suppressed ∧ y.summed + sec 60 ≤ s.now then
    (s.modTimer n (fun x => x.modCh c (fun y => { y with suppressed := 0, summed := s.now }))).raise 0x1204
      ([n, c] ++ dU 4 (satTo 0xFFFFFFFF y.suppressed)) (s.timerReach n)
  else s

/-- `TIMER_EVENTS_SUPPRESSED`. -/
def execTimerEventsSuppressed (t timer channel : Nat) (s : State) : Out := .next ((s.at t).sumSuppressed timer channel)

/-! ### Deep standby (R506, R507) -/

/-- The module enters deep standby: in HJ12 compatibility mode TMR4–TMR15 count from the 32.768 kHz clock, unless the
oscillator-stopped flag is set, with event 0x1205. -/
def State.timersDeep (s : State) (oscillatorStopped : Bool) : State :=
  if s.nat 0x1900 1 = 0 then s
  else if oscillatorStopped then s.raise 0x1205 [3] [0]
  else ({ s with timers := s.timers.mapIdx (fun n x => if n < 4 then x else { x with slow := some s.now }) } : State).raise 0x1205 [1] [0]

/-- It wakes: counting returns to the bus clock at the next 32.768 kHz edge, without a step back, and the span is counted. -/
def State.timersWake (s : State) : State :=
  match (s.timer 4).slow with
  | none => s
  | some d =>
    (({ s with timers := s.timers.map (fun x => match x.slow with
        | some e => { x with
            slow := none, baseTick := if e < x.baseTick then e else x.baseTick, resume := e + ((s.now - e) / 3750 + 1) * 3750 }
        | none => x) } : State).count 0x1900 3).raise 0x1205 ([2] ++ dU 4 (satTo 0xFFFFFFFF ((s.now - d) / 122880))) [0]

/-! ### Levels and the record (Tables 5 and 7 of chapter 15) -/

/-- The level at a GPIO land (R503, R504): what an output drives; an input's level is a measurement that no command brings, a
free value (log entry 3). -/
def State.gpioLevel (s : State) (g : Nat) : Bool :=
  let f := s.nat (0x1940 + g) 1
  let n := s.nat (0x1940 + g) 2
  if f = 1 ∧ n < 16 then (s.timer n).output != s.flag (0x1940 + g) 3
  else if f = 2 then s.flag (0x1940 + g) 4
  else bitOf (Config.freeValue (s.freeCount + 2 + g)) 0

/-- Subindices 7 and 8 of a channel: compare in effect, offset or last capture; state and count. -/
def State.chanValue (s : State) (n c : Nat) : Nat :=
  let y := (s.timer n).ch c
  let mode := modeOf (s.chanConfig n c)
  if mode = 2 ∨ (n = 0 ∧ c = 0) then y.capture else if mode = 3 ∧ y.state ≠ 1 then y.offset else y.compare

/-- Status and count of a channel. -/
def Chan.status (y : Chan) : Nat := y.state * 2 ^ 30 + y.fires

end Sys2Proof.Machine
end

