-- ==== Sys2Proof/Machine/Belfry.lean ====
section
/-! DEFINITION. The Belfry: mains capture and its tracker, timing sources, the ceiling rate, CAL_SYNC
(chapter 2, R52–R63, R73–R79, R84, R666). What the loops compute from measurements (a tracked rate, a wanted
correction) is carried by the command; the clamps, the pinned count, the states and the sources are computed. -/

namespace Sys2Proof.Machine

/-- Change the Belfry. -/
def State.modBelfry (s : State) (f : Belfry → Belfry) : State := { s with belfry := f s.belfry }

/-- The cascade role in effect: a leader that saw a conflict runs as a standalone module (R79). -/
def State.role (s : State) : Nat := if s.belfry.conflict then 0 else s.nat 0x1B02 4

/-- INC_f of a frequency in 0.01 Hz: 2^48 × f ÷ 122.88 MHz (Table 3 of chapter 2). -/
def incOf (f : Nat) : Nat := 2 ^ 48 * f / 12288000000

/-- The nominal period of `0x1B01:01` in bus ticks. -/
def State.nominalPeriod (s : State) : Nat := 12288000000 / s.nat 0x1B01 1

/-- The mains phase offset in units of 2^−48 cycle (R62). -/
def State.phaseOffset (s : State) : Nat := s.nat 0x1B02 1 * 2 ^ 48 / 3

/-- The bound of the correction: the clamp, in per-mille, of INC_f (R56). -/
def State.correctionBound (s : State) : Int := (s.belfry.incF * s.nat 0x1B01 10 / 1000 : Nat)

/-- A value held between −b and +b. -/
def clampTo (b v : Int) : Int := if b < v then b else if v < -b then -b else v

/-- The ceiling that the next slot boundary publishes, × 1000: INC_f × (1000 + clamp), and never more than
1 part in 10^5 above the one before (R58). -/
def State.nextCeil (s : State) : Nat :=
  let want := s.belfry.incF * (1000 + s.nat 0x1B01 10)
  let most := s.belfry.ceilK * 100001 / 100000
  if want ≤ most then want else most

/-- The earliest tick at which the boundary `k` slots after the latest one can arrive (R58). The boundary
before stands at `slotTick`; each further slot is computed at a ceiling raised by 1 part in 10^5. -/
def earliest (start ceilK : Nat) : Nat → Nat
  | 0 => start
  | k + 1 => earliest (start + 2 ^ 44 * 1000 / ceilK) (ceilK * 100001 / 100000) k

/-- The earliest tick of the boundary `k` slots ahead (R58). -/
def State.earliestBoundary (s : State) (k : Nat) : Nat := earliest s.belfry.slotTick s.belfry.ceilK k

/-- The accumulator at an earlier tick, at the present rate. -/
def Belfry.phaseAt (b : Belfry) (tick : Int) : Int := b.phase - ((b.tick : Int) - tick) * b.rateK / 1000

/-- A phase difference brought into ± half a cycle. -/
def wrapPhase (d : Int) : Int :=
  let m := d.emod (2 ^ 48)
  if m < 2 ^ 47 then m else m - 2 ^ 48

/-- A phase in 2^−48 cycle as hundredths of a degree. -/
def centidegrees (d : Int) : Int := (d * 36000).fdiv (2 ^ 48)

/-- The moment that a captured edge marks: the filter's delay and the compensation subtracted (R53). -/
def State.edgeTime (s : State) : Int :=
  (s.now : Int) - (s.nat 0x1B01 4 * 128 : Nat) - s.int 0x1B01 6 * 3072 / 25

/-- The phase error of a capture: the building phase of its crossing, which is the mains phase offset, less the
phase held (R54, R62). The edge captured is taken as the crossing under either polarity (log entry 79). -/
def State.captureError (s : State) : Int :=
  centidegrees (wrapPhase ((s.phaseOffset : Int) - s.belfry.phaseAt s.edgeTime))

/-- Enter a timing source; free-run has no correction (Table 3 of chapter 2). -/
def State.setSource (s : State) (src : Nat) : State :=
  let s1 := s.set 0x1B00 2 src
  if src = 1 then s1.modBelfry (fun b => { b with incF := incOf (s.nat 0x1B01 1), incC := 0, pinned := 0 })
  else if src = 3 then s1.modBelfry (fun b => { b with incC := 0, pinned := 0 })
  else s1

/-- The source that a tracker with no usable frequency leaves: nominal for a standalone module or a leader,
holdover for a follower that ran on its own mains (R60, R666, R78). -/
def State.sourceAfterLoss (s : State) : State :=
  if s.nat 0x1B00 2 = 0 then s.setSource (if s.role = 2 then 3 else 1) else s

/-- The tracker enters lost: event 0x1002 with its cause (R60). -/
def State.mainsLost (s : State) (cause : Nat) : State :=
  let s1 := (s.set 0x1B00 1 2).modBelfry (fun b =>
    { b with estimate := false, lastCapture := none, good := 0, badFrequency := 0, overUnlock := 0 })
  s1.sourceAfterLoss.raise 0x1002 ([cause, 0] ++ dU 2 (s.nat 0x1B00 7)) s.allJoined

/-- A wanted correction applied within the clamp; a correction at the clamp is a pinned step, and the 64th in
succession raises event 0x1004 (R56, R57). -/
def State.correct (s : State) (incF : Nat) (want err : Int) : State :=
  let s0 := s.modBelfry (fun b => { b with incF := incF })
  let bound := s0.correctionBound
  let pinned := decide (bound ≤ want) || decide (want ≤ -bound)
  let n := if pinned then s.belfry.pinned + 1 else 0
  let s1 := s0.modBelfry (fun b => { b with incC := clampTo bound want, pinned := n })
  let s2 := if pinned then s1.lanternLoop 6 0 err err n else s1
  if n = 64 then s2.raise 0x1004 (dI 2 err ++ [s.nat 0x1B00 2]) s.allJoined else s2

/-- The source changes at the tracker's first estimate (a standalone module or a leader) or at its lock (a
follower in holdover) (R666, Table 3 of chapter 2). -/
def State.ownMains (s : State) : State :=
  if s.role = 2 then (if s.nat 0x1B00 2 = 3 ∧ s.nat 0x1B00 1 = 1 then s.setSource 0 else s)
  else if s.belfry.estimate ∧ s.nat 0x1B00 2 ≠ 0 then s.setSource 0 else s

/-- A capture: period, frequency, phase error, tracker state and, where it is valid and the source is own
mains, the correction (R54, Table 2 of chapter 2). Only a valid capture is a frequency estimate (log entry 78), and an invalid
one neither counts as a pinned step nor ends the run of them (log entry 80). -/
def State.capture (s : State) (incF : Nat) (want : Int) : State :=
  let n := s.nat 0x1B01 3
  let err := s.captureError
  let s1 := (s.set 0x1B00 8 err).modBelfry (fun b => { b with lastCapture := some s.now })
  match s.belfry.lastCapture with
  | none => s1
  | some c =>
    let dt := s.now - c
    let f := 12288000000 * n / dt
    let valid := decide (45 * dt ≤ 122880000 * n) && decide (122880000 * n ≤ 66 * dt)
    let within := valid && decide (err.natAbs ≤ s.nat 0x1B01 8)
    let state := s.nat 0x1B00 1
    let s2 := (s1.set 0x1B00 7 (satTo 65535 f)).modBelfry (fun b => { b with
      estimate := b.estimate || valid
      validSince := if valid then satTo 65535 (b.validSince + 1) else b.validSince
      good := if within then b.good + 1 else 0
      badFrequency := if valid then 0 else b.badFrequency + 1
      overUnlock := if s.nat 0x1B01 9 < err.natAbs then b.overUnlock + 1 else 0 })
    let s3 : State :=
      if state = 0 ∧ 16 ≤ s2.belfry.good then
        (s2.set 0x1B00 1 1).raise 0x1001 (dU 2 (s2.nat 0x1B00 7) ++ dU 2 s2.belfry.validSince) s2.allJoined
      else if state = 1 ∧ 2 ≤ s2.belfry.badFrequency then s2.mainsLost 2
      else if state = 1 ∧ 4 ≤ s2.belfry.overUnlock then s2.mainsLost 3
      else s2
    let s4 := s3.ownMains
    if valid && decide (s4.nat 0x1B00 2 = 0) then s4.correct incF want err else s4

/-- An accepted edge: the first one after a loss moves the tracker to acquiring with event 0x1003; every Nth is
captured (Table 2 of chapter 2, R84). Where no edge came before, event 0x1003 names 0xFFFFFFFF ms (log entry 82). -/
def State.mainsEdge (s : State) (incF : Nat) (want : Int) : State :=
  let ago := match s.belfry.lastEdge with
    | some e => satTo 0xFFFFFFFF ((s.now - e) / 122880)
    | none => 0xFFFFFFFF
  let s1 : State :=
    if s.nat 0x1B00 1 = 2 then
      ((s.set 0x1B00 1 0).modBelfry (fun b => { b with validSince := 0, good := 0 })).raise 0x1003 (dU 4 ago) s.allJoined
    else s
  let e := s1.belfry.edges + 1
  let s2 := (s1.belfryTick 0 0 ((s1.timer 0).count s.now)).modBelfry (fun b => { b with lastEdge := some s.now, edges := if s.nat 0x1B01 3 ≤ e then 0 else e })
  if s.nat 0x1B01 3 ≤ e then s2.capture incF want else s2

/-- `MAINS_EDGE_CAPTURE`: the loop's new tracked rate and the correction it wants come with the edge. Deep standby samples none
(R617). -/
def execMainsEdgeCapture (t incF : Nat) (want : Int) (s : State) : Out := .next ((s.at t).awake (fun st => st.mainsEdge incF want))

/-- No accepted edge for (N + 2) nominal periods loses the mains; bad captures do so at the capture (R60). -/
def State.edgesMissing (s : State) : State :=
  let since := match s.belfry.lastEdge with
    | some e => e
    | none => s.power.releaseTick
  if s.nat 0x1B00 1 ≠ 2 ∧ peak since s.belfry.wakeTick + (s.nat 0x1B01 3 + 2) * s.nominalPeriod ≤ s.now then s.mainsLost 1 else s

/-- `MAINS_LOST`. The tracker's state stays as it is in deep standby (R617). -/
def execMainsLost (t : Nat) (s : State) : Out := .next ((s.at t).awake State.edgesMissing)

/-- `MAINS_SENSE_EDGE_REJECTED`: each change the filter rejects and each edge that blanking ignores counts one; deep standby samples
none (R617). -/
def execMainsSenseEdgeRejected (t : Nat) (s : State) : Out := .next ((s.at t).awake (fun st => st.count 0x1B00 12))

/-! ### CAL_SYNC -/

/-- A follower's fixed internal delay: the 50 ns from the leader's frame boundary to the fall of CAL_SYNC, so
that a correct line delay makes the two frame boundaries coincide (Table 8 of chapter 2; log entry 22). -/
def calSyncDelay : Nat := 6

/-- The tick that a pulse just ended marks as the frame boundary: its falling edge less the internal and the
line delay (R75). -/
def State.pulseBoundary (s : State) (width : Nat) : Int :=
  (s.now : Int) - ns width - calSyncDelay - ns (s.nat 0x1B02 6)

/-- The place of a tick within the follower's own frame, in 2^−48 cycle (R63). -/
def State.frameAt (s : State) (tick : Int) : Int :=
  (s.belfry.phaseAt tick + (s.belfry.frameBase : Int) * 2 ^ 48).emod (2 ^ 51)

/-- The cycle boundary nearest to a tick: the frame boundary that a pulse there stands for. -/
def State.cycleAt (s : State) (tick : Int) : Nat := ((s.belfry.phaseAt tick + 2 ^ 47).fdiv (2 ^ 48)).toNat

/-- The first pulse after reset sets the accumulator to a cycle boundary ahead of the one it holds, and the
frame with it (R76, R59). -/
def State.firstPulse (s : State) (at' : Int) : State :=
  let cycles := (s.belfry.phase + 2 ^ 48 - 1) / 2 ^ 48
  s.modBelfry (fun b => { b with
    phase := cycles * 2 ^ 48 + (((b.tick : Int) - at') * b.rateK / 1000).toNat
    frameBase := (8 - cycles % 8) % 8 })

/-- A pulse more than one slot from the own frame boundary: it becomes the frame boundary (R77). -/
def State.realignFrame (s : State) (at' : Int) : State :=
  s.modBelfry (fun b => { b with frameBase := (8 - s.cycleAt at' % 8) % 8 })

/-- A valid pulse at a follower: answers the new state and whether the frame was realigned under R77. A marker's number stands for
the frame boundary of its falling edge: where the follower has not acted on that boundary yet, reaching it does not count (R75).
A CAL_SYNC pulse leaves the phase error of `0x1B00:08` to the mains captures (log entry 81). -/
def State.validPulse (s : State) (marker : Bool) (width incF : Nat) (want : Int) : State × Bool :=
  let at' := s.pulseBoundary width
  let place := s.frameAt at'
  let first := !s.belfry.hadCalSync
  let slip := !first && decide (2 ^ 44 < place) && decide (place < 2 ^ 51 - 2 ^ 44)
  let err := if first then 0 else centidegrees (wrapPhase (- s.belfry.phaseAt at'))
  let regained := s.belfry.hadCalSync && decide (s.nat 0x1B00 2 ≠ 2)
  let s1 := if first then s.firstPulse at' else if slip then s.realignFrame at' else s
  let s2 := (s1.setSource 2).modBelfry (fun b => { b with
    hadCalSync := true, lastPulse := s.now, noWindow := slip,
    skipInc := marker && decide (s.belfry.slots < 16 * s1.cycleAt at') })
  let s3 := if marker then (s2.set 0x1B00 10 0).set 0x1B00 11 1 else s2
  let s4 := if regained then s3.raise 0x1006 ([b01 slip] ++ dI 2 err) s3.allJoined else s3
  (if first then s4.modBelfry (fun b => { b with incF := incF }) else s4.correct incF want err, slip)

/-- Whether a pulse of a width in ns is an ordinary pulse or a marker (R75). -/
def pulseKind (width : Nat) : Option Bool :=
  if width < 1000 ∨ 10000 < width then none else some (decide (4000 ≤ width))

/-- No valid pulse for two frame periods at the current rate: holdover, with event 0x1005 (R78). -/
def State.calSyncLost (s : State) : State :=
  if s.role = 2 ∧ s.nat 0x1B00 2 = 2 ∧ 16 * 2 ^ 48 * 1000 ≤ (s.now - peak s.belfry.lastPulse s.belfry.wakeTick) * s.belfry.rateK then
    let src := if s.nat 0x1B00 1 = 1 then 0 else 3
    (s.setSource src).raise 0x1005 [src] s.allJoined
  else s

/-- `CAL_SYNC_LOST`. -/
def execCalSyncLost (t : Nat) (s : State) : Out := .next ((s.at t).awake State.calSyncLost)

/-- A leader sees CAL_SYNC low outside its own pulse: it stops driving and runs standalone (R79). The width is in
0.1 µs. -/
def State.calSyncConflict (s : State) (width : Nat) : State :=
  if s.role = 1 ∧ s.belfry.pulseEnd ≤ s.now then
    (s.modBelfry (fun b => { b with conflict := true })).raise 0x1007 (dU 2 (satTo 0xFFFF width)) s.allJoined
  else s

/-- `CAL_SYNC_CONFLICT`. -/
def execCalSyncConflict (t width : Nat) (s : State) : Out := .next ((s.at t).awake (fun st => st.calSyncConflict width))

/-- After deep standby the tracker and CAL_SYNC are sampled again: losses count from here, and the first capture begins a new interval
(R617; log entry 118). -/
def State.belfryWakes (s : State) : State := s.modBelfry (fun b => { b with wakeTick := s.now, lastCapture := none, edges := 0 })

end Sys2Proof.Machine
end

