-- ==== Sys2Proof/Machine/Complex.lean ====
section
/-! DEFINITION. The arithmetic of the quad DSP: complex numbers, the oscillator table, decibels and angles, Hermitian matrices (chapter 5).
The spec fixes no number formats here: sums are exact, and what needs an irrational number takes it from a table (log entry 94). -/

namespace Sys2Proof.Machine

/-! ### Complex numbers -/

/-- Zero. -/
def czero : Cx := { re := 0, im := 0 }

/-- Sum. -/
def cadd (a b : Cx) : Cx := { re := a.re + b.re, im := a.im + b.im }

/-- Difference. -/
def csub (a b : Cx) : Cx := { re := a.re - b.re, im := a.im - b.im }

/-- Product. -/
def cmul (a b : Cx) : Cx := { re := a.re * b.re - a.im * b.im, im := a.re * b.im + a.im * b.re }

/-- Conjugate. -/
def conj (a : Cx) : Cx := { re := a.re, im := -a.im }

/-- A whole multiple. -/
def cscale (k : Int) (a : Cx) : Cx := { re := k * a.re, im := k * a.im }

/-- A part, rounded down. -/
def cdiv (a : Cx) (d : Int) : Cx := { re := a.re.fdiv d, im := a.im.fdiv d }

/-- The squared magnitude. -/
def cabs2 (a : Cx) : Nat := (a.re * a.re + a.im * a.im).toNat

/-- The sum of the magnitudes of both parts. -/
def cabs1 (a : Cx) : Nat := a.re.natAbs + a.im.natAbs

/-- The sum of some complex numbers. -/
def csum (l : List Cx) : Cx := l.foldl cadd czero

/-- The samples of some ports from their I and their Q values. -/
def fromRails (i q : List (List Int)) : List (List Cx) := List.zipWith (List.zipWith (fun a b => { re := a, im := b })) i q

/-- The inner product of two vectors, the first conjugated. -/
def cdot (a b : List Cx) : Cx := csum (List.zipWith (fun x y => cmul (conj x) y) a b)

/-- A component of a vector. -/
def cget (l : List Cx) (i : Nat) : Cx := tget l i czero

/-! ### Oscillators -/

/-- A quarter of a sine, in steps of 1/1024 turn and units of 2^-14. -/
def sineTable : List Int :=
  [0, 101, 201, 302, 402, 503, 603, 704, 804, 904, 1005, 1105, 1205, 1306, 1406, 1506, 1606, 1706, 1806, 1906] ++
  [2006, 2105, 2205, 2305, 2404, 2503, 2603, 2702, 2801, 2900, 2999, 3098, 3196, 3295, 3393, 3492, 3590, 3688, 3786, 3883] ++
  [3981, 4078, 4176, 4273, 4370, 4467, 4563, 4660, 4756, 4852, 4948, 5044, 5139, 5235, 5330, 5425, 5520, 5614, 5708, 5803] ++
  [5897, 5990, 6084, 6177, 6270, 6363, 6455, 6547, 6639, 6731, 6823, 6914, 7005, 7096, 7186, 7276, 7366, 7456, 7545, 7635] ++
  [7723, 7812, 7900, 7988, 8076, 8163, 8250, 8337, 8423, 8509, 8595, 8680, 8765, 8850, 8935, 9019, 9102, 9186, 9269, 9352] ++
  [9434, 9516, 9598, 9679, 9760, 9841, 9921, 10001, 10080, 10159, 10238, 10316, 10394, 10471, 10549, 10625, 10702, 10778, 10853, 10928] ++
  [11003, 11077, 11151, 11224, 11297, 11370, 11442, 11514, 11585, 11656, 11727, 11797, 11866, 11935, 12004, 12072, 12140, 12207, 12274, 12340] ++
  [12406, 12472, 12537, 12601, 12665, 12729, 12792, 12854, 12916, 12978, 13039, 13100, 13160, 13219, 13279, 13337, 13395, 13453, 13510, 13567] ++
  [13623, 13678, 13733, 13788, 13842, 13896, 13949, 14001, 14053, 14104, 14155, 14206, 14256, 14305, 14354, 14402, 14449, 14497, 14543, 14589] ++
  [14635, 14680, 14724, 14768, 14811, 14854, 14896, 14937, 14978, 15019, 15059, 15098, 15137, 15175, 15213, 15250, 15286, 15322, 15357, 15392] ++
  [15426, 15460, 15493, 15525, 15557, 15588, 15619, 15649, 15679, 15707, 15736, 15763, 15791, 15817, 15843, 15868, 15893, 15917, 15941, 15964] ++
  [15986, 16008, 16029, 16049, 16069, 16088, 16107, 16125, 16143, 16160, 16176, 16192, 16207, 16221, 16235, 16248, 16261, 16273, 16284, 16295] ++
  [16305, 16315, 16324, 16332, 16340, 16347, 16353, 16359, 16364, 16369, 16373, 16376, 16379, 16381, 16383, 16384, 16384]

/-- The sine of an angle in 1/1024 turn. -/
def sine (i : Nat) : Int :=
  let a := i % 1024
  if a ≤ 256 then tget sineTable a 0
  else if a ≤ 512 then tget sineTable (512 - a) 0
  else if a ≤ 768 then -tget sineTable (a - 512) 0
  else -tget sineTable (1024 - a) 0

/-- The unit vector at an angle in 1/1024 turn, in units of 2^-14. -/
def turn (i : Int) : Cx :=
  let a := (i % 1024).toNat
  { re := sine (a + 256), im := sine a }

/-- The discrete Fourier transform of some samples at an angle of `step` 1024ths of a turn a sample, in units of 2^-14. -/
def dft (step : Nat) (l : List Cx) : Cx :=
  csum (l.zipIdx.map (fun x => cmul (turn (-((step * x.2 : Nat) : Int))) x.1))

/-! ### Decibels and angles -/

/-- The greatest number below 2^n, found bit by bit, for which a falling condition holds. -/
def greatest (ok : Nat → Bool) : Nat → Nat → Nat
  | 0, acc => acc
  | n + 1, acc => greatest ok n (if ok (acc + 2 ^ n) then acc + 2 ^ n else acc)

/-- Ten times the decimal logarithm of a ratio of powers in steps of 0.01 dB, rounded down; no power at all is the least value of the
object that reports it, and no noise at all the greatest (log entry 95). -/
def decibels (num den : Nat) : Int :=
  if num = 0 then -32768
  else if den = 0 then 32767
  else if den ≤ num then (greatest (fun n => decide (10 ^ n * den ^ 1000 ≤ num ^ 1000)) 15 0 : Nat)
  else -((greatest (fun n => decide (10 ^ n * num ^ 1000 < den ^ 1000)) 15 0 : Nat) : Int) - 1

/-- Whether a ratio of powers reaches a threshold in steps of 0.25 dB. -/
def reaches (num den threshold : Nat) : Bool := decide (10 ^ threshold * den ^ 40 ≤ num ^ 40)

/-- 10^6 times the power ratio of a threshold in steps of 0.25 dB, rounded down. -/
def ratioOf (threshold : Nat) : Nat := greatest (fun m => decide (m ^ 40 ≤ 10 ^ threshold * 10 ^ 240)) 30 0

/-- The tangents of the middles between the angles of 0 to 32 256ths of a turn, in units of 10^-9. -/
def tangents : List Nat :=
  [12272462, 36832181, 61436353, 86114851, 110897912, 135816279, 160901362, 186185400] ++
  [211701624, 237484449, 263569660, 289994626, 316798527, 344022602, 371710423, 399908199] ++
  [428665110, 458033683, 488070214, 518835235, 550394056, 582817365, 616181926, 650571362] ++
  [686077068, 722799253, 760848156, 800345449, 841425884, 884239215, 928952473, 975752650]

/-- The angle of a complex number in 256ths of a turn, to the nearest (log entry 95). -/
def angle (z : Cx) : Nat :=
  let x := z.re.natAbs
  let y := z.im.natAbs
  let octant := fun (a b : Nat) => (tangents.filter (fun t => decide (t * a ≤ b * 1000000000))).length
  let first := if x = 0 ∧ y = 0 then 0 else if y ≤ x then octant x y else 64 - octant y x
  let half := if 0 ≤ z.re then first else 128 - first
  (if 0 ≤ z.im then half else 256 - half) % 256

/-! ### Small matrices, as lists of rows -/

/-- A list without one of its places. -/
def dropAt {α : Type} (l : List α) (i : Nat) : List α := l.take i ++ l.drop (i + 1)

/-- The determinant of an n × n matrix. -/
def det : Nat → List (List Cx) → Cx
  | 0, _ => { re := 1, im := 0 }
  | n + 1, m => match m with
    | [] => czero
    | r :: rest => csum (r.zipIdx.map (fun x =>
        cscale (if x.2 % 2 = 0 then 1 else -1) (cmul x.1 (det n (rest.map (fun l => dropAt l x.2))))))

/-- The minor of a matrix without a row and a column. -/
def minor (n : Nat) (m : List (List Cx)) (i j : Nat) : Cx := det (n - 1) ((dropAt m i).map (fun l => dropAt l j))

/-- The subsets of 0–3 of a size. -/
def subsets (k : Nat) : List (List Nat) :=
  ((List.range 16).map (fun m => (List.range 4).filter (fun i => bitOf m i))).filter (fun l => decide (l.length = k))

/-- The sum of the principal minors of size k of a Hermitian 4 × 4 matrix whose rows are weighted: the coefficients of its
characteristic polynomial. -/
def principal (weight : List Nat) (m : List (List Cx)) (k : Nat) : Int :=
  (subsets k).foldl (fun acc l =>
    acc + (l.foldl (fun w i => w * tget weight i 0) 1 : Nat) * (det k (l.map (fun i => l.map (fun j => cget (tget m i []) j)))).re) 0

/-- How many eigenvalues of a weighted Hermitian 4 × 4 matrix are at least num ÷ den. All are real, so the sign changes of the
polynomial about that value, and its roots there, count them (Descartes). -/
def eigenvaluesFrom (weight : List Nat) (m : List (List Cx)) (num den : Nat) : Nat :=
  let e1 := principal weight m 1
  let e2 := principal weight m 2
  let e3 := principal weight m 3
  let e4 := principal weight m 4
  let a : Int := num
  let d : Int := den
  let c0 := a ^ 4 - e1 * a ^ 3 * d + e2 * a ^ 2 * d ^ 2 - e3 * a * d ^ 3 + e4 * d ^ 4
  let c1 := 4 * a ^ 3 - 3 * e1 * a ^ 2 * d + 2 * e2 * a * d ^ 2 - e3 * d ^ 3
  let c2 := 6 * a ^ 2 - 3 * e1 * a * d + e2 * d ^ 2
  let c3 := 4 * a - e1 * d
  let l := [c0, c1, c2, c3, 1]
  let signs := l.filter (fun c => decide (c ≠ 0))
  ((List.range (signs.length - 1)).filter (fun i => decide ((tget signs i 0 < 0) ≠ (tget signs (i + 1) 0 < 0)))).length +
    (l.takeWhile (fun c => decide (c = 0))).length

end Sys2Proof.Machine
end

