-- ==== Sys2Proof/Machine/Calendar.lean ====
section
/-! DEFINITION. The calendar table, seats and windows (chapter 2, R64–R71), and the link profiles with their
timing: PIE durations, T1 spans and worst cases (chapter 6, R198–R208). -/

namespace Sys2Proof.Machine

/-! ### Calendar entries -/

/-- The calendar table entry that governs a frame slot, under the module's seat (R64). -/
def State.entryAt (s : State) (f : Nat) : Nat :=
  let c := f / 16 % 8
  let j := f % 16
  let e := 16 * c + (j + 112 - s.nat 0x1B02 2 * s.nat 0x1B02 3) % 16
  s.nat 0x1B10 (e + 1)

/-- The kind of an entry: 0 quiet, 1 UHF inventory, 2 HSB exchange, 3 HF poll (Table 5 of chapter 2). -/
def entryKind (e : Nat) : Nat := e / 2 ^ 30 % 4

/-- The owning shade of an entry. -/
def entryShade (e : Nat) : Nat := e / 2 ^ 27 % 8

/-- Whether an entry's quad set, or HF port set, includes a unit. -/
def entryHas (e unit : Nat) : Bool := bitOf (e % 4096) unit

/-- Whether two entries belong to one window of a unit (R68). -/
def sameWindow (unit e f : Nat) : Bool := entryHas f unit && decide (e / 2 ^ 27 = f / 2 ^ 27)

/-- The frame slot `k` slots after frame slot `f`. -/
def slotAfter (f k : Nat) : Nat := (f + k) % 128

/-- How many slots, this one included, the window that covers slot `f` still has; 128 when it has no end. -/
def State.slotsLeft (s : State) (unit f : Nat) : Nat :=
  ((List.range 128).takeWhile (fun k => sameWindow unit (s.entryAt f) (s.entryAt (slotAfter f k)))).length

/-- How many slots of the window lie before slot `f`. -/
def State.slotsBefore (s : State) (unit f : Nat) : Nat :=
  (((List.range 128).drop 1).takeWhile (fun k => sameWindow unit (s.entryAt f) (s.entryAt (slotAfter f (128 - k))))).length

/-- Whether the block opens windows at all: not after a slip until the next valid pulse (R77), and under the
require-lock option only with a lock (chapter 2, "Mains state and timing source"); losing it stops the commands of a window already
open as well (log entry 83). -/
def State.windowsOpen (s : State) : Bool :=
  !s.belfry.noWindow &&
  (!s.flag 0x1B02 7 ||
    (if s.role = 2 then decide (s.nat 0x1B00 2 ≠ 1) && decide (s.nat 0x1B00 2 ≠ 3) else decide (s.nat 0x1B00 1 = 1)))

/-- The entry of the present slot. -/
def State.entryNow (s : State) : Nat := s.entryAt s.frameSlot

/-- Whether a quad is in a UHF inventory or HSB window of a kind now, guard apart. -/
def State.inWindow (s : State) (q : Nat) : Bool :=
  let e := s.entryNow
  s.windowsOpen && entryHas e q && (decide (entryKind e = 1) || decide (entryKind e = 2))

/-- The shade of the present window. -/
def State.windowShade (s : State) : Nat := entryShade s.entryNow

/-- The window guard in ticks (R69). -/
def State.guard (s : State) : Nat := us (s.nat 0x1B02 5)

/-- A name for the window that covers a unit now: the slot count of its first slot, 0 where it has no end. -/
def State.windowId (s : State) (unit : Nat) : Nat :=
  if s.slotsLeft unit s.frameSlot = 128 then 0 else s.belfry.slots - s.slotsBefore unit s.frameSlot

/-- Whether the usable part of the window has begun (R69). -/
def State.guardPassed (s : State) (unit : Nat) : Bool :=
  decide (0 < s.slotsBefore unit s.frameSlot) || decide (s.belfry.slotTick + s.guard ≤ s.now)

/-- Whether a staged object is of commit class C (R81). -/
def isClassC (k : Nat) : Bool :=
  match rowOf? k with
  | some r => decide (r.cls = .c)
  | none => false

/-- The cascade frame number that the next frame boundary will have (R74, R75). -/
def State.nextFrameNumber (s : State) : Nat :=
  if s.belfry.skipInc then s.nat 0x1B00 10 else (s.nat 0x1B00 10 + 1) % 256

/-- How many slots ahead a boundary lies, as the slot count and the frame now stand (R80, R83). -/
def State.boundaryAhead (s : State) (b : Boundary) : Nat :=
  let k := 128 - s.frameSlot
  let j := ceilDiv (b.slot - s.belfry.slots - k) 128
  if b.kind = 0 then b.slot - s.belfry.slots
  else if b.kind = 1 then k + 128 * j
  else k + 128 * (j + (b.frame + 256 - (s.nextFrameNumber + j) % 256) % 256)

/-- Whether the boundary just reached is a given one (R80, R83). -/
def State.boundaryReached (s : State) (b : Boundary) : Bool :=
  decide (b.slot ≤ s.belfry.slots) &&
  (decide (b.kind = 0) || (decide (s.frameSlot = 0) && (decide (b.kind = 1) || (s.flag 0x1B00 11 && decide (s.nat 0x1B00 10 = b.frame)))))

/-- How many slots ahead the nearest frame boundary lies that a waiting transaction with objects of class C waits
for (R69). -/
def State.classCAhead (s : State) : Option Nat :=
  s.txns.foldl (fun m t =>
    if t.waiting && t.staged.any (fun e => isClassC e.key) then
      match m with
      | some k => some (if s.boundaryAhead t.boundary < k then s.boundaryAhead t.boundary else k)
      | none => some (s.boundaryAhead t.boundary)
    else m) none

/-- The end of the usable part of the window, computed at the ceiling rate: the earliest time its last boundary
can arrive, less the guard (R58, R69). None for a window without end. -/
def State.windowEnd (s : State) (unit : Nat) : Option Nat :=
  let left := s.slotsLeft unit s.frameSlot
  let k : Option Nat := match s.classCAhead with
    | some c => if left = 128 ∨ c < left then some c else some left
    | none => if left = 128 then none else some left
  k.map (fun k => s.earliestBoundary k - s.guard)

/-- Whether an end, where there is one, comes no earlier than a tick. -/
def fits (tick : Nat) (e : Option Nat) : Bool :=
  match e with
  | some x => decide (tick ≤ x)
  | none => true

/-! ### Link profiles -/

/-- a ÷ b to the nearest whole number, halves up. -/
def nearest (a b : Nat) : Nat := (2 * a + b) / (2 * b)

/-- The timing of a link profile in bus ticks; `tpri` is Tpri in 64ths of a tick, `m` the Tpri of a reply bit. -/
structure Link where
  number : Nat
  tari : Nat
  data1 : Nat
  rtcal : Nat
  trcal : Nat
  tpri : Nat
  m : Nat
  pre : Nat
  tol : Nat
  deriving DecidableEq, Repr

/-- An object of a link profile. -/
def State.linkObj (s : State) (p sub : Nat) : Nat := s.nat (0x3300 + p) sub

/-- TRcal of a divide ratio and a BLF: the nearest whole number of ticks to DR ÷ BLF (R198). -/
def trcalOf (dr blf : Nat) : Nat :=
  if dr = 0 then nearest (8 * 122880000) blf else nearest (64 * 122880000) (3 * blf)

/-- The timing of link profile p (R91, R198, Table 2 of chapter 6). The preamble is 6 symbols for FM0 and 10 bit
periods for Miller, 12 more with the pilot (log entry 23). -/
def State.link (s : State) (p : Nat) : Link :=
  let tari := s.linkObj p 2
  let enc := s.linkObj p 7
  let trcal := trcalOf (s.linkObj p 6) (s.linkObj p 5)
  { number := p
    tari := nearest (tari * 3072) 25000
    data1 := nearest (tari * s.linkObj p 3 * 3072) 25000000
    rtcal := nearest (tari * (1000 + s.linkObj p 3) * 3072) 25000000
    trcal := trcal
    tpri := if s.linkObj p 6 = 0 then 8 * trcal else 3 * trcal
    m := enc
    pre := (if enc = 1 then 6 else 10) + (if s.linkObj p 8 = 1 then 12 else 0)
    tol := s.linkObj p 13 }

/-- The actual BLF in Hz (subindex 21). -/
def State.actualBlf (s : State) (p : Nat) : Nat :=
  let trcal := (s.link p).trcal
  if s.linkObj p 6 = 0 then nearest (8 * 122880000) trcal else nearest (64 * 122880000) (3 * trcal)

/-- Nominal T1 in 64ths of a tick: the larger of RTcal and 10 Tpri (R200). -/
def Link.t1 (l : Link) : Nat := peak (64 * l.rtcal) (10 * l.tpri)

/-- T1 minimum in whole ticks, rounded down (R200). -/
def Link.t1Min (l : Link) : Nat := (l.t1 * (1000 - l.tol) * 100 - 24576 * 64000) / 6400000

/-- T1 maximum in whole ticks, rounded up (R200). -/
def Link.t1Max (l : Link) : Nat := ceilDiv (l.t1 * (1000 + l.tol) * 100 + 24576 * 64000) 6400000

/-- When the receive window opens after the command's last symbol: the later of 2.0 µs and T1 minimum − 4.0 µs
(R201, R132). -/
def Link.opens (l : Link) : Nat := peak 246 (ceilDiv (l.t1 * (1000 - l.tol) * 100 - 3 * 24576 * 64000) 6400000)

/-- `n` reply bits in ticks, rounded up, at the nominal Tpri. -/
def Link.bitsTicks (l : Link) (n : Nat) : Nat := ceilDiv (n * l.m * l.tpri) 64

/-- When the receive window for an immediate reply closes with no detection (R201). -/
def Link.closes (l : Link) : Nat :=
  ceilDiv (l.t1 * (1000 + l.tol) * 100 + 24576 * 64000 + l.pre * l.m * l.tpri * 100000 + 12288 * 64000) 6400000

/-- The T2 target in ticks, rounded down (R205). -/
def State.t2 (s : State) (l : Link) : Nat := s.linkObj l.number 12 * l.tpri / 256

/-- The end of a reply's trailing dummy 1 after its start, with the measured BLF deviation in 0.01 % (R205). -/
def Link.replyTicks (l : Link) (bits : Nat) (dev : Int) : Nat :=
  ceilDiv ((l.pre + bits + 1) * l.m * l.tpri * 10000) (64 * (10000 + dev).toNat)

/-- The duration of a command's bits: frame-sync (a 12.5 µs delimiter, data-0 and RTcal), TRcal for a Query, then
one PIE symbol a bit (chapter 6, "One slot, start to finish"). -/
def Link.commandTicks (l : Link) (query : Bool) (bits : List Bool) : Nat :=
  1536 + l.tari + l.rtcal + (if query then l.trcal else 0) +
  sumOf (bits.map (fun b => if b then l.data1 else l.tari))

/-- The settling allowance of a step that begins with a carrier rise (R133). -/
def settling (valid : Bool) : Nat := if valid then us 9 + 1 else us 151 + 1

/-- The worst case of one exchange: command time, the longest wait, and the longest reply at the slowest Tpri
(R208). `wait` is the reply wait in ticks where it is longer than T1 maximum. -/
def State.worstExchange (s : State) (l : Link) (cmd wait bits : Nat) : Nat :=
  if bits = 0 then cmd + 2 * l.rtcal
  else cmd + peak wait l.t1Max +
    ceilDiv (((l.pre + bits + 1) * l.m * 4 + s.linkObj l.number 12) * l.tpri * 1000) (256 * (1000 - l.tol))

end Sys2Proof.Machine
end

