-- ==== Sys2Proof/Machine/Air.lean ====
section
/-! DEFINITION. The commands of the air interfaces as bits (chapter 6, Table 1, R194–R197; chapter 8, R260,
Tables 2–4), their replies, round plans as data (chapter 7, Tables 1–4) and the worst case of a slot (R208,
R231, R292). The layouts of ISO/IEC 18000-63 and ISO/IEC 29167-10 that the spec leaves to those standards are
taken from them (log entry 23). -/

namespace Sys2Proof.Machine

/-! ### Commands as bits -/

/-- A number as an extensible bit vector: groups of 7 bits, all but the last with a leading 1. -/
def ebv (v : Nat) : List Bool :=
  (if 2 ^ 28 ≤ v then true :: bitsMsb 7 (v / 2 ^ 28) else []) ++
  (if 2 ^ 21 ≤ v then true :: bitsMsb 7 (v / 2 ^ 21) else []) ++
  (if 2 ^ 14 ≤ v then true :: bitsMsb 7 (v / 2 ^ 14) else []) ++
  (if 2 ^ 7 ≤ v then true :: bitsMsb 7 (v / 2 ^ 7) else []) ++ (false :: bitsMsb 7 v)

/-- Bits closed by CRC-16/EPC (R197). -/
def withCrc16 (b : List Bool) : List Bool := b ++ bitsMsb 16 (crcAir 1 b)

/-- Bits closed by CRC-5/EPC (R197). -/
def withCrc5 (b : List Bool) : List Bool := b ++ bitsMsb 5 (crcAir 0 b)

/-- Whether bits that end in a CRC-16/EPC pass it. -/
def crc16Ok (b : List Bool) : Bool :=
  decide (16 ≤ b.length) && decide (ofBits (b.drop (b.length - 16)) = crcAir 1 (b.take (b.length - 16)))

/-- Select; Truncate is never set (R195). -/
def selectBits (target action bank pointer : Nat) (mask : List Bool) : List Bool :=
  withCrc16 (bitsMsb 4 10 ++ bitsMsb 3 target ++ bitsMsb 3 action ++ bitsMsb 2 bank ++ ebv pointer ++
    bitsMsb 8 mask.length ++ mask ++ [false])

/-- The code of M in a Query. -/
def mCode (m : Nat) : Nat := if m = 2 then 1 else if m = 4 then 2 else if m = 8 then 3 else 0

/-- Query. -/
def queryBits (dr m trext sel session target q : Nat) : List Bool :=
  withCrc5 (bitsMsb 4 8 ++ bitsMsb 1 dr ++ bitsMsb 2 (mCode m) ++ bitsMsb 1 trext ++ bitsMsb 2 sel ++
    bitsMsb 2 session ++ bitsMsb 1 target ++ bitsMsb 4 q)

/-- QueryAdjust: UpDn 0b110 raises Q, 0b011 lowers it. -/
def queryAdjustBits (session : Nat) (up : Bool) : List Bool :=
  bitsMsb 4 9 ++ bitsMsb 2 session ++ bitsMsb 3 (if up then 6 else 3)

/-- QueryRep. -/
def queryRepBits (session : Nat) : List Bool := bitsMsb 2 0 ++ bitsMsb 2 session

/-- ACK. -/
def ackBits (rn16 : Nat) : List Bool := bitsMsb 2 1 ++ bitsMsb 16 rn16

/-- NAK. -/
def nakBits : List Bool := bitsMsb 8 0xC0

/-- Req_RN with an RN16 or a handle. -/
def reqRnBits (rn : Nat) : List Bool := withCrc16 (bitsMsb 8 0xC1 ++ bitsMsb 16 rn)

/-- Read. -/
def readBits (bank pointer count handle : Nat) : List Bool :=
  withCrc16 (bitsMsb 8 0xC2 ++ bitsMsb 2 bank ++ ebv pointer ++ bitsMsb 8 count ++ bitsMsb 16 handle)

/-- Write of one word, already cover-coded. -/
def writeBits (bank pointer word handle : Nat) : List Bool :=
  withCrc16 (bitsMsb 8 0xC3 ++ bitsMsb 2 bank ++ ebv pointer ++ bitsMsb 16 word ++ bitsMsb 16 handle)

/-- Kill with one cover-coded password half; Recom is 0. -/
def killBits (half handle : Nat) : List Bool :=
  withCrc16 (bitsMsb 8 0xC4 ++ bitsMsb 16 half ++ bitsMsb 3 0 ++ bitsMsb 16 handle)

/-- Lock with its 20-bit payload. -/
def lockBits (payload handle : Nat) : List Bool :=
  withCrc16 (bitsMsb 8 0xC5 ++ bitsMsb 20 payload ++ bitsMsb 16 handle)

/-- Access with one cover-coded password half. -/
def accessBits (half handle : Nat) : List Bool :=
  withCrc16 (bitsMsb 8 0xC6 ++ bitsMsb 16 half ++ bitsMsb 16 handle)

/-- BlockWrite of words. -/
def blockWriteBits (bank pointer : Nat) (words : List Bool) (handle : Nat) : List Bool :=
  withCrc16 (bitsMsb 8 0xC7 ++ bitsMsb 2 bank ++ ebv pointer ++ bitsMsb 8 (words.length / 16) ++ words ++ bitsMsb 16 handle)

/-- BlockErase. -/
def blockEraseBits (bank pointer count handle : Nat) : List Bool :=
  withCrc16 (bitsMsb 8 0xC8 ++ bitsMsb 2 bank ++ ebv pointer ++ bitsMsb 8 count ++ bitsMsb 16 handle)

/-- BlockPermalock on MemBank 3; the mask is sent with Read/Lock 1 only. -/
def blockPermalockBits (lock pointer range : Nat) (mask : List Bool) (handle : Nat) : List Bool :=
  withCrc16 (bitsMsb 8 0xC9 ++ bitsMsb 8 0 ++ bitsMsb 1 lock ++ bitsMsb 2 3 ++ ebv pointer ++ bitsMsb 8 range ++
    (if lock = 1 then mask else []) ++ bitsMsb 16 handle)

/-- Untraceable: the 14 bits of the fields after the opcode, first air bit in bit 15 of the step's field. -/
def untraceableBits (fields handle : Nat) : List Bool :=
  withCrc16 (bitsMsb 16 0xE200 ++ bitsMsb 14 (fields / 4) ++ bitsMsb 16 handle)

/-- Authenticate: suite of ISO/IEC 29167-10, SenRep 1, IncRepLen 1. -/
def authenticateBits (message : List Bool) (handle : Nat) : List Bool :=
  withCrc16 (bitsMsb 8 0xD5 ++ bitsMsb 2 0 ++ [true, true] ++ bitsMsb 8 0 ++ bitsMsb 12 message.length ++ message ++
    bitsMsb 16 handle)

/-- The message of TAM1 (96 bits) or TAM2 (120 bits) with its KeyID and challenge. -/
def tamMessage (method keyId : Nat) (challenge : List Byte) (profile offset blocks : Nat) : List Bool :=
  if method = 2 then
    bitsMsb 2 0 ++ [true, false] ++ bitsMsb 4 0 ++ bitsMsb 8 keyId ++ bitsOfBytes (fit 10 challenge) ++
      bitsMsb 4 profile ++ bitsMsb 12 offset ++ bitsMsb 4 blocks ++ bitsMsb 4 0
  else bitsMsb 2 0 ++ [false] ++ bitsMsb 5 0 ++ bitsMsb 8 keyId ++ bitsOfBytes (fit 10 challenge)

/-- The length of the reply to an Authenticate: header, length field, the AES blocks, handle and CRC-16 (R216;
305 bits for one block of TAM2, chapter 7). -/
def tamReplyBits (method blocks : Nat) : Nat := if method = 2 then 49 + 128 * (1 + blocks) else 177

/-- HSB_Probe; HCAL is a symbol and no bit (Table 2 of chapter 8). -/
def hsbProbeBits (handle : Nat) : List Bool :=
  withCrc16 (bitsMsb 16 0xE0A0 ++ bitsMsb 8 0xB4 ++ bitsMsb 4 0 ++ bitsMsb 16 handle)

/-- HSB_Load (Table 3 of chapter 8); the map has one constellation code for each of k = 2–17. -/
def hsbLoadBits (code : Nat) (map : List Nat) (bank pointer count handle : Nat) : List Bool :=
  withCrc16 (bitsMsb 16 0xE0A1 ++ bitsMsb 8 0xB4 ++ bitsMsb 3 code ++ map.flatMap (fun c => bitsMsb 3 c) ++
    bitsMsb 2 bank ++ ebv pointer ++ bitsMsb 12 count ++ bitsMsb 16 handle)

/-- HSB_GroupACK (Table 4 of chapter 8). -/
def hsbGroupAckBits (slotLength : Nat) (rn16s : List Nat) : List Bool :=
  withCrc16 (bitsMsb 16 0xE0A2 ++ bitsMsb 8 0xB4 ++ bitsMsb 2 rn16s.length ++ bitsMsb 12 slotLength ++
    rn16s.flatMap (fun r => bitsMsb 16 r))

/-- A word cover-coded with an RN16 (R212). -/
def cover (word rn : Nat) : Nat := word ^^^ rn

/-! ### Round plans as data -/

/-- An object of a round plan. -/
def State.planObj (s : State) (p sub : Nat) : Nat := s.nat (0x3000 + p) sub

/-- Step i (0–15) of a plan, 16 bytes (Table 2 of chapter 7). -/
def State.planStep (s : State) (p i : Nat) : List Byte := s.bytes (0x3000 + p) (26 + i) 16

/-- Select entry i (0–7) of a plan, 40 bytes (Table 4 of chapter 7). -/
def State.planSelect (s : State) (p i : Nat) : List Byte := s.bytes (0x3000 + p) (18 + i) 40

/-- The owner of a plan. -/
def State.planOwner (s : State) (p : Nat) : Nat := s.planObj p 1

/-- A plan's passwords and write data stand in a line under its owner's storage key; a plan without an owner holds none (R213, R228). -/
def State.planLines (s : State) (p : Nat) : State := if s.planOwner p < 8 then s.holdLines p 1 (s.planOwner p) else s.dropLines p

/-- The kind of a step (Table 3 of chapter 7). -/
def stepKind (b : List Byte) : Nat := byteAt b 0

/-- A flag bit of a step (Table 2 of chapter 7). -/
def stepFlag (b : List Byte) (i : Nat) : Bool := bitOf (byteAt b 1) i

/-- The indices of a plan's steps, up to the first of kind 0. -/
def State.planSteps (s : State) (p : Nat) : List Nat :=
  (List.range 16).takeWhile (fun i => decide (stepKind (s.planStep p i) ≠ 0))

/-- A group: its inventory step and the access steps that follow it. -/
structure Group where
  inventory : Nat
  access : List Nat
  deriving DecidableEq, Repr

/-- The groups of a list of steps, in order (chapter 7, "Steps"). -/
def groupsOf (kind : Nat → Nat) : List Nat → List Group
  | [] => []
  | i :: r =>
    if kind i = 1 then { inventory := i, access := r.takeWhile (fun j => decide (kind j ≠ 1)) } :: groupsOf kind r
    else groupsOf kind r

/-- The groups of a plan. -/
def State.planGroups (s : State) (p : Nat) : List Group := groupsOf (fun i => stepKind (s.planStep p i)) (s.planSteps p)

/-- A group that holds an HSB exchange step runs in HSB windows only, its inventory step included (R257). -/
def State.groupIsHsb (s : State) (p : Nat) (g : Group) : Bool :=
  g.access.any (fun i => decide (stepKind (s.planStep p i) = 12))

/-- Whether an item of a group, or its inventory step, is marked for HSB windows only (Table 2 of chapter 7). -/
def State.groupHsbOnly (s : State) (p : Nat) (g : Group) : Bool :=
  s.groupIsHsb p g || (g.inventory :: g.access).any (fun i => stepFlag (s.planStep p i) 0)

/-- Whether a group's sequence begins with a Req_RN for the tag's handle: it has an access step other than Mark,
which is a Select. -/
def State.groupNeedsHandle (s : State) (p : Nat) (g : Group) : Bool :=
  g.access.any (fun i => decide (stepKind (s.planStep p i) ≠ 11) || stepFlag (s.planStep p i) 1)

/-- Whether a plan is a meter plan. -/
def State.isMeterPlan (s : State) (p : Nat) : Bool := decide (s.planObj p 14 = 1)

/-- Whether a plan is the boundary plan of a class with enrolled meters: it starts passes at that class's boundaries alone
(R334). -/
def State.isBoundaryPlan (s : State) (p : Nat) : Bool :=
  (List.range 32).any (fun c => decide (s.nat (0x4010 + c) 13 = p) && s.meters.any (fun e => decide (e.2.cls = c)))

/-- The reports that the fragments of an HSB step's payload take (R290). -/
def fragmentsOf (wordCount : Nat) : Nat := ceilDiv (2 * wordCount) 124

/-- The credits that a step's fragments take (R291). -/
def State.stepCredits (s : State) (p i : Nat) : Nat :=
  if stepKind (s.planStep p i) = 12 then fragmentsOf (fieldAt (s.planStep p i) 8 2) else 0

/-- The credits of a slot of a group: of a meter plan those of HSB fragments alone (R291, Table 2 of chapter 14). -/
def State.slotCredits (s : State) (p : Nat) (g : Group) : Nat :=
  sumOf (g.access.map (s.stepCredits p)) +
    (if s.isMeterPlan p then 0
     else 1 + (g.access.filter (fun i => decide (stepKind (s.planStep p i) ≠ 12) && stepFlag (s.planStep p i) 2)).length)

/-- The pass number's target: A, B, or by the parity of the pass (Table 1 of chapter 7). -/
def State.planTarget (s : State) (p : Nat) : Nat :=
  if s.planObj p 7 = 2 then s.planObj p 43 % 2 else s.planObj p 7

/-- EPC words that the longest ACK reply is taken to have (R208). -/
def State.epcWords (s : State) (p : Nat) : Nat := if s.planObj p 8 = 0 then 31 else s.planObj p 8

/-! ### Worst cases -/

/-- Unknown bits, which count as data-1 (R208). -/
def unknown (n : Nat) : List Bool := List.replicate n true

/-- A command's time from its bits. -/
def Link.time (l : Link) (bits : List Bool) : Nat := l.commandTicks false bits

/-- Samples of the quad's sample clock in bus ticks. -/
def samples (n : Nat) : Nat := 12 * n

/-- The time of an HSB command: its bits and HCAL, 32 × T samples (R262). -/
def State.hsbTime (s : State) (l : Link) (bits : List Bool) : Nat := l.time bits + samples (32 * s.nat 0x3200 2)

/-- The coded bits of a frame of a family at its lowest rate (R273, R278, R280, R292). -/
def codedBits (wordCount : Nat) : Nat :=
  let i := 16 * wordCount + 64
  if i < 512 then 2 * (i + 6) else 1024 * ceilDiv i 512

/-- The symbols of a frame of D data symbols (R267). -/
def frameSymbols (d : Nat) : Nat := 2 + d + (d - 1) / 16

/-- The longest decision time of a frame: 3.0 µs for a short one, 42.4 µs for a long one (Table 5 of chapter 5). -/
def decisionTicks (wordCount : Nat) : Nat := if 16 * wordCount + 64 < 512 then 369 else 5211

/-- The worst case of an HSB step (R292). -/
def State.worstHsb (s : State) (l : Link) (port : Nat) (b : List Byte) : Nat :=
  let tick := s.nat 0x3200 2
  let wc := fieldAt b 8 2
  let wait := samples (24 * tick + s.nat 0x3201 (port + 1) + s.nat 0x3200 4)
  let first := s.hsbTime l (bitsMsb 16 0xE0A0 ++ bitsMsb 8 0xB4 ++ bitsMsb 4 0 ++ unknown 32) + wait + samples (14 * 64) + peak (samples (8 * tick)) 369
  let d := ceilDiv (codedBits wc) (s.nat 0x3200 5)
  let load := s.hsbTime l (bitsMsb 16 0xE0A1 ++ bitsMsb 8 0xB4 ++ unknown 51 ++ bitsMsb 2 (byteAt b 2) ++ ebv (fieldAt b 4 4) ++
    bitsMsb 12 wc ++ unknown 32)
    + wait + samples (64 * frameSymbols d) + peak (samples (8 * tick)) (decisionTicks wc)
  first + (1 + s.nat 0x3200 6) * load

/-- The worst case of a Req_RN, repeats counted (R208, R211). -/
def State.worstReqRn (s : State) (l : Link) : Nat :=
  (1 + s.linkObj l.number 16) * s.worstExchange l (l.time (bitsMsb 8 0xC1 ++ unknown 32)) 0 33

/-- The delayed reply wait in ticks. -/
def State.delayed (s : State) (l : Link) : Nat := ms (s.linkObj l.number 14)

/-- The worst case of the two halves of a password, each behind its own Req_RN, and each sent again only behind a
fresh one (R212). Kill's Recom is 3 known bits. -/
def State.worstPassword (s : State) (l : Link) (op : Nat) (recom : List Bool) (wait again : Nat) : Nat :=
  2 * (again * (s.worstReqRn l + s.worstExchange l (l.time (bitsMsb 8 op ++ unknown 16 ++ recom ++ unknown 32)) wait 33))

/-- The worst case of one access step of a plan (R208, R211, R231). The KeyID of a meter plan is not known before the step (R244). -/
def State.worstStep (s : State) (l : Link) (p port i : Nat) : Nat :=
  let b := s.planStep p i
  let k := stepKind b
  let bank := bitsMsb 2 (byteAt b 2)
  let ptr := ebv (fieldAt b 4 4)
  let count := bitsMsb 8 (byteAt b 3)
  let again := 1 + s.linkObj l.number 16
  let late := s.delayed l
  let words := (bitsOfBytes (s.bytes (0x3000 + p) 17 32)).take (16 * byteAt b 3)
  let body : Nat :=
    if k = 2 then again * s.worstExchange l (l.time (bitsMsb 8 0xC2 ++ bank ++ ptr ++ count ++ unknown 32)) 0 (16 * byteAt b 3 + 33)
    else if k = 3 then s.worstReqRn l + s.worstExchange l (l.time (bitsMsb 8 0xC3 ++ bank ++ ptr ++ unknown 48)) late 33
    else if k = 4 then s.worstExchange l (l.time (bitsMsb 8 0xC7 ++ bank ++ ptr ++ count ++ words ++ unknown 32)) late 33
    else if k = 5 then s.worstExchange l (l.time (bitsMsb 8 0xC8 ++ bank ++ ptr ++ count ++ unknown 32)) late 33
    else if k = 6 then s.worstExchange l (l.time (bitsMsb 8 0xC5 ++ bitsMsb 20 (fieldAt b 4 3) ++ unknown 32)) late 33
    else if k = 7 then
      s.worstExchange l (l.time (bitsMsb 8 0xC9 ++ bitsMsb 8 0 ++ bitsMsb 1 (byteAt b 2) ++ bitsMsb 2 3 ++ ptr ++ count ++
        (if byteAt b 2 = 1 then words else []) ++ unknown 32)) late 33
    else if k = 8 then s.worstPassword l 0xC4 (bitsMsb 3 0) late 1
    else if k = 9 then s.worstExchange l (l.time (bitsMsb 16 0xE200 ++ bitsMsb 14 (fieldAt b 2 2 / 4) ++ unknown 32)) late 33
    else if k = 10 then
      let m := tamMessage (byteAt b 2) (if s.isMeterPlan p then 0xFF else byteAt b 3) (List.replicate 10 0xFF#8) (byteAt b 4) (fieldAt b 5 2) (byteAt b 7)
      s.worstExchange l (l.time (bitsMsb 8 0xD5 ++ bitsMsb 2 0 ++ [true, true] ++ bitsMsb 8 0 ++ bitsMsb 12 m.length ++ m ++ unknown 32))
        (ms (s.linkObj l.number 15)) (tamReplyBits (byteAt b 2) (byteAt b 7))
    else if k = 11 then
      s.worstExchange l (l.time (bitsMsb 4 10 ++ bitsMsb 3 (byteAt b 2) ++ bitsMsb 3 (byteAt b 3) ++ bitsMsb 2 1 ++ ebv 0x20 ++
        bitsMsb 8 (satTo 255 (16 * s.epcWords p)) ++ unknown (satTo 255 (16 * s.epcWords p)) ++ [false] ++ unknown 16)) 0 0
    else if k = 12 then s.worstHsb l port b
    else 0
  body + (if stepFlag b 1 then s.worstPassword l 0xC6 [] 0 again else 0)

/-- The worst case of a slot: the slot command, the ACK, the tag's whole sequence and a closing NAK (R231). -/
def State.worstSlot (s : State) (l : Link) (p port : Nat) (g : Group) (slotCmd : Nat) : Nat :=
  s.worstExchange l slotCmd 0 16 +
  s.worstExchange l (l.time ([false, true] ++ unknown 16)) 0 (32 + 16 * s.epcWords p) +
  (if s.groupNeedsHandle p g then s.worstReqRn l else 0) +
  sumOf (g.access.map (fun i => s.worstStep l p port i)) +
  s.worstExchange l (l.time nakBits) 0 0

end Sys2Proof.Machine
end

