-- ==== Sys2Proof/Machine/TagTable.lean ====
section
/-! DEFINITION. The tag table: entries, de-duplication, merges and their undo, claims, routing (chapter 7,
R236–R254). -/

namespace Sys2Proof.Machine

/-! ### Entries -/

/-- An entry of the tag table. -/
def State.tag (s : State) (n : Nat) : Option TagEntry := NMap.get? s.tags n

/-- Change an entry. -/
def State.modTag (s : State) (n : Nat) (f : TagEntry → TagEntry) : State := { s with tags := NMap.upd s.tags n f }

/-- Entries merged into one that is freed stand on their own (R240). -/
def standAlone (freed : Nat → Bool) (tags : NMap TagEntry) : NMap TagEntry :=
  tags.map (fun e => match e.2.merged with
    | some m => if freed m then (e.1, { e.2 with merged := none, undo := none }) else e
    | none => e)

/-- The name under which an entry of the tag table holds its line of shared SRAM (R48, R389). -/
def tagLine (n : Nat) : Nat := 8192 + n

/-- Free an entry; it is overwritten with zeros, and its line is freed (R243, R390). -/
def State.freeTag (s : State) (n : Nat) : State :=
  ({ s with tags := standAlone (fun m => decide (m = n)) (NMap.erase s.tags n) } : State).dropLines (tagLine n)

/-- The merge of an entry into another is undone from its undo record (R240). -/
def State.undoMerge (s : State) (t : TagEntry) : State :=
  match t.merged, t.undo with
  | some e, some u => s.modTag e (fun x => { x with
      reads := u.reads, lastSeen := u.lastSeen, lastCycle := u.lastCycle, ports := u.ports, pending := false })
  | _, _ => s

/-- Free every entry that a test selects; a merge that one of them held pending is undone. -/
def State.freeTags (s : State) (f : TagEntry → Bool) : State :=
  let gone := s.tags.filter (fun e => f e.2)
  let s1 := gone.foldl (fun st e => st.undoMerge e.2) s
  gone.foldl (fun st e => st.dropLines (tagLine e.1))
    { s1 with tags := standAlone (fun m => gone.any (fun e => decide (e.1 = m))) (s1.tags.filter (fun e => !gone.any (fun g => decide (g.1 = e.1)))) }

/-- Provisional entries of a quad, which created them (R238). -/
def State.provisionalOf (s : State) (q : Nat) : Nat :=
  (s.tags.filter (fun e => !e.2.confirmed && decide (e.2.maker = q))).length

/-- Provisional entries of the module. -/
def State.provisional (s : State) : Nat := (s.tags.filter (fun e => !e.2.confirmed)).length

/-- The lowest number that no entry from `n` upwards in the table has. -/
def lowestFree {α : Type} (n : Nat) : NMap α → Nat
  | [] => n
  | (k, _) :: r => if k = n then lowestFree (n + 1) r else n

/-- The confirmed entry with the oldest last seen among those confirmed at least the minimum hold ago (R242). -/
def State.reclaimable (s : State) : Option Nat :=
  (s.tags.foldl (fun (m : Option (Nat × Nat)) e =>
    if e.2.confirmed && decide (e.2.confirmedAt + sec (s.nat 0x3101 2) ≤ s.now) then
      match m with
      | some b => if e.2.lastSeen < b.2 then some (e.1, e.2.lastSeen) else some b
      | none => some (e.1, e.2.lastSeen)
    else m) none).map (·.1)

/-- A free entry number, reclaiming one where the table of 16,384 is full (R242). -/
def State.allocTag (s : State) : Option Nat × State :=
  let n := lowestFree 0 s.tags
  if n < 16384 then (some n, s)
  else match s.reclaimable with
    | some e => (some e, (s.freeTag e).count 0x3101 8)
    | none => (none, s)

/-- Whether two entries have the same de-duplication key: the meter identity once resolved, the EPC length and
bits otherwise (R237, R241). -/
def sameKey (a b : TagEntry) : Bool :=
  if a.resolved then b.resolved && decide (a.identity = b.identity)
  else !b.resolved && decide (a.words = b.words) && decide (a.epc = b.epc)

/-- An entry with the key of entry `n`, other than `n`. -/
def State.lookupTag (s : State) (n : Nat) (t : TagEntry) (ok : TagEntry → Bool) : Option Nat :=
  (s.tags.find? (fun e => decide (e.1 ≠ n) && sameKey t e.2 && ok e.2)).map (·.1)

/-- The entry that holds the key of entry `n`: a confirmed one, else one that is not itself merged into another (R240). -/
def State.sameTag (s : State) (n : Nat) (t : TagEntry) : Option Nat :=
  match s.lookupTag n t (fun e => e.confirmed) with
  | some e => some e
  | none => s.lookupTag n t (fun e => e.merged.isNone)

/-! ### Port records -/

/-- The weakest of port records. -/
def weakest (l : List PortRec) : Nat := l.foldl (fun m r => if r.rssi < m then r.rssi else m) 256

/-- Replace the first record of a strength. -/
def replaceFirst (l : List PortRec) (v : Nat) (new : PortRec) : List PortRec :=
  match l with
  | [] => []
  | r :: t => if r.rssi = v then new :: t else r :: replaceFirst t v new

/-- A hearing on a port: its record, if it has one, keeps the higher RSSI with its phase; a new port takes a free
record or replaces the weakest where it is stronger (R236). -/
def heardOn (l : List PortRec) (r : PortRec) : List PortRec :=
  if l.any (fun x => decide (x.port = r.port)) then
    l.map (fun x => if x.port = r.port then (if x.rssi < r.rssi then r else { x with passes := 0 }) else x)
  else if l.length < 8 then l ++ [r]
  else if weakest l < r.rssi then replaceFirst l (weakest l) r
  else l

/-- The hearing of a reply on the ports of a quad: RSSI and phase bytes of ports 0–3 (R179). -/
def hearing (q : Nat) (rssi phase : List Nat) : List PortRec :=
  ((List.range 4).filter (fun p => decide (tget rssi p 0 ≠ 0))).map (fun p =>
    { port := 4 * q + p, rssi := tget rssi p 0, phase := tget phase p 0, passes := 0 })

/-- A bit mask of the ports of records. -/
def portBits (l : List PortRec) : Nat := l.foldl (fun m r => m ||| 2 ^ r.port) 0

/-- An entry updated by what another entry, or a new hearing, saw. -/
def TagEntry.update (e n : TagEntry) : TagEntry :=
  { e with
    reads := (e.reads + n.reads) % 2 ^ 32, lastSeen := n.lastSeen, lastCycle := n.lastCycle,
    heard := e.heard ||| n.heard, ports := n.ports.foldl heardOn e.ports, exchange := n.exchange,
    quad := n.quad, plan := n.plan, window := n.window, relay := e.relay || n.relay, ambiguous := e.ambiguous || n.ambiguous,
    clipped := e.clipped || n.clipped }

/-! ### Reports and routing -/

/-- The best RSSI of an entry on ports of a mask; 0 where it was heard on none. -/
def bestOn (mask : Nat) (l : List PortRec) : Nat :=
  (l.filter (fun r => bitOf mask r.port)).foldl (fun m r => peak m r.rssi) 0

/-- Whether bits of an EPC from a pointer equal a mask of a filter (R249). -/
def maskMatches (epc : List Byte) (words : Nat) (m : List Byte) : Bool :=
  let len := byteAt m 1
  let ptr := fieldAt m 2 2
  let bits := (bitsOfBytes epc).take (16 * words)
  decide (ptr + len ≤ bits.length) && decide ((bits.drop ptr).take len = (bitsOfBytes (m.drop 8)).take len)

/-- Whether an entry passes the EPC masks of a shade's filter (R249). -/
def State.passesMasks (s : State) (sh : Nat) (t : TagEntry) : Bool :=
  let ms := (List.range 4).map (fun i => s.bytes (0x3110 + sh) (5 + i) 24)
  let used := ms.filter (fun m => decide (byteAt m 0 ≠ 0))
  used.isEmpty ||
    (used.any (fun m => decide (byteAt m 0 = 1) && maskMatches t.epc t.words m) &&
     !used.any (fun m => decide (byteAt m 0 = 2) && maskMatches t.epc t.words m))

/-- Whether a confirmed entry is copied to a shade (R248, R244). -/
def State.routes (s : State) (sh : Nat) (t : TagEntry) : Bool :=
  let mode := s.nat (0x3110 + sh) 1
  let mask := s.nat (0x3110 + sh) 2 &&& s.nat (0x1310 + sh) 6
  s.joined sh && decide (mode ≠ 0) && (!t.meter || decide (t.owner = sh)) &&
  decide (t.heard &&& mask ≠ 0) && s.passesMasks sh t &&
  decide (s.int (0x3110 + sh) 3 ≤ -12800 + 50 * (bestOn mask t.ports : Int)) &&
  (!s.flag (0x3110 + sh) 4 || decide (s.planOwner t.plan = sh)) &&
  (decide (mode ≠ 1) || !bitOf t.routed sh)

/-- The flags byte of an entry (Table 5 of chapter 7). -/
def TagEntry.flags (t : TagEntry) : Nat :=
  b01 t.meter + 2 * b01 t.authenticated + 4 * b01 t.pending + 8 * b01 t.relay + 16 * b01 t.ambiguous + 32 * b01 t.clipped

/-- A tag report for a shade: it names the window's shade where that shade receives it (Table 7 of chapter 7, R251). -/
def State.tagReport (s : State) (sh kind n : Nat) (t : TagEntry) (step status : Nat) (data : List Byte) : List Byte :=
  let seen := s.nat (0x1310 + sh) 6
  let ps := t.ports.filter (fun r => bitOf seen r.port)
  let own := decide (s.planOwner t.plan = sh)
  [byte kind, byte t.flags, byte (if own then t.plan else 0xFF), byte (if t.window = sh then sh else 0xFF)] ++ le 2 n ++ le 2 t.pc ++
  le 4 s.rtcSec ++ le 4 s.cycle ++ le 4 t.reads ++ [byte ps.length, byte (2 * t.words), byte step, byte status] ++
  le 2 data.length ++ le 6 (t.heard &&& seen) ++
  ps.flatMap (fun r => [byte r.port, byte r.rssi, byte r.phase, byte r.passes]) ++ fit (2 * t.words) t.epc ++ data

/-- Whether a shade's queue takes in an uncredited item now, behind an overrun report that waits (R479, R481). -/
def State.admits (s : State) (sh : Nat) : Bool :=
  let s1 := s.formOverrun sh
  decide (s.load sh < s.quota sh) && decide (s1.load sh < s1.quota sh)

/-- Copy a confirmed entry to every shade whose filter it meets; the copy for the plan's owner uses the slot's
credit where there is one. A copy that its queue drops has not been received (R48, R248, R250). -/
def State.routeTag (s : State) (n : Nat) (credited : Bool) : State :=
  match s.tag n with
  | none => s
  | some t =>
    if !t.confirmed then s
    else
      (((List.range 8).filter (fun sh => s.routes sh t)).foldl (fun st sh =>
        let copy := st.tagReport sh 1 n t 0 0 []
        let own := credited && decide (s.planOwner t.plan = sh)
        let st1 := if own || st.admits sh then st.modTag n (fun t => { t with routed := t.routed ||| 2 ^ sh }) else st
        if own then st1.admitCredited sh 1 copy else st1.takeIn sh false 1 copy) s).settle

/-! ### Provisional entries -/

/-- What an EPC reply, or a reply to a GroupACK, brings to the table. -/
structure Sighting where
  quad : Nat
  plan : Nat
  shade : Nat
  pc : Nat
  epc : List Byte
  crc : Nat
  rssi : List Nat
  phase : List Nat
  exchange : Nat
  relay : Bool
  ambiguous : Bool
  clipped : Bool
  credited : Bool
  deriving DecidableEq, Repr

/-- The provisional entry of a sighting (R238). -/
def State.entryOf (s : State) (d : Sighting) : TagEntry :=
  let ps := hearing d.quad d.rssi d.phase
  { confirmed := false, meter := s.isMeterPlan d.plan, authenticated := false, pending := false, relay := d.relay,
    ambiguous := d.ambiguous, clipped := d.clipped, arrival := d.shade, plan := d.plan, pc := d.pc,
    words := d.epc.length / 2, epc := d.epc, crc := d.crc, claimQuad := 255, claimPlan := 255, claimPass := 0,
    identity := 0xFFFF, owner := 255, merged := none, routed := 0, firstSeen := s.rtcSec, lastSeen := s.rtcSec,
    firstCycle := s.cycle, lastCycle := s.cycle, reads := 1, heard := portBits ps, ports := ps, undo := none,
    exchange := d.exchange, quad := d.quad, born := s.now, confirmedAt := 0, holds := 0, credited := d.credited,
    reply := [], challenge := [], resolved := false, counter := 0, resync := false, maker := d.quad, window := d.shade,
    reports := [] }

/-- Merge entry `n` into entry `e`, with its undo record (R240). -/
def State.mergeTag (s : State) (n e : Nat) (t : TagEntry) : State :=
  match s.tag e with
  | none => s
  | some o =>
    (s.modTag e (fun x => { (x.update t) with pending := true })).modTag n (fun x => { x with
      merged := some e
      undo := some { reads := o.reads, lastSeen := o.lastSeen, lastCycle := o.lastCycle, ports := o.ports } })

/-- Create a provisional entry under the key of its arrival shade (R48, R389), merged at once into an entry with its key (R238, R240); none where the table is
full, with event 0x3001 (R242). -/
def State.createTag (s : State) (d : Sighting) : Option Nat × State :=
  match s.allocTag with
  | (none, s1) =>
    (none, (s1.count 0x3101 9).raise 0x3001 ([d.quad, d.plan] ++ dU 2 s1.tags.length ++ [s1.provisional]) (withSlate (s1.planOwner d.plan)) (perMinute d.quad))
  | (some n, s1) =>
    let t := s1.entryOf d
    let s2 : State := (({ s1 with tags := NMap.put s1.tags n t } : State).holdLines (tagLine n) 1 t.arrival).count 0x3101 7
    match s2.sameTag n t with
    | some e => (some n, if (s2.tag e).any (fun x => x.pending) then s2 else s2.mergeTag n e t)
    | none => (some n, s2)

/-- Confirm a provisional entry, merging it where its key is held, and route what results (R239–R241, R248). -/
def State.confirmEntry (s : State) (n : Nat) : State :=
  match s.tag n with
  | none => s
  | some t =>
    let s0 : State := { s with plans := tmod s.plans t.plan (fun p => { p with confirmed := p.confirmed + 1 }) }
    match t.merged with
    | some e => (((s0.modTag e (fun x => { x with pending := false })).freeTag n).routeTag e t.credited)
    | none =>
      match s0.sameTag n t with
      | some e => (((s0.modTag e (fun x => { (x.update t) with
            epc := if t.resolved then t.epc else x.epc, words := if t.resolved then t.words else x.words,
            pc := if t.resolved then t.pc else x.pc, authenticated := x.authenticated || t.authenticated })).freeTag n).routeTag e t.credited)
      | none =>
        (s0.modTag n (fun x => { x with confirmed := true, confirmedAt := s.now })).routeTag n t.credited

/-- The entry that a provisional one stands in once it is confirmed: the one it merged into, one with its key, or
itself (R240). -/
def State.homeOf (s : State) (n : Nat) : Nat :=
  match s.tag n with
  | none => n
  | some t => match t.merged with
    | some e => e
    | none => (s.sameTag n t).getD n

/-- The step results that waited for an entry's confirmation go to the plan's owner (R247, R251). -/
def State.releaseReports (s : State) (n : Nat) (t : TagEntry) : State :=
  match s.tag n with
  | none => s
  | some e =>
    let sh := s.planOwner t.plan
    if !s.joined sh then s
    else (t.reports.foldl (fun st r =>
      st.takeIn sh false 4 (st.tagReport sh 2 n { e with plan := t.plan, window := t.window, reports := [] } r.1 r.2.1 r.2.2)) s).settle

/-- Confirm a provisional entry, and send the step results that waited for it (R239, R247). -/
def State.confirmTag (s : State) (n : Nat) : State :=
  match s.tag n with
  | none => s
  | some t =>
    let home := s.homeOf n
    let s1 := s.confirmEntry n
    if t.reports.isEmpty then s1 else (s1.modTag home (fun e => { e with reports := [] })).releaseReports home t

/-- Cancel a provisional entry: its merge is undone, entries merged into it stand on their own, and event 0x3002
is raised with the cause (R240, R247). -/
def State.cancelTag (s : State) (n cause : Nat) : State :=
  match s.tag n with
  | none => s
  | some t =>
    let s1 := s.undoMerge t
    let s2 := if t.merged.isSome then s1.count 0x3101 11 else s1
    let s3 := ((s2.freeTag n).count 0x3101 10).addTo 0x3101 14 t.holds
    s3.raise 0x3002 ([t.quad, cause, t.plan, b01 t.merged.isSome] ++ dU 2 n) (withSlate (s.planOwner t.plan)) (perMinute t.quad)

/-! ### Claims (R245) -/

/-- The entry whose claim counts for an entry: itself or the one it merged into. -/
def State.claimHome (s : State) (n : Nat) : Nat :=
  match s.tag n with
  | some t => t.merged.getD n
  | none => n

/-- Whether a live claim of another quad of the same plan and pass stands on an entry. -/
def State.claimedBy (s : State) (n plan pass q : Nat) : Option Nat :=
  match s.tag (s.claimHome n) with
  | some t => if t.claimQuad ≠ 255 ∧ t.claimQuad ≠ q ∧ t.claimPlan = plan ∧ t.claimPass = pass % 65536 then some t.claimQuad else none
  | none => none

/-- Set the claim of a quad that begins a tag's sequence. -/
def State.claimTag (s : State) (n plan pass q : Nat) : State :=
  s.modTag (s.claimHome n) (fun t => { t with claimQuad := q, claimPlan := plan, claimPass := pass % 65536 })

/-- End every claim of a quad: its sequence has ended. -/
def State.endClaims (s : State) (q : Nat) : State :=
  { s with tags := s.tags.map (fun e => if e.2.claimQuad = q then (e.1, { e.2 with claimQuad := 255, claimPlan := 255, claimPass := 0 }) else e) }

/-- A claim skip is counted and event 0x3006 raised. -/
def State.claimSkip (s : State) (n plan q by' : Nat) : State :=
  let prov := match s.tag (s.claimHome n) with
    | some t => !t.confirmed
    | none => false
  ((s.count 0x3101 12).count (0x3000 + plan) 46).raise 0x3006 ([q, plan, by', b01 prov] ++ dU 2 (s.claimHome n))
    (withSlate (s.planOwner plan)) (perMinute q)

/-! ### Commands -/

/-- The provisional lifetime runs out (R239). -/
def State.lifetimeExpired (s : State) (n : Nat) : State :=
  match s.tag n with
  | some t => if t.confirmed = false ∧ t.born + ms (s.nat 0x3101 3) ≤ s.now then s.cancelTag n 4 else s
  | none => s

/-- `PROVISIONAL_LIFETIME_EXPIRED`. -/
def execProvisionalLifetimeExpired (t entry : Nat) (s : State) : Out := .next ((s.at t).awake (fun st => st.lifetimeExpired entry))

/-- A confirmed entry whose last seen lies the age-out time in the past is freed (R243). -/
def State.ageOut (s : State) (n : Nat) : State :=
  match s.tag n with
  | some t => if t.confirmed = true ∧ t.lastSeen + s.nat 0x3101 1 ≤ s.rtc.total then s.freeTag n else s
  | none => s

/-- `ENTRY_AGE_OUT`. -/
def execEntryAgeOut (t entry : Nat) (s : State) : Out := .next ((s.at t).awake (fun st => st.ageOut entry))

/-- Forget a shade's view: its routed bit is cleared in every entry (Table 9 of chapter 7). -/
def State.forgetView (s : State) (sh : Nat) : State :=
  { s with tags := s.tags.map (fun e => (e.1, { e.2 with routed := setBit e.2.routed sh false })) }

end Sys2Proof.Machine
end

