-- ==== Sys2Proof/Machine/Quads.lean ====
section
/-! DEFINITION. Quads and ports as units: actual states (R107, R667), channel memory, dwell and occupancy
(R119), carrier-off (R143, R218), abandoned exchanges (R44), and the choice of plan, port and channel (R118,
R233, R234). -/

namespace Sys2Proof.Machine

/-! ### Access -/

/-- A quad. -/
def State.quad (s : State) (q : Nat) : Quad := tget s.quads q quadAtReset

/-- Change a quad. -/
def State.modQuad (s : State) (q : Nat) (f : Quad → Quad) : State := { s with quads := tmod s.quads q f }

/-- Change a quad's transmitter. -/
def State.modTx (s : State) (q : Nat) (f : Tx → Tx) : State := s.modQuad q (fun x => { x with tx := f x.tx })

/-- Change a quad's sequencer. -/
def State.modSeq (s : State) (q : Nat) (f : Seq → Seq) : State := s.modQuad q (fun x => { x with seq := f x.seq })

/-- A quad's transmitter. -/
def State.tx (s : State) (q : Nat) : Tx := (s.quad q).tx

/-- A quad's sequencer. -/
def State.seq (s : State) (q : Nat) : Seq := (s.quad q).seq

/-- A port's own part. -/
def State.port (s : State) (p : Nat) : Port := tget s.ports p portAtReset

/-- Change a port's own part. -/
def State.modPort (s : State) (p : Nat) (f : Port → Port) : State := { s with ports := tmod s.ports p f }

/-- The four ports of a quad (R20). -/
def portsOf (q : Nat) : List Nat := [4 * q, 4 * q + 1, 4 * q + 2, 4 * q + 3]

/-- The four quads of a bank (R20). -/
def quadsOf (bank : Nat) : List Nat := [4 * bank, 4 * bank + 1, 4 * bank + 2, 4 * bank + 3]

/-- Do something for each of some units in turn. -/
def State.each (s : State) (l : List Nat) (f : State → Nat → State) : State := l.foldl f s

/-- A bank. -/
def State.bank (s : State) (b : Nat) : Bank := tget s.banks b bankAtReset

/-- Change a bank. -/
def State.modBank (s : State) (b : Nat) (f : Bank → Bank) : State := { s with banks := tmod s.banks b f }

/-- Whether a quad's carrier is on, ramping or held. -/
def State.carrierOn (s : State) (q : Nat) : Bool := decide ((s.tx q).carrier ≠ 0)

/-- The quads whose carrier is on, as a mask. -/
def State.emitting (s : State) : Nat := ((List.range 12).filter (fun q => s.carrierOn q)).foldl (fun m q => m ||| 2 ^ q) 0

/-- The channel number of the channel in use, 0xFFFF when none. -/
def State.txChannel (s : State) (q : Nat) : Nat :=
  match (s.tx q).index with
  | some i => s.channelAt i
  | none => 0xFFFF

/-- Whether another quad's carrier is on the channel that a quad's carrier is on (R183, R246). -/
def State.cochannel (s : State) (q r : Nat) : Bool :=
  decide (r ≠ q) && s.carrierOn q && s.carrierOn r && decide (s.txChannel q = s.txChannel r)

/-- The quads that share a quad's channel. -/
def State.sharers (s : State) (q : Nat) : List Nat := (List.range 12).filter (fun r => s.cochannel q r)

/-! ### Port states (R107, R667) -/

/-- The actual state of a port: the first of dark, blocked, faulted, active and ready that holds (R667). -/
def State.actual (s : State) (p : Nat) : Nat :=
  if !(s.port p).enabled then 0
  else if s.blocked then 4
  else if s.nat (0x2100 + p) 3 ≠ 0 then 3
  else if s.carrierOn (p / 4) && decide ((s.tx (p / 4)).port = p) then 2
  else 1

/-- A port may emit only while it is enabled and ready or active (R107). -/
def State.mayEmit (s : State) (p : Nat) : Bool := decide (s.actual p = 1) || decide (s.actual p = 2)

/-- Whether a command is of the kinds that a co-channel hold stops: it starts the quad's own next slot or round
(R246). A Mark's Select belongs to a tag's sequence and is not one. -/
def Due.startsSlot (d : Due) : Bool :=
  (decide (d.cmd = 1) && decide (d.arg ≠ 255)) || decide (d.cmd = 2) || decide (d.cmd = 3) || decide (d.cmd = 4) || decide (d.cmd = 6)

/-- Whether a command draws no reply. -/
def Due.silent (d : Due) : Bool := decide (d.cmd = 1) || decide (d.cmd = 6)

/-- The receiver state of a port (Table 2 of chapter 4). A command without a receive window blanks it while it modulates, and it tracks
again from the command's end (R131). -/
def State.rxState (s : State) (p : Nat) : Nat :=
  let x := s.seq (p / 4)
  if s.nat (0x2130 + p) 2 = 3 ∧ x.state < 2 ∧ x.cmd.silent = true ∧ x.cmdEnd ≤ s.now then 2 else s.nat (0x2130 + p) 2

/-! ### Channel memory (R86–R88) -/

/-- The entry of a list index and a port of the quad. -/
def entryNo (i p : Nat) : Nat := 4 * i + p % 4

/-- A channel memory entry. -/
def State.chan (s : State) (q n : Nat) : Option ChanEntry := NMap.get? (s.quad q).mem n

/-- An entry with nothing valid. -/
def blankEntry (channel port : Nat) : ChanEntry :=
  { channel := channel, port := port, synthValid := false, tunerValid := false, cancValid := false, vcoBand := 0,
    capCode := 0, calTemp := 0, calTime := 0, tuner := [0, 0, 0, 0], blocks := List.replicate 4 (zeros 24) }

/-- Change an entry, made blank first where there is none, and mark it for the next write to MRAM (R89). -/
def State.modChan (s : State) (q n : Nat) (f : ChanEntry → ChanEntry) : State :=
  let e := (s.chan q n).getD (blankEntry (s.channelAt (n / 4)) (n % 4))
  (s.modQuad q (fun x => { x with mem := NMap.put x.mem n (f e) })).modTx q (fun x => { x with
    dirty := if x.dirty.contains n then x.dirty else x.dirty ++ [n] })

/-- Whether the synthesizer part of an entry is stale: its calibration temperature is more than 15.0 °C away
(R87). -/
def stale (temp : Int) (e : ChanEntry) : Bool := decide (150 < (temp - e.calTemp).natAbs)

/-- What an entry's synthesizer part lacks: 1 missing, 2 stale, 3 cleared since it failed its check; 0 nothing (R87, R89). -/
def State.coldPart (s : State) (q n : Nat) : Nat :=
  let missing := if (s.tx q).badEntries.contains n then 3 else 1
  match s.chan q n with
  | none => missing
  | some e => if !e.synthValid then missing else if stale (s.bank (q / 4)).temp e then 2 else 0

/-- Why a hop on an entry is cold: what its synthesizer part lacks, or 4 after an unlock; 0 when it is warm (R88, R90, Table 16). -/
def State.coldReason (s : State) (q n : Nat) : Nat :=
  if (s.tx q).coldNext.contains (n / 4) then 4 else s.coldPart q n

/-- Valid synthesizer entries of a quad (`0x2200`+q:09). -/
def State.validSynth (s : State) (q : Nat) : Nat := ((s.quad q).mem.filter (fun e => e.2.synthValid)).length

/-- Whether the transmitting port's canceller vectors are valid in the entry in use (R133, R143). -/
def State.cancValid (s : State) (q : Nat) : Bool :=
  match (s.tx q).index with
  | none => false
  | some i => match s.chan q (entryNo i (s.tx q).port) with
    | none => false
    | some e => bitOf (byteAt (tget e.blocks ((s.tx q).port % 4) []) 22) 0

/-! ### Dwell and occupancy (R119) -/

/-- The overlap of a dwell with the time from `a` to now, in ticks. -/
def Dwell.within (d : Dwell) (a now : Nat) : Nat := (d.stop.getD now) - peak d.start a

/-- Carrier time of a quad on a channel over the last `period` ticks. -/
def State.carrierTime (s : State) (q i period : Nat) : Nat :=
  sumOf (((s.tx q).dwells.filter (fun d => decide (d.index = i))).map (fun d => d.within (s.now - period) s.now))

/-- When the carrier of a quad came on, the present where it is off. -/
def State.onSince (s : State) (q : Nat) : Nat := if s.carrierOn q then (s.tx q).onTick else s.now

/-- The smaller of two ends, where there are two. -/
def sooner (a b : Option Nat) : Option Nat :=
  match a, b with
  | some x, some y => some (if x ≤ y then x else y)
  | some x, none => some x
  | none, b => b

/-- The dwell end of a quad on a channel (R119): the continuous dwell and, for the fused and the site pair each on
its own, the occupancy. The site values are those in force (R109). -/
def State.dwellEnd (s : State) (q i : Nat) : Option Nat :=
  match s.bandOf (s.channelAt i) with
  | none => some s.now
  | some b =>
    let f := s.fusedBand b
    let t := s.inForce.siteBand b
    let dwell := if f.dwell ≤ t.dwell then f.dwell else t.dwell
    let pair := fun (r : Band) => if r.period = 0 then none
      else some (s.now + ms r.occupancy - s.carrierTime q i (ms r.period))
    let first := if dwell = 0xFFFF then none else some (s.onSince q + ms dwell)
    sooner first (sooner (pair f) (pair t))

/-- The re-use off time of a channel in ticks: the larger of the fused and site values in force (R109, R119). -/
def State.reuseTicks (s : State) (i : Nat) : Nat :=
  match s.bandOf (s.channelAt i) with
  | none => 0
  | some b => ms (peak (s.fusedBand b).reuse (s.inForce.siteBand b).reuse)

/-- Whether a channel is in re-use off time for a quad. -/
def State.inReuse (s : State) (q i : Nat) : Bool :=
  (s.tx q).reuse.any (fun r => decide (r.1 = i) && decide (s.now < r.2))

/-! ### Ending an exchange, and carrier-off -/

/-- Release the FIFO reservation and the unused credits of a quad's slot (R44). -/
def State.releaseSlot (s : State) (q : Nat) : State :=
  let x := s.seq q
  let s1 := if x.reserved then s.modPort x.port (fun p => { p with reserved := p.reserved - 1 }) else s
  let s2 := s1.giveCredit x.creditShade x.credits
  (s2.modSeq q (fun x => { x with reserved := false, credits := 0, inSlot := false })).settle

/-- The provisional entry of a tag whose sequence a quad abandons is cancelled with cause 5 (R239). -/
def State.dropProvisional (s : State) (q : Nat) (t : Tag) : State :=
  match t.entry with
  | none => s
  | some n => match s.tag n with
    | some e => if !e.confirmed && decide (e.maker = q) then s.cancelTag n 5 else s
    | none => s

/-- The tag's sequence ends: its claim ends, and where it was cut the provisional entries that wait for it are cancelled (R239, R245). -/
def State.endSequence (s : State) (q : Nat) (cut : Bool) : State :=
  let x := s.seq q
  let s1 := if cut then (x.tag :: x.waiting).foldl (fun st t => st.dropProvisional q t) s else s
  (s1.endClaims q).modSeq q (fun x => { x with tag := noTag, hsb := noHsb, listed := 0, slot := 0, waiting := [] })

/-- Whether holds keep a quad from a command that is due: its next one starts a slot or round (R246). -/
def State.heldNow (s : State) (r : Nat) : Bool :=
  match (s.seq r).due with
  | d :: _ => decide ((s.seq r).state = 1) && d.startsSlot && decide ((s.seq r).earliest < s.now) && decide ((s.tx r).carrier = 2)
  | [] => false

/-- The hold of quad r by quad q ends: code 1 decision, 2 withdrawn, 3 hold limit, 4 slack. A hold that kept a command
back is counted and reported with the time it kept it (R246). -/
def State.endHold (s : State) (r q code : Nat) : State :=
  match (s.seq r).holds.find? (fun h => decide (h.1 = q)) with
  | none => s
  | some h =>
    let s1 := s.modSeq r (fun y => { y with holds := y.holds.filter (fun x => decide (x.1 ≠ q)) })
    if s.heldNow r then
      ((s1.modSeq q (fun y => { y with holdsBegun := y.holdsBegun + 1 })).count 0x3101 13).raise 0x3007
        ([r, q] ++ dU 2 (satTo 65535 ((s.now - peak h.2 (s.seq r).earliest) * 78125 / 960000)) ++ [code]) s1.allJoined (perMinute r)
    else s1

/-- Every hold on a quad ends. -/
def State.endOwnHolds (s : State) (r code : Nat) : State := s.each ((s.seq r).holds.map (·.1)) (fun st q => st.endHold r q code)

/-- The exchange in progress, and with it the slot, is abandoned (R44); holds on the quad have no command left to keep (log entry
112). -/
def State.abandon (s : State) (q : Nat) : State :=
  (((s.endOwnHolds q 4).releaseSlot q).endSequence q true).modSeq q (fun x => { x with
    state := 0, due := [], next := 0, failed := false, offAfter := false, offNow := false })

/-- The canceller block of a port as a settled port writes it at carrier-off, with the measured power (Table 4 of chapter 4, R143). -/
def State.cancBlock (s : State) (q p : Nat) : List Byte :=
  let x := s.port p
  fit 16 ((x.vector ++ x.taps).flatMap (fun v => leInt 2 v)) ++ [byte (satTo 255 (x.analog / 25)), byte (satTo 255 (x.digital / 25))] ++
    leInt 2 (s.int (0x2200 + q) 5) ++
    leInt 2 (s.bank (q / 4)).temp ++ [byte (1 + 2 * b01 (decide ((s.tx q).port = p))), 0#8]

/-- Every settled port writes its block of the entry in use (R143). -/
def State.storeVectors (s : State) (q : Nat) : State :=
  match (s.tx q).index with
  | none => s
  | some i =>
    s.each ((portsOf q).filter (fun p => decide (s.nat (0x2130 + p) 3 = 3))) (fun st p =>
      st.modChan q (entryNo i (s.tx q).port) (fun e => { e with
        cancValid := true, blocks := tmod e.blocks (p % 4) (fun _ => s.cancBlock q p) }))

/-- Receivers of a quad go idle with the carrier (Table 2 of chapter 4). -/
def State.receiversOff (s : State) (q : Nat) : State :=
  s.each (portsOf q) (fun st p => ((st.set (0x2130 + p) 2 0).set (0x2130 + p) 3 0).modPort p (fun x => { x with shallowRaised := false, servo := [0, 0] }))

/-- Whether a carrier rise is due within the request lead: a quad has work for the window it is in, or for one that can open within the
lead (R122). -/
def State.riseDue (s : State) : Bool :=
  s.power.paBias && (List.range 12).any (fun q => (s.seq q).plan.isSome && !(s.tx q).faulted &&
    ((s.inWindow q && decide ((s.seq q).window ≤ s.belfry.slots)) || decide (s.earliestBoundary 1 ≤ s.now + us (s.nat 0x2300 2))))

/-- CX_REQ falls with the last carrier when no rise is due within the lead (R122). -/
def State.cxRest (s : State) : State :=
  if s.pins.cxReq && decide (s.emitting = 0) && !s.riseDue then
    ({ s with pins := { s.pins with cxReq := false } } : State).set 0x2300 6 (setBit (s.nat 0x2300 6) 0 false)
  else s

/-- A quad's carrier goes off: the dwell ends, a dwell limit starts the re-use off time, settled vectors are
stored, the receivers go idle, and any round and handle end (R119, R143, R218). -/
def State.carrierOff (s : State) (q : Nat) : State :=
  if !s.carrierOn q then s
  else
    let x := s.tx q
    let s1 := if x.carrier = 1 ∨ x.carrier = 3 then s else s.storeVectors q
    let limit := decide (x.offReason = 1)
    let s2 := s1.modTx q (fun t => { t with
      carrier := 0, hopped := false, index := none, offReason := 0, lastIndex := x.index, short := none,
      dwells := t.dwells.map (fun d => if d.stop = none then { d with stop := some s.now } else d),
      reuse := match x.index with
        | some i => if limit then t.reuse.filter (fun r => decide (s.now < r.2)) ++ [(i, s.now + s.reuseTicks i)] else t.reuse
        | none => t.reuse })
    let s3 := ((s2.set (0x2200 + q) 1 (if x.faulted then 5 else 0)).set (0x2200 + q) 2 0xFFFF).set (0x2200 + q) 3 0xFF
    ((s3.receiversOff q).modSeq q (fun y => { y with state := 0, due := [], offAfter := false, offNow := false })).cxRest

/-- A hop that no longer serves is dropped: the quad has no channel (`0x2200`+q:01 and :02). -/
def State.dropHop (s : State) (q : Nat) : State :=
  ((s.modTx q (fun t => { t with hopped := false, index := none })).set (0x2200 + q) 1 0).set (0x2200 + q) 2 0xFFFF

/-- An exchange is cut with its carrier: abandoned, and the carrier off at once. -/
def State.cutQuad (s : State) (q : Nat) : State := (s.abandon q).carrierOff q

/-- The carrier ramps down over the ramp time, from the end of a command that is still being sent (R94, Table 2). -/
def State.rampDown (s : State) (q : Nat) : State :=
  if (s.tx q).carrier = 2 then
    ((s.releaseSlot q).modTx q (fun t => { t with carrier := 4, rampTick := peak s.now (s.seq q).cmdEnd })).modSeq q (fun x => { x with
      state := 0, due := [], offAfter := false, offNow := false })
  else s

/-- The exchange in progress is the carrier's last: with none in progress the carrier goes off, and a tag's sequence with it. -/
def State.closeAfterExchange (s : State) (q : Nat) : State :=
  if 2 ≤ (s.seq q).state then s.modSeq q (fun x => { x with offNow := true })
  else if (s.tx q).carrier = 2 then (s.endSequence q true).rampDown q
  else s

/-- What a quad's exchange does while it lasts, under the values that it started with (R46); they go with the exchange, and a
carrier that was to last no longer than it closes with it. -/
def State.underOld (s : State) (q : Nat) (f : State → State) : State :=
  let old := (s.seq q).frozen
  let s1 := if old.isEmpty then f s else (f (s.overlay old)).dictAs s old
  let s2 := if (s1.seq q).state < 2 ∧ old.isEmpty = false then s1.modSeq q (fun x => { x with frozen := [] }) else s1
  if (s2.seq q).offNow && decide ((s2.seq q).state < 2) then s2.closeAfterExchange q else s2

/-- A quad's fault sets its four ports to faulted with cause 4, in front of a cause they had (R22, R90). -/
def State.quadFaulted (s : State) (q : Nat) : State :=
  (s.each (portsOf q) (fun st p =>
    let c := st.nat (0x2100 + p) 3
    (st.modPort p (fun y => { y with causeBefore := if c = 4 then y.causeBefore else c })).set (0x2100 + p) 3 4)).set (0x2200 + q) 1 5

/-- A quad's fault ends, and each of its ports has the cause it had before (R90; log entry 92). -/
def State.quadMended (s : State) (q : Nat) : State :=
  ((s.modTx q (fun t => { t with faulted := false })).each (portsOf q) (fun st p =>
    if st.nat (0x2100 + p) 3 = 4 then (st.set (0x2100 + p) 3 (st.port p).causeBefore).modPort p (fun y => { y with causeBefore := 0 }) else st)).set
    (0x2200 + q) 1 0

/-! ### Plans on quads (R233, R234) -/

/-- A plan as it runs. -/
def State.plan (s : State) (p : Nat) : PlanRun := tget s.plans p planAtReset

/-- Change a plan as it runs. -/
def State.modPlan (s : State) (p : Nat) (f : PlanRun → PlanRun) : State := { s with plans := tmod s.plans p f }

/-- A plan's round on a port. -/
def State.round (s : State) (p port : Nat) : Round :=
  NMap.getD s.rounds (64 * p + port) { group := 0, qfp := none, selectsSent := false, finished := false, request := none }

/-- Change a plan's round on a port. -/
def State.modRound (s : State) (p port : Nat) (f : Round → Round) : State :=
  { s with rounds := NMap.put s.rounds (64 * p + port) (f (s.round p port)) }

/-- The transmit ports of a plan in a quad: those of its mask on which the owner still has permission (R227). -/
def State.planPorts (s : State) (p q : Nat) : List Nat :=
  (portsOf q).filter (fun n => bitOf (s.planObj p 4) n && s.permits (s.planOwner p) n)

/-- The plan's next group on a port. -/
def State.nextGroup (s : State) (p port : Nat) : Option Group :=
  let r := s.round p port
  if r.finished then none else (s.planGroups p)[r.group]?

/-- The port a plan works on next in a quad: the first in port order that permits emission and has a group left; none where the
window's kind does not allow that group (R230, R233). -/
def State.nextPort (s : State) (p q kind : Nat) : Option Nat :=
  ((s.planPorts p q).find? (fun n => s.mayEmit n && (s.nextGroup p n).isSome)).filter (fun n =>
    match s.nextGroup p n with
    | some g => decide (kind = 2) || !s.groupHsbOnly p g
    | none => false)

/-- Whether a port may go on with a plan's work: it is one of the plan's, its owner holds it, and it permits emission (R107, R227). -/
def State.portServes (s : State) (p n : Nat) : Bool := (s.planPorts p (n / 4)).contains n && s.mayEmit n

/-- Whether a plan is eligible on a quad in a window (R233). -/
def State.eligible (s : State) (p q shade kind : Nat) : Bool :=
  decide (s.planOwner p = shade) && decide (s.planObj p 2 = 1) && (s.plan p).running && decide ((s.plan p).cause = 0) &&
  !bitOf (s.plan p).ended q && (s.nextPort p q kind).isSome

/-- Whether plan `a` goes before plan `b` on a quad: priority, then longest without air on it, then number. -/
def State.planBefore (s : State) (q a b : Nat) : Bool :=
  let air := fun p => NMap.getD (s.plan p).lastAir q 0
  if s.planObj a 3 ≠ s.planObj b 3 then decide (s.planObj b 3 < s.planObj a 3)
  else if air a ≠ air b then decide (air a < air b)
  else decide (a < b)

/-- The plan that runs next on a quad in a window of a shade and kind (R233). -/
def State.choosePlan (s : State) (q shade kind : Nat) : Option Nat :=
  ((List.range 64).filter (fun p => s.eligible p q shade kind)).foldl (fun m p =>
    match m with
    | some b => if s.planBefore q p b then some p else some b
    | none => some p) none

/-- The modulation of a plan's link profile. -/
def State.planModulation (s : State) (p : Nat) : Nat := s.linkObj (s.planObj p 5) 9

/-- The power that a plan requests on a port: the adaptive value, within the step's range (R100). -/
def State.request (s : State) (p port : Nat) : Int :=
  let lo := s.int (0x3000 + p) 12
  let hi := s.int (0x3000 + p) 11
  match (s.round p port).request with
  | some r => if r < lo then lo else if hi < r then hi else r
  | none => hi

/-! ### The choice of a channel (R118) -/

/-- The channels that other quads of the bank use, or have hopped to. -/
def State.bankChannels (s : State) (q : Nat) : List Nat :=
  ((quadsOf (q / 4)).filter (fun x => decide (x ≠ q))).filterMap (fun x => (s.tx x).index)

/-- The candidates for a carrier rise among some list indices: those not in re-use off time, less what the bank uses
where another remains (R118). -/
def State.candidates (s : State) (q : Nat) (set : List Nat) : List Nat :=
  let l := set.filter (fun i => !s.inReuse q i)
  let free := l.filter (fun i => !(s.bankChannels q).contains i)
  if free.isEmpty then l else free

/-- The channel of a carrier rise among some list indices: a uniform draw, which the Dome's random source must give, or the next one in
list order (R118, R395). -/
def State.chooseFrom (s : State) (q : Nat) (set : List Nat) (draw : Nat) : Option Nat :=
  let l := s.candidates q set
  if s.nat (0x2200 + q) 6 = 0 then (if s.domeFailed then none else l[draw % l.length]?)
  else match (s.tx q).lastIndex with
    | some i => match l.find? (fun x => decide (i < x)) with
      | some x => some x
      | none => l.head?
    | none => l.head?

/-- The channel of a carrier rise for a modulation in a window of a shade (R117, R118). -/
def State.chooseChannel (s : State) (q shade modulation draw : Nat) : Option Nat :=
  s.chooseFrom q (s.inForce.hopSet shade modulation) draw

/-! ### Quiet slots (R154, R577) -/

/-- Quiet slots from this one on that include a quad where one is named, up to the frame boundary that a calendar
transaction waits for (R577). -/
def State.quietLeft (s : State) (quad : Option Nat) : Nat :=
  let ok := fun (k : Nat) => let e := s.entryAt (slotAfter s.frameSlot k)
    decide (entryKind e = 0) && (match quad with
      | some q => entryHas e q
      | none => true)
  let run := ((List.range 128).takeWhile ok).length
  match s.classCAhead with
  | some c => if c < run then c else run
  | none => run

/-- Whether a slice of a duration fits in the rest of the run (R577). -/
def State.sliceFits (s : State) (quad : Option Nat) (ticks : Nat) : Bool :=
  let n := s.quietLeft quad
  decide (0 < n) && decide (s.now + ticks ≤ s.earliestBoundary n)

/-- Whether the sweep runs slices now: in full operation and in standby (R578, R614, R615). -/
def State.sweeping (s : State) : Bool :=
  s.sweep.running && !s.sweep.suspended && !s.inSafe && s.flag 0x1700 1 && decide (s.power.mode ≠ 2)

/-- Whether a logic slice of a quad is due and fits, and so goes before its other uses of a quiet slot (R154). -/
def State.sliceDue (s : State) (q : Nat) : Bool :=
  s.sweeping && decide (tget s.sweep.logicDone q 32 < 32) && decide (s.power.mode = 0) && s.sliceFits (some q) (us 1000)

/-- Whether a quad has a synthesizer part to calibrate in the background: a stale or missing one on a channel of the list (R87). -/
def State.calibrationDue (s : State) (q : Nat) : Bool :=
  (List.range s.channels.length).any (fun i => (List.range 4).any (fun p => decide (s.coldPart q (4 * i + p) ≠ 0)))

/-! ### The bank supply (R105, R106) -/

/-- A bank's PA supply leaves its window: rising ramps of that bank are held at their level; a falling one goes on (R106; log
entry 86). -/
def State.supplyOut (s : State) (b : Nat) : State :=
  if (s.bank b).inWindow then
    let s1 := (s.modBank b (fun x => { x with inWindow := false })).set 0x2060 8 (setBit (s.nat 0x2060 8) b false)
    s1.each ((quadsOf b).filter (fun q => decide ((s.tx q).carrier = 1))) (fun st q =>
      ((st.modTx q (fun t => { t with carrier := 3, heldTick := s.now, ramped := t.ramped + (s.now - t.rampTick) })).set (0x2200 + q) 1 4).count (0x2200 + q) 13)
  else s

/-- The supply is back in its window: held ramps resume from their level, with event 0x2204 (R106). -/
def State.supplyBack (s : State) (b : Nat) : State :=
  if (s.bank b).inWindow then s
  else
    let s1 := (s.modBank b (fun x => { x with inWindow := true })).set 0x2060 8 (setBit (s.nat 0x2060 8) b true)
    s1.each ((quadsOf b).filter (fun q => decide ((s.tx q).carrier = 3))) (fun st q =>
      let held := (s.now - (s.tx q).heldTick) * 78125 / 960000
      ((st.modTx q (fun t => { t with carrier := 1, rampTick := s.now })).set (0x2200 + q) 1 2).raise 0x2204
        ([q, b] ++ dU 2 (satTo 65535 held)) st.allJoined)

/-- The PA supply of a bank is measured: in window while it lies within 11.0–13.0 V, back in it after 2 µs without a measurement
outside (R105). -/
def State.supplyMeasured (s : State) (b mv : Nat) : State :=
  let s1 := s.modBank b (fun x => { x with supply := mv })
  if mv < 11000 ∨ 13000 < mv then (s1.modBank b (fun x => { x with outTick := s.now })).supplyOut b
  else if (s.bank b).outTick + us 2 < s.now then s1.supplyBack b
  else s1

end Sys2Proof.Machine
end

