-- ==== Sys2Proof/Machine/Slots.lean ====
section
/-! DEFINITION. The sequencer's units of work: the commands due, their bits and duration, the gates of R42,
slots and rounds, and the work given to a quad (R42–R44, R207, R218, R220–R222, R230–R234, R477). -/

namespace Sys2Proof.Machine

/-- The link of the plan a quad works on. -/
def State.seqLink (s : State) (q : Nat) : Link := s.link (s.planObj ((s.seq q).plan.getD 0) 5)

/-- The session of the plan a quad works on. -/
def State.seqSession (s : State) (q : Nat) : Nat := s.planObj ((s.seq q).plan.getD 0) 6

/-- The step of the plan that a due command belongs to. -/
def State.dueStep (s : State) (q : Nat) (d : Due) : List Byte := s.planStep ((s.seq q).plan.getD 0) (d.step - 1)

/-- A half of a password, the upper one first. -/
def half (password i : Nat) : Nat := if i = 0 then password / 65536 else password % 65536

/-- Word `i` of a plan's write data, most significant byte first. -/
def State.writeWord (s : State) (p i : Nat) : Nat := ofBe (slice (s.bytes (0x3000 + p) 17 32) (2 * i) 2)

/-- The KeyID of an Authenticate: in a meter plan that of the class named in clear by the tag's pseudonym, bits
[87:80] of its EPC; the step's otherwise (R215, R244, R335). -/
def State.keyId (s : State) (q p : Nat) (b : List Byte) : Nat :=
  if s.isMeterPlan p then s.nat (0x4010 + byteAt (s.seq q).tag.epc 1 % 32) 2 else byteAt b 3

/-- The slot length L of a GroupACK in ticks of HSB (R288). -/
def State.groupSlot (s : State) (q : Nat) : Nat :=
  let l := s.seqLink q
  let bits := l.pre + (32 + 16 * s.epcWords ((s.seq q).plan.getD 0)) + 1
  let tick := samples (s.nat 0x3200 2)
  ceilDiv (ceilDiv (bits * l.m * l.tpri * 1000) (64 * (1000 - l.tol)) + samples (2 * s.nat 0x3200 4)) tick + 8

/-- The RN16s that a GroupACK lists: the primary's and those of the resolved streams that fit. -/
def State.groupList (s : State) (q : Nat) : List Nat :=
  (s.seq q).tag.rn16 :: ((s.seq q).waiting.take ((s.seq q).listed - 1)).map (·.rn16)

/-- The bits of a due command (chapter 6, Table 1; chapter 8, Tables 2–4). -/
def State.dueBits (s : State) (q : Nat) (d : Due) : List Bool :=
  let x := s.seq q
  let p := x.plan.getD 0
  let l := s.seqLink q
  let b := s.dueStep q d
  let h := x.tag.handle
  let bank := byteAt b 2
  let ptr := fieldAt b 4 4
  let words := (bitsOfBytes (s.bytes (0x3000 + p) 17 32)).take (16 * byteAt b 3)
  if d.cmd = 1 then
    if d.arg = 255 then
      selectBits bank (byteAt b 3) 1 0x20 (((bitsOfBytes x.tag.epc).take 255))
    else
      let e := s.planSelect p d.arg
      selectBits (byteAt e 0) (byteAt e 1) (byteAt e 2) (fieldAt e 4 4) ((bitsOfBytes (e.drop 9)).take (byteAt e 3))
  else if d.cmd = 2 then
    queryBits (s.linkObj l.number 6) l.m (s.linkObj l.number 8) (byteAt b 3) (s.seqSession q) (s.planTarget p) d.arg
  else if d.cmd = 3 then queryAdjustBits (s.seqSession q) (decide (d.arg = 1))
  else if d.cmd = 4 then queryRepBits (s.seqSession q)
  else if d.cmd = 5 then ackBits x.tag.rn16
  else if d.cmd = 6 then nakBits
  else if d.cmd = 7 then reqRnBits (if d.arg = 0 then x.tag.rn16 else h)
  else if d.cmd = 8 then readBits bank ptr (byteAt b 3) h
  else if d.cmd = 9 then writeBits bank ptr (cover (s.writeWord p (byteAt b 3)) x.tag.cover) h
  else if d.cmd = 10 then killBits (cover (half (s.planObj p 16) d.arg) x.tag.cover) h
  else if d.cmd = 11 then lockBits (fieldAt b 4 3) h
  else if d.cmd = 12 then accessBits (cover (half (s.planObj p 15) d.arg) x.tag.cover) h
  else if d.cmd = 13 then blockWriteBits bank ptr words h
  else if d.cmd = 14 then blockEraseBits bank ptr (byteAt b 3) h
  else if d.cmd = 15 then blockPermalockBits bank ptr (byteAt b 3) words h
  else if d.cmd = 16 then untraceableBits (fieldAt b 2 2) h
  else if d.cmd = 17 then
    authenticateBits (tamMessage bank (s.keyId q p b) x.challenge (byteAt b 4) (fieldAt b 5 2) (byteAt b 7)) h
  else if d.cmd = 18 then hsbProbeBits h
  else if d.cmd = 19 then hsbLoadBits x.hsb.code x.hsb.map bank ptr (fieldAt b 8 2) h
  else hsbGroupAckBits (s.groupSlot q) (s.groupList q)

/-- The duration of a due command; HSB commands add HCAL (R262). -/
def State.dueTicks (s : State) (q : Nat) (d : Due) : Nat :=
  let t := (s.seqLink q).commandTicks (decide (d.cmd = 2)) (s.dueBits q d)
  if 18 ≤ d.cmd then t + samples (32 * s.nat 0x3200 2) else t

/-- How long an HSB command waits for the start with which its end falls on a sample instant (R262; log entry 106). -/
def State.dueShift (s : State) (q : Nat) (d : Due) : Nat := if 18 ≤ d.cmd then (12 - (s.now + s.dueTicks q d) % 12) % 12 else 0

/-! ### Rounds -/

/-- The group a quad works on. -/
def State.seqGroup (s : State) (q : Nat) : Option Group :=
  match (s.seq q).plan with
  | some p => s.nextGroup p (s.seq q).port
  | none => none

/-- Hundredths rounded to a whole number, halves up (R220). -/
def roundQ (f : Nat) : Nat := (f + 50) / 100

/-- The Q with which a step's Query starts: the saved value, else the step's, else the profile's (R222, Table 3 of
chapter 7). -/
def State.startQ (s : State) (p port : Nat) (g : Group) : Nat :=
  match (s.round p port).qfp with
  | some f => roundQ f
  | none =>
    let v := byteAt (s.planStep p g.inventory) 4
    if v = 255 then s.linkObj (s.planObj p 5) 17 else v

/-- The commands that open a group at a carrier rise: its Selects, then the Query (R218, R230). A Select marked in
byte 8 is sent once per pass on the port. -/
def State.openingDues (s : State) (p port : Nat) (g : Group) : List Due :=
  let mask := byteAt (s.planStep p g.inventory) 2
  let sel := (bitsOf 8 mask).filter (fun i => !(bitOf (byteAt (s.planSelect p i) 8) 0 && (s.round p port).selectsSent))
  sel.map (fun i => { cmd := 1, arg := i, step := 0 }) ++ [{ cmd := 2, arg := s.startQ p port g, step := g.inventory + 1 }]

/-- The worst case that must fit before a due command starts a slot: the Selects still due and the slot with the
tag's whole sequence (R208, R231); 0 for a command inside a slot. -/
def State.dueWorst (s : State) (q : Nat) : Nat :=
  let x := s.seq q
  match x.plan, s.seqGroup q, x.due with
  | some p, some g, d :: _ =>
    let l := s.seqLink q
    if 1 ≤ d.cmd ∧ d.cmd ≤ 4 ∧ d.arg ≠ 255 then
      let sel := x.due.filter (fun e => decide (e.cmd = 1))
      let slot := (x.due.filter (fun e => decide (e.cmd ≠ 1))).head?.getD d
      sumOf (sel.map (fun e => s.dueTicks q e + 2 * l.rtcal)) + s.worstSlot l p x.port g (s.dueTicks q slot)
    else 0
  | _, _, _ => 0

/-! ### Gates (R42) -/

/-- Whether CX_GNT permits emission where coexistence is enabled. -/
def State.granted (s : State) : Bool := !s.flag 0x2300 1 || s.pins.cxGnt

/-- Whether a channel, power and modulation lie inside both charters and the shade's policy (R42, R93, R96,
R117), as they are in force (R109). A port whose power falls outside shows nothing of it (log entry 84). -/
def State.insideCharters (s : State) (shade port i modulation : Nat) (request : Int) : Bool :=
  (s.inForce.hopSet shade modulation).contains i &&
  (match s.bandOf (s.channelAt i) with
   | some b => decide (1000 ≤ s.inForce.targetPower shade port b request)
   | none => false)

/-- The gates of R42 that hold for every command: safe state, the window and its shade, the port, the charters,
coexistence. -/
def State.gateOpen (s : State) (q : Nat) : Bool :=
  let x := s.seq q
  match x.plan, (s.tx q).index with
  | some p, some i =>
    !s.inSafe && s.inWindow q && decide (x.window ≤ s.belfry.slots) && decide (s.windowShade = x.shade) && decide (s.planOwner p = x.shade) && s.guardPassed q &&
    s.portServes p x.port && s.insideCharters x.shade x.port i (s.planModulation p) (s.request p x.port) && s.granted
  | _, _ => false

/-- Whether work that ends at a tick fits the window and the dwell limit (R42, R43). -/
def State.workFits (s : State) (q ends : Nat) : Bool :=
  fits ends (s.windowEnd q) &&
  (match (s.tx q).index with
   | some i => fits ends (s.dwellEnd q i)
   | none => true)

/-- Whether the dwell limit, and not the window, stops the work. -/
def State.dwellStops (s : State) (q ends : Nat) : Bool :=
  fits ends (s.windowEnd q) &&
  (match (s.tx q).index with
   | some i => !fits ends (s.dwellEnd q i)
   | none => false)

/-- Whether a port FIFO has an entry to reserve. -/
def State.fifoRoom (s : State) (p : Nat) : Bool := decide ((s.port p).reserved + (s.port p).fifo.length < 64)

/-- Reserve a port FIFO entry; its peak follows (R474). -/
def State.reserveFifo (s : State) (q : Nat) : State :=
  let p := (s.seq q).port
  let s1 := (s.modPort p (fun x => { x with reserved := x.reserved + 1 })).modSeq q (fun x => { x with reserved := true })
  s1.setPeak (0x5020 + q) 7 ((s1.port p).reserved + (s1.port p).fifo.length)

/-- Each further reply slot of a GroupACK takes an entry of its own, where there is room (R179; log entry 104). -/
def State.reserveNext (s : State) (q : Nat) : State := if s.fifoRoom (s.seq q).port then s.reserveFifo q else s

/-- Release the reservation of the exchange in progress (R44, R474). -/
def State.releaseFifo (s : State) (q : Nat) : State :=
  if (s.seq q).reserved then
    (s.modPort (s.seq q).port (fun x => { x with reserved := x.reserved - 1 })).modSeq q (fun x => { x with reserved := false })
  else s

/-! ### The work of a quad -/

/-- Give a quad the plan that runs next in a window of a shade and kind, with its port (R233). A window that has
been sat out, or that had no eligible plan, stays idle (R234). -/
def State.assign (s : State) (q shade kind window : Nat) : State :=
  if (s.seq q).satOut = some window ∧ window ≠ 0 then s.modSeq q (fun x => { x with plan := none, window := window })
  else match s.choosePlan q shade kind with
  | none => s.modSeq q (fun x => { x with plan := none, window := window, satOut := if window = 0 then none else some window })
  | some p =>
    s.modSeq q (fun x => { x with plan := some p, port := (s.nextPort p q kind).getD (4 * q), shade := shade, window := window })

/-- Give a quad work in the window that covers it now. -/
def State.assignNow (s : State) (q : Nat) : State :=
  if s.inWindow q then s.assign q s.windowShade (entryKind s.entryNow) (s.windowId q)
  else s.modSeq q (fun x => { x with plan := none })

/-- The longest run of slots that windows of a shade and HSB kind give a quad; 128 when it has no end. -/
def State.longestHsb (s : State) (q shade : Nat) : Nat :=
  (List.range 128).foldl (fun m f =>
    let e := s.entryAt f
    if entryHas e q ∧ entryKind e = 2 ∧ entryShade e = shade then peak m (s.slotsLeft q f) else m) 0

/-- An HSB step whose worst case exceeds every window of its shade on the quad is never started: event 0x3205 once per pass names the
first such step (R292). -/
def State.neverFits (s : State) (q : Nat) : State :=
  match (s.seq q).plan, s.seqGroup q with
  | some p, some g =>
    let n := s.longestHsb q (s.seq q).shade
    let l := s.seqLink q
    let usable := earliest 0 s.belfry.ceilK n - 2 * s.guard
    match g.access.find? (fun i => decide (stepKind (s.planStep p i) = 12) && decide (usable < s.worstHsb l (s.seq q).port (s.planStep p i))) with
    | some i =>
      if !(s.plan p).unfit && decide (n < 128) then
        (s.modPlan p (fun r => { r with unfit := true })).raise 0x3205
          ([p, i + 1] ++ dU 4 (ceilDiv (s.worstHsb l (s.seq q).port (s.planStep p i) * 25) 3072)) (withSlate (s.planOwner p))
      else s
    | none => s
  | _, _ => s

/-- The plan's next slot does not fit before the end of the window or the dwell limit: the carrier goes off and the window stays idle (R43,
R234). Where the dwell limit stops it, the channel enters its re-use off time (R119). -/
def State.noFit (s : State) (q ends : Nat) : State :=
  let s1 := if s.dwellStops q ends then s.modTx q (fun t => { t with offReason := 1 }) else s.neverFits q
  (s1.modSeq q (fun x => { x with satOut := some (s.windowId q) })).rampDown q

/-- A pass of a plan ends: event 0x3003 with its outcome, and its result (R232). -/
def State.endPass (s : State) (p outcome : Nat) : State :=
  let r := s.plan p
  let took := (s.now - r.started) / 122880
  let s1 := ((s.set (0x3000 + p) 44 r.confirmed).set (0x3000 + p) 45 took).modPlan p (fun r => { r with
    running := false
    due := if r.due = none then none
      else if s.isBoundaryPlan p ∨ s.planObj p 9 = 0 ∨ r.overrun then some s.now
      else some (r.started + ms (s.planObj p 9)) })
  s1.raise 0x3003 ([p, outcome] ++ dU 2 (satTo 65535 r.confirmed) ++ dU 2 (satTo 65535 (took / 100))) (withSlate (s.planOwner p))

/-- The quads that hold at least one of a plan's transmit ports. -/
def State.planQuads (s : State) (p : Nat) : List Nat := (List.range 12).filter (fun q => !(s.planPorts p q).isEmpty)

/-- A quad's part of a pass ends when every port's groups are complete; the pass, when every quad's part has ended
(R232). -/
def State.endPart (s : State) (p q : Nat) : State :=
  if (s.planPorts p q).all (fun n => (s.round p n).finished) then
    let s1 := s.modPlan p (fun r => { r with ended := setBit r.ended q true })
    if (s1.planQuads p).all (fun x => bitOf (s1.plan p).ended x) then s1.endPass p 1 else s1
  else s

/-- The same, where the part has not ended yet: a port that lost its permission is not waited for (R227, R232). -/
def State.partOver (s : State) (p q : Nat) : State :=
  if (s.plan p).running && !bitOf (s.plan p).ended q then s.endPart p q else s

/-- A quad whose carrier has gone off inside a window goes on with its plan, on the first of its ports that has work left; where the
window's kind or its ports do not allow it, or it sat out, the window stays idle; once the plan's part has ended the engine chooses
anew (R233, R234). -/
def State.goOn (s : State) (q : Nat) : State :=
  match (s.seq q).plan with
  | none => s.assignNow q
  | some p =>
    let s1 := s.partOver p q
    let r := s1.plan p
    let w := s1.windowId q
    if !s1.inWindow q || decide ((s1.seq q).window ≠ w) || (decide ((s1.seq q).satOut = some w) && decide (w ≠ 0)) || bitOf r.ended q || !r.running || decide (r.cause ≠ 0) then
      s1.assignNow q
    else match s1.nextPort p q (entryKind s1.entryNow) with
      | some n => s1.modSeq q (fun x => { x with port := n })
      | none => s1.modSeq q (fun x => { x with plan := none, satOut := if w = 0 then none else some w })

/-- Whether session Sn is allocated to a shade (R219). -/
def State.allocated (s : State) (sh n : Nat) : Bool := bitOf (s.nat 0x3310 (n + 1)) sh

/-- Whether every Select of a group's inventory step, and every Mark of it, targets SL or a session that the plan's owner holds (R219). The plan's
own session, when it is lost, suspends the plan as a whole (R235). -/
def State.groupAllocated (s : State) (p : Nat) (g : Group) : Bool :=
  (bitsOf 8 (byteAt (s.planStep p g.inventory) 2)).all (fun i =>
    decide (3 < byteAt (s.planSelect p i) 0) || s.allocated (s.planOwner p) (byteAt (s.planSelect p i) 0)) &&
  g.access.all (fun i => decide (stepKind (s.planStep p i) ≠ 11) || decide (3 < byteAt (s.planStep p i) 2) ||
    s.allocated (s.planOwner p) (byteAt (s.planStep p i) 2))

/-- Groups that name a session their shade has lost are skipped and counted, up to `n` of them (R219). -/
def State.skipGroups (s : State) (p port : Nat) : Nat → State
  | 0 => s
  | n + 1 => match s.nextGroup p port with
    | some g =>
      if s.groupAllocated p g then s
      else ((s.count 0x3310 8).modRound p port (fun r => { r with
        group := r.group + 1, qfp := none, finished := decide ((s.planGroups p).length ≤ r.group + 1) })).skipGroups p port n
    | none => s

/-- The same on every port of a running plan that no quad works on for it (R219); a quad with no group left has ended its
part. -/
def State.skipIdle (s : State) (p : Nat) : State :=
  (s.planQuads p).foldl (fun st q =>
    let st1 := ((st.planPorts p q).filter (fun n => !(decide ((st.seq q).plan = some p) && decide ((st.seq q).port = n)))).foldl
      (fun st n => st.skipGroups p n 16) st
    if decide ((st.seq q).plan = some p) && st.carrierOn q then st1 else st1.partOver p q) s

/-- The inventory of a group is complete on the port: the next group follows, or the port is finished (R221,
R230). Between two groups on one port the carrier stays on (R207); a change of port or plan falls between two
carriers (R25). -/
def State.groupDone (s : State) (q : Nat) : State :=
  let x := s.seq q
  match x.plan with
  | none => s
  | some p =>
    let s1 := (s.modRound p x.port (fun r => { r with group := r.group + 1, qfp := none })).skipGroups p x.port 16
    match s1.nextGroup p x.port with
    | some g =>
      if s1.groupHsbOnly p g && decide (entryKind s1.entryNow ≠ 2) then
        (s1.modSeq q (fun x => { x with state := 0, due := [] })).rampDown q
      else s1.modSeq q (fun y => { y with state := 1, due := s1.openingDues p x.port g, next := 0 })
    | none =>
      let s2 := (s1.modRound p x.port (fun r => { r with finished := true })).endPart p q
      (s2.rampDown q).modSeq q (fun x => { x with state := 0, due := [] })

/-- A slot ends: unused credits are released and the next slot's command falls due (R220, R221, R44). -/
def State.endSlot (s : State) (q : Nat) : State :=
  let x := s.seq q
  let s1 := (s.releaseSlot q).endSequence q false
  let go := fun (d : Due) => s1.modSeq q (fun y => { y with state := 1, due := [d], next := 0, failed := false })
  let step := match s.seqGroup q with
    | some g => g.inventory + 1
    | none => 1
  if x.offAfter then s1.rampDown q
  else if x.next = 5 then s1.groupDone q
  else if x.next = 1 then go { cmd := 4, arg := 0, step := step }
  else if x.next = 2 then go { cmd := 3, arg := 1, step := step }
  else if x.next = 3 then go { cmd := 3, arg := 2, step := step }
  else go { cmd := 2, arg := x.q, step := step }

end Sys2Proof.Machine
end

