-- ==== Sys2Proof/Machine/Radio.lean ====
section
/-! DEFINITION. The UHF transmit path: hops and calibration, ramps and the bank supply, power, tuner and
mismatch, probes, dwell, coexistence (chapter 3, R85–R125). Over-temperature and the charter check enter safe
state and stand in Machine/SafeState.lean. -/

namespace Sys2Proof.Machine

/-! ### Hops and calibration (R86–R90) -/

/-- A successful calibration of an entry (Table 1 of chapter 3). One that a hop made has met what an unlock asked for (R90). -/
def State.calibrated (s : State) (q n : Nat) (byHop : Bool) (band cap : Nat) : State :=
  (s.modChan q n (fun e => { e with
    synthValid := true, vcoBand := band % 64, capCode := cap % 1024, calTemp := (s.bank (q / 4)).temp, calTime := s.rtcSec })).modTx q
    (fun t => { t with
      coldFails := 0, badEntries := t.badEntries.filter (fun i => decide (i ≠ n))
      coldNext := if byHop then t.coldNext.filter (fun i => decide (i ≠ n / 4)) else t.coldNext })

/-- The tuner codes of an entry become those of the adaptive tuners of the quad (R88). -/
def State.loadTuners (s : State) (q n : Nat) : State :=
  match s.chan q n with
  | some e =>
    if e.tunerValid then
      s.each ((portsOf q).filter (fun p => decide (s.nat (0x2100 + p) 10 = 0))) (fun st p =>
        st.set (0x2100 + p) 11 (tget e.tuner (p % 4) 0 : Nat))
    else s
  | none => s

/-- A quad in fixed mode holds the codes of subindex 12 on each such port (R102). -/
def State.fixTuners (s : State) (q : Nat) : State :=
  s.each ((portsOf q).filter (fun p => decide (s.nat (0x2100 + p) 10 = 1))) (fun st p => st.set (0x2100 + p) 11 (st.nat (0x2100 + p) 12))

/-- The plan that runs in the window that the next slot begins on a quad, which hops for it before it opens (R36). -/
def State.assignAhead (s : State) (q : Nat) : State :=
  let e := s.entryAt (slotAfter s.frameSlot 1)
  if s.windowsOpen && entryHas e q && (decide (entryKind e = 1) || decide (entryKind e = 2)) && !(s.inWindow q && sameWindow q s.entryNow e) then
    match s.choosePlan q (entryShade e) (entryKind e) with
    | some p => s.modSeq q (fun x => { x with
        plan := some p, port := (s.nextPort p q (entryKind e)).getD (4 * q), shade := entryShade e, window := s.belfry.slots + 1 })
    | none => s
  else s

/-- A quad whose port no longer permits emission goes on as R233 has it; one
without work takes the plan of the window it is in, or of the one that its hop prepares (R36, R107, R233). -/
def State.assignHop (s : State) (q : Nat) : State :=
  match (s.seq q).plan with
  | some p =>
    if s.portServes p (s.seq q).port || !s.inWindow q || decide (s.belfry.slots < (s.seq q).window) then s else s.goOn q
  | none =>
    let s1 := if s.inWindow q && !(decide ((s.seq q).window = s.windowId q) && decide (s.windowId q ≠ 0)) then s.assignNow q else s
    if (s1.seq q).plan.isSome then s1 else s1.assignAhead q

/-- Whether a hop made, or a channel chosen, still serves the quad's work: the port permits emission, and the channel is one of
the hop set and not in its re-use off time (R107, R117–R119). -/
def State.hopServes (s : State) (q : Nat) : Bool :=
  match (s.seq q).plan, (s.tx q).index with
  | some p, some i =>
    s.portServes p (s.seq q).port && (s.inForce.hopSet (s.seq q).shade (s.planModulation p)).contains i && !s.inReuse q i
  | _, _ => false

/-- A hop of a quad with its carrier off: the channel is chosen (R118), and the hop is warm from channel memory or
cold with a band search that ends in a calibration or its failure (R88, R90). A failed calibration keeps the
channel, so that the quad calibrates again on it at once; the second in succession faults the quad. -/
def State.hop (s : State) (q draw : Nat) (calOk : Bool) (band cap : Nat) : State :=
  if s.carrierOn q || (s.tx q).faulted || ((s.tx q).hopped && s.hopServes q) || !s.power.paBias || s.inSafe then s
  else
    let s0 := (if (s.tx q).index.isSome && !s.hopServes q then s.dropHop q else s).assignHop q
    match (s0.seq q).plan with
    | none => s0
    | some p =>
      let port := (s0.seq q).port
      let pick := match (s0.tx q).index with
        | some i => some i
        | none => s0.chooseChannel q (s0.seq q).shade (s0.planModulation p) draw
      match pick with
      | none => s0
      | some i =>
        let n := entryNo i port
        let ch := s0.channelAt i
        let s1 := ((s0.modTx q (fun t => { t with index := some i, port := port })).set (0x2200 + q) 1 1).set (0x2200 + q) 2 ch
        let cold := s1.coldReason q n
        if cold = 0 then (s1.loadTuners q n).modTx q (fun t => { t with hopped := true })
        else
          let s2 := (s1.count (0x2200 + q) 10).raise 0x2203 ([q, cold] ++ dU 2 ch) s1.allJoined
          if calOk then ((s2.calibrated q n true band cap).loadTuners q n).modTx q (fun t => { t with hopped := true })
          else
            let s3 := s2.modTx q (fun t => { t with coldFails := t.coldFails + 1 })
            if 2 ≤ (s3.tx q).coldFails then
              (((s3.dropHop q).modTx q (fun t => { t with faulted := true })).quadFaulted q).raise 0x2209 [q, 1] s3.allJoined
            else s3

/-- `SYNTHESIZER_HOP`: the Dome's draw for the channel and, for a cold hop, the calibration's outcome. -/
def execSynthesizerHop (t quad draw : Nat) (calOk : Bool) (band cap : Nat) (s : State) : Out :=
  .next ((s.at t).hop quad draw calOk band cap)

/-- A background calibration with the carrier off: a stale or missing part is calibrated, and on a faulted quad any part; a success
ends the quad's fault. The next hop after an unlock stays cold (R87, R90). A logic slice that is due goes first (R154). -/
def State.backgroundCal (s : State) (q i p : Nat) (ok : Bool) (band cap : Nat) : State :=
  let n := entryNo i p
  if s.carrierOn q || (s.tx q).hopped || (s.tx q).survey.isSome || s.sliceDue q || decide (s.channels.length ≤ i) || (!(s.tx q).faulted && decide (s.coldPart q n = 0)) then s
  else if ok then
    let s1 := s.calibrated q n false band cap
    if (s.tx q).faulted then s1.quadMended q else s1
  else
    let s1 := s.modTx q (fun t => { t with coldFails := t.coldFails + 1 })
    if 2 ≤ (s1.tx q).coldFails ∧ (s1.tx q).faulted = false then
      (((s1.dropHop q).modTx q (fun t => { t with faulted := true })).quadFaulted q).raise 0x2209 [q, 1] s1.allJoined
    else s1

/-- `BACKGROUND_CALIBRATION`. -/
def execBackgroundCalibration (t quad index port : Nat) (ok : Bool) (band cap : Nat) (s : State) : Out :=
  .next ((s.at t).backgroundCal quad index port ok band cap)

/-- A synthesizer that loses lock with its carrier on: event 0x2202, the exchange abandoned, the carrier off, and the
next hop on the channel cold (R90). -/
def State.unlock (s : State) (q : Nat) : State :=
  if s.carrierOn q then
    let x := s.tx q
    let s1 := (s.cutQuad q).modTx q (fun t => { t with coldNext := x.index.elim t.coldNext (fun i => t.coldNext.filter (fun j => decide (j ≠ i)) ++ [i]) })
    s1.raise 0x2202 ([q, x.port] ++ dU 2 (s.txChannel q)) s1.allJoined
  else s

/-- `SYNTHESIZER_UNLOCK`. -/
def execSynthesizerUnlock (t quad : Nat) (s : State) : Out := .next ((s.at t).unlock quad)

/-- The bytes of a channel memory entry (Table 1 of chapter 3). -/
def ChanEntry.bytes (e : ChanEntry) : List Byte :=
  let code := fun (v : Nat) => [byte (v / 4096 % 64), byte (v / 64 % 64), byte (v % 64)]
  let body := le 2 e.channel ++ [byte e.port, byte (b01 e.synthValid + 2 * b01 e.tunerValid + 4 * b01 e.cancValid),
    byte e.vcoBand, 0#8] ++ le 2 e.capCode ++ leInt 2 e.calTemp ++ le 4 e.calTime ++ zeros 2 ++
    fit 12 (e.tuner.flatMap code) ++ fit 96 (e.blocks.flatMap (fun b => fit 24 b))
  body ++ le 4 (crcBytes 4 body)

/-- The content of page `j` (0–99) of the channel memory partition: entries 31 j to 31 j + 30, entry e of quad q having the
number 256 q + e, at 128 bytes each (R537). -/
def State.chanPage (s : State) (j : Nat) : List Byte :=
  ((List.range 31).map (fun i =>
    match s.chan ((31 * j + i) / 256) ((31 * j + i) % 256) with
    | some e => e.bytes
    | none => zeros 128)).flatten

/-- Pages of the partition that hold an entry changed since the last write. -/
def State.dirtyPages (s : State) : List Nat :=
  (List.range 100).filter (fun j => (List.range 12).any (fun q => (s.tx q).dirty.any (fun n => decide ((256 * q + n) / 31 = j))))

/-- Every 600 s the changed entries are written; a store refused for the supply waits for the next period (R89). -/
def State.writeChannels (s : State) : State :=
  let pages := s.dirtyPages
  if s.now < s.store.chanTick + sec 600 then s
  else
    let s1 : State := { s with store := { s.store with chanTick := s.now } }
    if pages.isEmpty then s1
    else if s.supplyStable then
      (pages.foldl (fun x j => (x.writePage (2432 + j) 1 (x.chanPage j)).storeDone) s1).each (List.range 12)
        (fun st q => st.modTx q (fun t => { t with dirty := [] }))
    else s1.storeRefused 4

/-- `CHANNEL_MEMORY_WRITE`. -/
def execChannelMemoryWrite (t : Nat) (s : State) : Out := .next ((s.at t).awake (fun st => st.writeChannels))

/-- Invalidate channel memory: all 256 entries of the quad are cleared (`0x2200`+q:10, R664). -/
def State.invalidateChannels (s : State) (q : Nat) : State :=
  (s.modQuad q (fun x => { x with mem := [] })).modTx q (fun t => { t with dirty := List.range 256, badEntries := [] })

/-! ### Ramps (R94, R95, R106) -/

/-- The ramp time of a quad in ticks. -/
def State.rampTicks (s : State) (q : Nat) : Nat := us (s.nat (0x2200 + q) 7)

/-- The instant that the stagger points of a slot count from: its boundary, and in a slot that begins a window of any quad the guard
later, for all quads together, so that no two of them meet (R95; log entry 93). -/
def State.staggerBase (s : State) : Nat :=
  s.belfry.slotTick +
    (if (List.range 12).any (fun q => s.inWindow q && decide (s.slotsBefore q s.frameSlot = 0)) then s.guard else 0)

/-- Whether a tick is a stagger point of a quad (R95). -/
def State.atStagger (s : State) (q : Nat) : Bool :=
  let st := ns (s.nat 0x2060 4)
  let b := s.staggerBase
  decide (b + q * st ≤ s.now) && decide ((s.now - b - q * st) % (12 * st) = 0)

/-- Whether the request for the air has stood for the request lead, where coexistence is enabled (R122). -/
def State.requested (s : State) : Bool :=
  !s.flag 0x2300 1 || (s.pins.cxReq && decide (s.coex.reqTick + us (s.nat 0x2300 2) ≤ s.now))

/-- Whether foreign activity lets a carrier rise (R124). -/
def State.actPermits (s : State) : Bool := decide (s.nat 0x2300 5 = 0) || !s.pins.cxAct

/-- The due commands that a carrier rise opens with, and their worst case with the settling allowance (R133). -/
def State.riseWorst (s : State) (q p port : Nat) (g : Group) : Nat :=
  let s1 := s.modSeq q (fun x => { x with due := s.openingDues p port g })
  s1.dueWorst q + s.rampTicks q + us 4 + settling (s.cancValid q)

/-- A carrier ramp starts at a stagger point when the gates of R42 pass for the work it begins: it waits for a FIFO entry and
for the credits of the first slot, which that slot's Query takes (R42, R94, R95, R133, R477). -/
def State.rampStart (s : State) (q : Nat) : State :=
  let x := s.tx q
  if x.carrier ≠ 0 ∨ x.hopped = false ∨ x.faulted = true ∨ s.power.paBias = false then s
  else if !(s.bank (q / 4)).inWindow || !s.atStagger q || !s.actPermits || !s.requested then s
  else
    match (s.seq q).plan, x.index with
    | some p, some i =>
      let port := (s.seq q).port
      if s.gateOpen q then
        match s.nextGroup p port, s.bandOf (s.channelAt i) with
        | some g, some b =>
          let ends := s.now + s.riseWorst q p port g
          let c := s.takeCredit (s.seq q).shade (s.slotCredits p g)
          if !s.fifoRoom port then s.count (0x5020 + q) 8
          else if !c.1 then (c.2.count (0x5020 + q) 9).modSeq q (fun y => { y with starved := true })
          else if s.workFits q ends then
            let req := s.request p port
            let s1 := s.modTx q (fun t => { t with
              carrier := 1, rampTick := s.now, ramped := 0, onTick := s.now, short := none, port := port, lastIndex := some i,
              dwells := t.dwells ++ [{ index := i, start := s.now, stop := none }] })
            ((((s1.set (0x2200 + q) 1 2).set (0x2200 + q) 3 port).set (0x2200 + q) 4 (s.inForce.targetPower (s.seq q).shade port b req)).set
              (0x2200 + q) 8 (s.inForce.bindingLimit (s.seq q).shade port b req)).modPlan p (fun r => { r with lastAir := NMap.put r.lastAir q s.now })
          else (((if s.dwellStops q ends then s else s.neverFits q)).modSeq q (fun y => { y with satOut := some (s.windowId q), plan := none })).dropHop q
        | _, _ => s
      else s
    | _, _ => s

/-- `RAMP_START`. -/
def execRampStart (t quad : Nat) (s : State) : Out := .next ((s.at t).rampStart quad)

/-- The ramp ends: the power loop engages and the receivers begin settling, each port from its own block where it
is valid, from scratch otherwise; the sequencer's first commands fall due (R94, R131, R143, R218). -/
def State.atPower (s : State) (q : Nat) : State :=
  let x := s.tx q
  if x.carrier = 1 ∧ x.rampTick + (s.rampTicks q - x.ramped) ≤ s.now then
    let s1 := (s.modTx q (fun t => { t with carrier := 2, powerTick := s.now, loopTick := s.now })).set (0x2200 + q) 1 3
    let s2 := s1.each (portsOf q) (fun st p =>
      let block := match x.index with
        | some i => match st.chan q (entryNo i x.port) with
          | some e => tget e.blocks (p % 4) []
          | none => []
        | none => []
      let stored := bitOf (byteAt block 22) 0
      let at' := fun (k : Nat) => if stored then ofLeInt (slice block (2 * k) 2) else 0
      let st1 := (st.set (0x2130 + p) 2 1).set (0x2130 + p) 3 (if stored then 1 else 2)
      let st2 := st1.modPort p (fun y => { y with
        shallowRaised := false, vector := [at' 0, at' 1, at' 2, at' 3], taps := [at' 4, at' 5, at' 6, at' 7], recent := [], servo := [0, 0] })
      if stored then st2 else st2.count (0x2210 + q) 8)
    match (s2.seq q).plan with
    | none => s2
    | some p => match s2.nextGroup p (s2.seq q).port with
      | some g => s2.modSeq q (fun y => { y with
          state := 1, due := s2.openingDues p y.port g, earliest := s.now, next := 0, failed := false, tag := noTag })
      | none => s2
  else s

/-- `CARRIER_AT_SET_POWER`. -/
def execCarrierAtSetPower (t quad : Nat) (s : State) : Out := .next ((s.at t).atPower quad)

/-- The ramp-down ends: the carrier is off, and the quad looks for its next work (R94, R143, R233). -/
def State.rampedDown (s : State) (q : Nat) : State :=
  let x := s.tx q
  if x.carrier = 4 ∧ x.rampTick + s.rampTicks q ≤ s.now then (s.carrierOff q).goOn q else s

/-- `RAMP_DOWN_COMPLETE`. -/
def execRampDownComplete (t quad : Nat) (s : State) : Out := .next ((s.at t).rampedDown quad)

/-- `PA_SUPPLY_OUT_OF_WINDOW`: the supply that the monitor reads. -/
def execPaSupplyOutOfWindow (t bank mv : Nat) (s : State) : Out := .next ((s.at t).supplyMeasured bank mv)

/-- `PA_SUPPLY_BACK_IN_WINDOW`: the supply that the monitor reads. -/
def execPaSupplyBackInWindow (t bank mv : Nat) (s : State) : Out := .next ((s.at t).supplyMeasured bank mv)

/-- A ramp held for 200 µs is abandoned with its carrier off, with event 0x2205 (R106). -/
def State.rampAbandoned (s : State) (q : Nat) : State :=
  if (s.tx q).carrier = 3 ∧ (s.tx q).heldTick + us 200 ≤ s.now then
    ((s.cutQuad q).count (0x2200 + q) 14).raise 0x2205 [q, q / 4] s.allJoined
  else s

/-- `RAMP_ABANDONED`. -/
def execRampAbandoned (t quad : Nat) (s : State) : Out := .next ((s.at t).rampAbandoned quad)

/-! ### Power (R99–R101) -/

/-- Whether a quad's carrier is on and unmodulated: no command, silent or not, is being sent. -/
def State.unmodulated (s : State) (q : Nat) : Bool := decide ((s.tx q).carrier = 2) && decide ((s.seq q).cmdEnd ≤ s.now)

/-- A measurement of forward power, every 2 µs on an unmodulated carrier, moves the drive toward the target by at
most 0.25 dB, never beyond its maximum (R99, R101). -/
def State.powerLoop (s : State) (q : Nat) (fwd : Int) : State :=
  if s.unmodulated q && decide ((s.tx q).loopTick + us 2 ≤ s.now) then
    let target := s.int (0x2200 + q) 4
    let want := (s.tx q).drive + clampTo 25 (target - fwd)
    let drive := if Config.maxDrive < want then Config.maxDrive else want
    let short := decide (drive = Config.maxDrive) && decide (fwd < target - 50)
    (s.modTx q (fun t => { t with
      drive := drive, loopTick := s.now, short := if short then some (t.short.getD (s.now, false)) else none })).set (0x2200 + q) 5 fwd
  else s

/-- `POWER_LOOP_MEASUREMENT`. -/
def execPowerLoopMeasurement (t quad : Nat) (fwd : Int) (s : State) : Out := .next ((s.at t).powerLoop quad fwd)

/-- Every 100 µs the feed-forward compensation of a bank takes its temperature and its PA supply (R99). -/
def State.feedForward (s : State) (b mv : Nat) : State :=
  if s.now < (s.bank b).ffTick + us 100 then s
  else (s.supplyMeasured b mv).modBank b (fun x => { x with ffTemp := x.temp, ffSupply := mv, ffTick := s.now })

/-- `FEED_FORWARD_REFRESH`. -/
def execFeedForwardRefresh (t bank mv : Nat) (s : State) : Out := .next ((s.at t).feedForward bank mv)

/-- At maximum drive, forward power more than 0.5 dB short of the target for 20 µs is counted once for each such stretch, with event
0x2208 once a minute (R101; log entry 90). -/
def State.shortfall (s : State) (q : Nat) (measured : Int) : State :=
  let target := s.int (0x2200 + q) 4
  match (s.tx q).short with
  | some (since, false) =>
    if (s.tx q).carrier = 2 ∧ since + us 20 < s.now ∧ measured < target - 50 then
      ((s.modTx q (fun t => { t with short := some (since, true) })).count (0x2200 + q) 12).raise 0x2208
        ([q] ++ dI 2 target ++ dI 2 measured) s.allJoined (perMinute q)
    else s
  | _ => s

/-- `POWER_SHORTFALL`. -/
def execPowerShortfall (t quad : Nat) (measured : Int) (s : State) : Out := .next ((s.at t).shortfall quad measured)

/-! ### Tuner and mismatch (R102–R104, R110, R111) -/

/-- The code of bank C1, C2 or C3 (1–3) in a packed tuner value. -/
def tunerCode (v bank : Nat) : Nat := if bank = 1 then v / 4096 % 64 else if bank = 2 then v / 64 % 64 else v % 64

/-- The weight of a bank's code. -/
def tunerWeight (bank : Nat) : Nat := if bank = 1 then 4096 else if bank = 2 then 64 else 1

/-- An adaptive tuner steps one bank by one code, at most every 20 µs, on an unmodulated carrier with no receive
window open and the port tracking; a step beyond 0–63 is pinned, and the 64th in succession raises event 0x2105
(R102, R134). -/
def State.tunerStep (s : State) (p bank : Nat) (up : Bool) (vswr : Nat) : State :=
  let q := p / 4
  let y := s.port p
  if s.nat (0x2100 + p) 10 ≠ 0 ∨ s.unmodulated q = false ∨ 2 < (s.seq q).state ∨ s.rxState p ≠ 2 ∨ s.now < y.tunerTick + us 20 then s
  else
    let v := s.nat (0x2100 + p) 11
    let c := tunerCode v bank
    if (up ∧ c = 63) ∨ (!up ∧ c = 0) then
      let n := y.tunerPinned + 1
      let s1 := ((s.modPort p (fun y => { y with tunerPinned := n, tunerTick := s.now })).count (0x2100 + p) 16).lanternLoop 2 p c (if up then 63 else 0) n
      if n = 64 then s1.raise 0x2105 ([p, bank, c] ++ dU 2 vswr) (s1.reachPort p) else s1
    else
      let w := if up then v + tunerWeight bank else v - tunerWeight bank
      let s1 := ((s.set (0x2100 + p) 11 w).modPort p (fun y => { y with tunerPinned := 0, tunerTick := s.now })).modTx q (fun t => { t with
        noCommandUntil := s.now + us 3 + 1 })
      match (s.tx q).index with
      | some i => s1.modChan q (entryNo i (s.tx q).port) (fun e => { e with
          tunerValid := true
          tuner := if e.tunerValid then tmod e.tuner (p % 4) (fun _ => w) else (portsOf q).map (fun r => s1.nat (0x2100 + r) 11) })
      | none => s1

/-- `TUNER_STEP`. -/
def execTunerStep (t port bank : Nat) (up : Bool) (vswr : Nat) (s : State) : Out := .next ((s.at t).tunerStep port bank up vswr)

/-- The port whose mismatch the coupler sees: the transmitting port of its quad. -/
def State.transmits (s : State) (p : Nat) : Bool := s.carrierOn (p / 4) && decide ((s.tx (p / 4)).port = p)

/-- A port trips: faulted with a cause that is not cleared, the trip counted and the VSWR kept (R103, R104, R111). -/
def State.tripped (s : State) (p cause vswr : Nat) : State :=
  ((((s.set (0x2100 + p) 3 cause).set (0x2100 + p) 4 0).count (0x2100 + p) 15).set (0x2100 + p) 13 vswr).modPort p
    (fun y => { y with probeTick := s.now })

/-- A trip while the port transmits: the exchange is abandoned and the carrier off (R103, R104). -/
def State.trip (s : State) (p cause vswr : Nat) : State := (s.cutQuad (p / 4)).tripped p cause vswr

/-- The VSWR of a reflection magnitude of 0.9, from which on a reflection is a hard short (R103). -/
def hardVswr : Nat := 1900

/-- A hard short, by reflection or PA over-current, at any power (R103). -/
def State.hardShort (s : State) (p vswr : Nat) (excess : Bool) : State :=
  (s.trip p (if excess then 3 else 2) vswr).raise 0x2102 ([p, if excess then 2 else 1] ++ dU 2 (s.txChannel (p / 4))) (s.reachPort p)

/-- VSWR above the trip threshold in force of the port, which the coupler evaluates from +10 dBm of forward power on (R103, R109). -/
def State.mismatch (s : State) (p vswr : Nat) (fwd : Int) : State :=
  let code := s.inForce.nat (0x2100 + p) 9
  if !s.transmits p then s
  else if hardVswr ≤ vswr then s.hardShort p vswr false
  else if fwd < 1000 then s
  else if tripVswr code < vswr then (s.trip p 1 vswr).raise 0x2101 ([p, code] ++ dU 2 vswr ++ dU 2 (s.txChannel (p / 4))) (s.reachPort p)
  else s.set (0x2100 + p) 13 vswr

/-- `MISMATCH_TRIP`: the coupler's reading. -/
def execMismatchTrip (t port : Nat) (wave : Wave) (s : State) : Out := .next ((s.at t).mismatch port wave.vswr wave.fwd)

/-- A hard short of a transmitting port: a reflection magnitude of 0.9 or more, in thousandths, or PA over-current (R103). -/
def State.shorted (s : State) (p : Nat) (gamma : Option Nat) : State :=
  if s.transmits p && gamma.all (fun g => decide (900 ≤ g)) then s.hardShort p (s.nat (0x2100 + p) 13) gamma.isNone else s

/-- `HARD_SHORT`: the reflection magnitude in thousandths, or none for a PA over-current. -/
def execHardShort (t port : Nat) (gamma : Option Nat) (s : State) : Out := .next ((s.at t).shorted port gamma)

/-- What a probe at +10 dBm measures: a hard short or a VSWR above the trip threshold trips the port again, a VSWR at or below the
clear level sets the cause-cleared flag with event 0x2103 (R103, R111). -/
def State.probed (s : State) (p i vswr : Nat) (excess : Bool) : State :=
  let code := s.inForce.nat (0x2100 + p) 9
  if excess = true ∨ hardVswr ≤ vswr then
    (s.tripped p (if excess then 3 else 2) vswr).raise 0x2102 ([p, if excess then 2 else 1] ++ dU 2 (s.channelAt i)) (s.reachPort p)
  else if tripVswr code < vswr then
    (s.tripped p 1 vswr).raise 0x2101 ([p, code] ++ dU 2 vswr ++ dU 2 (s.channelAt i)) (s.reachPort p)
  else
    let s1 := s.set (0x2100 + p) 13 vswr
    if vswr ≤ clearVswr code then
      (s1.set (0x2100 + p) 4 1).raise 0x2103 ([p, s.nat (0x2100 + p) 3] ++ dU 2 vswr) (s.reachPort p)
    else s1

/-- The list indices on which a probe of a port may emit: the masks of the window's shade permit them, and every limit of charter and
policy its +10.00 dBm (R111). -/
def State.probeSet (s : State) (p : Nat) : List Nat :=
  (s.carrierSet s.windowShade).filter (fun i => match s.bandOf (s.channelAt i) with
    | some b => decide (1000 ≤ smallest ((s.powerLimits s.windowShade p b 1000)))
    | none => false)

/-- A probe of a faulted port, once every probe interval, at a stagger point of a window that includes the quad and between
exchanges: 50 µs of unmodulated carrier that count toward dwell and occupancy (R111). -/
def State.probe (s : State) (p vswr : Nat) (excess : Bool) (draw : Nat) : State :=
  let q := p / 4
  let cause := s.nat (0x2100 + p) 3
  if s.actual p ≠ 3 ∨ cause < 1 ∨ 3 < cause ∨ s.now < (s.port p).probeTick + sec (s.nat (0x2100 + p) 14) then s
  else if s.carrierOn q || (s.tx q).faulted || !s.power.paBias || !s.inWindow q || !s.guardPassed q || !s.atStagger q || !s.granted || !s.requested || !s.actPermits || !(s.bank (q / 4)).inWindow then s
  else match s.chooseFrom q (s.inForce.probeSet p) draw with
  | none => s
  | some i =>
    if fits (s.now + us 50) (s.windowEnd q) && fits (s.now + us 50) (s.dwellEnd q i) then
      (((s.dropHop q).modTx q (fun t => { t with
        dwells := t.dwells ++ [{ index := i, start := s.now, stop := some (s.now + us 50) }], lastIndex := some i })).modPort p (fun y => { y with probeTick := s.now })).probed p i vswr excess
    else s

/-- `PORT_PROBE`. -/
def execPortProbe (t port vswr : Nat) (overCurrent : Bool) (draw : Nat) (s : State) : Out :=
  .next ((s.at t).probe port vswr overCurrent draw)

/-- Re-arm: accepted only while the cause-cleared flag is TRUE, which it makes FALSE (log entry 85); event 0x2104. A fault of the quad
stays in front of the cause that is re-armed (R90, R110). -/
def State.reArm (s : State) (p : Nat) : State :=
  let s1 := if s.nat (0x2100 + p) 3 = 4 then s.modPort p (fun y => { y with causeBefore := 0 }) else s.set (0x2100 + p) 3 0
  (s1.set (0x2100 + p) 4 0).raise 0x2104 [p] (s.reachPort p)

/-- The dwell or occupancy end: the exchange ends, the carrier goes off and the channel enters its re-use off time
(R119). -/
def State.dwellLimit (s : State) (q : Nat) : State :=
  match (s.tx q).index with
  | some i =>
    if s.carrierOn q && !fits (s.now + 1) (s.dwellEnd q i) then
      ((s.modTx q (fun t => { t with offReason := 1 })).cutQuad q).goOn q
    else s
  | none => s

/-- `DWELL_LIMIT`. -/
def execDwellLimit (t quad : Nat) (s : State) : Out := .next ((s.at t).dwellLimit quad)

/-! ### Coexistence (R122–R124) -/

/-- Set the level of a coexistence line in `0x2300:06`. -/
def State.cxLevel (s : State) (bit : Nat) (v : Bool) : State := s.set 0x2300 6 (setBit (s.nat 0x2300 6) bit v)

/-- With coexistence enabled CX_REQ rises the request lead before the first carrier rise of a window, and not in reset (R122). It waits
for a grant that does not stand already (R123). -/
def State.cxRequest (s : State) : State :=
  if s.flag 0x2300 1 && !s.inSafe && !s.pins.cxReq && s.power.released && !s.power.resetLow && !s.power.refclkLost then
    ({ s with pins := { s.pins with cxReq := true }, coex := { s.coex with reqTick := s.now, waiting := !s.pins.cxGnt } } : State).cxLevel 0 true
  else s

/-- `CX_REQ_RAISED`. -/
def execCxReqRaised (t : Nat) (s : State) : Out := .next (s.at t).cxRequest

/-- CX_GNT changes. A fall while a carrier is on raises event 0x2301 and acts as the withdrawal action selects: every carrier off at once,
or after its exchange in progress; a rising or held ramp has none (R123). -/
def State.cxGrant (s : State) (level : Bool) : State :=
  let s1 := ({ s with pins := { s.pins with cxGnt := level }, coex := { s.coex with waiting := s.coex.waiting && !level } } : State).cxLevel 1 level
  if s.pins.cxGnt && !level && s.flag 0x2300 1 && decide (s.emitting ≠ 0) then
    let act := s.nat 0x2300 4
    let s2 := (s1.count 0x2300 8).raise 0x2301 ([act] ++ dU 2 s.emitting) s1.allJoined
    s2.each ((List.range 12).filter (fun q => s.carrierOn q)) (fun st q =>
      if act = 1 ∨ (st.tx q).carrier = 1 ∨ (st.tx q).carrier = 3 then st.cutQuad q else st.closeAfterExchange q)
  else s1

/-- `CX_GNT_CHANGE`. -/
def execCxGntChange (t : Nat) (level : Bool) (s : State) : Out := .next ((s.at t).cxGrant level)

/-- No CX_GNT within the grant wait limit: the window is given up, event 0x2302, and the module asks again for the
next window (R123). -/
def State.grantWait (s : State) : State :=
  let w := s.nat 0x2300 3
  if s.flag 0x2300 1 && s.pins.cxReq && s.coex.waiting && !s.pins.cxGnt && decide (s.coex.reqTick + ms w ≤ s.now) then
    let s1 := (({ s with pins := { s.pins with cxReq := false }, coex := { s.coex with waiting := false } } : State).cxLevel 0 false).count 0x2300 7
    let s2 := s1.each ((List.range 12).filter (fun q => s.inWindow q)) (fun st q =>
      st.modSeq q (fun x => { x with satOut := some (s.windowId q), plan := none }))
    s2.raise 0x2302 (dU 2 w) s2.allJoined
  else s

/-- `GRANT_WAIT_EXPIRED`. -/
def execGrantWaitExpired (t : Nat) (s : State) : Out := .next (s.at t).grantWait

/-- CX_ACT rises: event 0x2303 and a count at `0x2300:09` whenever an action is selected; action 2 turns all carriers off (R124; log
entries 87 and 88). -/
def State.foreignActivity (s : State) : State :=
  let act := s.nat 0x2300 5
  let s1 := ({ s with pins := { s.pins with cxAct := true } } : State).cxLevel 2 true
  if s.pins.cxAct || decide (act = 0) then s1
  else
    let s2 := (s1.count 0x2300 9).raise 0x2303 ([act] ++ dU 2 s.emitting) s1.allJoined
    if act = 2 then s2.each ((List.range 12).filter (fun q => s.carrierOn q)) (fun st q => st.cutQuad q) else s2

/-- `FOREIGN_ACTIVITY`. -/
def execForeignActivity (t : Nat) (s : State) : Out := .next (s.at t).foreignActivity

/-- CX_ACT falls: carriers may rise again. -/
def State.activityEnds (s : State) : State :=
  ({ s with pins := { s.pins with cxAct := false } } : State).cxLevel 2 false

/-- `CX_ACT_FALLS`. -/
def execCxActFalls (t : Nat) (s : State) : Out := .next (s.at t).activityEnds

end Sys2Proof.Machine
end

