-- ==== Sys2Proof/Machine/Receive.lean ====
section
/-! DEFINITION. The UHF receive chain: receiver states, canceller, AGC and fixed gain, exclusions, noise survey
(chapter 4, R127–R157). -/

namespace Sys2Proof.Machine

/-! ### Receiver states (R131, R140, R141) -/

/-- A value kept within bounds. -/
def bounded (lo hi v : Int) : Int := if v < lo then lo else if hi < v then hi else v

/-- The effective maximum gain: the quad's and the window shade's cap (R146). -/
def State.maxGain (s : State) (q : Nat) : Nat :=
  let a := s.nat (0x2210 + q) 3
  let b := s.nat (0x2050 + (s.seq q).shade) 3
  if a ≤ b then a else b

/-- The greatest gain index in the LNA mode of a port (R146). -/
def State.gMax (s : State) (p : Nat) : Nat :=
  let m := s.maxGain (p / 4)
  if s.nat (0x2130 + p) 7 = 1 then m else if m ≤ 45 then m else 45

/-- The least gain index in the LNA mode of a port (R146). -/
def State.gMin (s : State) (p : Nat) : Nat := if s.nat (0x2130 + p) 7 = 1 then 18 else 0

/-- Whether the window shade's receive policy fixes the gain (R150). -/
def State.fixedGain (s : State) (q : Nat) : Bool := decide (s.nat (0x2050 + (s.seq q).shade) 1 = 1)

/-- The first modulation edge of a command: every port of the quad is blanked, its LNA mode follows its canceller, low as well for a
fixed gain that only it can give (log entry 96), its gain stays within that mode's range, and residual and depths are reported as they
stand (R127, R131, R140, Tables 2 and 7 of chapter 4). -/
def State.blank (s : State) (q : Nat) : State :=
  s.each (portsOf q) (fun st p =>
    let y := st.port p
    let lowFixed := st.fixedGain q && decide (st.nat (0x2050 + (st.seq q).shade) 2 < 18)
    let s1 := ((((st.set (0x2130 + p) 2 3).set (0x2130 + p) 4 y.residual).set (0x2130 + p) 5 y.analog).set (0x2130 + p) 6 y.digital).set
      (0x2130 + p) 7 (b01 (decide (st.nat (0x2130 + p) 3 = 3) && !lowFixed))
    s1.set (0x2130 + p) 8 (bounded (s1.gMin p) (s1.gMax p) (s1.nat (0x2130 + p) 8)))

/-- The gain of a port as its receive window opens: gmax under the AGC (R147); the policy's fixed gain, clamped, with
every clamp and shortfall counted (R150). -/
def State.openGain (s : State) (p : Nat) : State :=
  let q := p / 4
  if s.fixedGain q then
    let f := s.nat (0x2050 + (s.seq q).shade) 2
    let m := s.maxGain q
    let c := if f ≤ m then f else m
    let low := decide (s.nat (0x2130 + p) 7 = 0)
    let g := if low ∧ 45 < c then 45 else c
    let n := b01 (decide (m < f)) + b01 (low && decide (45 < c))
    (s.set (0x2130 + p) 8 g).addTo (0x2210 + q) 10 n
  else s.set (0x2130 + p) 8 (s.gMax p)

/-- Whether a port is excluded from combining as its window opens (R141). -/
def State.excludes (s : State) (p : Nat) : Bool :=
  let c := s.nat (0x2130 + p) 3
  let cause := s.nat (0x2100 + p) 3
  decide (s.nat (0x2130 + p) 1 = 1) || (decide (s.actual p = 3) && decide (1 ≤ cause) && decide (cause ≤ 3)) ||
  (decide (c ≠ 3) && decide (c ≠ 4))

/-- The mean of the last tracking samples, as their sum, and their noise power (R145, R162). -/
def preBlank (l : List Cx) : Cx × Nat :=
  let last := l.drop (l.length - 32)
  let sum := csum last
  let n := last.length
  (sum, if n = 0 then 0 else sumOf (last.map (fun x => cabs2 (csub (cscale n x) sum))) / (n * n * n))

/-- The receive window opens on all four ports. `pre` are each port's samples before the blanked state: their last 32 give the mean that
the digital DC stage subtracts (R131, R141, R145, R147). -/
def State.listen (s : State) (q : Nat) (pre : List (List Cx)) : State :=
  s.each (portsOf q) (fun st p =>
    let ex := st.excludes p
    let m := preBlank (tget pre (p % 4) [])
    let s1 := ((st.set (0x2130 + p) 2 4).modPort p (fun y => { y with
      excluded := ex, clippedAt := none, lastClamp := 0, dcSum := m.1, trackNoise := m.2, filterIn := czero, filterOut := czero })).openGain p
    if ex then s1.count (0x2130 + p) 14 else s1)

/-- Whether all four ports are excluded: every reply window is then empty (R141). -/
def State.allExcluded (s : State) (q : Nat) : Bool := (portsOf q).all (fun p => (s.port p).excluded)

/-- The receive window is over: the ports track again and the AGC is released (R131, R148). -/
def State.track (s : State) (q : Nat) : State :=
  s.each (portsOf q) (fun st p => st.set (0x2130 + p) 2 2)

/-- A preamble detection freezes the gains (R148). -/
def State.freezeGains (s : State) (q : Nat) : State :=
  s.each (portsOf q) (fun st p => (st.set (0x2130 + p) 2 5).set (0x2130 + p) 9 (st.nat (0x2130 + p) 8))

/-- The first detection of an exchange: one whose last adjustment was clamped is a pinned step of that port's AGC, and the 64th in
succession raises event 0x2108 (R149). -/
def State.agcPins (s : State) (q : Nat) : State :=
  s.each (portsOf q) (fun st p =>
    let y := st.port p
    let g := st.nat (0x2130 + p) 8
    let n := if y.lastClamp = 0 then 0 else y.agcPinned + 1
    let s1 := st.modPort p (fun y => { y with agcPinned := n })
    let s2 := if y.lastClamp = 0 then s1 else (s1.count (0x2130 + p) 13).lanternLoop 4 p g (if y.lastClamp = 1 then s1.gMax p else s1.gMin p) n
    if n = 64 then s2.raise 0x2108 [p, y.lastClamp, g, (s.seq q).shade, s.nat (0x2130 + p) 7] (s2.reachPort p) else s2)

/-! ### Canceller (R136–R144) -/

/-- The component of a vector modulator that is at an end of its 12 bits while the iteration points beyond it: 1 coarse, 2 fine, 0 none
(R136, R142). -/
def pinnedStage (vector moves : List Int) : Nat :=
  let stuck := fun (i : Nat) =>
    let v := tget vector i 0
    let m := tget moves i 0
    decide (v = 2047 ∧ 0 < m) || decide (v = -2048 ∧ m < 0)
  if stuck 0 || stuck 1 then 1 else if stuck 2 || stuck 3 then 2 else 0

/-- The integral of the DC servo after an iteration of 250 ns: 100 kHz of loop bandwidth while settling, 2 kHz while tracking, in
millionths of a step of a 13-bit DAC (R144; log entry 97). -/
def servoStep (state : Nat) (acc dc : Int) : Int :=
  bounded (-4096000000) 4095000000 (acc + dc * (if state = 1 then 157080 else 3142))

/-- One iteration of a port's canceller and DC servo, in the settling and tracking states alone: the vectors move within their 12 bits,
and the 64th consecutive pinned step raises event 0x2109 (R131, R136, R142, R144). -/
def State.cancStep (s : State) (p : Nat) (i : CancIter) : State :=
  let y := s.port p
  let state := s.rxState p
  if state ≠ 1 ∧ state ≠ 2 then s
  else
    let moves := [i.coarseI, i.coarseQ, i.fineI, i.fineQ]
    let stage := pinnedStage y.vector moves
    let n := if stage = 0 then 0 else y.cancPinned + 1
    let servo := [servoStep state (tget y.servo 0 0) i.dcI, servoStep state (tget y.servo 1 0) i.dcQ]
    let word := fun (k : Nat) => ((tget servo k 0).fdiv 1000000).emod 65536
    let s1 := (s.modPort p (fun y => { y with
      cancPinned := n, vector := List.zipWith (fun v m => bounded (-2048) 2047 (v + m)) y.vector moves, taps := i.taps
      residual := i.residual, recent := (i.residual :: y.recent).take 5, analog := i.analog, digital := i.digital
      servo := servo })).set (0x2130 + p) 10 (65536 * word 0 + word 1)
    let s2 := if stage = 0 then s1 else (s1.count (0x2130 + p) 12).lanternLoop 3 p i.residual 0 n
    if n = 64 then s2.raise 0x2109 ([p, stage] ++ dU 2 (s.txChannel (p / 4)) ++ dI 2 i.residual) (s2.reachPort p) else s2

/-- Whether the residual has changed by less than 0.5 dB over the last four iterations (R139). -/
def Port.converged (y : Port) : Bool :=
  decide (y.recent.length = 5) && y.recent.all (fun a => y.recent.all (fun b => decide (a - b < 50)))

/-- A settling port tracks; one that does already goes on. -/
def State.tracks (s : State) (p : Nat) : State := if s.nat (0x2130 + p) 2 = 1 then s.set (0x2130 + p) 2 2 else s

/-- A port's canceller is shallow, with event 0x2107 once per carrier rise (R139, R140). -/
def State.shallow (s : State) (p : Nat) : State :=
  let q := p / 4
  let s1 := (((s.set (0x2130 + p) 3 4).count (0x2210 + q) 9).modPort p (fun y => { y with shallowRaised := true })).tracks p
  if (s.port p).shallowRaised then s1
  else s1.raise 0x2107 ([p, (s.tx q).port % 4] ++ dU 2 (s.txChannel q) ++ dI 2 (s.port p).residual) (s1.reachPort p)

/-- The settled condition of R139, after each iteration: settled at or below the quad's target once converged; shallow when converged
above it, when a settled port rises above it, or 150 µs after the carrier reached power. -/
def State.judgeCanceller (s : State) (p : Nat) : State :=
  let q := p / 4
  let y := s.port p
  let c := s.nat (0x2130 + p) 3
  let good := decide (y.residual ≤ s.int (0x2210 + q) 1)
  if (s.tx q).carrier ≠ 2 ∨ c = 0 ∨ (s.rxState p ≠ 1 ∧ s.rxState p ≠ 2) then s
  else if y.converged && good then (s.set (0x2130 + p) 3 3).tracks p
  else if (c = 3 && !good && !y.recent.isEmpty) || (decide (c ≤ 2) && (y.converged || decide ((s.tx q).powerTick + us 150 ≤ s.now))) then s.shallow p
  else s

/-- The iterations that a report covers, each judged in its turn. -/
def State.cancRun (s : State) (p : Nat) (steps : List CancIter) : State :=
  (steps.foldl (fun st i => if (st.tx (p / 4)).carrier = 2 then (st.cancStep p i).judgeCanceller p else st) s).judgeCanceller p

/-- Iterations from what each does and measures. -/
def iterations (moves : List CancMove) (readings : List CancReading) : List CancIter :=
  List.zipWith (fun m r => { toCancMove := m, toCancReading := r }) moves readings

/-- `CANCELLER_SETTLED`: the iterations since the last report, each quantity as a series. -/
def execCancellerSettled (t port : Nat) (residual : List Int) (coarse fine : List (Int × Int)) (taps : List (List Int))
    (analog digital : List Nat) (dc : List (Int × Int)) (s : State) : Out :=
  .next ((s.at t).cancRun port (residual.zipIdx.map (fun x =>
    let at' := fun (l : List (Int × Int)) => tget l x.2 (0, 0)
    { coarseI := (at' coarse).1, coarseQ := (at' coarse).2, fineI := (at' fine).1, fineQ := (at' fine).2, taps := tget taps x.2 []
      residual := x.1, analog := tget analog x.2 0, digital := tget digital x.2 0, dcI := (at' dc).1, dcQ := (at' dc).2 })))

/-- `CANCELLER_SHALLOW`: the iterations since the last report, at the latest 150 µs after the carrier reached power. -/
def execCancellerShallow (t port : Nat) (moves : List CancMove) (readings : List CancReading) (s : State) : Out :=
  .next ((s.at t).cancRun port (iterations moves readings))

/-! ### AGC (R130, R146) and the digital DC stage (R145) -/

/-- The largest magnitude of I or Q in a block. -/
def blockPeak (l : List Cx) : Nat := l.foldl (fun m x => peak m (peak x.re.natAbs x.im.natAbs)) 0

/-- Whether a sample of a block reaches full scale (R130). -/
def blockClips (l : List Cx) : Bool :=
  l.any (fun x => decide (8191 ≤ x.re) || decide (x.re ≤ -8192) || decide (8191 ≤ x.im) || decide (x.im ≤ -8192))

/-- A clipped block: during a reply it marks the reply on that port and counts, with event 0x210A once a minute
(R130). -/
def State.clipBlock (s : State) (p : Nat) : State :=
  if s.nat (0x2130 + p) 2 = 5 then
    let s1 := (s.modPort p (fun y => { y with clippedAt := some (y.clippedAt.getD s.now) })).count (0x2130 + p) 11
    s1.raise 0x210A ([p] ++ dU 4 (s1.nat (0x2130 + p) 11)) (s1.reachPort p) (perMinute p)
  else s

/-- The step of the AGC for a peak magnitude and a target in dB below the full scale of 8192, exactly: −12 from −0.1 dBfs on, else
round(−target − pk) between −12 and +6, a half rounded up (R146; log entry 89). A step of at least n is
(peak ÷ 8192)^40 ≤ 10^(1 − 2 target − 2n). -/
def agcStep (target pk : Nat) : Int :=
  if 8192 ^ 200 ≤ 10 * pk ^ 200 then -12
  else
    let atLeast := fun (n : Int) =>
      let e : Int := 1 - 2 * (target : Int) - 2 * n
      if 0 ≤ e then decide (pk ^ 40 ≤ 8192 ^ 40 * 10 ^ e.toNat) else decide (pk ^ 40 * 10 ^ (-e).toNat ≤ 8192 ^ 40)
    (List.range 18).foldl (fun (m : Int) (i : Nat) => if atLeast ((i : Int) - 11) then (i : Int) - 11 else m) (-12)

/-- What the digital canceller leaves of some samples: the two-tap filtering of the forward reference is taken from them (R137). -/
def digitalCancel (taps : List Int) (fwd l : List Cx) : List Cx :=
  let a : Cx := { re := tget taps 0 0, im := tget taps 1 0 }
  let b : Cx := { re := tget taps 2 0, im := tget taps 3 0 }
  l.zipIdx.map (fun x => csub x.1 (cdiv (cadd (cmul a (cget fwd x.2)) (if x.2 = 0 then czero else cmul b (cget fwd (x.2 - 1)))) 16384))

/-- The corner of the high-pass filter in Hz: BLF ÷ 32, not below 1.25 kHz, and 5 kHz for HSB (R145). -/
def State.filterCorner (s : State) (q : Nat) : Nat :=
  if 18 ≤ (s.seq q).cmd.cmd ∧ (s.seq q).cmd.cmd ≤ 19 then 5000
  else peak 1250 (s.linkObj (s.planObj ((s.seq q).plan.getD 0) 5) 5 / 32)

/-- The first-order high-pass filter of a corner over samples of 10.24 MHz, from its last input and output; 2π is 710 ÷ 113 (R145; log
entry 94). -/
def highPass (corner : Nat) : List Cx → Cx → Cx → List Cx × Cx × Cx
  | [], x, y => ([], x, y)
  | z :: r, x, y =>
    let next := cdiv (cscale (113 * 10240000) (cadd y (csub z x))) (113 * 10240000 + 710 * corner)
    let rest := highPass corner r z next
    (next :: rest.1, rest.2)

/-- The digital stage of a port: the digital canceller, the pre-blank mean and the high-pass filter, with 8 binary places (R137, R145).
Answers the samples and the filter's last input and output. -/
def State.digitalStage (s : State) (p : Nat) (fwd l : List Cx) : List Cx × Cx × Cx :=
  let y := s.port p
  let z := (digitalCancel y.taps fwd l).map (fun x => csub (cscale 256 x) (cscale 8 y.dcSum))
  highPass (s.filterCorner (p / 4)) z y.filterIn y.filterOut

/-- One block of 8 samples of a port whose receive window is open: a clipped one counts, the digital DC stage runs on, and in the
listening state the AGC moves the gain within the range of the LNA mode, unless the policy fixes it (R130, R145, R146, R150). -/
def State.agcBlock (s : State) (p : Nat) (block fwd : List Cx) : State :=
  let q := p / 4
  let rx := s.nat (0x2130 + p) 2
  if rx ≠ 4 ∧ rx ≠ 5 then s
  else
    let f := s.digitalStage p fwd block
    let s0 := if blockClips block then s.clipBlock p else s
    let s1 := if rx = 4 then s0.modPort p (fun y => { y with filterIn := f.2.1, filterOut := f.2.2 }) else s0
    if rx ≠ 4 ∨ s.fixedGain q = true then s1
    else
      let want : Int := s.nat (0x2130 + p) 8 + agcStep (s.nat (0x2210 + q) 2) (blockPeak block)
      let lo : Int := s.gMin p
      let hi : Int := s.gMax p
      (s1.set (0x2130 + p) 8 (if hi < want then hi else if want < lo then lo else want)).modPort p (fun y => { y with
        lastClamp := if hi < want then 1 else if want < lo then 2 else 0 })

/-- `AGC_BLOCK`: 8 samples of a port, with those of the forward reference. -/
def execAgcBlock (t port : Nat) (block fwd : List Cx) (s : State) : Out := .next ((s.at t).underOld (port / 4) (·.agcBlock port block fwd))

/-! ### Noise survey (R152–R154) -/

/-- The list indices a survey of a quad visits: those of the channel list, or 0–62 on a module whose list is empty,
that its mask permits (R153). -/
def State.surveyList (s : State) (q : Nat) : List Nat :=
  let n := if s.channels.isEmpty then 63 else s.channels.length
  (List.range n).filter (fun i => bitOf (s.nat (0x2210 + q) 6) i)

/-- The level in 0.01 dBm of a survey byte (Table 6 of chapter 4). -/
def surveyLevel (v : Nat) : Int := -12800 + 50 * (v : Int)

/-- The highest level of a quad's survey results: (level byte, list index, port). -/
def State.surveyHighest (s : State) (q : Nat) : Nat × Nat × Nat :=
  (s.surveyList q).foldl (fun m i =>
    let v := s.nat (0x2220 + q) (i + 1)
    [0, 1, 2, 3].foldl (fun m p => let b := v / 256 ^ p % 256; if m.1 < b then (b, i, p) else m) m) (0, 0, 0)

/-- The byte of a level in 0.01 dBm (Table 6 of chapter 4). -/
def surveyByte (level : Int) : Nat := (bounded 1 255 ((level + 12800).fdiv 50)).toNat

/-- A sweep of all permitted channels is complete: event 0x220A, and it starts again (R154). -/
def State.sweepSurveyed (s : State) (q : Nat) : State :=
  let s1 := ((s.set (0x2220 + q) 65 s.rtcSec).count (0x2210 + q) 7).modTx q (fun t => { t with surveyNext := 0, surveyDone := 0 })
  let h := s1.surveyHighest q
  s1.raise 0x220A ([q, (s.tx q).surveyDone, h.2.2, h.2.1] ++ dI 2 (surveyLevel h.1)) s1.allJoined

/-- The receivers of a quad during a survey dwell, or idle after it (Table 2 of chapter 4, R153). -/
def State.surveyReceivers (s : State) (q : Nat) (on : Bool) : State :=
  s.each (portsOf q) (fun st p => if on then ((st.set (0x2130 + p) 2 6).set (0x2130 + p) 7 1).set (0x2130 + p) 8 50 else st.set (0x2130 + p) 2 0)

/-- A dwell whose time is over records the levels of the quad's four ports; the last one of a sweep completes it (R153, R154). -/
def State.surveyEnd (s : State) (q : Nat) (levels : List Int) : State :=
  match (s.tx q).survey with
  | none => s
  | some (i, start) =>
    if s.now < start + us (s.nat (0x2210 + q) 5) then s
    else
      let v := ([0, 1, 2, 3].foldl (fun m p => m + surveyByte (tget levels p (-12800)) * 256 ^ p) 0 : Nat)
      let s1 := ((s.set (0x2220 + q) (i + 1) v).surveyReceivers q false).modTx q (fun t => { t with
        survey := none, surveyNext := i + 1, surveyDone := t.surveyDone + 1 })
      if (s.surveyList q).any (fun j => decide (i < j)) then s1 else s1.sweepSurveyed q

/-- The next dwell begins in a quiet slot that includes the quad, where it ends before the quiet run does and neither a logic slice nor a
background calibration of the quad is due (R153, R154). A mask narrowed behind the sweep completes it. -/
def State.surveyBegin (s : State) (q : Nat) : State :=
  if !s.flag (0x2210 + q) 4 || (s.tx q).survey.isSome || decide (s.power.mode ≠ 0) || s.carrierOn q || (s.surveyList q).isEmpty ||
      !s.sliceFits (some q) (us (s.nat (0x2210 + q) 5)) || s.sliceDue q || s.calibrationDue q then s
  else
    let next := fun (st : State) => (st.surveyList q).find? (fun i => decide ((st.tx q).surveyNext ≤ i))
    let s1 := if (next s).isNone then (if (s.tx q).surveyDone = 0 then s.modTx q (fun t => { t with surveyNext := 0 }) else s.sweepSurveyed q) else s
    match next s1 with
    | none => s1
    | some i => (s1.modTx q (fun t => { t with survey := some (i, s.now) })).surveyReceivers q true

/-- A dwell still in progress as its quiet run ends is given up, and the survey resumes at its channel (R154). -/
def State.surveyAbort (s : State) (q : Nat) : State :=
  if (s.tx q).survey.isSome && !(decide (entryKind s.entryNow = 0) && entryHas s.entryNow q) then
    (s.modTx q (fun t => { t with survey := none })).surveyReceivers q false
  else s

/-- `NOISE_SURVEY_DWELL`: a dwell of the survey is over or may begin; the levels are those at the four ports in 0.01 dBm. -/
def execNoiseSurveyDwell (t quad : Nat) (levels : List Int) (s : State) : Out :=
  .next (((s.at t).surveyEnd quad levels).surveyBegin quad)

end Sys2Proof.Machine
end

