-- ==== Sys2Proof/Machine/Baseband.lean ====
section
/-! DEFINITION. The quad DSP on FM0 and Miller replies: tone cancellers, combining, tracking loops, symbol decisions, the collision
test and zero-forcing, RSSI and phase (chapter 5, R158–R182). Positions in time are in 128ths of a bus tick. -/

namespace Sys2Proof.Machine

/-- One stream of a reply as the quad DSP decodes it: its bits in air order, its SNR after combining or separation
in 0.01 dB, its start in bus ticks after the command's last symbol, the index of the eigenvector it started from,
its coding violations and its signature (R174, R175). -/
structure Stream where
  bits : List Bool
  snr : Int
  start : Nat
  eigen : Nat
  violations : Nat
  signature : List Cx
  deriving DecidableEq, Repr

/-- What a decision works on: the streams, how many were counted, whether a collision was detected, RSSI and phase bytes of ports 0–3
and the primary's BLF deviation in 0.01 % (R171–R181); for an HSB reply `error` is the reply start error in samples (R187). -/
structure Reply where
  streams : List Stream
  k : Nat
  collision : Bool
  rssi : List Nat
  phase : List Nat
  dev : Int
  error : Int
  deriving DecidableEq, Repr

/-- A reply of nothing. -/
def emptyReply : Reply :=
  { streams := [], k := 0, collision := false, rssi := [0, 0, 0, 0], phase := [0, 0, 0, 0], dev := 0, error := 0 }

/-! ### Tone cancellers (R159, R160) -/

/-- Put a value in its place in a list that is in order, behind those that tie with it. -/
def insertBy {α : Type} (before : α → α → Bool) (x : α) : List α → List α
  | [] => [x]
  | y :: r => if before x y then x :: y :: r else y :: insertBy before x r

/-- A list in order. -/
def sortBy {α : Type} (before : α → α → Bool) (l : List α) : List α := l.foldl (fun acc x => insertBy before x acc) []

/-- The offsets of the carriers of other quads that lie within ±4.6 MHz of a quad's own, nearest first; a channel step is 50 kHz. -/
def State.carrierTones (s : State) (q : Nat) : List Int :=
  sortBy (fun a b => decide (a.natAbs < b.natAbs)) ((((List.range 12).filter (fun r => decide (r ≠ q) && s.carrierOn r)).map (fun r =>
    5 * ((s.txChannel r : Int) - s.txChannel q))).filter (fun o => decide (o ≠ 0) && decide (o.natAbs ≤ 460)))

/-- The tones that a 256-point search of a port's tracking samples finds at least 20 dB above the median bin, strongest first. -/
def searchTones (pre : List Cx) : List Int :=
  if pre.length < 256 then []
  else
    let bins := (List.range 256).map (fun b => (b, cabs2 (dft (4 * b) (pre.drop (pre.length - 256)))))
    let median := tget ((sortBy (fun a b => decide (a < b)) (bins.map (·.2)))) 128 0
    (sortBy (fun a b => decide (b.2 < a.2)) (bins.filter (fun x => decide (x.1 ≠ 0) && decide (100 * median ≤ x.2)))).map (fun x =>
      if x.1 < 128 then 4 * (x.1 : Int) else 4 * (x.1 : Int) - 1024)

/-- The amplitude of a tone in some tracking samples, the first of which has a number: the mean of the samples turned back by the
oscillator, in units of 2^-14. -/
def toneAmplitude (offset : Int) (first : Nat) (pre : List Cx) : Cx :=
  cdiv (csum (pre.zipIdx.map (fun x => cmul x.1 (turn (-(offset * ((first + x.2 : Nat) : Int))))))) (pre.length : Int)

/-- The tones of a port as the blanked state freezes them: carriers of other quads, then those found, as many as are enabled; amplitudes
from the tracking samples before the command, or as they were where there are none (R159, R160; log entry 98). -/
def State.assignTones (s : State) (q : Nat) (pre : List (List Cx)) : State :=
  s.each (portsOf q) (fun st p =>
    let l := tget pre (p % 4) []
    let carriers := st.carrierTones q
    let offsets := (carriers ++ (searchTones l).filter (fun o => !carriers.contains o)).take (st.nat (0x2230 + q) 7)
    let first := (st.seq q).cmdStart / 12 - l.length
    st.modPort p (fun y => { y with tones := offsets.map (fun o =>
      { offset := o, amp := if l.isEmpty then ((y.tones.find? (fun t => decide (t.offset = o))).map (·.amp)).getD czero else toneAmplitude o first l }) }))

/-- Samples with 8 binary places less a port's tones; the first sample has a number, with which the oscillators run on. -/
def removeTones (tones : List Tone) (first : Nat) (l : List Cx) : List Cx :=
  if tones.isEmpty then l
  else l.zipIdx.map (fun x => tones.foldl (fun acc t => csub acc (cdiv (cmul t.amp (turn (t.offset * ((first + x.2 : Nat) : Int)))) 1048576)) x.1)

/-- The samples of a quad's four ports as the combiner takes them; those of an excluded port are discarded (R129, R137, R141, R145,
R159). -/
def State.cleaned (s : State) (q first : Nat) (air : Air) : List (List Cx) :=
  (portsOf q).map (fun p => if (s.port p).excluded then []
    else removeTones (s.port p).tones first (s.digitalStage p air.fwd (tget air.ports (p % 4) [])).1)

/-! ### Combining (R166) -/

/-- The ports with a weight at a tick: those not excluded, less those clipped by then; the weights stay with the ports clipped last where
every other one was clipped before (R141, R166). -/
def State.usedPorts (s : State) (q tick : Nat) : List Nat :=
  let l := (List.range 4).filter (fun p => !(s.port (4 * q + p)).excluded)
  let clear := l.filter (fun p => match (s.port (4 * q + p)).clippedAt with
    | some t => decide (tick < t)
    | none => true)
  let at' := fun (p : Nat) => (s.port (4 * q + p)).clippedAt.getD 0
  if clear.isEmpty then l.filter (fun p => decide (at' p = l.foldl (fun m x => peak m (at' x)) 0)) else clear

/-- The product of the noise powers of some ports, and for each port that product over its own, 0 for a port not among them. -/
def inverseNoise (used : List Nat) (noise : List Nat) : Nat × List Nat :=
  let n := fun (p : Nat) => peak 1 (tget noise p 1)
  let product := used.foldl (fun m p => m * n p) 1
  (product, (List.range 4).map (fun p => if used.contains p then product / n p else 0))

/-- Maximal-ratio weights: the signature's conjugate over the noise power (R166). -/
def ratioWeights (v : List Nat) (h : List Cx) : List Cx := (List.range 4).map (fun p => cscale (tget v p 0 : Nat) (conj (cget h p)))

/-- The weighted sum of the four ports. -/
def combine (w y : List Cx) : Cx := csum (List.zipWith cmul w y)

/-- The Gram matrix of some signatures under the noise of the ports. -/
def gram (v : List Nat) (hs : List (List Cx)) : List (List Cx) := hs.map (fun a => hs.map (fun b => combine (ratioWeights v a) b))

/-- The zero-forcing weights of stream i among some signatures, times a positive number (R172). -/
def zeroForcing (v : List Nat) (hs : List (List Cx)) (i : Nat) : List Cx :=
  let g := gram v hs
  let n := hs.length
  (List.range 4).map (fun p => csum (hs.zipIdx.map (fun x =>
    cmul (cscale (if (i + x.2) % 2 = 0 then 1 else -1) (minor n g x.2 i)) (cget (ratioWeights v x.1) p))))

/-- The post-separation SNR of stream i in 0.01 dB: the determinant of the Gram matrix over its diagonal cofactor (R174). -/
def separatedSnr (product : Nat) (v : List Nat) (hs : List (List Cx)) (i : Nat) : Int :=
  let g := gram v hs
  decibels (det hs.length g).re.toNat ((minor hs.length g i i).re.toNat * product)

/-! ### Symbol decisions (R167, R168) -/

/-- A decoder at work on a stream: where its next bit begins, its loops, the level and the data value that the last symbol ended with,
the bits decided, newest first, and each one's matched-filter outputs at the four ports with the data taken out. -/
structure Decoder where
  pos : Nat
  loop : Loop
  level : Bool
  last : Bool
  bits : List Bool
  outputs : List (List Cx)
  combined : List Cx
  deriving DecidableEq, Repr

/-- The sums of the ports' samples between two sample numbers, the first left out. -/
def dump (ports : List (List Cx)) (a b : Nat) : List Cx := ports.map (fun l => csum ((l.drop a).take (b - a)))

/-- The sum of two vectors of the four ports, the second times a sign. -/
def vadd (k : Int) (a b : List Cx) : List Cx := List.zipWith (fun x y => cadd x (cscale k y)) a b

/-- The length of `n` half cycles of the subcarrier at a BLF deviation in 0.01 %. -/
def halfCycles (l : Link) (dev : Int) (n : Nat) : Nat := n * l.tpri * 10000 / (10000 + dev).toNat

/-- The integrate-and-dump correlations of half `h` (0 or 1) of the bit at a position, its windows moved by some samples: M half cycles
of the subcarrier in turn, one of FM0's. Samples at or before an instant belong before it (R168, R169). -/
def halfBit (l : Link) (dev : Int) (base pos h : Nat) (move : Int) (ports : List (List Cx)) : List Cx :=
  let n := fun (k : Nat) => ((((pos + halfCycles l dev (h * l.m + k)) / 1536 : Nat) : Int) - base + move).toNat
  (List.range l.m).foldl (fun acc j => vadd (if j % 2 = 0 then 1 else -1) acc (dump ports (n j) (n (j + 1)))) (List.replicate 4 czero)

/-- The decision of one symbol from the correlations of its halves: the bit, the level it starts at, and whether the boundary is a
coding violation after the level and the data before it (R168). FM0 inverts at every boundary and again in a 0; Miller inverts within a
1 and between two 0s. -/
def decideBit (miller : Bool) (a b : Int) (level last : Bool) : Bool × Bool × Bool :=
  let steady := decide ((a - b).natAbs ≤ (a + b).natAbs)
  let bit := if miller then !steady else steady
  let start := decide (0 ≤ if steady then a + b else a - b)
  let inverts := decide (start ≠ level)
  (bit, start, decide (inverts ≠ (if miller then !last && !bit else true)))

/-- One bit of a stream: decided under the common phase, which follows the decision by a quarter of its error; the early-late loop moves
the BLF by 0.25 % and the position by a quarter of a sample where one gate is stronger by an eighth, up to ±2.5 %, and a bit at the end
of that range is a violation (R167; log entry 99). `weight` gives the ports' weights at a tick. -/
def decodeBit (l : Link) (dev : Int) (base : Nat) (ports : List (List Cx)) (weight : Nat → List Cx) (d : Decoder) : Decoder :=
  let total := dev + d.loop.deviation
  let stop := d.pos + halfCycles l total (2 * l.m)
  let w := weight (stop / 128)
  let half := fun (h : Nat) (move : Int) => halfBit l total base d.pos h move ports
  let first := half 0 0
  let second := half 1 0
  let turned := fun (y : List Cx) => (cmul (combine w y) (conj d.loop.reference)).re
  let r := decideBit (decide (l.m ≠ 1)) (turned first) (turned second) d.level d.last
  let steady := decide (r.1 ≠ decide (l.m ≠ 1))
  let sign : Int := if r.2.1 then 1 else -1
  let whole := fun (move : Int) => vadd (if steady then 1 else -1) (half 0 move) (half 1 move)
  let out := (vadd (if steady then 1 else -1) first second).map (cscale sign)
  let z := combine w out
  let early := cabs1 (combine w (whole (-1)))
  let late := cabs1 (combine w (whole 1))
  let pull : Int := if early + cabs1 z / 8 < late then -1 else if late + cabs1 z / 8 < early then 1 else 0
  let want := d.loop.deviation + 25 * pull
  let limit := decide (250 < want.natAbs)
  let reference := if d.bits.isEmpty then { re := (cabs1 z : Nat), im := 0 } else d.loop.reference
  { pos := ((stop : Int) - 384 * pull).toNat
    loop := { reference := cdiv (cadd (cscale 3 reference) z) 4, deviation := if limit then d.loop.deviation else want
              violations := d.loop.violations + (if r.2.2 || limit then 1 else 0) }
    level := decide (r.2.1 = steady), last := r.1, bits := r.1 :: d.bits, outputs := out :: d.outputs, combined := z :: d.combined }

/-- Decode bit after bit while the samples last and the reply is not complete; the trailing dummy 1 is no bit of it (R169). -/
def decodeBits (l : Link) (dev : Int) (base : Nat) (ports : List (List Cx)) (weight : Nat → List Cx) (complete : List Bool → Bool) : Nat → Decoder → Decoder
  | 0, d => d
  | n + 1, d =>
    let stop := d.pos + halfCycles l (dev + d.loop.deviation) (2 * l.m)
    if complete d.bits.reverse || decide ((ports.foldl (fun m x => peak m x.length) 0) < stop / 1536 - base) then d
    else decodeBits l dev base ports weight complete n (decodeBit l dev base ports weight d)

/-- The SNR of the bits decided, in 0.01 dB: the power of their mean over what deviates from it (R164; log entry 99). -/
def Decoder.snr (d : Decoder) : Int :=
  let s := cabs2 (csum d.combined)
  let t := d.combined.length * sumOf (d.combined.map cabs2)
  decibels s (t - s)

/-- The number of bits of a quad's reply, once enough of them tell: 16 of an RN16, what the PC says of an EPC reply, 41 of a tag
error reply, else what the command draws, 33 of a Req_RN among them; all the samples hold for an Authenticate (chapter 6, R208, R216). -/
def State.replyBits (s : State) (q : Nat) (b : List Bool) : Nat :=
  let x := s.seq q
  let c := x.cmd.cmd
  if 2 ≤ c ∧ c ≤ 4 then 16
  else if c = 5 ∨ c = 20 then (if b.length < 16 then 32 else 32 + 16 * (ofBits (b.take 16) / 2048))
  else if c = 17 then 65535
  else if b.head? = some true then 41
  else if c = 8 then 33 + 16 * byteAt (s.dueStep q x.cmd) 3
  else 33

/-- Where the first bit after the preamble begins, from which the samples of a reply count. -/
def State.dataStart (s : State) (q : Nat) : Nat :=
  let l := s.seqLink q
  let x := s.seq q
  128 * (x.cmdEnd + x.detectStart) + halfCycles l x.reception.dev (2 * l.m * l.pre)

/-- The weights of a stream at a tick: the composite signature's, or zero-forcing ones among some signatures (R166, R172). -/
def State.weightsAt (s : State) (q : Nat) (hs : List (List Cx)) (i tick : Nat) : List Cx :=
  let v := (inverseNoise (s.usedPorts q tick) (s.seq q).reception.noise).2
  match hs with
  | [h] => ratioWeights v h
  | _ => zeroForcing v hs i

/-- Decode a stream of a quad's reply from its samples: at most so many bits. The preamble ends on its own level with a data-1. -/
def State.decodeStream (s : State) (q : Nat) (ports : List (List Cx)) (hs : List (List Cx)) (i most : Nat) : Decoder :=
  let l := s.seqLink q
  decodeBits l (s.seq q).reception.dev (s.dataStart q / 1536) ports (s.weightsAt q hs i) (fun b => decide (s.replyBits q b ≤ b.length)) most
    { pos := s.dataStart q, loop := { reference := { re := 1, im := 0 }, deviation := 0, violations := 0 }, level := true, last := true
      bits := [], outputs := [], combined := [] }

/-! ### Collisions and separation (R171, R172) -/

/-- A port vector with the composite signature projected out, times the signature's weighted norm. -/
def projected (v : List Nat) (h y : List Cx) : List Cx :=
  let w := ratioWeights v h
  vadd (-1) (y.map (cscale (combine w h).re)) (h.map (cmul (combine w y)))

/-- The covariance of some port vectors. -/
def covariance (ys : List (List Cx)) : List (List Cx) :=
  (List.range 4).map (fun i => (List.range 4).map (fun j => csum (ys.map (fun y => cmul (cget y i) (conj (cget y j))))))

/-- How many eigenvalues of the residual covariance over some bits, less the noise and divided by it, reach a threshold in steps of
0.25 dB (R171). The samples have 8 binary places, noise powers none. -/
def State.residualCount (s : State) (q : Nat) (ys : List (List Cx)) (threshold : Nat) : Nat :=
  let r := (s.seq q).reception
  let n := inverseNoise (s.usedPorts q s.now) r.noise
  let g := (combine (ratioWeights n.2 r.signature) r.signature).re.toNat
  if ys.isEmpty ∨ g = 0 then 0
  else eigenvaluesFrom n.2 (covariance (ys.map (projected n.2 r.signature))) (n.1 * ys.length * g * g * 65536 * (1000000 + ratioOf threshold)) 1000000

/-! ### The reply (R169–R174, R180, R181) -/

/-- The samples of a reply behind its preamble, as the combiner takes them. -/
def State.replyPorts (s : State) (q : Nat) (air : Air) : List (List Cx) := s.cleaned q (s.dataStart q / 1536 + 1) air

/-- A decoded stream. -/
def Decoder.stream (d : Decoder) (snr : Int) (start eigen : Nat) (h : List Cx) : Stream :=
  { bits := d.bits.reverse, snr := snr, start := start, eigen := eigen, violations := d.loop.violations, signature := h }

/-- The streams of a reply with the loops of each: the composite one, or those that separation settled on (R166, R172–R174). -/
def State.replyStreams (s : State) (q : Nat) (ports : List (List Cx)) (most : Nat) : List (Stream × Loop) :=
  let r := (s.seq q).reception
  if 2 ≤ r.k ∧ r.k ≤ 3 then
    let hs := r.est.map (·.signature)
    let n := inverseNoise (s.usedPorts q s.now) r.noise
    r.est.zipIdx.map (fun x =>
      let d := s.decodeStream q ports hs x.2 most
      (d.stream (separatedSnr n.1 n.2 hs x.2) x.1.start x.1.eigen x.1.signature, d.loop))
  else
    let d := s.decodeStream q ports [r.signature] 0 most
    [(d.stream d.snr (s.seq q).detectStart 0 r.signature, d.loop)]

/-- A reply from its samples: the streams, and whether a collision is detected, by the residual over all its bits, by violations beyond
its first 16 bits, or by a failed CRC-16 with a residual of 3 dB (R171). -/
def State.demodulate (s : State) (q : Nat) (crc : Bool) (air : Air) : Reply × List Loop :=
  let x := s.seq q
  let ports := s.replyPorts q air
  let d := s.decodeStream q ports [x.reception.signature] 0 4096
  let l := s.replyStreams q ports 4096
  let bits := d.bits.reverse
  let fails := crc && decide (ofBits (bits.drop (bits.length - 16)) ≠ crcAir 1 (bits.take (bits.length - 16)))
  let collision := decide (2 ≤ x.reception.k) || decide (0 < s.residualCount q d.outputs (s.nat (0x2230 + q) 4)) ||
    (decide (16 < bits.length) && decide (s.nat (0x2230 + q) 2 ≤ d.loop.violations)) || (fails && decide (0 < s.residualCount q d.outputs 12))
  ({ emptyReply with
      streams := (l.map (·.1)).filter (fun y => !y.bits.isEmpty), k := peak 1 x.reception.k, collision := collision
      dev := x.reception.dev + ((l.head?.map (fun y => y.2.deviation)).getD 0) }, l.map (·.2))

/-- The RSSI byte of a port: the power of its signature at the land, corrected for the frozen gain and the port's calibration (R180,
Table 4 of chapter 5). -/
def State.rssiByte (s : State) (p : Nat) (h : Cx) : Nat :=
  let level := decibels (cabs2 h) 1 - 100 * (s.nat (0x2130 + p) 9 : Int) + Config.rxLevel p
  (bounded 1 255 ((level + 12800).fdiv 50)).toNat

/-- RSSI and phase bytes of the ports combined, which are those with a weight at the start of the data, from the signature of a stream
(R180, R181). -/
def State.measured (s : State) (q : Nat) (h : Option (List Cx)) (r : Reply) : Reply :=
  match h with
  | none => r
  | some h =>
    let used := s.usedPorts q (s.dataStart q / 128)
    { r with
      rssi := (List.range 4).map (fun p => if used.contains p then s.rssiByte (4 * q + p) (cget h p) else 0)
      phase := (List.range 4).map (fun p => if used.contains p then (angle (cget h p) + Config.rxPhase (4 * q + p)) % 256 else 0) }

end Sys2Proof.Machine
end

