-- ==== Sys2Proof/Machine/Sequencer.lean ====
section
/-! DEFINITION. The quad sequencer sends commands: each ISO/IEC 18000-63 command that is due, when the gates of R42
pass (chapter 6, R194–R214; chapter 7, R230–R234). -/

namespace Sys2Proof.Machine

/-- Whether a command starts a slot: its credits are taken before it (Table 2 of chapter 14). -/
def Due.opensSlot (d : Due) : Bool := decide (2 ≤ d.cmd) && decide (d.cmd ≤ 4)

/-- Whether the first command after a carrier rise may start: the transmitting port tracks, or 150 µs have passed
(R133). -/
def State.settledEnough (s : State) (q : Nat) : Bool :=
  decide (s.rxState (s.seq q).port = 2) || decide ((s.tx q).powerTick + us 150 ≤ s.now)

/-- Whether a command of an index is the quad's next and its time has come: carrier on, no tuner re-tracking, no
co-channel hold (R133, R134, R205, R206, R246). -/
def State.comesDue (s : State) (q cmd : Nat) : Bool :=
  let x := s.seq q
  match x.due with
  | d :: _ => decide (d.cmd = cmd) && decide (x.state = 1) && decide ((s.tx q).carrier = 2) && decide (x.earliest ≤ s.now) &&
      decide ((s.tx q).noCommandUntil ≤ s.now) && s.settledEnough q && !(d.startsSlot && !x.holds.isEmpty)
  | [] => false

/-- The command index of the Lantern trace: Table 1 of chapter 6, or the low byte of the HSB opcode, whose bit 7 is
set (Table 13 of chapter 19). -/
def lanternIndex (cmd : Nat) : Nat := if 18 ≤ cmd then 0xA0 + (cmd - 18) else cmd

/-- The sequencer's own account of a slot command: Q, the slots of the round, the saved Qfp, the pass's Selects
(R218, R221, R222, R230). -/
def State.noteSlot (s : State) (q : Nat) (d : Due) : State :=
  let x := s.seq q
  match x.plan with
  | none => s
  | some p =>
    if d.cmd = 2 then
      (s.modSeq q (fun y => { y with q := d.arg, slots := 1, replied := false })).modRound p x.port (fun r => { r with
        selectsSent := true, qfp := some (r.qfp.getD (100 * d.arg)) })
    else if d.cmd = 3 then
      s.modSeq q (fun y => { y with q := if d.arg = 1 then satTo 15 (y.q + 1) else y.q - 1, slots := 1, replied := false })
    else if d.cmd = 4 then s.modSeq q (fun y => { y with slots := y.slots + 1 })
    else s

/-- The target power of the transmitting port and the limit that sets it, for the exchange that begins (R96). -/
def State.retarget (s : State) (q : Nat) : State :=
  let x := s.seq q
  match x.plan, (s.tx q).index with
  | some p, some i => match s.bandOf (s.channelAt i) with
    | some b => (s.set (0x2200 + q) 4 (s.inForce.targetPower x.shade x.port b (s.request p x.port))).set (0x2200 + q) 8
        (s.inForce.bindingLimit x.shade x.port b (s.request p x.port))
    | none => s
  | _, _ => s

/-- Send the due command: set its power, blank the receivers, fix its end, and trace it (R131, R179; Table 13 of chapter 19). A
silent command has no receive window: its ports track from its end, and the next one follows after T4 (R131, R206). A reply that another quad has detected
on the channel is overlapped (R184). -/
def State.send (s : State) (q : Nat) (d : Due) (rest : List Due) : State :=
  let x := s.seq q
  let starts := s.now + s.dueShift q d
  let ends := starts + s.dueTicks q d
  let s1 := (((s.noteSlot q d).retarget q).fixTuners q).blank q
  let s2 := s1.modSeq q (fun y => { y with
    state := if d.silent then 1 else 2, cmd := d, cmdStart := starts, cmdEnd := ends, due := rest,
    exchange := (y.exchange + 1) % 65536, earliest := ends + 2 * (s.seqLink q).rtcal, detectStart := 0,
    reception := noReception, cmdChannel := s.txChannel q, withdrawn := false, overlap := false, ambiguous := false, slot := if d.cmd = 20 then 1 else 0, frozen := [] })
  let s2 := s2.each ((s2.sharers q).filter (fun r => decide ((s2.seq r).state = 4))) (fun st r =>
    st.modSeq r (fun y => { y with overlap := true }))
  let s3 := s2.lanternQuad q 3 ([q, x.port, lanternIndex d.cmd] ++ dU 2 (s.txChannel q) ++ dI 2 (s.int (0x2200 + q) 4) ++ [x.shade])
  s3

/-- The due command under the gates of R42, in their order: a FIFO entry, the slot's credits, and the fit of its
worst case. An Authenticate waits while the random source is stopped. A refused gate holds the command; work that does
not fit turns the carrier off, and so does a port that its owner has lost (R42, R43, R227, R368, R395, R476, R477). A probe takes the
credits of its step's fragments that the slot does not hold (R291). -/
def State.tryCommand (s : State) (q : Nat) : State :=
  let x := s.seq q
  match x.due, x.plan, s.seqGroup q with
  | d :: rest, some p, some g =>
    let ends := s.now + s.dueWorst q
    if !(s.planPorts p q).contains x.port then s.closeAfterExchange q
    else if !s.gateOpen q || (decide (d.cmd = 17) && s.domeFailed) then s
    else if !s.fifoRoom x.port then s.count (0x5020 + q) 8
    else
      let need := if d.opensSlot then s.slotCredits p g else if d.cmd = 18 then s.stepCredits p (d.step - 1) - x.credits else 0
      let c := s.takeCredit x.shade need
      if !c.1 then (c.2.count (0x5020 + q) 9).modSeq q (fun y => { y with starved := true })
      else if 0 < s.dueWorst q ∧ s.workFits q ends = false then s.noFit q ends
      else
        let s1 := if d.opensSlot then
            (c.2.modSeq q (fun y => { y with inSlot := true, credits := need, creditShade := x.shade, granted := true })).settle
          else if need = 0 then c.2
          else (c.2.modSeq q (fun y => { y with credits := y.credits + need, creditShade := x.shade })).settle
        (s1.reserveFifo q).send q d rest
  | _, _, _ => s

/-- Send a command of an index where it is the quad's next. -/
def State.command (s : State) (q cmd : Nat) : State := if s.comesDue q cmd then s.tryCommand q else s

/-! ### A tag's sequence -/

/-- The commands of one access step, in order (Table 3 of chapter 7, R212). -/
def State.stepDues (s : State) (p i : Nat) : List Due :=
  let b := s.planStep p i
  let k := stepKind b
  let one := fun (c a : Nat) => ({ cmd := c, arg := a, step := i + 1 } : Due)
  (if stepFlag b 1 then [one 7 1, one 12 0, one 7 1, one 12 1] else []) ++
  (if k = 2 then [one 8 0] else if k = 3 then [one 7 1, one 9 0] else if k = 4 then [one 13 0] else if k = 5 then [one 14 0]
   else if k = 6 then [one 11 0] else if k = 7 then [one 15 0] else if k = 8 then [one 7 1, one 10 0, one 7 1, one 10 1]
   else if k = 9 then [one 16 0] else if k = 10 then [one 17 0] else if k = 11 then [one 1 255] else if k = 12 then [one 18 0] else [])

/-- The commands of a tag's sequence: a Req_RN for its handle before the first access command, then every step of the
group (chapter 7, "Steps"). -/
def State.sequenceDues (s : State) (p : Nat) (g : Group) : List Due :=
  (if s.groupNeedsHandle p g then [{ cmd := 7, arg := 0, step := (g.access.head?.getD 0) + 1 }] else []) ++
  g.access.flatMap (fun i => s.stepDues p i)

/-- A step's report to the plan's owner, on a credit of the slot where one is left (R251, R477; Table 7 of
chapter 7). That of a provisional entry waits for its confirmation (R48, R247). -/
def State.stepReport (s : State) (q step status : Nat) (data : List Byte) : State :=
  let x := s.seq q
  match x.plan, x.tag.entry with
  | some p, some n => match s.tag n with
    | some t =>
      let sh := s.planOwner p
      let r := s.tagReport sh 2 n { t with plan := p, window := x.shade } step status data
      if !s.joined sh then s
      else if !t.confirmed then s.modTag n (fun t => { t with reports := t.reports ++ [(step, status, data)] })
      else if 0 < x.credits then
        ((s.admitCredited sh 4 r).modSeq q (fun y => { y with credits := y.credits - 1 })).settle
      else (s.takeIn sh false 4 r).settle
    | none => s
  | _, _ => s

/-- Report a step's result where its flag bit 2 asks for it (Table 2 of chapter 7). -/
def State.reportIfAsked (s : State) (q step status : Nat) (data : List Byte) : State :=
  match (s.seq q).plan with
  | some p => if stepFlag (s.planStep p (step - 1)) 2 then s.stepReport q step status data else s
  | none => s

/-- A quad begins a tag's sequence. A live claim of another quad of the plan and pass skips it: the skip is counted,
and each step that reports does so with status 4 (R245). Answers whether the quad goes on to an access command. -/
def State.beginTag (s : State) (q : Nat) (t : Tag) : Bool × State :=
  let s1 := s.modSeq q (fun y => { y with tag := t, hsb := noHsb, retries := 0, attempts := 0 })
  match (s.seq q).plan, s.seqGroup q, t.entry with
  | some p, some g, some n =>
    let pass := s.planObj p 43
    if g.access.isEmpty then (false, s1)
    else if s.planObj p 13 = 0 then (true, s1)
    else match s1.claimedBy n p pass q with
    | some other =>
      let s2 := s1.claimSkip n p q other
      (false, g.access.foldl (fun st i => if stepFlag (s.planStep p i) 2 then st.stepReport q (i + 1) 4 [] else st) s2)
    | none => (true, s1.claimTag n p pass q)
  | _, _, _ => (false, s1)

/-- Serve the tags that wait, in order; when none is left the slot ends, behind a NAK where the module failed a tag
(R210, R288). -/
def State.serve (s : State) (q : Nat) : List Tag → State
  | [] =>
    if (s.seq q).failed then s.modSeq q (fun y => { y with state := 1, due := [{ cmd := 6, arg := 0, step := 0 }], waiting := [] })
    else s.endSlot q
  | t :: r =>
    let b := s.beginTag q t
    if b.1 then
      match (s.seq q).plan, s.seqGroup q with
      | some p, some g => b.2.modSeq q (fun y => { y with state := 1, waiting := r, due := s.sequenceDues p g })
      | _, _ => b.2
    else State.serve b.2 q r

/-- A tag's sequence is over: its claim ends, and the next tag of a GroupACK is served (R245, R288). -/
def State.finishTag (s : State) (q : Nat) : State :=
  (s.endClaims q).serve q (if 0 < (s.seq q).listed then (s.seq q).waiting else [])

/-- The tag's sequence fails: what is left of it is dropped, its provisional entry is cancelled, and a NAK follows (R210, R239). -/
def State.failTag (s : State) (q : Nat) : State :=
  ((s.dropProvisional q (s.seq q).tag).modSeq q (fun y => { y with failed := true, due := [] })).finishTag q

/-- The sequence goes on with the next command, or is over. The repeat count runs on behind the fresh Req_RN of a
repeated Access (R211, R212). -/
def State.advance (s : State) (q : Nat) : State :=
  let s1 := s.modSeq q (fun y => { y with retries := if y.cmd.cmd = 7 ∧ y.cmd.arg = 2 then y.retries else 0 })
  if (s.seq q).due.isEmpty then s1.finishTag q else s1.modSeq q (fun y => { y with state := 1 })

/-- A command of the tag's sequence is done; the last one of a step reports it. -/
def State.stepDone (s : State) (q : Nat) (data : List Byte) : State :=
  let x := s.seq q
  let last := match x.due with
    | c :: _ => decide (c.step ≠ x.cmd.step)
    | [] => true
  (if last then s.reportIfAsked q x.cmd.step 0 data else s).advance q

/-! ### The commands -/

/-- `QUERY`. -/
def execQuery (t quad : Nat) (s : State) : Out := .next ((s.at t).command quad 2)

/-- `QUERYADJUST`. -/
def execQueryadjust (t quad : Nat) (s : State) : Out := .next ((s.at t).command quad 3)

/-- `QUERYREP`. -/
def execQueryrep (t quad : Nat) (s : State) : Out := .next ((s.at t).command quad 4)

/-- `ISO_ACK`. -/
def execIsoAck (t quad : Nat) (s : State) : Out := .next ((s.at t).command quad 5)

/-- `REQ_RN`. -/
def execReqRn (t quad : Nat) (s : State) : Out := .next ((s.at t).command quad 7)

/-- `ISO_READ`. -/
def execIsoRead (t quad : Nat) (s : State) : Out := .next ((s.at t).command quad 8)

/-- `ISO_WRITE`. -/
def execIsoWrite (t quad : Nat) (s : State) : Out := .next ((s.at t).command quad 9)

/-- `KILL`. -/
def execKill (t quad : Nat) (s : State) : Out := .next ((s.at t).command quad 10)

/-- `LOCK`. -/
def execLock (t quad : Nat) (s : State) : Out := .next ((s.at t).command quad 11)

/-- `ACCESS`. -/
def execAccess (t quad : Nat) (s : State) : Out := .next ((s.at t).command quad 12)

/-- `BLOCKWRITE`. -/
def execBlockwrite (t quad : Nat) (s : State) : Out := .next ((s.at t).command quad 13)

/-- `BLOCKERASE`. -/
def execBlockerase (t quad : Nat) (s : State) : Out := .next ((s.at t).command quad 14)

/-- `BLOCKPERMALOCK`. -/
def execBlockpermalock (t quad : Nat) (s : State) : Out := .next ((s.at t).command quad 15)

/-- `UNTRACEABLE`. -/
def execUntraceable (t quad : Nat) (s : State) : Out := .next ((s.at t).command quad 16)

/-- An Authenticate takes a fresh challenge of 10 bytes from the Dome, draws again where it has sent that one before, and waits while the
random source is stopped (R215, R395). -/
def State.authenticate (s : State) (q : Nat) (challenge : List Byte) : State :=
  if s.domeFailed || s.challenges.contains (fit 10 challenge) then s
  else
    let s1 := (s.modSeq q (fun x => { x with challenge := fit 10 challenge })).command q 17
    if (s1.seq q).exchange = (s.seq q).exchange then s1 else { s1 with challenges := s1.challenges ++ [fit 10 challenge] }

/-- `AUTHENTICATE`. -/
def execAuthenticate (t quad : Nat) (challenge : List Byte) (s : State) : Out :=
  .next ((s.at t).authenticate quad challenge)

/-- `HSB_PROBE`: the probe is counted, and what an earlier step learned is forgotten (Table 18 of chapter 8). -/
def State.hsbProbe (s : State) (q : Nat) : State :=
  let s1 := s.command q 18
  if (s1.seq q).exchange = (s.seq q).exchange then s1 else (s1.modSeq q (fun y => { y with hsb := noHsb })).count 0x3200 9

/-- `HSB_PROBE`. -/
def execHsbProbe (t quad : Nat) (s : State) : Out := .next ((s.at t).hsbProbe quad)

/-- `HSB_LOAD`. -/
def execHsbLoad (t quad : Nat) (s : State) : Out := .next ((s.at t).command quad 19)

/-- `HSB_GROUPACK`: the GroupACK is counted (Table 18 of chapter 8). -/
def State.groupAck (s : State) (q : Nat) : State :=
  let s1 := s.command q 20
  if (s1.seq q).exchange = (s.seq q).exchange then s1 else s1.count 0x3200 14

/-- `HSB_GROUPACK`. -/
def execHsbGroupack (t quad : Nat) (s : State) : Out := .next ((s.at t).groupAck quad)

end Sys2Proof.Machine
end

