-- ==== Sys2Proof/Machine/Detection.lean ====
section
/-! DEFINITION. Receive windows and preamble detection: acceptance spans, co-channel rejection, withdrawal, co-channel
holds (chapter 5, R162–R165, R183–R185, R201–R204; chapter 7, R246; chapter 8, Table 16). -/

namespace Sys2Proof.Machine

/-! ### Windows and spans -/

/-- Whether a command draws a delayed reply (R203). -/
def isDelayed (cmd : Nat) : Bool :=
  decide (cmd = 9) || decide (cmd = 10) || decide (cmd = 11) || (decide (13 ≤ cmd) && decide (cmd ≤ 16))

/-- The start of the reply slot that a quad expects after an HSB command, in samples after its end: 24 T, (i − 1) L
ticks later in slot i of a GroupACK, and the round-trip allowance of the transmitting port (R283, R287). -/
def State.hsbStart (s : State) (q : Nat) : Nat :=
  let x := s.seq q
  let tick := s.nat 0x3200 2
  (24 + (if x.cmd.cmd = 20 then (x.slot - 1) * s.groupSlot q else 0)) * tick + s.nat 0x3201 (x.port + 1)

/-- When the receive window of the last command opens, in ticks after its end (R201, Table 16 of chapter 8). -/
def State.windowOpens (s : State) (q : Nat) : Nat :=
  if 18 ≤ (s.seq q).cmd.cmd then peak 246 (samples (s.hsbStart q - s.nat 0x3200 4 - 16)) else (s.seqLink q).opens

/-- When it closes with no detection (R201, R203, R204, Table 16 of chapter 8). -/
def State.windowCloses (s : State) (q : Nat) : Nat :=
  let c := (s.seq q).cmd.cmd
  let l := s.seqLink q
  if 18 ≤ c then samples (s.hsbStart q + s.nat 0x3200 4 + 64)
  else if isDelayed c then s.delayed l
  else if c = 17 then peak l.closes (ms (s.linkObj l.number 15))
  else l.closes

/-- The span in which a reply to a quad's last command starts, in ticks after its end: the T1 acceptance span (R200),
or the search of Table 15 of chapter 8 for an HSB command. -/
def State.replySpan (s : State) (q : Nat) : Nat × Nat :=
  if 18 ≤ (s.seq q).cmd.cmd then
    (samples (s.hsbStart q - s.nat 0x3200 4), samples (s.hsbStart q + s.nat 0x3200 4))
  else ((s.seqLink q).t1Min, (s.seqLink q).t1Max)

/-- Whether a reply that starts at a tick falls in the span of a quad's last command. -/
def State.inSpan (s : State) (q start : Nat) : Bool :=
  let e := (s.seq q).cmdEnd
  let r := s.replySpan q
  decide (e + r.1 ≤ start) && decide (start ≤ e + r.2)

/-- The ports listen, exclusions are fixed, and the digital DC stage and the tone cancellers hold what the tracking samples before the
command gave them (R131, R141, R145, R160, R201). -/
def State.windowOpen (s : State) (q : Nat) (pre : List (List Cx)) : State :=
  let x := s.seq q
  if x.state = 2 ∧ x.cmdEnd + s.windowOpens q ≤ s.now then
    ((s.assignTones q pre).listen q pre).modSeq q (fun y => { y with state := 3, reception := noReception })
  else s

/-- `RECEIVE_WINDOW_OPEN`: of a quad, with each port's samples before the blanked state. -/
def execReceiveWindowOpen (t : Nat) (opening : Opening) (s : State) : Out :=
  .next ((s.at t).underOld opening.quad (·.windowOpen opening.quad opening.pre))

/-! ### Co-channel holds (R246) -/

/-- Every hold that quad q's detection began ends. -/
def State.endHolds (s : State) (q code : Nat) : State :=
  s.each ((List.range 12).filter (fun r => (s.seq r).holds.any (fun h => decide (h.1 = q)))) (fun st r => st.endHold r q code)

/-- A detection holds the co-channel quads, beside the holds of others, unless the hold limit is 0. -/
def State.beginHolds (s : State) (q : Nat) : State :=
  let s1 := s.modSeq q (fun y => { y with holdsBegun := 0 })
  if s.nat 0x3101 4 = 0 then s1
  else s1.each ((s.sharers q).filter (fun r => !(s.seq r).holds.any (fun h => decide (h.1 = q)))) (fun st r =>
    st.modSeq r (fun y => { y with holds := y.holds ++ [(q, s.now)] }))

/-- The worst case of what a hold keeps back: the slot, or the NAK that closes one. -/
def State.heldWorst (s : State) (r : Nat) : Nat :=
  match (s.seq r).due with
  | d :: _ => if d.cmd = 6 then s.worstExchange (s.seqLink r) (s.dueTicks r d) 0 0 else s.dueWorst r
  | [] => 0

/-- The hold limit runs out, or the held slot's worst case would no longer fit (R246). -/
def State.holdLimit (s : State) (r : Nat) : State :=
  let late := (s.seq r).holds.filter (fun h => decide (h.2 + us (s.nat 0x3101 4) ≤ s.now))
  let s1 := s.each (late.map (·.1)) (fun st q => st.endHold r q 3)
  if s1.heldNow r && !s1.workFits r (s1.now + s1.heldWorst r + 1) then s1.endOwnHolds r 4 else s1

/-- `CO_CHANNEL_HOLD_LIMIT`: of the held quad. -/
def execCoChannelHoldLimit (t quad : Nat) (s : State) : Out := .next ((s.at t).underOld quad (·.holdLimit quad))

/-! ### Detection -/

/-- The length of the preamble that a quad's reply begins with: that of the link, or the first reference symbol of an HSB reply. -/
def State.preambleTicks (s : State) (q : Nat) : Nat :=
  if (s.seq q).cmd.cmd = 18 ∨ (s.seq q).cmd.cmd = 19 then samples 64 else (s.seqLink q).bitsTicks (s.seqLink q).pre

/-- Whether a command of a quad on the channel modulated while the preamble that started at a tick ran, its carrier since gone or not
(R183, R184). -/
def State.preambleOverlapped (s : State) (q start : Nat) : Bool :=
  (List.range 12).any (fun r => decide (r ≠ q) && decide ((s.seq r).cmdChannel = s.txChannel q) && decide (0 < (s.seq r).cmdEnd) &&
    decide ((s.seq r).cmdStart < start + s.preambleTicks q) && decide (start < (s.seq r).cmdEnd))

/-- The first co-channel quad in whose span a reply start falls (R185). -/
def State.foreign (s : State) (q start : Nat) : Option Nat :=
  if s.nat (0x2230 + q) 6 = 0 then none
  else (s.sharers q).find? (fun r => decide (0 < (s.seq r).cmdEnd) && s.inSpan r start)

/-- The noise power of each port at a detection: that of the listening samples, of which at least 16 are needed, else that of the last
blank's tracking samples over the samples of a bit. -/
def State.noiseAt (s : State) (q : Nat) (noise : List Nat) (heard : Nat) : List Nat :=
  (portsOf q).map (fun p => if 16 ≤ heard then tget noise (p % 4) 0 else (s.port p).trackNoise * ((s.seqLink q).bitsTicks 1 / 12))

/-- The normalised metric of a BLF hypothesis: the squared correlations of the ports that take part, and their noise (R162). -/
def State.metric (s : State) (q : Nat) (noise : List Nat) (h : Hypothesis) : Nat × Nat :=
  let used := (List.range 4).filter (fun p => !(s.port (4 * q + p)).excluded)
  (sumOf (used.map (fun p => cabs2 (cget h.corr p))), sumOf (used.map (fun p => tget noise p 0)))

/-- The hypothesis of the greatest metric among those within 25 % of the nominal BLF, where it reaches the detection threshold (R162). -/
def State.bestHypothesis (s : State) (q : Nat) (noise : List Nat) (hyps : List Hypothesis) : Option Hypothesis :=
  let best := (hyps.filter (fun h => decide (h.dev.natAbs ≤ 2500))).foldl (fun m h => match m with
    | none => some h
    | some b => if (s.metric q noise b).1 < (s.metric q noise h).1 then some h else some b) none
  best.filter (fun h => reaches (s.metric q noise h).1 (s.metric q noise h).2 (s.nat (0x2230 + q) 1))

/-- A preamble ends. Below the threshold nothing is detected (R162), nor with every port excluded (R141),
nor behind the close of the window (R165; declared within 111 ns of the preamble's end, Table 2 of chapter 5), nor under a co-channel
command (R184), nor an HSB reply outside its search (R283). What is detected fixes BLF, signature and noise (R163). -/
def State.detected (s : State) (q : Nat) (d : Detection) : State :=
  let x := s.seq q
  let at' := x.cmdEnd + d.start
  let n := s.noiseAt q d.noise d.heard
  if x.state ≠ 3 ∨ s.allExcluded q ∨ x.cmdEnd + s.windowCloses q + ns 111 < s.now ∨ s.preambleOverlapped q at' ∨
      (18 ≤ x.cmd.cmd ∧ s.inSpan q at' = false) then s
  else match s.bestHypothesis q n d.hyps with
  | none => s
  | some h =>
    let other := s.foreign q at'
    match other, s.inSpan q at' with
    | some r, false =>
      let s1 := s.count (0x2230 + q) 13
      s1.raise 0x220B ([q, r] ++ dU 4 (s1.nat (0x2230 + q) 13)) s1.allJoined (perMinute q)
    | _, own =>
      let s1 := if x.withdrawn then s else s.agcPins q
      let s2 := (s1.count (0x2230 + q) 8).freezeGains q
      (s2.modSeq q (fun y => { y with
        state := 4, detectStart := d.start, overlap := false, ambiguous := other.isSome && own
        reception := { noReception with dev := if 18 ≤ x.cmd.cmd ∧ x.cmd.cmd ≤ 19 then 0 else h.dev, signature := h.corr, noise := n } })).beginHolds q

/-- `PREAMBLE_DETECTED`: what the front end declares. -/
def execPreambleDetected (t quad : Nat) (found : Detection) (s : State) : Out :=
  .next ((s.at t).underOld quad (·.detected quad found))

/-- The primary stream of a reply so far: once separation has settled the first in the ranking of R175, with its post-separation SNR,
and the composite one before that (R164). -/
def State.primarySoFar (s : State) (q : Nat) (air : Air) : Option Stream :=
  let l := (s.replyStreams q (s.replyPorts q air) 17).map (·.1)
  l.foldl (fun m x => match m with
    | none => some x
    | some b => if b.snr < x.snr ∨ (b.snr = x.snr ∧ x.start < b.start) then some x else some b) none

/-- A detection is withdrawn within 16 bits, by the samples of its reply so far: violations at the withdrawal count, or, after 8 bits, an
SNR more than 3 dB below the threshold. The gains acquire again from where they stood, and the search resumes (R164, R148). -/
def State.withdraw (s : State) (q : Nat) (air : Air) : State :=
  match s.primarySoFar q air with
  | none => s
  | some y =>
    let weak := decide (8 ≤ y.bits.length) && decide (y.snr < 25 * (s.nat (0x2230 + q) 1 : Int) - 300)
    if (s.seq q).state = 4 ∧ y.bits.length ≤ 16 ∧ (s.nat (0x2230 + q) 2 ≤ y.violations ∨ weak) then
      let s0 := (s.count (0x2230 + q) 9).endHolds q 2
      let s1 := s0.addTo 0x3101 14 (s0.seq q).holdsBegun
      (s1.each (portsOf q) (fun st p => st.set (0x2130 + p) 2 4)).modSeq q (fun y => { y with state := 3, withdrawn := true, reception := noReception })
    else s

/-- `DETECTION_WITHDRAWN`: the samples of the reply so far, I and Q apart. -/
def execDetectionWithdrawn (t quad : Nat) (inPhase quadrature : List (List Int)) (fwd : List Cx) (s : State) : Out :=
  .next ((s.at t).underOld quad (·.withdraw quad { ports := fromRails inPhase quadrature, fwd := fwd }))

/-- Separation settles, by the 6th data bit: the streams counted from the residual over the bits decided, and the signatures of two or
three of them, with which each decodes on its own from then on (R172). Separation may be off, HSB replies are never separated, and
four streams or more stay composite (R173, R177). -/
def State.settleStreams (s : State) (q : Nat) (air : Air) (est : List StreamEst) : State :=
  let x := s.seq q
  if x.state = 4 ∧ x.cmd.cmd ≠ 18 ∧ x.cmd.cmd ≠ 19 ∧ s.nat (0x2230 + q) 3 = 1 then
    let d := s.decodeStream q (s.replyPorts q air) [x.reception.signature] 0 6
    let k := 1 + s.residualCount q d.outputs (s.nat (0x2230 + q) 4)
    s.modSeq q (fun y => { y with reception := { y.reception with k := k, est := if k = 2 ∨ k = 3 then est.take k else [] } })
  else s

/-- `SEPARATION_SETTLED`. -/
def execSeparationSettled (t quad : Nat) (settled : Settled) (s : State) : Out :=
  .next ((s.at t).underOld quad (·.settleStreams quad settled.air settled.est))

/-- A detection is over: the ports track, and the holds it began end (R131, R148, R246). -/
def State.receiveOver (s : State) (q : Nat) : State := (s.track q).endHolds q 1

end Sys2Proof.Machine
end

