-- ==== Sys2Proof/Machine/Singulation.lean ====
section
/-! DEFINITION. What a decision means: the classification of an exchange (R171–R177), the reply descriptor (R179),
adaptive power (R100), the Q algorithm (R220–R222), and singulation: RN16, ACK, EPC (R209, R210, R238, R245, R286). -/

namespace Sys2Proof.Machine

/-! ### Classification -/

/-- Whether stream `a` ranks before `b`: SNR, then start, then eigenvector (R175). -/
def streamBefore (a b : Stream) : Bool :=
  if a.snr ≠ b.snr then decide (b.snr < a.snr)
  else if a.start ≠ b.start then decide (a.start < b.start)
  else decide (a.eigen < b.eigen)

/-- A stream put in its place in a ranking, behind those that tie with it. -/
def insertStream (x : Stream) : List Stream → List Stream
  | [] => [x]
  | y :: r => if streamBefore x y then x :: y :: r else y :: insertStream x r

/-- The ranking of R175. -/
def rankStreams (l : List Stream) : List Stream := l.foldl (fun acc x => insertStream x acc) []

/-- The classification of an exchange: outcome 0 empty, 1 single, 2 resolved collision, 3 unresolved. -/
structure Verdict where
  outcome : Nat
  k : Nat
  collision : Bool
  primary : Option Stream
  resolved : List Stream
  deriving DecidableEq, Repr

/-- An exchange with no reply. -/
def noReply : Verdict := { outcome := 0, k := 0, collision := false, primary := none, resolved := [] }

/-- Whether a stream is resolved: its SNR reaches the threshold, it has no violation, and it passes its CRC-16 where
it carries one (R174). -/
def resolves (threshold : Int) (crc : Bool) (x : Stream) : Bool :=
  decide (threshold ≤ x.snr) && decide (x.violations = 0) && (!crc || crc16Ok x.bits)

/-- Classify an exchange (R171–R177). With separation off, or four streams or more, the one composite stream stands;
a collision then counts two streams where none were counted. -/
def State.classify (s : State) (q : Nat) (crc : Bool) (r : Reply) : Verdict :=
  match r.streams with
  | [] => noReply
  | first :: _ =>
    let sep := decide (s.nat (0x2230 + q) 3 = 1)
    let threshold : Int := 25 * (s.nat (0x2230 + q) 5 : Nat)
    if !sep then
      let c := r.collision || decide (2 ≤ r.k)
      { outcome := if c then 3 else 1, k := if c then 2 else 1, collision := c, primary := some first, resolved := [] }
    else if r.k ≤ 1 then { outcome := 1, k := 1, collision := r.collision, primary := some first, resolved := [] }
    else if 4 ≤ r.k then { outcome := 3, k := r.k, collision := true, primary := some first, resolved := [] }
    else
      let ranked := rankStreams r.streams
      let ok := ranked.filter (resolves threshold crc)
      { outcome := if ok.isEmpty then 3 else 2, k := r.k, collision := true,
        primary := match ok.head? with
          | some x => some x
          | none => ranked.head?
        resolved := ok }

/-- The counters of a decision, with event 0x220C for four streams or more (Table 6 of chapter 5, R193). -/
def State.countVerdict (s : State) (q : Nat) (v : Verdict) : State :=
  let s1 := if v.collision then s.count (0x2230 + q) 10 else s
  let s2 := if v.outcome = 2 then s1.addTo (0x2230 + q) 11 v.resolved.length else s1
  let s3 := if v.outcome = 3 then s2.count (0x2230 + q) 12 else s2
  let s4 := match v.primary with
    | some x => s3.set (0x2230 + q) 14 x.snr
    | none => s3
  if 4 ≤ v.k then s4.raise 0x220C ([q, satTo 7 v.k] ++ dU 4 (s4.nat (0x2230 + q) 12)) s4.allJoined (perMinute q) else s4

/-! ### The descriptor -/

/-- A signed SNR in 0.01 dB as U8 steps of 0.25 dB, rounded down, between 0 and 255. -/
def snr8 (v : Int) : Nat := satTo 255 (v.fdiv 25).toNat

/-- What a descriptor holds beside the verdict: reply kind, whether its check passed, payload bits, HSB measurements. -/
structure Described where
  kind : Nat
  ok : Bool
  payload : List Bool
  hsb : List Byte
  deriving DecidableEq, Repr

/-- Bytes 18–23 of a descriptor for kinds 0–2 (Table 4 of chapter 5). -/
def secondary (kind : Nat) (v : Verdict) : List Byte :=
  let bits := fun (x : Option Stream) => match x with
    | some y => [byte (ofBits (y.bits.take 8)), byte (ofBits ((y.bits.drop 8).take 8))]
    | none => [0#8, 0#8]
  let snr := fun (x : Option Stream) => match x with
    | some y => byte (snr8 y.snr)
    | none => 0#8
  if kind = 2 then zeros 6
  else bits v.resolved[1]? ++ bits v.resolved[2]? ++ [snr v.resolved[1]?, snr v.resolved[2]?]

/-- Ports with a non-zero weight, as a mask: those the reply has an RSSI for (Table 4 of chapter 5). -/
def combinedPorts (r : Reply) : Nat :=
  ((List.range 4).filter (fun p => decide (tget r.rssi p 0 ≠ 0))).foldl (fun m p => m ||| 2 ^ p) 0

/-- Whether a port that took part clipped in the exchange (R130). -/
def State.clippedReply (s : State) (q : Nat) : Bool :=
  (portsOf q).any (fun p => (s.port p).clippedAt.isSome && !(s.port p).excluded)

/-- The reply descriptor, 32 bytes (R179, Table 4 of chapter 5). Its payload is inline up to 32 bits; a longer one
stands in the reply buffer, whose first line is the handle (log entry 103). -/
def State.descriptor (s : State) (q : Nat) (v : Verdict) (r : Reply) (d : Described) : List Byte :=
  let x := s.seq q
  let inline := decide (d.payload.length ≤ 32)
  let flags := b01 d.ok + 2 * b01 v.collision + 4 * b01 (s.nat (0x2230 + q) 3 == 1 && decide (2 ≤ v.k) && decide (v.k ≤ 3)) + 8 * b01 (s.clippedReply q) +
    16 * b01 x.overlap + 32 * b01 x.ambiguous + 64 * b01 x.withdrawn + 128 * b01 inline
  let start := match v.primary with
    | some y => if y.start ≤ 65495 then y.start else 0xFFFF
    | none => 0xFFFF
  let snr := match v.primary with
    | some y => y.snr
    | none => 0
  let body : Nat := if inline then ofBits d.payload * 2 ^ (32 - d.payload.length) else (s.quad q).bufferLines.head?.getD 0
  [byte d.kind, byte flags, byte (satTo 7 v.k + 8 * satTo 3 v.resolved.length), byte (combinedPorts r)] ++ le 2 start ++
  leInt 2 (if 3 ≤ d.kind then 0 else r.dev) ++ fit 4 (r.rssi.map byte) ++ fit 4 (r.phase.map byte) ++ leInt 2 snr ++
  (if 3 ≤ d.kind then fit 6 d.hsb else secondary d.kind v) ++ le 2 d.payload.length ++
  (if d.payload.isEmpty then zeros 4 else le 4 body) ++ le 2 x.exchange

/-- Bits as bytes, eight by eight. -/
def bytesOfBits (n : Nat) (b : List Bool) : List Byte :=
  match n with
  | 0 => []
  | n + 1 => byte (ofBits (b.take 8)) :: bytesOfBits n (b.drop 8)

/-- Bytes go to a quad's reply buffer, in lines of shared SRAM under the storage key of the window's shade; those that held the last
reply are freed (R179, R389). -/
def State.putBuffer (s : State) (q : Nat) (l : List Byte) : State :=
  let s1 := s.releaseLines (s.quad q).bufferLines
  let a := s1.allocLines (ceilDiv l.length 64) (s.seq q).shade
  a.1.modQuad q (fun x => { x with buffer := l, bufferLines := a.2 })

/-- The exchange is over: its descriptor fills the reserved FIFO entry, with the 16 bytes of a result where it has one
for a shade (R179, R474, Table 1 of chapter 14), and it is traced (Table 13 of chapter 19). Reply bits over 32 go to the reply buffer. -/
def State.writeDescriptor (s : State) (q : Nat) (v : Verdict) (r : Reply) (d : Described) (result : Bool) : State :=
  let s0 := if 32 < d.payload.length then s.putBuffer q (bytesOfBits (ceilDiv d.payload.length 8) (d.payload ++ List.replicate 7 false)) else s
  let x := s0.seq q
  let bytes := s0.descriptor q v r d
  let tail := if result then
      fit 16 ([byte x.port, byte (x.plan.getD 0), byte x.shade, byte x.cmd.step] ++ le 2 x.credits)
    else []
  let s1 := if x.reserved then
      (s0.modPort x.port (fun p => { p with reserved := p.reserved - 1, fifo := p.fifo ++ [(bytes, tail)] })).modSeq q (fun y => { y with reserved := false })
    else s0
  s1.lanternQuad q 4 ([q, d.kind, byteAt bytes 1, byteAt bytes 2] ++ (slice bytes 4 2).map (·.toNat) ++
    [match v.primary with
      | some y => snr8 y.snr
      | none => 0, combinedPorts r])

/-- Bytes of an exchange number. -/
def State.exchangeNo (s : State) (q : Nat) : List Nat := dU 2 (s.seq q).exchange

/-! ### Adaptive power (R100) -/

/-- The receive sensitivity at the land by encoding, 0.01 dBm: the limits of Table 9 of chapter 4. -/
def sensitivity (m : Nat) : Int := if m = 1 then -7600 else if m = 8 then -8600 else -8400

/-- The best RSSI of a reply, 0.01 dBm. -/
def bestRssi (r : Reply) : Int := -12800 + 50 * ((r.rssi.foldl peak 0 : Nat) : Int)

/-- Move the requested power of a plan on a port by 0.25 dB. At the step's own range it holds and the count restarts;
where the target of R96 clamps it, the request clamps at that bound, and it is a pinned step (R39, R100). -/
def State.adapt (s : State) (q : Nat) (up : Bool) : State :=
  let x := s.seq q
  match x.plan, (s.tx q).index with
  | some p, some i =>
    let lo := s.int (0x3000 + p) 12
    let hi := s.int (0x3000 + p) 11
    if lo = hi ∨ s.flag (0x2200 + q) 15 = false then s
    else
      let now := s.request p x.port
      let want : Int := if up then now + 25 else now - 25
      if hi < want ∨ want < lo then s.modTx q (fun t => { t with pinned := 0 })
      else match s.bandOf (s.channelAt i) with
      | none => s
      | some b =>
        let target := s.inForce.targetPower x.shade x.port b want
        let binding := s.inForce.bindingLimit x.shade x.port b want
        let n := if target < want then (s.tx q).pinned + 1 else 0
        let kept := if want ≤ target then want else if target < lo then lo else target
        let s1 := (((s.modRound p x.port (fun r => { r with request := some kept })).modTx q (fun t => { t with pinned := n })).set
          (0x2200 + q) 4 target).set (0x2200 + q) 8 binding
        if target < want then
          let s2 := (s1.count (0x2200 + q) 11).lanternLoop 1 q target target n
          if n = 64 then s2.raise 0x2201 ([q, binding] ++ dI 2 target ++ dI 2 want) s2.allJoined
          else s2
        else s1
  | _, _ => s

/-- Adaptive power after an exchange: up without a reply, down after one more than 10 dB above the sensitivity. -/
def State.adaptAfter (s : State) (q : Nat) (v : Verdict) (r : Reply) : State :=
  if v.outcome = 0 then s.adapt q true
  else if sensitivity (s.seqLink q).m + 1000 < bestRssi r then s.adapt q false
  else s

/-! ### Q (R220–R222) -/

/-- The wanted Qfp of an RN16 exchange, in hundredths (R220). -/
def wantQ (qfp : Int) (c : Nat) (v : Verdict) : Int :=
  let clean := match v.primary with
    | some x => decide (x.violations = 0)
    | none => true
  if v.outcome = 0 then qfp - c
  else if v.outcome = 1 ∧ clean = true then qfp
  else
    let k := if v.outcome = 3 ∧ v.k ≤ 1 then 2 else v.k
    qfp + (c * satTo 3 (k - 1) : Nat)

/-- Qfp and the command that follows the slot: a round at its 2^Q slots starts again with a Query at the current Q or, when every slot was
empty, completes the inventory; before that a changed Q starts a new round (R220–R222). -/
def State.updateQ (s : State) (q : Nat) (v : Verdict) : State :=
  let x := s.seq q
  match x.plan with
  | none => s
  | some p =>
    let prof := s.planObj p 5
    let lo : Int := 100 * s.linkObj prof 18
    let hi : Int := 100 * s.linkObj prof 19
    let old : Nat := (s.round p x.port).qfp.getD (100 * x.q)
    let want := wantQ old (s.linkObj prof 20) v
    let new : Nat := (if hi < want then hi else if want < lo then lo else want).toNat
    let pinned := decide ((new : Int) ≠ want)
    let n := if pinned then x.qPinned + 1 else 0
    let fresh := roundQ new
    let replied := x.replied || decide (v.outcome ≠ 0)
    let next :=
      if 2 ^ x.q ≤ x.slots then (if replied then 4 else 5)
      else if fresh = x.q then 1
      else if fresh = x.q + 1 then 2
      else if fresh + 1 = x.q then 3
      else 4
    let s1 := (s.modRound p x.port (fun r => { r with qfp := some new })).modSeq q (fun y => { y with
      replied := replied, qPinned := n, next := next, q := if next = 4 then fresh else y.q })
    let s2 := if pinned then s1.lanternLoop 5 q new (if hi < want then hi else lo) n else s1
    if n = 64 then
      s2.raise 0x3105 [q, if hi < want then 1 else 2, fresh, x.shade, prof] s2.allJoined
    else s2

/-! ### After a reply -/

/-- When the next command may begin after a reply that is answered: T2 after its dummy 1, not before the last decision
and T4 after the command (R178, R205, R206). -/
def State.afterReply (s : State) (q : Nat) (v : Verdict) (r : Reply) : State :=
  let x := s.seq q
  let l := s.seqLink q
  let ends := match v.primary with
    | some y => x.cmdEnd + y.start + l.replyTicks y.bits.length r.dev + s.t2 l
    | none => s.now
  s.modSeq q (fun y => { y with earliest := peak (peak ends s.now) (x.cmdEnd + 2 * l.rtcal) })

/-- After an exchange with no reply: not before the window's close and T4 (R206). -/
def State.afterNone (s : State) (q : Nat) : State :=
  s.modSeq q (fun y => { y with earliest := peak s.now (y.cmdEnd + 2 * (s.seqLink q).rtcal) })

/-- Whether a detected reply started outside the T1 span of a command that draws an immediate reply (R202). -/
def State.outsideT1 (s : State) (q : Nat) (v : Verdict) : Bool :=
  let c := (s.seq q).cmd.cmd
  match v.primary with
  | some _ => !isDelayed c && decide (c < 17) && !s.inSpan q ((s.seq q).cmdEnd + (s.seq q).detectStart)
  | none => false

/-- The discard of such a reply: counted, with event 0x3102 (R202). -/
def State.discardT1 (s : State) (q : Nat) : State :=
  let x := s.seq q
  (s.count 0x3310 7).raise 0x3102 ([q, x.cmd.cmd] ++ dU 2 (satTo 65535 x.detectStart) ++ dU 2 (satTo 65535 (s.seqLink q).t1Max))
    s.allJoined (perMinute q)

/-! ### RN16 exchanges (R209, R286) -/

/-- A tag that a slot found, by the RN16 of a stream. -/
def tagOf (x : Stream) : Tag := { noTag with rn16 := ofBits (x.bits.take 16) }

/-- The bound on a GroupACK that lists n tags: the command, its reply slots, the sequences of the listed tags and a
closing NAK (R286, R288). -/
def State.worstGroup (s : State) (q p : Nat) (g : Group) (n : Nat) : Nat :=
  let l := s.seqLink q
  let x := s.seq q
  let cmd := s.hsbTime l (bitsMsb 16 0xE0A2 ++ bitsMsb 8 0xB4 ++ bitsMsb 2 n ++ bitsMsb 12 (s.groupSlot q) ++ unknown (16 * n + 16))
  let slots := samples ((24 + n * s.groupSlot q) * s.nat 0x3200 2 + s.nat 0x3201 (x.port + 1) + s.nat 0x3200 4)
  cmd + slots + n * (s.worstReqRn l + sumOf (g.access.map (fun i => s.worstStep l p x.port i))) + s.worstExchange l (l.time nakBits) 0 0

/-- How many resolved streams a GroupACK lists: as many as fit and as the quad may have provisional entries (R238), 1 where an ordinary ACK serves the primary. -/
def State.listable (s : State) (q : Nat) (v : Verdict) : Nat :=
  match (s.seq q).plan, s.seqGroup q with
  | some p, some g =>
    let n := satTo (8 - s.provisionalOf q) (satTo 3 v.resolved.length)
    if v.outcome = 2 ∧ 2 ≤ n ∧ s.groupIsHsb p g ∧ s.flag 0x3200 1 ∧ (s.plan p).noGroupAck = false then
      let fit := fun m => s.workFits q ((s.seq q).earliest + s.worstGroup q p g m)
      if n = 3 ∧ fit 3 then 3 else if fit 2 then 2 else 1
    else 1
  | _, _ => 1

/-- Whether an RN16 reply is accepted: resolved, or single with no violation (R197, R209). -/
def Verdict.rnAccepted (v : Verdict) : Bool :=
  decide (v.outcome = 2) || (decide (v.outcome = 1) && (match v.primary with
    | some x => decide (x.violations = 0) && decide (x.bits.length = 16)
    | none => false))

/-- The RN16 exchange ends: Q, then an ACK or GroupACK, or the next slot. No ACK goes out while 8 of the quad's entries
are provisional (R209, R220, R238, R286). -/
def State.rnDone (s : State) (q : Nat) (v : Verdict) : State :=
  let s1 := s.updateQ q v
  let full := decide (8 ≤ s1.provisionalOf q)
  if v.rnAccepted && !full then
    let n := s1.listable q v
    let tags := match v.outcome with
      | 2 => v.resolved.map tagOf
      | _ => (v.primary.toList).map tagOf
    let s2 := if v.outcome = 2 then s1.addTo 0x3310 6 (v.resolved.length - n) else s1
    s2.modSeq q (fun y => { y with
      state := 1, tag := tags.head?.getD noTag, failed := false,
      waiting := if 2 ≤ n then tags.tail.take (n - 1) else [], listed := if 2 ≤ n then n else 0,
      due := [{ cmd := if 2 ≤ n then 20 else 5, arg := 0, step := y.cmd.step }] })
  else
    let s2 := if v.outcome = 2 then s1.addTo 0x3310 6 v.resolved.length else s1
    s2.endSlot q

/-! ### EPC replies (R210, R238, R245) -/

/-- The EPC of a reply to an ACK: PC, EPC and CRC-16. -/
structure EpcReply where
  pc : Nat
  epc : List Byte
  crc : Nat
  ok : Bool
  deriving DecidableEq, Repr

/-- Read the reply to an ACK: the PC gives the EPC's length in words, and the CRC-16 covers both. -/
def epcReply (b : List Bool) : EpcReply :=
  let pc := ofBits (b.take 16)
  let words := pc / 2048
  { pc := pc
    epc := bytesOfBits (2 * words) ((b.drop 16).take (16 * words))
    crc := ofBits ((b.drop (16 + 16 * words)).take 16)
    ok := decide (b.length = 32 + 16 * words) && crc16Ok b }

/-- An EPC reply enters the tag table; in a plan that is not a meter plan its CRC confirms or cancels it at once
(R238, R239). Answers its entry where the reply stands. -/
def State.enterTag (s : State) (q : Nat) (e : EpcReply) (r : Reply) (relay : Bool) (holds : Nat) : Option Nat × State :=
  let x := s.seq q
  match x.plan with
  | none => (none, s)
  | some p =>
    let d : Sighting := {
      quad := q, plan := p, shade := x.shade, pc := e.pc, epc := e.epc, crc := e.crc, rssi := r.rssi, phase := r.phase,
      exchange := x.exchange, relay := relay, ambiguous := x.ambiguous, clipped := s.clippedReply q, credited := decide (0 < x.credits) && !s.isMeterPlan p }
    match s.createTag d with
    | (none, s1) => (none, s1)
    | (some n, s1) =>
      let s2 := s1.modTag n (fun t => { t with holds := holds })
      if !e.ok then (none, s2.cancelTag n 1)
      else if s.isMeterPlan p then (some n, s2)
      else
        let home := s2.homeOf n
        let before := (s2.shade x.creditShade).credits
        let s3 := s2.confirmTag n
        let used := before - (s3.shade x.creditShade).credits
        (some home, s3.modSeq q (fun y => { y with credits := y.credits - used }))

/-- The reply to an ACK: a valid EPC begins the tag's sequence; a missing or failed one, or a full table, ends in a NAK
(R209, R210, R242). -/
def State.ackDone (s : State) (q : Nat) (v : Verdict) (r : Reply) (holds : Nat) : State :=
  match v.primary with
  | none => (s.modSeq q (fun y => { y with failed := true })).finishTag q
  | some x =>
    let e := epcReply x.bits
    let a := s.enterTag q e r false holds
    match a.1 with
    | none => (a.2.modSeq q (fun y => { y with failed := true })).finishTag q
    | some n => a.2.serve q [{ (s.seq q).tag with entry := some n, pc := e.pc, epc := e.epc }]

end Sys2Proof.Machine
end

