-- ==== Sys2Proof/Machine/Access.lean ====
section
/-! DEFINITION. Access replies: accepted, retried, lost or unknown, tag errors, irreversible commands, authentication
(chapter 6, R203, R204, R210–R216, R223). -/

namespace Sys2Proof.Machine

/-- What the reply to an access command says. -/
inductive Answer where
  /-- No reply, a failed CRC-16, or a handle that is not the tag's. -/
  | missing
  /-- An Authenticate reply of the wrong length, in bits. -/
  | malformed (bits : Nat)
  /-- A tag error reply. -/
  | error (code : Nat)
  /-- Done, with the reply's data. -/
  | done (data : List Bool)
  deriving DecidableEq, Repr

/-- Bits as bytes, most significant first, the last one filled with zeros. -/
def packBits (b : List Bool) : List Byte := bytesOfBits (ceilDiv b.length 8) (b ++ List.replicate 7 false)

/-- Read an access reply: the handle and the CRC-16 close it, a header bit of 1 opens an error reply of 41 bits
(R211, R212, R216, "Tag error replies"). The 33 bits of a Req_RN's reply are a header, the RN16 or handle it gives, and the CRC-16: no
handle to compare stands in it, and an error reply to the first one has none to compare with (R208; log entry 109). -/
def State.answer (s : State) (q : Nat) (v : Verdict) : Answer :=
  let x := s.seq q
  let c := x.cmd.cmd
  match v.primary with
  | none => .missing
  | some y =>
    let b := y.bits
    let n := b.length
    let mine := crc16Ok b && decide (32 ≤ n) && decide (ofBits ((b.drop (n - 32)).take 16) = x.tag.handle)
    let error := decide (n = 41) && decide (b.head? = some true) && (mine || (decide (c = 7) && decide (x.cmd.arg = 0) && crc16Ok b))
    if error then .error (ofBits ((b.drop 1).take 8))
    else if c = 7 then (if n = 33 ∧ b.head? = some false ∧ crc16Ok b = true then .done ((b.drop 1).take 16) else .missing)
    else if c = 17 then
      let step := s.dueStep q x.cmd
      if n ≠ tamReplyBits (byteAt step 2) (byteAt step 7) then .malformed n
      else if mine then .done ((b.drop 17).take (n - 49)) else .missing
    else if !mine then .missing
    else if c = 8 then
      (if n = 33 + 16 * byteAt (s.dueStep q x.cmd) 3 ∧ b.head? = some false then .done ((b.drop 1).take (n - 33)) else .missing)
    else .done ((b.drop 1).take (n - 33))

/-- A step of the tag fails: it reports where it is asked to, the rest of the sequence is dropped, and a NAK follows
(R210). -/
def State.failStep (s : State) (q status : Nat) (data : List Byte) : State :=
  (s.reportIfAsked q (s.seq q).cmd.step status data).failTag q

/-- The handle counts as lost: event 0x3104 (R211). -/
def State.handleLost (s : State) (q : Nat) : State :=
  let x := s.seq q
  (s.raise 0x3104 ([x.port, x.cmd.cmd, x.retries + 1, 0] ++ s.exchangeNo q) (s.reachPort x.port) (perMinute q)).failStep q 2 []

/-- Whether a command may be sent again: none that draws a delayed reply, nor Authenticate (R211). -/
def resendable (cmd : Nat) : Bool := decide (cmd = 7) || decide (cmd = 8) || decide (cmd = 12)

/-- Whether the repeats of the profile leave one for the last command. -/
def State.mayRetry (s : State) (q : Nat) : Bool :=
  resendable (s.seq q).cmd.cmd && decide ((s.seq q).retries < s.linkObj (s.seqLink q).number 16)

/-- Send the last command again; an Access half goes behind a fresh Req_RN (R211, R212). -/
def State.resend (s : State) (q : Nat) : State :=
  s.modSeq q (fun y => { y with
    state := 1, retries := y.retries + 1,
    due := (if y.cmd.cmd = 12 then [{ cmd := 7, arg := 2, step := y.cmd.step }, y.cmd] else [y.cmd]) ++ y.due })

/-- No answer to a delayed command or an Authenticate: outcome unknown (R203, R204). -/
def State.outcomeUnknown (s : State) (q : Nat) : State :=
  let x := s.seq q
  let wait := s.linkObj (s.seqLink q).number (if x.cmd.cmd = 17 then 15 else 14)
  ((s.count 0x3310 9).raise 0x3103 ([x.port, x.cmd.cmd, wait, 0] ++ s.exchangeNo q) (s.reachPort x.port) (perMinute q)).failStep q 3 []

/-- A tag error reply, under Table 6 of chapter 6 (R223). -/
def State.tagError (s : State) (q code : Nat) : State :=
  let x := s.seq q
  let wants := decide (code = 0x0B) || decide (code = 0x0F)
  let again := wants && s.mayRetry q
  let s1 := (s.count 0x3310 5).raise 0x3101 ([x.port, x.cmd.cmd, code, b01 again] ++ s.exchangeNo q) (s.reachPort x.port) (perMinute q)
  if again then (if code = 0x0B then s1.adapt q true else s1).resend q
  else if code = 0x08 ∨ (wants ∧ resendable x.cmd.cmd) then s1.handleLost q
  else s1.failStep q 1 [byte code]

/-- Whether an acknowledged command is irreversible (R214): Kill with its second half, Lock, BlockPermalock and
Untraceable. -/
def irreversible (c : Due) : Bool :=
  (decide (c.cmd = 10) && decide (c.arg = 1)) || decide (c.cmd = 11) || decide (c.cmd = 15) || decide (c.cmd = 16)

/-- The data that a step's report holds: what a command read; nothing of a meter's counters (R251). -/
def State.stepData (s : State) (q : Nat) (data : List Bool) : List Byte :=
  let x := s.seq q
  if x.cmd.cmd = 17 ∧ s.isMeterPlan (x.plan.getD 0) = true then [] else if x.cmd.cmd = 7 then [] else packBits data

/-- An access command is done: a handle or cover RN16 is taken, an irreversible effect is reported, a TAM reply waits
in its entry for the Dome (R212, R214, R216). -/
def State.accessOk (s : State) (q : Nat) (data : List Bool) : State :=
  let x := s.seq q
  let s1 :=
    if x.cmd.cmd = 7 then
      s.modSeq q (fun y => { y with tag := if y.cmd.arg = 0 then { y.tag with handle := ofBits data } else { y.tag with cover := ofBits data } })
    else if irreversible x.cmd then
      s.raise 0x3106 ([x.port, x.cmd.cmd, x.shade, 0] ++ s.exchangeNo q) (s.reachPort x.port)
    else if x.cmd.cmd = 17 then
      match x.tag.entry with
      | some n => s.modTag n (fun t => { t with reply := packBits data, challenge := x.challenge })
      | none => s
    else s
  s1.stepDone q (s.stepData q data)

/-- The exchange of an access command ends. -/
def State.accessDone (s : State) (q : Nat) (v : Verdict) : State :=
  let x := s.seq q
  match s.answer q v with
  | .done data => s.accessOk q data
  | .error code => s.tagError q code
  | .malformed n =>
    (s.raise 0x3107 ([x.port, byteAt (s.dueStep q x.cmd) 2] ++ dU 2 (satTo 65535 n) ++ s.exchangeNo q) (s.reachPort x.port) (perMinute q)).failStep q 3 []
  | .missing =>
    if s.mayRetry q then s.resend q
    else if v.primary.isNone ∧ resendable x.cmd.cmd = false then s.outcomeUnknown q
    else s.handleLost q

end Sys2Proof.Machine
end

