-- ==== Sys2Proof/Machine/Coding.lean ====
section
/-! DEFINITION. The codes of HSB: constellations, reference and probe symbols, interleaver, the convolutional code with its Viterbi decoder,
the QC-LDPC code with its min-sum decoder (chapter 8, R265–R281; chapter 5, R186–R190). A soft value is positive where its bit is more
likely 0. -/

namespace Sys2Proof.Machine

/-! ### Constellations and known symbols -/

/-- The index i of the 8PSK point e^(jπi/4) of a label (Table 5 of chapter 8). -/
def pskIndex (label : Nat) : Nat := tget [0, 1, 3, 2, 7, 6, 4, 5] label 0

/-- The 16-QAM amplitude of two label bits, in units of 2^-14 ÷ √10. -/
def qamLevel (label : Nat) : Int := 5181 * tget [-3, -1, 3, 1] label 0

/-- The point of a constellation code for a label, b0 its most significant bit, in units of 2^-14 (Table 5 of chapter 8). -/
def point (code label : Nat) : Cx :=
  match code with
  | 0 => czero
  | 1 => { re := if label = 0 then 16384 else -16384, im := 0 }
  | 2 => { re := if label / 2 = 0 then 11585 else -11585, im := if label % 2 = 0 then 11585 else -11585 }
  | 3 => turn (128 * pskIndex label)
  | _ => { re := qamLevel (label / 4), im := qamLevel (label % 4) }

/-- The value of subcarrier k of a reference symbol: bit 17 − k of 0xD3A4, as BPSK (Table 6 of chapter 8). -/
def referenceValue (k : Nat) : Int := if bitOf 0xD3A4 (17 - k) then -1 else 1

/-- `n` bits of the sequence s[n] = s[n − 9] XOR s[n − 5] behind nine known bits, oldest first (R269). -/
def probeRun : Nat → List Bool → List Bool
  | 0, _ => []
  | n + 1, l =>
    let b := xor (tget l 0 false) (tget l 4 false)
    b :: probeRun n (l.drop 1 ++ [b])

/-- The probe sequence: behind nine ones, 32 bits for each of the eight probe symbols (R269). -/
def probeSequence : List Bool := probeRun 256 (List.replicate 9 true)

/-- The QPSK label of subcarrier k in probe symbol i: two bits a subcarrier, in the order k = 2–17 (R269). -/
def probeLabel (i k : Nat) : Nat := ofBits ((probeSequence.drop (32 * i + 2 * (k - 2))).take 2)

/-- The soft values of a subcarrier's label bits, b0 first, of 6 bits: the difference of the squared distances to the nearest points with
the bit 1 and 0 over the noise. `z` is the combined value, `g` the combined power and `product` the noise scale (R186; log entry 101). -/
def softBits (code : Nat) (z : Cx) (g product : Nat) : List Int :=
  let distance := fun (label : Nat) => cabs2 (csub (cscale 16384 z) (cscale g (point code label)))
  let least := fun (l : List Nat) => l.foldl (fun m label => if distance label < m then distance label else m) (distance (l.head?.getD 0))
  (List.range code).map (fun level =>
    let part := fun (v : Bool) => (List.range (2 ^ code)).filter (fun label => bitOf label (code - 1 - level) = v)
    let d : Int := (least (part true) : Int) - least (part false)
    let n : Int := 2 ^ 72 * product * g
    let v := if n = 0 then 0 else d.fdiv n
    if v < -32 then -32 else if 31 < v then 31 else v)

/-! ### Interleaver (R281) -/

/-- The order in which the subcarriers are visited. -/
def visit : List Nat := [2, 10, 6, 14, 4, 12, 8, 16, 3, 11, 7, 15, 5, 13, 9, 17]

/-- The subcarrier and label position of each coded bit of a symbol, in order: level by level, the subcarriers that have the level in visit
order. -/
def places (map : List Nat) : List (Nat × Nat) :=
  (List.range 4).flatMap (fun level => (visit.filter (fun k => decide (level < tget map (k - 2) 0))).map (fun k => (k, level)))

/-- The symbols of some coded bits: filled with zeros, cut, and set out on subcarriers as labels, k = 2 first. -/
def interleave (map : List Nat) (coded : List Bool) : Nat → List (List Nat)
  | 0 => []
  | n + 1 =>
    let l := places map
    let value := fun (k level : Nat) => match l.findIdx? (fun x => decide (x = (k, level))) with
      | some j => tget coded j false
      | none => false
    ((List.range 16).map (fun i => ofBits ((List.range (tget map i 0)).map (fun level => value (i + 2) level)))) ::
      interleave map (coded.drop l.length) n

/-- The coded soft values of a symbol from those of its subcarriers, k = 2 first. -/
def deinterleave (map : List Nat) (soft : List (List Int)) : List Int :=
  (places map).map (fun x => tget (tget soft (x.1 - 2) []) x.2 0)

/-! ### The convolutional code (R278, R189) -/

/-- The parity of the bits of a number below 128. -/
def parity7 (v : Nat) : Bool := (List.range 7).foldl (fun b i => xor b (bitOf v i)) false

/-- The outputs A and B of an encoder register of 7 bits, the newest input its most significant: generators 171 and 133 octal. -/
def convOutputs (reg : Nat) : Bool × Bool := (parity7 (reg &&& 0o171), parity7 (reg &&& 0o133))

/-- What of A and B is kept in each input bit of a period (Table 11 of chapter 8). -/
def puncturing (code : Nat) : List (Bool × Bool) :=
  match code with
  | 0 => [(true, true)]
  | 1 => [(true, true), (true, false)]
  | 2 => [(true, true), (true, false), (false, true)]
  | _ => [(true, true), (true, false), (false, true), (true, false), (false, true)]

/-- Encode bits from a register state, punctured from place `i` of the pattern on. -/
def convEncode (pattern : List (Bool × Bool)) : List Bool → Nat → Nat → List Bool
  | [], _, _ => []
  | b :: r, state, i =>
    let reg := 64 * b01 b + state
    let o := convOutputs reg
    let keep := tget pattern (i % pattern.length) (true, true)
    (if keep.1 then [o.1] else []) ++ (if keep.2 then [o.2] else []) ++ convEncode pattern r (reg / 2) (i + 1)

/-- The coded bits of information bits at a code: six zero tail bits follow them (R278). -/
def convCoded (code : Nat) (info : List Bool) : List Bool := convEncode (puncturing code) (info ++ List.replicate 6 false) 0 0

/-- The soft values of A and B of `n` input bits, 0 where one was punctured (R189). -/
def depuncture (pattern : List (Bool × Bool)) : Nat → List Int → Nat → List (Int × Int)
  | 0, _, _ => []
  | n + 1, l, i =>
    let keep := tget pattern (i % pattern.length) (true, true)
    let a := if keep.1 then l.head?.getD 0 else 0
    let r := if keep.1 then l.drop 1 else l
    let b := if keep.2 then r.head?.getD 0 else 0
    (a, b) :: depuncture pattern n (if keep.2 then r.drop 1 else r) (i + 1)

/-- The trellis: for each of the 64 states its metric, none where no path leads there, and its path, newest bit first. -/
abbrev Trellis := List (Option Int × List Bool)

/-- One step of the trellis. State n is reached from states 2n and 2n + 1 (mod 64) by the input that is its most significant bit. -/
def trellisStep (t : Trellis) (v : Int × Int) : Trellis :=
  (List.range 64).map (fun n =>
    let input := decide (32 ≤ n)
    let from' := fun (p : Nat) =>
      let x := tget t p (none, [])
      let o := convOutputs (64 * b01 input + p)
      (x.1.map (fun m => m + (if o.1 then -v.1 else v.1) + (if o.2 then -v.2 else v.2)), x.2)
    let a := from' (2 * n % 64)
    let b := from' ((2 * n + 1) % 64)
    let best := match a.1, b.1 with
      | some x, some y => if x < y then b else a
      | none, some _ => b
      | _, none => a
    (best.1, input :: best.2))

/-- Viterbi decoding of a whole frame from the zero state to the zero state: the bits without the six of the tail (R189). -/
def viterbi (l : List (Int × Int)) : List Bool :=
  let start : Trellis := (List.range 64).map (fun n => (if n = 0 then some 0 else none, []))
  let path := (tget (l.foldl trellisStep start) 0 (none, [])).2
  path.reverse.take (l.length - 6)

/-! ### The QC-LDPC code (R279, R280, R190) -/

/-- The base matrices of Tables 13 and 14 of chapter 8. -/
def baseMatrix (code : Nat) : List (List (Option Nat)) :=
  if code = 4 then [
    [some 13, some 47, none, some 5, none, none, some 30, none, some 7, some 0, none, none, none, none, none, none],
    [some 58, none, some 21, none, some 39, none, none, some 9, none, some 0, some 0, none, none, none, none, none],
    [none, some 3, none, some 44, none, some 26, none, some 61, none, none, some 0, some 0, none, none, none, none],
    [some 35, none, some 50, none, none, some 11, some 18, none, none, none, none, some 0, some 0, none, none, none],
    [none, some 27, none, none, some 8, none, some 55, some 40, some 0, none, none, none, some 0, some 0, none, none],
    [none, none, some 16, some 62, some 33, some 49, none, none, none, none, none, none, none, some 0, some 0, none],
    [some 6, none, none, some 24, none, none, some 43, some 14, none, none, none, none, none, none, some 0, some 0],
    [none, some 52, some 37, none, some 1, some 29, none, none, some 7, none, none, none, none, none, none, some 0]]
  else [
    [some 21, none, some 4, some 57, some 33, some 12, none, some 45, some 60, some 28, none, some 9, some 11, some 0, none, none],
    [some 40, some 17, some 53, none, some 2, some 36, some 25, none, some 14, some 49, some 31, none, none, some 0, some 0, none],
    [none, some 62, some 30, some 7, some 46, none, some 19, some 3, none, some 55, some 41, some 26, some 0, none, some 0, some 0],
    [some 10, some 34, none, some 23, none, some 58, some 48, some 27, some 39, none, some 6, some 51, some 11, none, none, some 0]]

/-- A block of 64 through the matrix of an entry s: row r takes column (r + s) mod 64 (R279). -/
def rotate {α : Type} (s : Nat) (l : List α) : List α := l.drop (s % 64) ++ l.take (s % 64)

/-- The 16 blocks of a codeword. -/
def blocksOf {α : Type} (l : List α) : List (List α) := (List.range 16).map (fun j => (l.drop (64 * j)).take 64)

/-- The sum over GF(2) of two blocks. -/
def bxor (a b : List Bool) : List Bool := List.zipWith xor a b

/-- A block row of H times a codeword. -/
def rowCheck (row : List (Option Nat)) (blocks : List (List Bool)) : List Bool :=
  (List.zip row blocks).foldl (fun acc x => match x.1 with
    | some s => bxor acc (rotate s x.2)
    | none => acc) (List.replicate 64 false)

/-- Whether a codeword satisfies H·c = 0 (R279). -/
def satisfied (code : Nat) (c : List Bool) : Bool :=
  (baseMatrix code).all (fun row => (rowCheck row (blocksOf c)).all (fun b => !b))

/-- The parity blocks behind p[1], one for each further row. -/
def parityRun (mid : Nat) (p0 : List Bool) : List (List Bool) → List Bool → Nat → List (List Bool)
  | [], _, _ => []
  | lambda :: r, p, i =>
    let next := bxor (bxor p lambda) (if i = mid then p0 else List.replicate 64 false)
    next :: parityRun mid p0 r next (i + 1)

/-- The codeword of some information bits by the closed form of chapter 8. -/
def ldpcEncode (code : Nat) (info : List Bool) : List Bool :=
  let k := if code = 4 then 8 else 12
  let x := if code = 4 then 7 else 11
  let mid := if code = 4 then 4 else 2
  let u := (blocksOf info).take k
  let lambda := (baseMatrix code).map (fun row => rowCheck (row.take k) u)
  let p0 := lambda.foldl bxor (List.replicate 64 false)
  let p1 := bxor (tget lambda 0 []) (rotate x p0)
  (info.take (64 * k)) ++ p0 ++ p1 ++ (parityRun mid p0 ((lambda.drop 1).take (lambda.length - 2)) p1 1).flatten

/-- Information bits of a codeword of a code. -/
def infoBits (code : Nat) : Nat := if code = 4 then 512 else 768

/-- The information bits of a long frame as codewords' worth, the last filled with zeros (R280). -/
def frameWords (code : Nat) (info : List Bool) : List (List Bool) :=
  (List.range (ceilDiv info.length (infoBits code))).map (fun i =>
    let l := (info.drop (infoBits code * i)).take (infoBits code)
    l ++ List.replicate (infoBits code - l.length) false)

/-- The coded bits of a frame's information bits at a code (R278, R280). -/
def frameCoded (code : Nat) (info : List Bool) : List Bool :=
  if code ≤ 3 then convCoded code info else (frameWords code info).flatMap (ldpcEncode code)

/-- A value within the 8 bits that a core works with. -/
def sat8 (v : Int) : Int := if v < -128 then -128 else if 127 < v then 127 else v

/-- The messages of one check to its bits: for each the smallest magnitude among the others, less the offset of 1, with the sign that
the others' product has (R190; log entry 101). -/
def checkMessages (q : List Int) : List Int :=
  let negative := (q.filter (fun v => decide (v < 0))).length % 2
  q.zipIdx.map (fun x =>
    let others := (dropAt q x.2).map Int.natAbs
    let least := others.foldl (fun m v => if v < m then v else m) 128
    let sign := (negative + (if x.1 < 0 then 1 else 0)) % 2
    if sign = 1 then -((least - 1 : Nat) : Int) else ((least - 1 : Nat) : Int))

/-- One layer: the values of the codeword's blocks and the messages of the layer's checks, before and after (R190). -/
def ldpcLayer (row : List (Option Nat)) (values : List (List Int)) (messages : List (List Int)) : List (List Int) × List (List Int) :=
  let entries := (row.zipIdx.filter (fun x => x.1.isSome)).map (fun x => (x.2, x.1.getD 0))
  let q := entries.zipIdx.map (fun e => List.zipWith (fun v m => sat8 (v - m)) (rotate e.1.2 (tget values e.1.1 [])) (tget messages e.2 []))
  let rows := (List.range 64).map (fun r => checkMessages (q.map (fun l => tget l r 0)))
  let next := (List.range entries.length).map (fun i => rows.map (fun l => tget l i 0))
  let blocks := entries.zipIdx.foldl (fun vs e =>
    tmod vs e.1.1 (fun _ => rotate (64 - e.1.2) (List.zipWith (fun a b => sat8 (a + b)) (tget q e.2 []) (tget next e.2 [])))) values
  (blocks, next)

/-- One iteration: every layer in its turn. -/
def ldpcIteration (code : Nat) (values : List (List Int)) (messages : List (List (List Int))) : List (List Int) × List (List (List Int)) :=
  ((baseMatrix code).zip messages).foldl (fun acc x =>
    let r := ldpcLayer x.1 acc.1 x.2
    (r.1, acc.2 ++ [r.2])) (values, [])

/-- The hard decisions of a core. -/
def hardBits (values : List (List Int)) : List Bool := values.flatten.map (fun v => decide (v < 0))

/-- Iterations up to a limit, fewer where the syndrome may end them: iterations made, and the hard decisions (R190). -/
def ldpcRun (code : Nat) (early : Bool) : Nat → Nat → List (List Int) → List (List (List Int)) → Nat × List Bool
  | 0, n, values, _ => (n, hardBits values)
  | k + 1, n, values, messages =>
    let r := ldpcIteration code values messages
    if early && satisfied code (hardBits r.1) then (n + 1, hardBits r.1) else ldpcRun code early k (n + 1) r.1 r.2

/-- The decoding of a codeword of 1024 soft values: iterations used, and its hard decisions (R190). -/
def ldpcDecode (code limit : Nat) (early : Bool) (values : List Int) : Nat × List Bool :=
  ldpcRun code early limit 0 (blocksOf (values ++ List.replicate (1024 - values.length) 0))
    ((baseMatrix code).map (fun row => (row.filter (·.isSome)).map (fun _ => List.replicate 64 0)))

end Sys2Proof.Machine
end

