-- ==== Sys2Proof/Machine/HsbSignal.lean ====
section
/-! DEFINITION. The HSB front end: FFT windows, signatures from reference symbols, drift, combining, soft values, the SNRs of a probe reply
(chapter 5, R186–R188; chapter 8, R264–R272). -/

namespace Sys2Proof.Machine

/-- Where an HSB reply stands as its symbols are taken in turn: the samples by which windows have moved, the residue in quarter samples,
and the signatures, a list of four ports for each of k = 2–17 (R268). -/
structure Front where
  move : Int
  residue : Int
  signatures : List (List Cx)
  deriving DecidableEq, Repr

/-- The 64-point FFT of symbol m on the 16 subcarriers, at each port, turned back by the residue (R186, R268). -/
def spectrum (ports : List (List Cx)) (f : Front) (m : Nat) : List (List Cx) :=
  let a := ((64 * m : Nat) + f.move).toNat
  let windows := ports.map (fun l => (l.drop a).take 64)
  (List.range 16).map (fun i => windows.map (fun l =>
    let y := dft (16 * (i + 2)) l
    if f.residue = 0 then y else cdiv (cmul y (turn (4 * (i + 2 : Nat) * f.residue))) 16384))

/-- The combined value and power of each subcarrier under maximal ratio (R186). -/
def combined (v : List Nat) (signatures spectrum : List (List Cx)) : List (Cx × Nat) :=
  List.zipWith (fun h y => (combine (ratioWeights v h) y, (combine (ratioWeights v h) h).re.toNat)) signatures spectrum

/-- A spectrum with the known values of a reference symbol taken out. -/
def unreferenced (y : List (List Cx)) : List (List Cx) := y.zipIdx.map (fun x => x.1.map (cscale (referenceValue (x.2 + 2))))

/-- The second reference symbol gives the signatures (R268). -/
def firstSignatures (ports : List (List Cx)) : List (List Cx) :=
  unreferenced (spectrum ports { move := 0, residue := 0, signatures := [] } 1)

/-- A midamble refines the signatures, and its phase slope across the subcarriers moves later windows by whole samples, at most two, the
residue staying as a phase slope (R268; log entry 101). -/
def midamble (v : List Nat) (f : Front) (y : List (List Cx)) : Front :=
  let known := unreferenced y
  let z := List.zipWith (fun h y => combine (ratioWeights v h) y) f.signatures known
  let slope := angle (cdot (z.dropLast) (z.drop 1))
  let late := f.residue - (if slope < 128 then (slope : Int) else (slope : Int) - 256)
  let whole := bounded (-2) 2 ((late + 2).fdiv 4)
  { move := f.move + whole, residue := late - 4 * whole
    signatures := List.zipWith (fun a b => List.zipWith (fun x y => cdiv (cadd x y) 2) a b) f.signatures known }

/-- The data symbols of a reply from symbol m on, each as the combined values with the noise scale that applied; `kinds` says of each
symbol whether it is a midamble, and `weight` gives the noise scale and weights of the ports at symbol m (R186, R267). -/
def dataSymbols (ports : List (List Cx)) (weight : Nat → Nat × List Nat) : List Bool → Nat → Front → List (Nat × List (Cx × Nat))
  | [], _, _ => []
  | kind :: r, m, f =>
    let y := spectrum ports f m
    let w := weight m
    if kind then dataSymbols ports weight r (m + 1) (midamble w.2 f y)
    else (w.1, combined w.2 f.signatures y) :: dataSymbols ports weight r (m + 1) f

/-- Which symbols of a frame of D data symbols, behind the two reference symbols, are midambles: one after every 16th data symbol that is
followed by another (R267). -/
def frameKinds (d : Nat) : List Bool :=
  (List.range d).flatMap (fun i => if (i + 1) % 16 = 0 ∧ i + 1 < d then [false, true] else [false])

/-- The data symbols of a quad's HSB reply whose symbols behind the reference symbols are of some kinds. -/
def State.hsbSymbols (s : State) (q : Nat) (air : Air) (kinds : List Bool) : List (Nat × List (Cx × Nat)) :=
  let x := s.seq q
  let start := x.cmdEnd + x.detectStart
  let ports := s.cleaned q (start / 12) air
  dataSymbols ports (fun m => inverseNoise (s.usedPorts q (start + samples (64 * (m + 1)))) x.reception.noise) kinds 2
    { move := 0, residue := 0, signatures := firstSignatures ports }

/-- The soft values of a data symbol's subcarriers under a loading map. -/
def symbolSoft (map : List Nat) (y : Nat × List (Cx × Nat)) : List (List Int) :=
  List.zipWith (fun c z => softBits c z.1 z.2 y.1) map y.2

/-- The coded soft values of some data symbols under a loading map (R186, R281). -/
def codedSoft (map : List Nat) (l : List (Nat × List (Cx × Nat))) : List Int := l.flatMap (fun y => deinterleave map (symbolSoft map y))

/-- The SNR of subcarrier k over the probe symbols in steps of 0.25 dB, rounded down: the power of the known decisions over that of their
errors, within a byte (R188, R272). -/
def probeSnr (l : List (Nat × List (Cx × Nat))) (k : Nat) : Nat :=
  let terms := l.zipIdx.map (fun y =>
    let z := tget y.1.2 (k - 2) (czero, (0 : Nat))
    let x := cscale (z.2 : Nat) (point 2 (probeLabel y.2 k))
    (cabs2 x, cabs2 (csub (cscale 16384 z.1) x)))
  (bounded 0 255 ((decibels (sumOf (terms.map (·.1))) (sumOf (terms.map (·.2)))).fdiv 25)).toNat

/-- The 16 SNRs of a probe reply and the 26 bits of its capability header: eight probe symbols, then four of BPSK, coded at rate 1/2
(R188, R270, R272). -/
def State.probeReply (s : State) (q : Nat) (air : Air) : List Nat × List Bool :=
  let l := s.hsbSymbols q air (List.replicate 12 false)
  let soft := codedSoft (List.replicate 16 1) (l.drop 8)
  ((List.range 16).map (fun i => probeSnr (l.take 8) (i + 2)), viterbi (depuncture (puncturing 0) 32 soft 0))

/-- The SNR of an HSB reply after combining, in 0.01 dB: that of the signature fixed at detection. -/
def State.hsbSnr (s : State) (q : Nat) : Int :=
  let r := (s.seq q).reception
  let n := inverseNoise (s.usedPorts q s.now) r.noise
  decibels (combine (ratioWeights n.2 r.signature) r.signature).re.toNat n.1

end Sys2Proof.Machine
end

