-- ==== Sys2Proof/Machine/Hsb.lean ====
section
/-! DEFINITION. Hjelzu Sliced Backscatter: loading (R274), the probe, the frame and the step (R271–R291), relay suspects
(R284), GroupACK reply slots (R286–R288). -/

namespace Sys2Proof.Machine

/-! ### Loading -/

/-- Table 9 of chapter 8 in 0.25 dB, by code and constellation (1 BPSK to 4 16-QAM). -/
def loadThreshold (code c : Nat) : Nat :=
  let row := match code with
    | 0 => [12, 24, 42, 51]
    | 1 => [19, 31, 49, 58]
    | 2 => [23, 35, 53, 62]
    | 3 => [27, 39, 58, 68]
    | 4 => [8, 20, 38, 45]
    | _ => [18, 30, 48, 55]
  tget row (c - 1) 0

/-- The rate of a code in twelfths (Table 12 of chapter 8). -/
def codeRate (code : Nat) : Nat :=
  match code with
  | 0 => 6
  | 1 => 8
  | 2 => 9
  | 3 => 10
  | 4 => 6
  | _ => 9

/-- Whether a frame of a word count is long (R273). -/
def isLong (words : Nat) : Bool := decide (512 ≤ 16 * words + 64)

/-- The candidate codes, lowest rate first: those of the frame's family that the tag supports and the rate cap of the
step permits (R274, Table 17 of chapter 8). -/
def candidateCodes (words cap : Nat) (ldpc34 : Bool) : List Nat :=
  let most := if cap = 1 then 6 else if cap = 2 then 8 else if cap = 3 then 9 else 12
  (if isLong words then (if ldpc34 then [4, 5] else [4]) else [0, 1, 2, 3]).filter (fun c => decide (codeRate c ≤ most))

/-- The highest constellation up to a cap whose threshold plus margin an SNR reaches; 0 for off. -/
def constellationFor (code cap margin snr : Nat) : Nat :=
  (List.range cap).foldl (fun m i => if loadThreshold code (i + 1) + margin ≤ snr then i + 1 else m) 0

/-- The loading map of a code. -/
def loadMap (code cap margin : Nat) (snr : List Nat) : List Nat := snr.map (constellationFor code cap margin)

/-- Choose the loading: code and map with the most information per symbol, the lower rate in a tie, among those that
reach the floor (R274). -/
def chooseLoading (codes : List Nat) (cap margin floor : Nat) (snr : List Nat) : Option (Nat × List Nat) :=
  codes.foldl (fun best code =>
    let map := loadMap code cap margin snr
    if sumOf map < floor then best
    else match best with
      | none => some (code, map)
      | some b => if codeRate b.1 * sumOf b.2 < codeRate code * sumOf map then some (code, map) else some b) none

/-- The coded bits of a frame (R278, R280): the convolutional code punctured over the information and tail bits, or
whole codewords. -/
def frameBits (code words : Nat) : Nat :=
  let i := 16 * words + 64
  let n := i + 6
  match code with
  | 0 => 2 * n
  | 1 => 3 * (n / 2) + 2 * (n % 2)
  | 2 => 4 * (n / 3) + (if n % 3 = 1 then 2 else if n % 3 = 2 then 3 else 0)
  | 3 => 6 * (n / 5) + (if n % 5 = 1 then 2 else if n % 5 = 2 then 3 else if n % 5 = 3 then 4 else if n % 5 = 4 then 5 else 0)
  | 4 => 1024 * ceilDiv i 512
  | _ => 1024 * ceilDiv i 768

/-! ### The step -/

/-- The plan step that the HSB command in progress belongs to. -/
def State.hsbBytes (s : State) (q : Nat) : List Byte := s.dueStep q (s.seq q).cmd

/-- The words that the step asks for. -/
def State.hsbWords (s : State) (q : Nat) : Nat := fieldAt (s.hsbBytes q) 8 2

/-- Change what the HSB step has learned. -/
def State.modHsb (s : State) (q : Nat) (f : HsbStep → HsbStep) : State := s.modSeq q (fun y => { y with hsb := f y.hsb })

/-- The reply start error of an HSB reply in samples: the measured start to one sample, less the expected one (R187, R283). -/
def State.errorAt (s : State) (q : Nat) : Int := (((s.seq q).detectStart + 6) / 12 : Nat) - (s.hsbStart q : Int)

/-- Whether the flags byte of a tag's fragments says relay suspect: its GroupACK reply or a reply of the step was one (R284, R290). -/
def Seq.relaySuspect (x : Seq) : Bool := x.tag.relay || x.hsb.relay

/-- An HSB exchange that started off grid within the search is a relay suspect: the tag's entry is flagged, and event
0x3204 raised for every occurrence; one on grid enters the port's statistics (R284, R187, Table 20 of chapter 8). -/
def State.startError (s : State) (q kind : Nat) (e : Int) : State :=
  let x := s.seq q
  if e.natAbs ≤ s.nat 0x3200 3 then
    let l := e :: NMap.getD s.hsbErrors x.port []
    { s with hsbErrors := NMap.put s.hsbErrors x.port (l.take 256) }
  else
    let s1 := match x.tag.entry, kind with
      | some n, 1 => s.modTag n (fun t => { t with relay := true })
      | _, _ => s
    ((if kind = 1 then s1.modHsb q (fun h => { h with relay := true }) else s1).count 0x3200 13).raise 0x3204
      ([x.port, x.plan.getD 0] ++ dI 2 e ++ [kind, s.nat 0x3200 8]) (withSlate (s.planOwner (x.plan.getD 0)))

/-- Whether an error is off grid. -/
def State.offGrid (s : State) (e : Int) : Bool := decide (s.nat 0x3200 3 < e.natAbs)

/-- A failed HSB step reports its status with a fragment count of 0, and a NAK follows (R289, R290, R210). -/
def State.hsbFail (s : State) (q status : Nat) : State :=
  let x := s.seq q
  (s.stepReport q x.cmd.step status [0#8, 0#8, byte x.hsb.code, byte (b01 x.relaySuspect)]).failTag q

/-- Raise an HSB event that names port and plan, to the plan's owner and Slate. -/
def State.hsbEvent (s : State) (q code : Nat) (detail : List Nat) : State :=
  let x := s.seq q
  s.raise code ([x.port, x.plan.getD 0] ++ detail) (withSlate (s.planOwner (x.plan.getD 0))) (perMinute q)

/-- The tag is not capable: 1 no probe reply, 2 header CRC-5 failed, 3 version (R289). -/
def State.notCapable (s : State) (q why : Nat) : State := (s.hsbEvent q 0x3201 [why]).hsbFail q 5

/-- The link is too weak for any loading (R289). -/
def State.tooWeak (s : State) (q margin cap : Nat) : State :=
  let x := s.seq q
  let half := if isLong x.hsb.words then 4 else 0
  ((s.count 0x3200 16).hsbEvent q 0x3202 [satTo 255 (x.hsb.snr.foldl peak 0), satTo 255 (sumOf (loadMap half cap margin x.hsb.snr))]).hsbFail q 6

/-- Choose the loading and let the HSB_Load fall due; each retry adds its margin (R274, R289). -/
def State.loadNext (s : State) (q : Nat) : State :=
  let x := s.seq q
  let b := s.hsbBytes q
  let margin := byteAt b 10 + x.hsb.loads * s.nat 0x3200 7
  let cap := if x.hsb.constellation ≤ byteAt b 3 then x.hsb.constellation else byteAt b 3
  match chooseLoading (candidateCodes x.hsb.words (byteAt b 11) x.hsb.ldpc34) cap margin (s.nat 0x3200 5) x.hsb.snr with
  | none => s.tooWeak q margin cap
  | some c => s.modSeq q (fun y => { y with
      state := 1, due := { cmd := 19, arg := 0, step := y.cmd.step } :: y.due,
      hsb := { y.hsb with
        code := c.1, map := c.2, loads := y.hsb.loads + 1, codewords := 0, failedWords := 0, iterations := 0, delivered := 0, decoded := [] } })

/-- When the next command may begin after an HSB reply of some symbols: 8 ticks after its end, not before the decision
(R285, R178). -/
def State.afterHsb (s : State) (q : Nat) (v : Verdict) (symbols : Nat) : State :=
  let x := s.seq q
  let ends := match v.primary with
    | some y => x.cmdEnd + y.start + samples (64 * symbols) + samples (8 * s.nat 0x3200 2)
    | none => s.now
  s.modSeq q (fun y => { y with earliest := peak (peak ends s.now) (x.cmdEnd + 2 * (s.seqLink q).rtcal) })

/-- The HSB measurements of a descriptor (Table 4 of chapter 5). -/
def State.hsbFields (s : State) (q : Nat) (e : Int) : List Byte :=
  let h := (s.seq q).hsb
  leInt 2 e ++ [byte (satTo 255 h.codewords), byte (satTo 255 h.failedWords), byte h.iterations, 0#8]

/-- The reply of an HSB exchange: one stream, never separated, with its information bits, SNR, RSSI and phases. -/
def State.hsbReply (s : State) (q : Nat) (bits : List Bool) : Reply :=
  let x := s.seq q
  s.measured q (some x.reception.signature) { emptyReply with
    streams := [{ bits := bits, snr := s.hsbSnr q, start := x.detectStart, eigen := 0, violations := 0, signature := x.reception.signature }]
    k := 1, error := s.errorAt q }

/-- The one stream of an HSB reply as a verdict. -/
def hsbVerdict (r : Reply) : Verdict :=
  match r.streams with
  | [] => noReply
  | x :: _ => { outcome := 1, k := 1, collision := false, primary := some x, resolved := [] }

/-- What every HSB reply leaves: its SNR at `0x2230`+q:14 and the adaptive power (R100, R192). -/
def State.hsbDone (s : State) (q : Nat) (v : Verdict) (r : Reply) : State := (s.countVerdict q v).adaptAfter q v r

/-- The capability header and the SNRs of a probe reply lead to a loading (R271, R272, R289 steps 1–3). -/
def State.probeChosen (s : State) (q : Nat) (header : List Bool) (snr : List Nat) (e : Int) : State :=
  let w := ofBits (header.take 21)
  if header.length ≠ 26 ∨ ofBits (header.drop 21) ≠ crcAir 0 (header.take 21) then s.notCapable q 2
  else if w / 2 ^ 18 ≠ 1 then s.notCapable q 3
  else
    let words := s.hsbWords q
    let ack := bitOf w 14
    let s1 := ((s.count 0x3200 10).modPlan ((s.seq q).plan.getD 0) (fun r => { r with noGroupAck := !ack })).modHsb q (fun h => { h with
      words := words, constellation := 1 + w / 2 ^ 16 % 4, ldpc34 := bitOf w 15, groupAck := ack, tick := 12 + 4 * (w / 2 ^ 8 % 4),
      snr := (snr ++ List.replicate 16 0).take 16, loads := 0 })
    if s.offGrid e && decide (s.nat 0x3200 8 = 1) then s1.hsbFail q 8
    else if 2 ^ (w / 2 ^ 10 % 16) < words ∨ s.nat 0x3200 2 < 12 + 4 * (w / 2 ^ 8 % 4) then s1.hsbFail q 6
    else s1.loadNext q

/-- A probe reply is analysed: its start error is judged, its descriptor written, its SNRs stand in the reply buffer, and the loading is
chosen (R188, R272). One outside the search is no reply, and does not come here (R283). -/
def State.probeDone (s : State) (q : Nat) (air : Air) : State :=
  let x := s.seq q
  if x.state ≠ 4 ∨ x.cmd.cmd ≠ 18 then s
  else
    let p := s.probeReply q air
    let r := s.hsbReply q p.2
    let v := hsbVerdict r
    let s1 := (s.receiveOver q).startError q 1 r.error
    let s2 := (s1.writeDescriptor q v r { kind := 3, ok := false, payload := p.2, hsb := s1.hsbFields q r.error } false).putBuffer q (p.1.map byte)
    ((s2.hsbDone q v r).afterHsb q v 14).probeChosen q p.2 p.1 r.error

/-- `PROBE_ANALYSIS_DONE`: the samples of the probe reply at the ports and of the forward reference. -/
def execProbeAnalysisDone (t quad : Nat) (ports : List (List Cx)) (fwd : List Cx) (s : State) : Out :=
  .next ((s.at t).underOld quad (·.probeDone quad { ports := ports, fwd := fwd }))

/-! ### The decoder pool (R190, R191) -/

/-- The data symbols of a frame of the loading in use. -/
def State.frameLength (s : State) (q : Nat) : Nat :=
  let h := (s.seq q).hsb
  ceilDiv (frameBits h.code h.words) (sumOf h.map)

/-- The coded soft values of the data symbols that some samples of a quad's frame hold. -/
def State.frameSoft (s : State) (q : Nat) (air : Air) : List Int :=
  let h := (s.seq q).hsb
  let have' := (air.ports.foldl (fun m l => peak m l.length) 0) / 64 - 2
  (codedSoft h.map (s.hsbSymbols q air ((frameKinds (s.frameLength q)).take have'))).take (frameBits h.code h.words)

/-- Free cores take the codewords at the head of the queue. -/
def State.feedCores (s : State) : State :=
  (List.range 4).foldl (fun st i =>
    match tget st.ldpcCores i none, st.ldpcQueue with
    | none, w :: r => { st with ldpcCores := tmod st.ldpcCores i (fun _ => some w), ldpcQueue := r }
    | _, _ => st) s

/-- Codewords of a quad's frame enter the queue of 48 as they are complete, and a free core takes one at once; its peak is kept. -/
def State.deliverWords (s : State) (q : Nat) (soft : List Int) : Nat → State
  | 0 => s
  | n + 1 =>
    let x := s.seq q
    if soft.length < 1024 * (x.hsb.delivered + 1) ∨ 48 ≤ s.ldpcQueue.length then s
    else
      let w : Codeword := { quad := q, exchange := x.exchange, place := x.hsb.delivered, code := x.hsb.code
                            values := (soft.drop (1024 * x.hsb.delivered)).take 1024 }
      let s1 := ({ s with ldpcQueue := s.ldpcQueue ++ [w] } : State).feedCores.modHsb q (fun h => { h with delivered := h.delivered + 1 })
      (s1.setPeak 0x2240 7 s1.ldpcQueue.length).deliverWords q soft n

/-- What a quad's front end has of a long frame so far goes to the pool. -/
def State.deliverFrame (s : State) (q : Nat) (air : Air) : State :=
  let x := s.seq q
  if x.state = 4 ∧ x.cmd.cmd = 19 ∧ isLong x.hsb.words = true then s.deliverWords q (s.frameSoft q air) 65 else s

/-- A core finishes its codeword, by the syndrome or at the iteration limit: counters, the mean over the last 4,096 codewords, and the hard
decisions passed on to its frame where that is still being received (R190, Table 7 of chapter 5). -/
def State.coreDone (s : State) (core : Nat) : State :=
  match tget s.ldpcCores core none with
  | none => s
  | some w =>
    let r := ldpcDecode w.code (s.nat 0x2240 1) (s.flag 0x2240 2) w.values
    let ok := satisfied w.code r.2
    let l := (r.1 :: s.ldpc).take 4096
    let s1 : State := { s with ldpc := l, ldpcCores := tmod s.ldpcCores core (fun _ => none) }
    let s2 := (s1.count 0x2240 3).set 0x2240 5 (100 * sumOf l / l.length)
    let s3 := if ok then s2 else s2.count 0x2240 4
    let x := s.seq w.quad
    if x.state = 4 ∧ x.cmd.cmd = 19 ∧ x.exchange = w.exchange then
      s3.modHsb w.quad (fun h => { h with
        codewords := h.codewords + 1, failedWords := h.failedWords + b01 (!ok), iterations := peak h.iterations r.1
        decoded := h.decoded ++ [(w.place, r.2.take (infoBits w.code))] })
    else s3

/-- What the quads' front ends have of their long frames so far goes to the pool, quad by quad. -/
def State.deliverFrames (s : State) : List Nat → List (List (List Cx)) → List (List Cx) → State
  | q :: qs, p :: ps, f :: fs => State.deliverFrames (s.underOld q (·.deliverFrame q { ports := p, fwd := f })) qs ps fs
  | _, _, _ => s

/-- `LDPC_CODEWORD_DONE`: of a core; with it the samples so far of the long frames that some quads receive. -/
def execLdpcCodewordDone (t core : Nat) (quads : List Nat) (ports : List (List (List Cx))) (fwd : List (List Cx)) (s : State) : Out :=
  .next (((((s.at t).deliverFrames quads ports fwd).coreDone core)).feedCores)

/-! ### Frames -/

/-- The codewords of a long frame (R280). -/
def State.frameWordCount (s : State) (q : Nat) : Nat :=
  let h := (s.seq q).hsb
  ceilDiv (16 * h.words + 64) (infoBits h.code)

/-- The information bits of a frame: decoded from its samples where it is short, those of its codewords in order where it is long (R189,
R280). -/
def State.frameInfo (s : State) (q : Nat) (air : Air) : List Bool :=
  let h := (s.seq q).hsb
  let n := 16 * h.words + 64
  if isLong h.words then
    (((List.range (s.frameWordCount q)).flatMap (fun i => ((h.decoded.find? (fun d => decide (d.1 = i))).map (·.2)).getD []))).take n
  else viterbi (depuncture (puncturing h.code) (n + 6) (s.frameSoft q air) 0)

/-- Whether the CRC-32 of a frame holds over its bytes (R276). -/
def frameCrcOk (words : Nat) (b : List Bool) : Bool :=
  let n := 32 + 16 * words
  decide (b.length = n + 32) && decide (ofBits (b.drop n) = crcBytes 4 (bytesOfBits (n / 8) b))

/-- Whether a frame is accepted: its CRC-32, its handle, and for a long one that every codeword satisfied its checks (R277). -/
def State.frameOk (s : State) (q : Nat) (b : List Bool) : Bool :=
  let x := s.seq q
  frameCrcOk x.hsb.words b && decide (ofBits (b.take 16) = x.tag.handle) &&
    (!isLong x.hsb.words || (decide (x.hsb.decoded.length = s.frameWordCount q) && decide (x.hsb.failedWords = 0)))

/-- The fragments of a payload, 124 bytes each (R290). -/
def hsbFragments (payload : List Byte) (i n code flags : Nat) : Nat → List (List Byte)
  | 0 => []
  | k + 1 => ([byte i, byte n, byte code, byte flags] ++ payload.take 124) :: hsbFragments (payload.drop 124) (i + 1) n code flags k

/-- A done step's payload goes to the plan's owner in step-result reports (R290). -/
def State.hsbResult (s : State) (q : Nat) (b : List Bool) : State :=
  let x := s.seq q
  let payload := bytesOfBits (2 * x.hsb.words) ((b.drop 32).take (16 * x.hsb.words))
  let n := fragmentsOf x.hsb.words
  ((hsbFragments payload 1 n x.hsb.code (b01 x.relaySuspect) n).foldl (fun st c => st.stepReport q x.cmd.step 0 c) s).advance q

/-- The tag error code of a frame status (R275). -/
def frameError (status : Nat) : Nat := if status = 1 then 0x03 else if status = 2 then 0x04 else 0x00

/-- A frame that fails R277, or none: HSB_Load again, up to the load retries, then status 7 (R289). -/
def State.frameFailed (s : State) (q : Nat) : State :=
  let x := s.seq q
  if x.hsb.loads ≤ s.nat 0x3200 6 then s.loadNext q
  else ((s.count 0x3200 12).hsbEvent q 0x3203 [x.hsb.code, satTo 255 x.hsb.failedWords, x.hsb.loads]).hsbFail q 7

/-- A frame is decided, a long one when its codewords are (R277, R284, R289 steps 4 and 5). -/
def State.frameDone (s : State) (q : Nat) (air : Air) : State :=
  let x := s.seq q
  let long := isLong x.hsb.words
  if long ∧ x.hsb.decoded.length < s.frameWordCount q then s
  else
    let b := s.frameInfo q air
    let r := s.hsbReply q b
    let v := hsbVerdict r
    let ok := s.frameOk q b
    let drop := s.offGrid r.error && decide (s.nat 0x3200 8 = 1)
    let s0 := (if long then s else s.count 0x2240 6).receiveOver q
    let s1 := s0.startError q 1 r.error
    let s2 := s1.writeDescriptor q v r
      { kind := if long then 5 else 4, ok := frameCrcOk x.hsb.words b, payload := b, hsb := s1.hsbFields q r.error } (ok && !drop)
    let s3 := (s2.hsbDone q v r).afterHsb q v (frameSymbols (s.frameLength q))
    let status := ofBits ((b.drop 16).take 4)
    if drop then s3.hsbFail q 8
    else if !ok then s3.frameFailed q
    else if status ≠ 0 then
      let s4 := ((s3.count 0x3200 11).count 0x3310 5).raise 0x3101
        ([x.port, lanternIndex 19, frameError status, 0] ++ s.exchangeNo q) (s.reachPort x.port) (perMinute q)
      s4.hsbFail q 1
    else (s3.count 0x3200 11).hsbResult q b

/-! ### GroupACK reply slots (R287, R288) -/

/-- Change the tag that a GroupACK lists in a position, from 1. -/
def State.modListed (s : State) (q i : Nat) (f : Tag → Tag) : State :=
  s.modSeq q (fun y => if i ≤ 1 then { y with tag := f y.tag } else { y with waiting := tmod y.waiting (i - 2) f })

/-- A listed tag whose reply was discarded as relay suspect is not served: each of its HSB exchange steps ends with status 8 (R284; log
entry 102). -/
def State.discardTag (s : State) (q : Nat) (t : Tag) : State :=
  match (s.seq q).plan, s.seqGroup q with
  | some p, some g =>
    let s1 := s.modSeq q (fun y => { y with tag := t })
    ((g.access.filter (fun i => decide (stepKind (s.planStep p i) = 12))).foldl
      (fun st i => st.stepReport q (i + 1) 8 [0#8, 0#8, 0#8, byte (b01 t.relay)]) s1).dropProvisional q t
  | _, _ => s

/-- The reply slots are over: the tags that answered are served in list order, the others are left (R288). -/
def State.serveGroup (s : State) (q : Nat) : State :=
  let x := s.seq q
  let l := (x.tag :: x.waiting).filter (fun t => t.entry.isSome)
  let drop := fun (t : Tag) => t.relay && decide (s.nat 0x3200 8 = 1)
  ((l.filter drop).foldl (fun st t => st.discardTag q t) s).serve q (l.filter (fun t => !drop t))

/-- A reply slot ends: a valid reply enters the tag table, an empty or failed one raises event 0x3206; one discarded as relay suspect
fails its tag (R284, R288, R210). -/
def State.slotDone (s : State) (q : Nat) (v : Verdict) (r : Reply) (holds : Nat) : State :=
  let x := s.seq q
  let i := x.slot
  let error := s.errorAt q
  let s0 := match v.primary with
    | some _ => s.startError q 2 error
    | none => s
  let off := v.primary.isSome && s.offGrid error
  let e := match v.primary with
    | some y => epcReply y.bits
    | none => { pc := 0, epc := [], crc := 0, ok := false }
  let a := if v.primary.isSome then s0.enterTag q e r off holds else (none, s0)
  let s1 := match a.1 with
    | some n =>
      let s2 := (a.2.count 0x3200 15).modListed q i (fun t => { t with entry := some n, pc := e.pc, epc := e.epc, relay := off })
      if off && decide (s.nat 0x3200 8 = 1) then s2.modSeq q (fun y => { y with failed := true }) else s2
    | none => (a.2.hsbEvent q 0x3206 [i, x.listed]).modSeq q (fun y => { y with failed := true })
  if i < x.listed then (s1.modSeq q (fun y => { y with slot := i + 1, state := 2 })).reserveNext q
  else (s1.modSeq q (fun y => { y with slot := 0 })).serveGroup q

end Sys2Proof.Machine
end

