-- ==== Sys2Proof/Machine/Decision.lean ====
section
/-! DEFINITION. Decisions and closed windows reach the sequencer; passes of plans; FIFO entries and results (chapter 5,
R170–R179; chapter 6, R201–R204; chapter 7, R232, R236; chapter 14, R474, R475). -/

namespace Sys2Proof.Machine

/-! ### The end of an exchange -/

/-- Whether a command is answered by an RN16. -/
def drawsRn (cmd : Nat) : Bool := decide (2 ≤ cmd) && decide (cmd ≤ 4)

/-- The kind of an ISO/IEC 18000-63 descriptor (Table 4 of chapter 5). -/
def isoKind (cmd : Nat) (v : Verdict) : Nat := if v.primary.isNone then 0 else if drawsRn cmd then 1 else 2

/-- Whether an exchange has a result for a shade: an EPC reply that stands, or an access reply of a step that reports
(R474). -/
def State.hasResult (s : State) (q : Nat) (v : Verdict) : Bool :=
  let x := s.seq q
  match v.primary with
  | none => false
  | some y =>
    if drawsRn x.cmd.cmd then false
    else if x.cmd.cmd = 5 ∨ x.cmd.cmd = 20 then (epcReply y.bits).ok
    else if x.cmd.cmd = 7 then false
    else crc16Ok y.bits && (stepFlag (s.dueStep q x.cmd) 2 || decide (x.cmd.cmd = 17))

/-- The exchange ends with a verdict: descriptor, adaptive power, the time of the next command, and what the command
makes of it. -/
def State.conclude (s : State) (q : Nat) (v : Verdict) (r : Reply) (holds : Nat) : State :=
  let x := s.seq q
  let c := x.cmd.cmd
  let kind := isoKind c v
  let payload := match v.primary with
    | some y => y.bits
    | none => []
  let s0 := s.countVerdict q v
  let s1 := s0.writeDescriptor q v r { kind := kind, ok := decide (kind = 2) && crc16Ok payload, payload := payload, hsb := [] } (s.hasResult q v)
  let answered := (x.tag :: x.waiting).any (fun t => t.entry.isSome)
  let s2 := if c = 20 && (decide (x.slot < x.listed) || (decide (v.outcome = 0) && answered)) then s1 else s1.adaptAfter q v r
  let s3 := if v.outcome = 0 then s2.afterNone q else s2.afterReply q v r
  if drawsRn c then s3.rnDone q v
  else if c = 5 then s3.ackDone q v r holds
  else if c = 18 then s3.notCapable q 1
  else if c = 19 then s3.frameFailed q
  else if c = 20 then s3.slotDone q v r holds
  else s3.accessDone q v

/-- The last-bit decision of an exchange reaches the sequencer (R170, R176): a reply outside the T1 span is discarded
(R202), an HSB frame goes its own way, and a reply slot of a GroupACK is read at its place. -/
def State.decision (s : State) (q : Nat) (air : Air) : State :=
  let x := s.seq q
  if x.state ≠ 4 then s
  else
    let c := x.cmd.cmd
    if c = 18 then s
    else if c = 19 then s.frameDone q air
    else
      let d := s.demodulate q (!drawsRn c) air
      let s1 := (s.receiveOver q).modSeq q (fun y => { y with reception := { y.reception with loops := d.2 } })
      let v := s1.classify q (!drawsRn c) d.1
      let r := s1.measured q (v.primary.map (·.signature)) d.1
      let holds := (s1.seq q).holdsBegun
      if s1.outsideT1 q v then (s1.discardT1 q).conclude q noReply emptyReply holds
      else s1.conclude q v r holds

/-- `REPLY_DECISION`: the samples of the reply behind its preamble, or of the whole HSB frame. -/
def execReplyDecision (t quad : Nat) (air : Air) (s : State) : Out := .next ((s.at t).underOld quad (·.decision quad air))

/-- The window closes with no detection: the exchange ends with no reply (R201, R203, R204). A window that has not
opened yet for want of its command is as closed as an open one. -/
def State.windowClose (s : State) (q : Nat) : State :=
  let x := s.seq q
  if (x.state = 2 ∨ x.state = 3) ∧ x.cmdEnd + s.windowCloses q ≤ s.now then
    (s.track q).conclude q noReply emptyReply 0
  else s

/-- `RECEIVE_WINDOW_CLOSE`. -/
def execReceiveWindowClose (t quad : Nat) (s : State) : Out := .next ((s.at t).underOld quad (·.windowClose quad))

/-! ### Commands without a reply -/

/-- A silent command is complete at once: a NAK ends the slot, a Mark its step, and a Select leads on. -/
def State.afterSilent (s : State) (q : Nat) : State :=
  let x := s.seq q
  if x.state = 1 ∧ x.cmd.cmd = 6 then s.endSlot q
  else if x.state = 1 ∧ x.cmd.cmd = 1 ∧ x.cmd.arg = 255 then s.stepDone q []
  else s

/-- A silent command where it is due, with what follows from its end; its descriptor, of an exchange without a reply, is written with it
(R179; log entry 105). -/
def State.silentCommand (s : State) (q cmd : Nat) : State :=
  let n := (s.seq q).exchange
  let s1 := s.command q cmd
  if (s1.seq q).exchange = n then s1
  else
    let s2 := s1.writeDescriptor q noReply emptyReply { kind := 0, ok := false, payload := [], hsb := [] } false
    (if cmd = 6 then s2.count 0x3310 10 else s2).afterSilent q

/-- `ISO_SELECT`. -/
def execIsoSelect (t quad : Nat) (s : State) : Out := .next ((s.at t).silentCommand quad 1)

/-- `NAK`. -/
def execNak (t quad : Nat) (s : State) : Out := .next ((s.at t).silentCommand quad 6)

/-! ### Passes (R232, R236) -/

/-- A plan's saved rounds start afresh with the pass; the adaptive power stays (R222, R230). -/
def freshRounds (p : Nat) (l : List (Nat × Round)) : List (Nat × Round) :=
  l.map (fun e => if e.1 / 64 = p then (e.1, { e.2 with group := 0, qfp := none, selectsSent := false, finished := false }) else e)

/-- Each port record of the entries that the plan last read counts one more pass (R236). -/
def State.agePorts (s : State) (p : Nat) : State :=
  { s with tags := s.tags.map (fun e =>
      if e.2.plan = p then (e.1, { e.2 with ports := e.2.ports.map (fun r => { r with passes := satTo 255 (r.passes + 1) }) }) else e) }

/-- A pass starts. -/
def State.beginPass (s : State) (p : Nat) : State :=
  let every := ms (s.planObj p 9)
  let s1 : State := { s with rounds := freshRounds p s.rounds }
  let s2 := s1.modPlan p (fun r => { r with
    running := true, started := s.now, due := if s.isBoundaryPlan p then none else some (s.now + every), overrun := false, ended := 0, confirmed := 0, unfit := false })
  ((s2.agePorts p).set (0x3000 + p) 43 ((s.planObj p 43 + 1) % 2 ^ 32 : Nat)).skipIdle p

/-- A pass falls due: it starts, or, while the previous one still runs, waits for its end with event 0x3004 (R232). -/
def State.passStart (s : State) (p : Nat) : State :=
  let r := s.plan p
  match r.due with
  | none => s
  | some due =>
    if s.planObj p 2 ≠ 1 ∨ s.now < due then s
    else if r.running then
      if r.overrun ∨ (s.planObj p 9 = 0 ∧ s.isBoundaryPlan p = false) then s
      else (s.modPlan p (fun r => { r with overrun := true })).raise 0x3004 ([p] ++ dU 4 (s.planObj p 43)) (withSlate (s.planOwner p))
    else s.beginPass p

/-- `PASS_START`. -/
def execPassStart (t plan : Nat) (s : State) : Out := .next ((s.at t).passStart plan)

/-- A quad gives up its part of a pass: after the slot in progress, or at once where none is. -/
def State.leavePlan (s : State) (p q : Nat) : State :=
  if (s.seq q).plan ≠ some p then s
  else if (s.seq q).inSlot then s.modSeq q (fun y => { y with offAfter := true })
  else (s.rampDown q).modSeq q (fun y => { y with plan := none })

/-- The pass limit runs out (R232). -/
def State.passLimit (s : State) (p : Nat) : State :=
  let r := s.plan p
  if r.running = true ∧ r.started + ms (s.planObj p 10) ≤ s.now then
    (s.each (List.range 12) (fun st q => st.leavePlan p q)).endPass p 2
  else s

/-- `PASS_LIMIT_REACHED`. -/
def execPassLimitReached (t plan : Nat) (s : State) : Out := .next ((s.at t).passLimit plan)

/-! ### FIFO entries and results (R474, R475) -/

/-- The head of a port's FIFO moves to the quad's result queue where it has a result and room, and is released where it
has none. -/
def State.moveEntry (s : State) (p : Nat) : State :=
  let q := p / 4
  match (s.port p).fifo with
  | [] => s
  | (d, tail) :: r =>
    if tail.isEmpty then s.modPort p (fun x => { x with fifo := r })
    else if (s.quad q).results.length < 256 then
      let s1 := (s.modPort p (fun x => { x with fifo := r })).modQuad q (fun x => { x with results := x.results ++ [d ++ tail] })
      s1.setPeak (0x5020 + q) 2 (s1.quad q).results.length
    else s

/-- The inventory engine takes the next entry of a quad's result queue. -/
def State.takeResult (s : State) (q : Nat) : State :=
  match (s.quad q).results with
  | [] => s
  | _ :: r => (s.modQuad q (fun x => { x with results := r })).count 0x5000 8

end Sys2Proof.Machine
end

