-- ==== Sys2Proof/Machine/HfFrames.lean ====
section
/-! DEFINITION. HF ports as units: actual states (R300), access to services, card frames as bytes with their last bit and
duration, and card plans as data (chapter 9, R295–R312). The frames of ISO/IEC 14443 and 15693 that the spec leaves to
those standards are taken from them (log entry 23). -/

namespace Sys2Proof.Machine

/-! ### Access -/

/-- An HF port. -/
def State.hf (s : State) (h : Nat) : HfPort := tget s.hfPorts h hfPortAtReset

/-- Change an HF port. -/
def State.modHf (s : State) (h : Nat) (f : HfPort → HfPort) : State := { s with hfPorts := tmod s.hfPorts h f }

/-- The service of a port, an idle one where there is none. -/
def State.svc (s : State) (h : Nat) : HfService := (s.hf h).service.getD newService

/-- Change the service of a port, where there is one. -/
def State.modSvc (s : State) (h : Nat) (f : HfService → HfService) : State :=
  s.modHf h (fun x => { x with service := x.service.map f })

/-- Change the card of a service. -/
def State.modCard (s : State) (h : Nat) (f : HfCard → HfCard) : State := s.modSvc h (fun v => { v with card := f v.card })

/-- The transmitter that drives a port (R295). -/
def State.txOf (s : State) (h : Nat) : Option Nat := [0, 1].find? (fun t => decide (tget s.hfTx t none = some h))

/-- The lower-numbered free transmitter (R296). -/
def State.freeTx (s : State) : Option Nat := [0, 1].find? (fun t => (tget s.hfTx t none).isNone)

/-- Whether safe state, an unchartered module or an HF ceiling below 10 mW blocks every HF port (Table 1). -/
def State.hfBlocked (s : State) : Bool := s.inSafe || s.safe.leaving || !s.chartered || decide (s.siteHf < 10)

/-- The actual state of an HF port: the first of dark, blocked, faulted, field on and ready (R300). -/
def State.hfActual (s : State) (h : Nat) : Nat :=
  if !(s.hf h).enabled then 0
  else if s.hfBlocked then 4
  else if s.nat (0x2400 + h) 3 ≠ 0 then 3
  else if (s.txOf h).isSome then 2
  else 1

/-- Whether a port may carry a field (R300). -/
def State.mayField (s : State) (h : Nat) : Bool := decide (s.hfActual h = 1) || decide (s.hfActual h = 2)

/-- Whether management forbids a port's field: the requested state, or the ceiling (R301). -/
def State.hfForbidden (s : State) (h : Nat) : Bool := decide (s.nat (0x2400 + h) 1 = 0) || s.hfBlocked

/-- The field power of a port: its setting, never above the site and the fused ceiling (R297). -/
def State.fieldPower (s : State) (h : Nat) : Nat :=
  let p := s.nat (0x2400 + h) 6
  if p ≤ s.siteHf then p else s.siteHf

/-- Carrier cycles of 1/13.56 MHz in bus ticks, rounded up. -/
def cycles (n : Nat) : Nat := ceilDiv (n * 1024) 113

/-! ### Card plans as data (Tables 6 and 7) -/

/-- An object of a card plan. -/
def State.cardObj (s : State) (p sub : Nat) : Nat := s.nat (0x3400 + p) sub

/-- Step i (0–15) of a card plan. -/
def State.cardStep (s : State) (p i : Nat) : List Byte := if i < 16 then s.bytes (0x3400 + p) (13 + i) 64 else zeros 64

/-- The selector of a card plan. -/
def State.selector (s : State) (p : Nat) : List Byte := s.bytes (0x3400 + p) 7 8

/-- The command bytes of a step. -/
def stepCommand (b : List Byte) : List Byte := slice b 16 (byteAt b 3)

/-- Whether a card plan may serve a port: enabled, its mask covers the port and its owner has permission (R311, R314). -/
def State.cardCovers (s : State) (p h : Nat) : Bool :=
  decide (s.cardObj p 2 = 1) && decide (s.cardObj p 1 < 8) && bitOf (s.cardObj p 4) h && s.permitsHf (s.cardObj p 1) h

/-- Put a plan in its place by priority; equals keep their number's order. -/
def State.byPriority (s : State) (p : Nat) : List Nat → List Nat
  | [] => [p]
  | q :: r => if s.cardObj q 3 < s.cardObj p 3 then p :: q :: r else q :: s.byPriority p r

/-- The plans for a detection service of a port, or, for a poll, those of the window's shade; highest priority first,
lowest number among equals (R314). -/
def State.cardPlans (s : State) (h : Nat) (poll : Bool) (shade : Nat) : List Nat :=
  ((List.range 32).filter (fun p => s.cardCovers p h &&
    (if poll then bitOf (s.cardObj p 8) 1 && decide (s.cardObj p 1 = shade) else bitOf (s.cardObj p 8) 0))).foldl
    (fun l p => s.byPriority p l) []

/-- The credits a plan run needs: one for identification, one for each step that reports (R315). -/
def State.cardCredits (s : State) (p : Nat) : Nat :=
  b01 (decide (s.cardObj p 10 = 1)) +
  (((List.range 16).takeWhile (fun i => decide (byteAt (s.cardStep p i) 0 ≠ 0))).filter (fun i => bitOf (byteAt (s.cardStep p i) 1) 0)).length

/-! ### Frames (R304, R305) -/

/-- A Type A frame closed by CRC_A. -/
def withCrcA (b : List Byte) : List Byte := b ++ le 2 (crcBytes 2 b)

/-- A Type B frame closed by CRC_B, or an ISO/IEC 15693 frame by its CRC. -/
def withCrcB (b : List Byte) : List Byte := b ++ le 2 (crcBytes 3 b)

/-- The select code of a cascade level. -/
def selCode (level : Nat) : Nat := if level = 1 then 0x93 else if level = 2 then 0x95 else 0x97

/-- Bits in air order, least significant first, as whole and part bytes. -/
def bytesLsb (n : Nat) (b : List Bool) : List Byte :=
  match n with
  | 0 => []
  | n + 1 => byte (ofBits (b.take 8).reverse) :: bytesLsb n (b.drop 8)

/-- The block check character of four UID bytes. -/
def bccOf (u : List Byte) : Byte := u.foldl (fun a b => a ^^^ b) 0#8

/-- Close a frame with the check value of its protocol. -/
def closeFrame (proto : Nat) (b : List Byte) : List Byte := if proto = 1 then withCrcA b else withCrcB b

/-- The most bytes of an APDU in one block: FSC less the block's PCB and check value. -/
def HfService.chunk (v : HfService) : Nat := v.card.fsc - 3

/-- The code of N in REQB and WUPB. -/
def slotCode (n : Nat) : Nat := if n = 16 then 4 else if n = 4 then 2 else 0

/-- The bytes of a card frame (Table 4; log entry 23). -/
def State.hfFrame (s : State) (h : Nat) (c : HfCmd) : List Byte :=
  let v := s.svc h
  let k := v.card
  let sel := match v.plan with
    | some p => s.selector p
    | none => match v.left with
      | p :: _ => s.selector p
      | [] => zeros 8
  let step := match v.plan with
    | some p => s.cardStep p v.step
    | none => zeros 64
  let apdu := v.out.take v.chunk
  let flags := 0x22 + (if bitOf (byteAt step 1) 3 then 0x40 else 0)
  match c.code with
  | 1 => [0x26#8]
  | 2 => [0x52#8]
  | 3 =>
    let n := k.known.length
    [byte (selCode k.level), byte (0x20 + 16 * (n / 8) + n % 8)] ++ bytesLsb (ceilDiv n 8) k.known
  | 4 =>
    let u := bytesLsb 4 k.known
    withCrcA ([byte (selCode k.level), 0x70#8] ++ u ++ [bccOf u])
  | 5 => withCrcA [0x50#8, 0x00#8]
  | 6 => withCrcB [0x05#8, byte (byteAt sel 0), 0x00#8]
  | 7 => withCrcB [0x05#8, byte (byteAt sel 0), byte (8 + slotCode c.arg)]
  | 8 => withCrcB [byte (16 * (c.arg - 1) + 5)]
  | 9 => withCrcB ([0x1D#8] ++ fit 4 k.uid ++ [0x00#8, byte (80 * k.rate + 8), 0x01#8, 0x00#8])
  | 10 => withCrcB ([0x50#8] ++ fit 4 k.uid)
  | 11 => withCrcA [0xE0#8, 0x80#8]
  | 12 => withCrcA [0xD0#8, 0x11#8, byte (5 * k.rate)]
  | 13 => closeFrame v.proto ([byte (2 + k.block + (if v.chunk < v.out.length then 16 else 0))] ++ apdu)
  | 14 => closeFrame v.proto [byte (0xA2 + k.block)]
  | 15 => closeFrame v.proto [byte (0xB2 + k.block)]
  | 16 => closeFrame v.proto [0xF2#8, byte c.arg]
  | 17 => closeFrame v.proto [0xC2#8]
  | 18 =>
    let afi := decide (byteAt sel 1 = 1)
    withCrcB ([byte ((if c.arg = 16 then 0x06 else 0x26) + (if afi then 0x10 else 0)), 0x01#8] ++
      (if afi then [byte (byteAt sel 0)] else []) ++ [0x00#8])
  | 21 => withCrcB ([0x22#8, 0x26#8] ++ fit 8 k.uid)
  | _ => match stepCommand step with
    | [] => []
    | cmd :: rest => withCrcB ([byte flags, cmd] ++ fit 8 k.uid ++ rest)

/-- Odd parity of a byte. -/
def oddParity (b : Byte) : Bool := decide (popcount 8 b.toNat % 2 = 0)

/-- The last bit that a Type A frame sends: the seventh bit of a short frame, the last UID bit of a split anticollision
frame, and the parity bit of the last byte otherwise (R309; log entry 23). -/
def State.lastBit (s : State) (h : Nat) (c : HfCmd) : Bool :=
  let k := (s.svc h).card
  if c.code = 1 then false
  else if c.code = 2 then true
  else if c.code = 3 ∧ k.known.length % 8 ≠ 0 then k.known.getLastD false
  else oddParity ((s.hfFrame h c).getLastD 0#8)

/-- The rate of a frame as a divisor exponent: activation runs at 106 kbit/s, blocks at the card's rate (R305). -/
def HfService.rateOf (v : HfService) (c : HfCmd) : Nat := if 13 ≤ c.code ∧ c.code ≤ 17 then v.card.rate else 0

/-- The duration of a card frame in bus ticks: 9 k + 2 bits of 128 cycles for Type A (9 bits for a short frame), the
minimal framing of Type B, and 1-out-of-4 coding for ISO/IEC 15693 (R304; log entry 23). -/
def State.hfDuration (s : State) (h : Nat) (c : HfCmd) : Nat :=
  let v := s.svc h
  let n := (s.hfFrame h c).length
  if v.proto = 1 then
    (if c.code ≤ 2 then cycles (9 * 128) else cycles ((9 * n + 2) * 128 / 2 ^ v.rateOf c))
  else if v.proto = 2 then cycles ((10 * n + 22) * 128 / 2 ^ v.rateOf c)
  else cycles (1536 + 4096 * n)

/-- Whether a frame draws no reply. -/
def HfCmd.silent (c : HfCmd) : Bool := decide (c.code = 5) || decide (c.code = 19)

/-- How long the module waits for a reply, in carrier cycles: FWT of the card for a block, FWT × WTXM after a granted
S(WTX), the default FWT otherwise, and the last accepted start of ISO/IEC 15693 (R306, Table 5; log entry 26). -/
def HfService.waitCycles (v : HfService) : Nat :=
  if v.proto = 3 then 4384
  else if v.sent.code = 16 then 4096 * 2 ^ v.card.fwi * v.sent.arg
  else if 13 ≤ v.sent.code ∧ v.sent.code ≤ 17 then 4096 * 2 ^ v.card.fwi
  else 65536

/-- The highest rate up to `maxRate` that a card's capability byte allows in both directions (R305; log entry 23). -/
def bestRate (caps maxRate : Nat) : Nat :=
  if 3 ≤ maxRate ∧ bitOf caps 2 ∧ bitOf caps 6 then 3
  else if 2 ≤ maxRate ∧ bitOf caps 1 ∧ bitOf caps 5 then 2
  else if 1 ≤ maxRate ∧ bitOf caps 0 ∧ bitOf caps 4 then 1
  else 0

/-- The frame of a 15693 command code (Table 4), 0 where the code is outside the table. -/
def frameOfCode (code : Nat) : Nat :=
  if code = 0x01 then 18 else if code = 0x02 then 19 else if code = 0x25 then 20 else if code = 0x26 then 21
  else if code = 0x20 then 22 else if code = 0x23 then 23 else if code = 0x21 then 24 else if code = 0x2B then 25 else 0

end Sys2Proof.Machine
end

