-- ==== Sys2Proof/Machine/HfService.lean ====
section
/-! DEFINITION. Card services: transmitters and their requests, activation, card plans, steps and strikes, reports and the
end of a service (chapter 9, R295, R296, R301, R305–R318, R329). -/

namespace Sys2Proof.Machine

/-! ### Reports and events -/

/-- Whom an HF event that names a plan reaches; without a plan yet, those with permission on the port. -/
def State.cardReach (s : State) (h : Nat) : List Nat :=
  match (s.svc h).plan with
  | some p => withSlate (s.cardObj p 1)
  | none => s.reachHf h

/-- The plan of a service as a detail byte. -/
def HfService.planByte (v : HfService) : Nat := v.plan.getD 0xFF

/-- A card report (Table 11). -/
def State.cardReport (s : State) (h kind step status : Nat) (received data : List Byte) : List Byte :=
  let v := s.svc h
  let k := v.card
  let cut := data.take 128
  let flags := b01 v.relay + 2 * b01 k.random + 4 * b01 k.more + 8 * b01 (decide (128 < data.length)) + 16 * b01 v.identity + 32 * b01 v.poll
  [byte kind, byte flags, byte h, byte v.proto, byte (v.plan.getD 0), byte k.rate, byte step, byte status] ++ le 4 s.rtcSec ++ le 4 s.cycle ++
  [byte k.uid.length, byte k.param] ++ fit 2 k.atqa ++ fit 10 k.uid ++ fit 2 received ++ le 2 (satTo 0xFFFF v.fdt) ++ leInt 2 v.grid ++
  le 2 cut.length ++ cut

/-- Send a card report to the plan's owner, on a credit of the run where one is left (R315, R329). -/
def State.sendCard (s : State) (h kind step status : Nat) (received data : List Byte) : State :=
  let v := s.svc h
  match v.plan with
  | none => s
  | some p =>
    let sh := s.cardObj p 1
    let r := s.cardReport h kind step status received data
    if !s.joined sh then s
    else if 0 < v.credits then
      ((s.admitCredited sh 1 r).modSvc h (fun v => { v with credits := v.credits - 1 })).settle
    else (s.takeIn sh false 1 r).settle

/-- A card protocol error: event 0x4007 (R330): 1 CRC, 2 framing, 3 block protocol, 4 retries spent. -/
def State.cardError (s : State) (h why : Nat) : State :=
  let v := s.svc h
  s.raise 0x4007 [h, v.planByte, if v.plan.isSome then v.step + 1 else 0, why] (s.cardReach h) (perMinute h)

/-! ### The end of a run and of a service -/

/-- A plan's run ends: its unused credits are released, and a run whose every step was done is counted (R315). -/
def State.planEnd (s : State) (h : Nat) (complete : Bool) : State :=
  let v := s.svc h
  match v.plan with
  | none => s
  | some p =>
    let s1 := ((s.giveCredit (s.cardObj p 1) v.credits).modSvc h (fun v => { v with plan := none, credits := 0 })).settle
    if complete then s1.count (0x3400 + p) 31 else s1

/-- The frames that leave a card: S(DESELECT) from layer 4, HLTA or HLTB from layer 3, Reset to ready (R314). -/
def HfService.leave (v : HfService) : List HfCmd :=
  if !v.card.found then []
  else if v.proto = 3 then [{ code := 21, arg := 0 }]
  else if v.card.layer4 then [{ code := 17, arg := 0 }]
  else if v.proto = 1 then [{ code := 5, arg := 0 }]
  else [{ code := 10, arg := 0 }]

/-- The frames that begin an activation; a card that has been left is woken by WUPA or WUPB (R314). -/
def HfService.activate (v : HfService) : List HfCmd :=
  if v.proto = 1 then [{ code := if v.again then 2 else 1, arg := 0 }]
  else if v.proto = 2 then [{ code := if v.again then 7 else 6, arg := 1 }]
  else [{ code := 18, arg := 1 }]

/-- Whether a poll meets the card that was last served on the port, within the re-serve interval (R319). -/
def State.servedBefore (s : State) (h : Nat) : Bool :=
  let x := s.hf h
  let v := s.svc h
  let every := s.nat (0x2400 + h) 9
  v.poll && !v.card.random && decide (v.card.uid = x.lastUid) && decide (x.lastUid ≠ []) && (decide (every = 0) || decide (s.now < x.servedTick + sec every))

/-- Whether a port's detection source can tell when a card leaves: its capacitive channel stands detected, or a field ping
will see it (R319). -/
def State.cardSeen (s : State) (h : Nat) : Bool :=
  (bitOf (s.nat (0x2400 + h) 7) 0 && bitOf (s.nat 0x2500 25) h) || bitOf (s.nat (0x2400 + h) 7) 1

/-- The field of a port goes off and its service is over; a fixed UID is kept for R319. A poll that found no card, that was
pre-empted, or that skipped a card served before is no service of a card. -/
def State.closeField (s : State) (h : Nat) : State :=
  let v := s.svc h
  let live := (s.hf h).service.isSome
  let ran := v.card.found && v.matched && decide (v.phase ≠ 4)
  let served := live && (!v.poll || ran)
  let counted := live && (!v.poll || (v.card.found && decide (v.phase ≠ 4) && (v.matched || !s.servedBefore h)))
  let s1 : State := { s with hfTx := s.hfTx.map (fun t => if t = some h then none else t) }
  let s2 := s1.modHf h (fun x => { x with
    service := none
    isPresent := x.isPresent || (v.poll && served && s.cardSeen h)
    servedTick := if served then s.now else x.servedTick
    lastUid := if live && ran && !v.card.random then v.card.uid else x.lastUid })
  (if counted then s2.count (0x2400 + h) 17 else s2).set (0x2400 + h) 15 0xFF

/-- A service ends after its last plan: it leaves the card, and the field goes off (Table 9, R314). ISO/IEC 15693 needs no
frame for it. -/
def State.endService (s : State) (h : Nat) : State :=
  let v := s.svc h
  if v.leave.isEmpty ∨ v.proto = 3 then s.closeField h
  else s.modSvc h (fun v => { v with phase := 3, due := v.leave, waiting := false, retries := 0 })

/-- A service is cut: the step in progress is reported with a status, and the field goes off (R301, R310). -/
def State.cutService (s : State) (h status : Nat) : State :=
  match (s.hf h).service with
  | none => s
  | some v =>
    let s1 := if v.plan.isSome then s.sendCard h 17 (v.step + 1) status [] [] else s
    (s1.planEnd h false).closeField h

/-- Whether the selector of a plan matches the card. A Type B or ISO/IEC 15693 selector has matched by the AFI that the
activation sent, or by a plan that asks for none. -/
def State.selectorMatches (s : State) (h p : Nat) : Bool :=
  let v := s.svc h
  let a := s.selector p
  if v.proto = 1 then
    let m := slice a 2 2
    let want := slice a 0 2
    decide (byteAt v.card.atqa 0 &&& byteAt m 0 = byteAt want 0 &&& byteAt m 0) &&
    decide (byteAt v.card.atqa 1 &&& byteAt m 1 = byteAt want 1 &&& byteAt m 1) &&
    decide (v.card.param &&& byteAt a 5 = byteAt a 4 &&& byteAt a 5)
  else
    let first := s.selector (v.left.head?.getD p)
    if v.proto = 2 then decide (byteAt a 0 = 0) || decide (byteAt a 0 = byteAt first 0)
    else decide (byteAt a 1 = 0) || decide (slice a 0 2 = slice first 0 2)

/-- The next plan that matches meets a freshly activated card; where none is left the service ends (R314). -/
def State.nextCardPlan (s : State) (h : Nat) : State :=
  let v := s.svc h
  if !v.left.any (fun p => s.selectorMatches h p) then s.endService h
  else s.modSvc h (fun v => { v with due := v.leave ++ ({ v with again := true } : HfService).activate, again := true, waiting := false, retries := 0 })

/-! ### Strikes (R317, R318) -/

/-- A strike of a plan: the timer's output is driven and event 0x4008 raised; a timer that its owner no longer holds is
left alone. -/
def State.strike (s : State) (h p : Nat) (b : List Byte) : State :=
  let n := byteAt b 12
  let len := fieldAt b 14 2
  if (s.timer n).holder ≠ s.cardObj p 1 then s
  else
    let r := s.strikeTimer n len
    (r.2.count (0x3400 + p) 32).raise 0x4008 ([h, p, n, if r.1 then 1 else 2] ++ dU 2 (satTo 65535 (len / 100))) (withSlate (s.cardObj p 1))

/-! ### Steps (R306, R313) -/

/-- Begin the step a plan has come to; strikes act at once, a step of kind 0 or the end of the list completes the plan.
The fuel is the number of steps. -/
def State.runStep (s : State) (h : Nat) : Nat → State
  | 0 => s
  | fuel + 1 =>
    let v := s.svc h
    match v.plan with
    | none => s
    | some p =>
      let b := s.cardStep p v.step
      let kind := byteAt b 0
      if kind = 1 then
        s.modSvc h (fun v => { v with due := [{ code := 13, arg := 0 }], out := stepCommand b, resp := [], stepTick := s.now, retries := 0, waiting := false })
      else if kind = 2 then
        s.modSvc h (fun v => { v with due := [{ code := frameOfCode (byteAt b 16), arg := 0 }], resp := [], stepTick := s.now, retries := 0, waiting := false })
      else if kind = 3 then
        let s1 := s.strike h p b
        let s2 := if bitOf (byteAt b 1) 0 then s1.sendCard h 17 (v.step + 1) 0 [] [] else s1
        (s2.modSvc h (fun v => { v with step := v.step + 1 })).runStep h fuel
      else (s.planEnd h (!v.failed)).endService h

/-- A step ends with a status: it is reported where it asks for it or did not match, and its on-mismatch byte decides
what follows (R313, R329). -/
def State.stepEnds (s : State) (h status : Nat) (received data : List Byte) : State :=
  let v := s.svc h
  match v.plan with
  | none => s.endService h
  | some p =>
    let b := s.cardStep p v.step
    let s0 := s.modSvc h (fun v => { v with identity := decide (status = 0) && bitOf (byteAt b 1) 1 })
    let s1 := (if status ≠ 0 ∨ bitOf (byteAt b 1) 0 then s0.sendCard h 17 (v.step + 1) status received data else s0).modSvc h (fun v => { v with
      identity := false })
    let s2 := if status ≠ 0 then s1.modSvc h (fun v => { v with failed := true }) else s1
    if status = 0 ∨ byteAt b 2 = 2 then (s2.modSvc h (fun v => { v with step := v.step + 1 })).runStep h 17
    else if byteAt b 2 = 1 then (s2.planEnd h false).nextCardPlan h
    else (s2.planEnd h false).endService h

/-- Compare a received status with the step's under its mask; a reply that comes after the step timeout, or a timed reply over its
limit, does not match either (R313). -/
def State.stepStatus (s : State) (h : Nat) (excess : Bool) (received : List Byte) : Nat :=
  match (s.svc h).plan with
  | none => 0
  | some p =>
    let b := s.cardStep p (s.svc h).step
    let m := slice b 6 2
    let same := fun (i : Nat) => decide (byteAt received i &&& byteAt m i = byteAt (slice b 4 2) i &&& byteAt m i)
    if (s.svc h).stepTick + ms (fieldAt b 10 2) < s.now then 6 else if excess then 7 else if same 0 && same 1 then 0 else 1

/-! ### Plans (R314–R316) -/

/-- A plan runs on the card: its credits are taken, its identification reported, layer 4 activated where it asks for it
(R305, R314, R315). -/
def State.beginPlan (s : State) (h p : Nat) (left : List Nat) (credits : Nat) : State :=
  let s1 := (s.count (0x3400 + p) 30).modSvc h (fun v => { v with
    plan := some p, left := left, matched := true, credits := credits, planTick := s.now, stepTick := s.now, step := 0,
    failed := false, card := { v.card with rate := 0 } })
  let s2 := if s.cardObj p 10 = 1 then s1.sendCard h 16 0 0 [] [] else s1
  if (s.svc h).proto ≠ 3 ∧ s.cardObj p 9 = 1 then
    s2.modSvc h (fun v => { v with
      due := [{ code := if v.proto = 1 then 11 else 9, arg := 0 }], retries := 0
      card := { v.card with rate := if v.proto = 2 then bestRate v.card.rates (s.cardObj p 6) else 0, block := 0 } })
  else s2.runStep h 17

/-- The plans left for the card, in order: the first whose selector matches and whose credits are granted runs; a plan
refused its credits is skipped with event 0x400A; a card that none matches is not reported (R314–R316). -/
def State.tryPlans (s : State) (h : Nat) : List Nat → State
  | [] =>
    if (s.svc h).matched then s.endService h
    else (s.raise 0x4006 [h, (s.svc h).proto] (s.reachHf h) (perMinute h)).endService h
  | p :: r =>
    if s.selectorMatches h p then
      let n := s.cardCredits p
      let c := s.takeCredit (s.cardObj p 1) n
      if c.1 then (c.2.settle).beginPlan h p r n
      else State.tryPlans (((c.2.count (0x2400 + h) 20).raise 0x400A [h, p] (withSlate (s.cardObj p 1)) (perMinute h)).modSvc h (fun v => { v with matched := true })) h r
    else State.tryPlans s h r

/-- The card is known: activation to layer 3 is complete, and the plans are tried (R307, R308, R314, R319). -/
def State.identified (s : State) (h : Nat) : State :=
  let s1 := s.modCard h (fun k => { k with found := true })
  if s1.servedBefore h then (s1.modHf h (fun x => { x with skips := x.skips + 1 })).endService h else s1.tryPlans h (s1.svc h).left

/-- Whether a poll of a port is still inside its window (R321). -/
def State.pollWindow (s : State) (h : Nat) : Bool :=
  let e := s.entryNow
  s.windowsOpen && decide (entryKind e = 3) && entryHas e h && decide (entryShade e = (s.hf h).pollShade)

/-- No card answers under the protocol: a poll goes on with its next protocol and its own guard while its window lasts;
otherwise the service ends, and a poll that found no card lets the last one be served again (R319, R321). -/
def State.noCardHere (s : State) (h : Nat) : State :=
  let v := s.svc h
  if v.again then s.closeField h
  else match v.protos with
  | p :: r =>
    if v.poll && !s.pollWindow h then s.closeField h
    else s.modSvc h (fun v => { v with
      proto := p, protos := r, phase := 1, onTick := s.now, due := [], waiting := false, card := noCard
      left := (s.cardPlans h true v.shade).filter (fun n => decide (s.cardObj n 5 = p)) })
  | [] =>
    let s1 := if v.poll then s.modHf h (fun x => { x with lastUid := [] }) else s
    s1.closeField h

/-! ### The start of a service (R295, R296, R314, R321) -/

/-- A request for a service waits for a transmitter from its detection on; a detection takes the place of a poll. -/
def State.requestService (s : State) (h : Nat) (poll : Bool) (shade : Nat) : State :=
  s.modHf h (fun x => { x with
    request := match x.request with
      | some (t, false) => some (t, false)
      | some (t, true) => some (if poll then t else s.now, poll)
      | none => some (s.now, poll)
    pollShade := if poll then shade else x.pollShade })

/-- A port that polls on a transmitter, for a detection to pre-empt: with both transmitters polling, that of HTX0 (log entry 115). -/
def State.pollOn (s : State) : Option Nat := (s.hfTx.filterMap id).find? (fun h => (s.svc h).poll)

/-- A poll gives way to a detection at a tick: after the frame exchange in progress and within 2 ms of the detection, without HLTA or
DESELECT, with event 0x4009 (R33, R296). -/
def State.preempt (s : State) (h by' since : Nat) : State :=
  let v := s.svc h
  if v.phase = 4 then (if v.endBy ≤ s.now then (s.planEnd h false).closeField h else s)
  else
    let s1 := (s.count (0x2400 + h) 19).raise 0x4009 [h, by', v.tx] (s.reachHf h) (perMinute h)
    let s2 := s1.modSvc h (fun v => { v with phase := 4, due := [], endBy := since + ms 2 })
    if v.waiting && decide (s.now < since + ms 2) then s2 else (s2.planEnd h false).closeField h

/-- A service takes a transmitter: the path is switched, and the field rises (R295, R296). -/
def State.takeTx (s : State) (h t since : Nat) (poll : Bool) : State :=
  let shade := (s.hf h).pollShade
  let plans := s.cardPlans h poll shade
  let protos := if poll then [1, 2, 3].filter (fun p => plans.any (fun n => decide (s.cardObj n 5 = p)))
    else (plans.head?.toList).map (fun n => s.cardObj n 5)
  match protos with
  | [] => s.modHf h (fun x => { x with request := none })
  | p :: r =>
    let s1 : State := { s with hfTx := tmod s.hfTx t (fun _ => some h) }
    let s2 := (s1.modHf h (fun x => { x with
      request := none
      isPresent := if poll then x.isPresent else s.cardSeen h
      service := some { newService with
        poll := poll, tx := t, onTick := s.now + us 20, shade := shade, proto := p, protos := r,
        left := plans.filter (fun n => decide (s.cardObj n 5 = p)), drive := s.fieldPower h } })).set (0x2400 + h) 15 t
    let wait := (s.now - since) / 122880
    if 50 < wait then s2.raise 0x4005 ([h] ++ dU 2 (satTo 65535 wait)) (s.reachHf h) (perMinute h) else s2

/-- Whether no other request comes first: a detection's before a poll's, and among equals the one that has waited longer
(R296). -/
def State.firstInLine (s : State) (h since : Nat) (poll : Bool) : Bool :=
  (List.range 8).all (fun g => match (s.hf g).request with
    | some (t, other) => decide (g = h) || !s.mayField g || (other && !poll) ||
        ((other || !poll) && (decide (since < t) || (decide (since = t) && decide (h ≤ g))))
    | none => true)

/-- A request takes the lower-numbered free transmitter; a detection pre-empts a poll of its own port, or, with both
transmitters busy, of another (R296). On the way to deep standby only services in progress go on (R615). -/
def State.serviceStart (s : State) (h : Nat) : State :=
  match (s.hf h).request with
  | none => s
  | some (since, poll) =>
    if !s.mayField h || s.power.rfPending || decide (s.power.mode = 2) || decide (s.power.modeDue = some 2) then s
    else if (s.hf h).service.isSome then
      if !poll && (s.svc h).poll then
        let s1 := s.preempt h h since
        match s1.freeTx with
        | some t => if (s1.hf h).service.isNone && s1.firstInLine h since poll then s1.takeTx h t since poll else s1
        | none => s1
      else s
    else if poll && !s.pollWindow h then s.modHf h (fun x => { x with request := none })
    else match s.freeTx with
    | some t => if s.firstInLine h since poll then s.takeTx h t since poll else s
    | none =>
      if poll || !s.firstInLine h since poll then s
      else match s.pollOn with
      | none => s
      | some g =>
        let s1 := s.preempt g h since
        match s1.freeTx with
        | some t => s1.takeTx h t since poll
        | none => s1

/-- `HF_SERVICE_START`: of a port. -/
def execHfServiceStart (t port : Nat) (s : State) : Out := .next ((s.at t).serviceStart port)

/-- Whether a port's field is a poll's that has found no card and whose window is over (R66, R67, R321). -/
def State.pollOver (s : State) (h : Nat) : Bool :=
  (s.hf h).service.isSome && (s.svc h).poll && !(s.svc h).card.found && !s.pollWindow h

/-- A poll outside its window ends: after the frame exchange in progress, else at once (R66, R67). -/
def State.endPoll (s : State) (h : Nat) : State :=
  if s.pollOver h = false then s
  else if (s.svc h).waiting then s.modSvc h (fun v => { v with phase := 4, due := [], endBy := s.now + ms 2 })
  else s.closeField h

/-- The guard time after the field at power is over: the first card command falls due (R328). A poll whose window is over ends
instead (R67). -/
def State.guardExpired (s : State) (h : Nat) : State :=
  let v := s.svc h
  if s.pollOver h then s.endPoll h
  else if (s.hf h).service.isSome ∧ v.phase = 1 ∧ v.onTick + us (s.nat (0x2400 + h) 8) ≤ s.now then
    s.modSvc h (fun v => { v with phase := 2, due := v.activate, earliest := s.now })
  else s

/-- `GUARD_TIME_EXPIRY`: of a port. -/
def execGuardTimeExpiry (t port : Nat) (s : State) : Out := .next ((s.at t).guardExpired port)

end Sys2Proof.Machine
end

