-- ==== Sys2Proof/Machine/HfCards.lean ====
section
/-! DEFINITION. The card frames that a service sends and the replies it receives: activation, collisions, layer 4 blocks,
ISO/IEC 15693 commands, reply timing and the relay flag (chapter 9, R304–R313; log entries 23 and 26). -/

namespace Sys2Proof.Machine

/-! ### Sending (R304, R306) -/

/-- Whether a frame begins an activation, and so forgets the card before it. -/
def HfCmd.begins (c : HfCmd) (inPlan : Bool) : Bool :=
  decide (c.code = 1) || decide (c.code = 2) || decide (c.code = 6) || (decide (c.code = 7) && decide (c.arg = 1)) ||
  (decide (c.code = 18) && decide (c.arg = 1) && !inPlan)

/-- The card as a frame leaves it. -/
def HfService.cardAfter (v : HfService) (c : HfCmd) : HfCard :=
  if c.begins v.plan.isSome then { noCard with more := v.card.more }
  else if c.code = 7 then { v.card with level := c.arg }
  else if c.code = 18 then { v.card with block := 0 }
  else v.card

/-- Whether a service has a frame of a code due now. -/
def State.cardDue (s : State) (h code : Nat) : Bool :=
  let v := s.svc h
  (s.hf h).service.isSome && (decide (v.phase = 2) || decide (v.phase = 3)) && !v.waiting && decide (v.earliest ≤ s.now) &&
    (match v.due with
     | c :: _ => decide (c.code = code)
     | [] => false)

/-- What follows a frame that draws no reply, or the reply of a frame that leaves the card: the field goes off when
nothing is due any more in the end of a service (Table 9, R314). -/
def State.afterLeave (s : State) (h : Nat) : State :=
  let v := s.svc h
  if v.phase = 3 ∧ v.due = [] then s.closeField h else s

/-- A card frame is sent: the frame that is due, where its code is the one commanded. A port whose field management
forbids is cut instead, and a poll whose window is over ends (R67, R301, R306). -/
def State.hfSend (s : State) (h code : Nat) : State :=
  if !s.cardDue h code then s
  else if s.pollOver h then s.endPoll h
  else if s.hfForbidden h then s.cutService h 5
  else
    let v := s.svc h
    let c := v.due.head?.getD { code := 0, arg := 0 }
    let stop := s.now + s.hfDuration h c
    let s1 := s.modSvc h (fun v => { v with
      due := v.due.drop 1, sent := c, sentTick := s.now, sentEnd := stop, waiting := !c.silent
      lastBit := s.lastBit h c, earliest := stop + cycles 1172, card := v.cardAfter c, frozen := [] })
    if c.code = 19 then s1.stepEnds h 0 [] []
    else if c.code = 5 then s1.afterLeave h
    else s1

/-! ### Reply timing and the relay flag (R309, R310) -/

/-- The delay after a grid point for the last bit sent. -/
def HfService.gridD (v : HfService) : Int := if v.lastBit then 84 else 20

/-- The grid position of a reply delay, the half rounded up; a reply before position 9 to a frame of no fixed position is classed by its
error alone (R309, Table 5; log entry 115). -/
def HfService.gridN (v : HfService) (fdt : Nat) : Int := ((fdt : Int) - v.gridD + 64).fdiv 128

/-- The grid error of a reply delay. -/
def HfService.gridE (v : HfService) (fdt : Nat) : Int := (fdt : Int) - (v.gridN fdt * 128 + v.gridD)

/-- Whether the reply to the frame sent is on the grid of Type A at 106 kbit/s. -/
def HfService.gridded (v : HfService) : Bool := decide (v.proto = 1) && decide (v.rateOf v.sent = 0)

/-- The bytes of the step a service is in. -/
def State.stepBytes (s : State) (h : Nat) : List Byte :=
  match (s.svc h).plan with
  | some p => s.cardStep p (s.svc h).step
  | none => zeros 64

/-- Whether the frame sent carries the step of a plan. -/
def HfService.inStep (v : HfService) : Bool :=
  v.plan.isSome && decide (v.phase ≠ 3) && ((decide (13 ≤ v.sent.code) && decide (v.sent.code ≤ 16)) || decide (18 ≤ v.sent.code))

/-- Whether a reply to a timed step starts over the step's limit (R313). -/
def State.overLimit (s : State) (h fdt : Nat) : Bool :=
  let v := s.svc h
  let b := s.stepBytes h
  v.inStep && bitOf (byteAt b 1) 2 &&
    (if v.gridded then decide ((fieldAt b 8 2 : Int) < v.gridN fdt) else decide (128 * fieldAt b 8 2 < fdt))

/-- The class of a reply: whether it is a relay suspect (Table 5). -/
def State.suspect (s : State) (h fdt : Nat) : Bool :=
  let v := s.svc h
  let tol := s.nat (0x2400 + h) 10
  s.overLimit h fdt ||
    (if v.gridded then
      decide (tol < (v.gridE fdt).natAbs) || (decide (1 ≤ v.sent.code) && decide (v.sent.code ≤ 4) && decide (v.gridN fdt ≠ 9))
    else decide (v.proto = 3) && decide (s.nat (0x2400 + h) 11 < ((fdt : Int) - 4352).natAbs))

/-- A relay-suspect reply: the flag, the counter and event 0x4004 (R310). -/
def State.flagRelay (s : State) (h fdt : Nat) : State :=
  let v := s.svc h
  let n := if v.gridded then satTo 255 (v.gridN fdt).toNat else 0
  let e := if v.gridded then v.gridE fdt else 0
  ((s.modSvc h (fun v => { v with relay := true })).count (0x2400 + h) 18).raise 0x4004 ([h, v.planByte, v.proto, n] ++ dI 2 e) (s.cardReach h)

/-- The Lantern record of a card reply (Table 12 of chapter 19). -/
def State.traceCard (s : State) (h status : Nat) : State :=
  let v := s.svc h
  s.lanternPush 7 ([h, v.proto] ++ dU 2 (satTo 0xFFFF v.fdt) ++ dI 2 v.grid ++ [status])

/-- A reply ends the step with a status. -/
def State.replyEnds (s : State) (h status : Nat) (received data : List Byte) : State :=
  (s.traceCard h status).stepEnds h status received data

/-! ### What follows a missing or invalid reply (R306, R307) -/

/-- A frame falls due. -/
def State.dueCard (s : State) (h code arg : Nat) : State :=
  s.modSvc h (fun v => { v with due := { code := code, arg := arg } :: v.due })

/-- A block without a valid reply is repeated, with R(NAK) or with the same R(ACK), at most twice; then the card counts
as lost (R306). -/
def State.retryBlock (s : State) (h : Nat) : State :=
  let v := s.svc h
  if v.retries < 2 then
    (s.modSvc h (fun v => { v with retries := v.retries + 1 })).dueCard h (if v.sent.code = 14 then 14 else 15) 0
  else (s.cardError h 4).stepEnds h 2 [] []

/-- The next slot of a Type B anticollision; after the last of 4 slots WUPB with N = 16, after the last of 16 no card is
singulated (R307). -/
def State.nextSlotB (s : State) (h : Nat) : State :=
  let v := s.svc h
  let slot := if v.sent.code = 8 then v.sent.arg else 1
  if slot < v.card.level then s.dueCard h 8 (slot + 1)
  else if v.card.level = 4 then s.dueCard h 7 16
  else s.noCardHere h

/-- The next slot of a 16-slot Inventory. -/
def State.nextSlotV (s : State) (h : Nat) : State :=
  if (s.svc h).card.block < 15 then
    s.modSvc h (fun v => { v with waiting := true, sentEnd := s.now, card := { v.card with block := v.card.block + 1 } })
  else s.noCardHere h

/-- No valid reply has come to the frame sent. -/
def State.replyMissing (s : State) (h : Nat) : State :=
  let v := s.svc h
  match v.sent.code with
  | 7 => if v.card.level = 1 then s.noCardHere h else s.nextSlotB h
  | 8 => s.nextSlotB h
  | 9 | 11 | 12 => s.stepEnds h 2 [] []
  | 10 | 17 => s.afterLeave h
  | 13 | 14 | 15 | 16 => s.retryBlock h
  | 18 => if v.inStep then s.stepEnds h 2 [] [] else if v.sent.arg = 16 then s.nextSlotV h else s.noCardHere h
  | 21 => if v.inStep then s.stepEnds h 2 [] [] else s.afterLeave h
  | 20 | 22 | 23 | 24 | 25 => s.stepEnds h 2 [] []
  | _ => s.noCardHere h

/-- A reply with a bad check value or framing: event 0x4007, then as a missing reply; an ISO/IEC 15693 step and the
activation to layer 4 end with a protocol error (R313, R330). -/
def State.replyBad (s : State) (h why : Nat) : State :=
  let s1 := s.cardError h why
  let c := (s.svc h).sent.code
  if c = 9 ∨ c = 11 ∨ c = 12 ∨ (18 ≤ c ∧ (s.svc h).inStep = true) then s1.replyEnds h 3 [] [] else s1.replyMissing h

/-! ### Activation (R305, R307, R308) -/

/-- The bytes of a reply before its check value, where that is right. -/
def checked (proto : Nat) (d : List Byte) : Option (List Byte) :=
  let n := d.length - 2
  if 3 ≤ d.length ∧ d.drop n = le 2 (crcBytes (if proto = 1 then 2 else 3) (d.take n)) then some (d.take n) else none

/-- ATQA: anticollision begins at cascade level 1. -/
def State.gotAtqa (s : State) (h : Nat) (r : CardReply) : State :=
  if r.data.length ≠ 2 then s.replyBad h 2
  else (s.modCard h (fun k => { k with atqa := r.data, level := 1, known := [], more := k.more || r.collision.isSome })).dueCard h 3 0

/-- The bits of bytes in air order. -/
def airBits (d : List Byte) : List Bool := d.flatMap (fun b => (List.range 8).map (fun i => b.toNat.testBit i))

/-- A UID part: at a collision the module goes on with 1 at the first colliding position; the whole part is selected
(R307). -/
def State.gotPart (s : State) (h : Nat) (r : CardReply) : State :=
  let k := (s.svc h).card
  if r.data.length ≠ 5 then s.replyBad h 2
  else match r.collision with
  | some p =>
    if p < k.known.length ∨ 32 ≤ p then s.replyBad h 2
    else (s.modCard h (fun k => { k with known := (airBits r.data).take p ++ [true], more := true })).dueCard h 3 0
  | none =>
    if bccOf r.data ≠ 0#8 then s.replyBad h 1
    else (s.modCard h (fun k => { k with known := airBits (r.data.take 4) })).dueCard h 4 0

/-- SAK: the cascade bit leads to the next level; otherwise the card is known (R307, R308). -/
def State.gotSak (s : State) (h : Nat) (p : List Byte) : State :=
  let k := (s.svc h).card
  let part := bytesLsb 4 k.known
  if bitOf (byteAt p 0) 2 then
    if k.level < 3 then
      (s.modCard h (fun k => { k with uid := k.uid ++ part.drop 1, level := k.level + 1, known := [] })).dueCard h 3 0
    else (s.cardError h 2).noCardHere h
  else
    let uid := k.uid ++ part
    (s.modCard h (fun k => { k with
      uid := uid, param := byteAt p 0, random := decide (uid.length = 4) && decide (byteAt uid 0 = 8) })).identified h

/-- ATQB: PUPI, application data and protocol information (R307, R308). -/
def State.gotAtqb (s : State) (h : Nat) (p : List Byte) : State :=
  if p.length ≠ 12 ∨ byteAt p 0 ≠ 0x50 then s.replyBad h 2
  else
    (s.modCard h (fun k => { k with
      uid := slice p 1 4, random := true, atqa := slice p 9 2, rates := byteAt p 9, fsc := fscOf (byteAt p 10 / 16)
      fwi := if byteAt p 11 / 16 = 15 then 4 else byteAt p 11 / 16 })).identified h
where
  /-- The frame size of a code. -/
  fscOf (c : Nat) : Nat := [16, 24, 32, 40, 48, 64, 96, 128].getD c 256

/-- Layer 4 begins: the first step of the plan runs. -/
def State.layer4 (s : State) (h : Nat) : State := (s.modCard h (fun k => { k with layer4 := true, block := 0 })).runStep h 17

/-- ATS: frame size, rates, waiting and guard times; the rate is raised with PPS only where TA permits it (R305, R306). -/
def State.gotAts (s : State) (h : Nat) (p : List Byte) : State :=
  let t0 := if 1 < byteAt p 0 then byteAt p 1 else 0x02
  let ta := if bitOf t0 4 then byteAt p 2 else 0
  let tb := if bitOf t0 5 then byteAt p (2 + b01 (bitOf t0 4)) else 0x40
  let sfgi := if tb % 16 = 15 then 0 else tb % 16
  let top := match (s.svc h).plan with
    | some pl => s.cardObj pl 6
    | none => 0
  let rate := bestRate ta top
  let s1 := (s.modSvc h (fun v => { v with earliest := peak v.earliest (s.now + (if sfgi = 0 then 0 else cycles (4096 * 2 ^ sfgi))) })).modCard h
    (fun k => { k with
      fsc := State.gotAtqb.fscOf (t0 % 16), fwi := if tb / 16 = 15 then 4 else tb / 16, rate := rate, layer4 := true })
  if rate = 0 then s1.layer4 h else s1.dueCard h 12 0

/-- An Inventory reply: flags, DSFID and UID. -/
def State.gotInventory (s : State) (h : Nat) (p : List Byte) : State :=
  if p.length ≠ 10 then s.replyBad h 2
  else (s.modCard h (fun k => { k with uid := slice p 2 8, param := byteAt p 1 })).identified h

/-! ### Blocks and ISO/IEC 15693 steps (R306, R313) -/

/-- The reply of an APDU is complete: SW1 and SW2 are compared. -/
def State.gotApdu (s : State) (h : Nat) : State :=
  let d := (s.svc h).resp
  let n := d.length - 2
  if d.length < 2 then (s.cardError h 3).replyEnds h 3 [] []
  else s.replyEnds h (s.stepStatus h (s.overLimit h (s.svc h).fdt) (d.drop n)) (d.drop n) (d.take n)

/-- A block of ISO/IEC 14443-4: an I-block, R(ACK), S(WTX) or an error of the block protocol. -/
def State.gotBlock (s : State) (h : Nat) (p : List Byte) : State :=
  let v := s.svc h
  let pcb := byteAt p 0
  let mine := decide (pcb % 2 = v.card.block)
  let sending := decide (v.chunk < v.out.length)
  if (pcb = 0x02 ∨ pcb = 0x03 ∨ pcb = 0x12 ∨ pcb = 0x13) ∧ mine = true ∧ sending = false then
    let s1 := (s.modSvc h (fun v => { v with resp := v.resp ++ p.drop 1, retries := 0 })).modCard h (fun k => { k with block := 1 - k.block })
    if bitOf pcb 4 then (s1.traceCard h 0).dueCard h 14 0 else s1.gotApdu h
  else if (pcb = 0xA2 ∨ pcb = 0xA3) ∧ mine = true ∧ sending = true then
    (((s.traceCard h 0).modSvc h (fun v => { v with out := v.out.drop v.chunk, retries := 0 })).modCard h
      (fun k => { k with block := 1 - k.block })).dueCard h 13 0
  else if (pcb = 0xA2 ∨ pcb = 0xA3) ∧ mine = false ∧ v.resp = [] ∧ v.retries < 2 then
    ((s.traceCard h 0).modSvc h (fun v => { v with retries := v.retries + 1 })).dueCard h 13 0
  else if pcb = 0xF2 ∧ byteAt p 1 % 64 ≠ 0 then (s.traceCard h 0).dueCard h 16 (byteAt p 1 % 64)
  else (s.cardError h 3).replyEnds h 3 [] []

/-- The reply to an ISO/IEC 15693 command of a step: flags, an error code where they show an error, and data. -/
def State.gotStep (s : State) (h : Nat) (p : List Byte) : State :=
  let bad := bitOf (byteAt p 0) 0
  let received := [byte (byteAt p 0), byte (if bad then byteAt p 1 else 0)]
  s.replyEnds h (s.stepStatus h (s.overLimit h (s.svc h).fdt) received) received (p.drop (if bad then 2 else 1))

/-! ### The reply (R306–R310, R313) -/

/-- A collision of whole frames: WUPB with N = 4 and then N = 16, or a 16-slot Inventory (R307). -/
def State.collided (s : State) (h : Nat) : State :=
  let v := s.svc h
  let s1 := s.modCard h (fun k => { k with more := true })
  match v.sent.code with
  | 6 => s1.dueCard h 7 4
  | 7 => if v.card.level = 1 then s1.dueCard h 7 4 else s1.nextSlotB h
  | 8 => s1.nextSlotB h
  | 18 => if v.inStep then s1.replyBad h 2 else if v.sent.arg = 16 then s1.nextSlotV h else s1.dueCard h 18 16
  | _ => s1.replyBad h 2

/-- A reply is handed to what its frame expects. -/
def State.received (s : State) (h : Nat) (r : CardReply) : State :=
  let v := s.svc h
  let c := v.sent.code
  if r.framing then s.replyBad h 2
  else if c = 1 ∨ c = 2 then (s.traceCard h 0).gotAtqa h r
  else if c = 3 then (s.traceCard h 0).gotPart h r
  else if r.collision.isSome then s.collided h
  else match checked v.proto r.data with
  | none => s.replyBad h 1
  | some p =>
    if 13 ≤ c ∧ c ≤ 16 then s.gotBlock h p
    else if v.inStep then s.gotStep h p
    else
      let s1 := s.traceCard h 0
      if c = 4 then s1.gotSak h p
      else if c = 6 ∨ c = 7 ∨ c = 8 then s1.gotAtqb h p
      else if c = 9 then (s1.modCard h (fun k => { k with param := byteAt p 0 })).layer4 h
      else if c = 11 then s1.gotAts h p
      else if c = 12 then (if byteAt p 0 = 0xD0 then s1.layer4 h else s1.replyBad h 2)
      else if c = 18 then s1.gotInventory h p
      else s1.afterLeave h

/-- A card reply: timed on the grid, classed, and handled by what was sent. A reply of ISO/IEC 15693 outside 4320–4384
cycles is not accepted (R309). -/
def State.cardReply (s : State) (h : Nat) (r : CardReply) : State :=
  let v := s.svc h
  if !(v.waiting && decide ((s.hf h).service.isSome)) then s
  else if v.proto = 3 ∧ (r.fdt < 4320 ∨ 4384 < r.fdt) then s
  else
    let s1 := s.modSvc h (fun v => { v with
      waiting := false, earliest := s.now + cycles 1172
      fdt := if v.sent.code = 14 then v.fdt else r.fdt
      grid := if v.sent.code = 14 then v.grid else if v.gridded then v.gridE r.fdt else 0 })
    let bad := s.suspect h r.fdt
    let s2 := if bad then s1.flagRelay h r.fdt else s1
    if bad ∧ s.nat (0x2400 + h) 12 = 1 then
      let s3 := s2.traceCard h 4
      ((if v.plan.isSome then s3.sendCard h 17 (v.step + 1) 4 [] [] else s3).planEnd h false).closeField h
    else if v.phase = 4 then (s2.planEnd h false).closeField h
    else if s.hfForbidden h then s2.cutService h 5
    else s2.received h r

/-- What a frame exchange of a service does at its end, under the values that it started with (R46). -/
def State.underOldHf (s : State) (h : Nat) (f : State → State) : State :=
  let old := (s.svc h).frozen
  if old.isEmpty then f s
  else
    let s1 := (f (s.overlay old)).dictAs s old
    if (s1.svc h).waiting then s1 else s1.modSvc h (fun v => { v with frozen := [] })

/-- `CARD_REPLY`: what the receiver decodes on a port. -/
def execCardReply (t port : Nat) (reply : CardReply) (s : State) : Out := .next ((s.at t).underOldHf port (·.cardReply port reply))

/-- The wait for a reply is over, for a pre-empted poll at the latest 2 ms after its pre-emption (R33, R306). -/
def State.cardTimeout (s : State) (h : Nat) : State :=
  let v := s.svc h
  if (s.hf h).service.isSome ∧ v.waiting ∧ (v.sentEnd + cycles v.waitCycles ≤ s.now ∨ (v.phase = 4 ∧ v.endBy ≤ s.now)) then
    let s1 := s.modSvc h (fun v => { v with waiting := false })
    if v.phase = 4 then (s1.planEnd h false).closeField h
    else if s.hfForbidden h then s1.cutService h 5
    else s1.replyMissing h
  else s

/-- `CARD_REPLY_TIMEOUT`: of a port. -/
def execCardReplyTimeout (t port : Nat) (s : State) : Out := .next ((s.at t).underOldHf port (·.cardTimeout port))

/-- A step that runs past its timeout ends with status 6; past its plan's time limit the plan and the service end
(R313, Table 6). -/
def State.stepTimeout (s : State) (h : Nat) : State :=
  let v := s.svc h
  match v.plan with
  | none => s
  | some p =>
    let code := (v.due.head?.getD v.sent).code
    let idle := s.modSvc h (fun v => { v with waiting := false, due := [] })
    if v.planTick + ms (s.cardObj p 11) ≤ s.now then
      ((idle.sendCard h 17 (v.step + 1) 6 [] []).planEnd h false).endService h
    else if 13 ≤ code ∧ v.stepTick + ms (fieldAt (s.cardStep p v.step) 10 2) ≤ s.now then idle.stepEnds h 6 [] []
    else s

/-- `STEP_TIMEOUT`: of a port. -/
def execStepTimeout (t port : Nat) (s : State) : Out := .next ((s.at t).underOldHf port (·.stepTimeout port))

/-! ### The frames of Table 4 -/

/-- `REQA`. -/
def execReqa (t port : Nat) (s : State) : Out := .next ((s.at t).hfSend port 1)

/-- `WUPA`. -/
def execWupa (t port : Nat) (s : State) : Out := .next ((s.at t).hfSend port 2)

/-- `ANTICOLLISION`: at the cascade level and with the bits known. -/
def execAnticollision (t port : Nat) (s : State) : Out := .next ((s.at t).hfSend port 3)

/-- `SELECT_TYPE_A`. -/
def execSelectTypeA (t port : Nat) (s : State) : Out := .next ((s.at t).hfSend port 4)

/-- `HLTA`. -/
def execHlta (t port : Nat) (s : State) : Out := .next ((s.at t).hfSend port 5)

/-- `REQB`. -/
def execReqb (t port : Nat) (s : State) : Out := .next ((s.at t).hfSend port 6)

/-- `WUPB`. -/
def execWupb (t port : Nat) (s : State) : Out := .next ((s.at t).hfSend port 7)

/-- `SLOT_MARKER`. -/
def execSlotMarker (t port : Nat) (s : State) : Out := .next ((s.at t).hfSend port 8)

/-- `ATTRIB`. -/
def execAttrib (t port : Nat) (s : State) : Out := .next ((s.at t).hfSend port 9)

/-- `HLTB`. -/
def execHltb (t port : Nat) (s : State) : Out := .next ((s.at t).hfSend port 10)

/-- `RATS`. -/
def execRats (t port : Nat) (s : State) : Out := .next ((s.at t).hfSend port 11)

/-- `PPS`. -/
def execPps (t port : Nat) (s : State) : Out := .next ((s.at t).hfSend port 12)

/-- `I_BLOCK`. -/
def execIBlock (t port : Nat) (s : State) : Out := .next ((s.at t).hfSend port 13)

/-- `R_ACK`. -/
def execRAck (t port : Nat) (s : State) : Out := .next ((s.at t).hfSend port 14)

/-- `R_NAK`. -/
def execRNak (t port : Nat) (s : State) : Out := .next ((s.at t).hfSend port 15)

/-- `S_WTX`. -/
def execSWtx (t port : Nat) (s : State) : Out := .next ((s.at t).hfSend port 16)

/-- `S_DESELECT`. -/
def execSDeselect (t port : Nat) (s : State) : Out := .next ((s.at t).hfSend port 17)

/-- `INVENTORY`. -/
def execInventory (t port : Nat) (s : State) : Out := .next ((s.at t).hfSend port 18)

/-- `STAY_QUIET`. -/
def execStayQuiet (t port : Nat) (s : State) : Out := .next ((s.at t).hfSend port 19)

/-- `SELECT_15693`. -/
def execSelect15693 (t port : Nat) (s : State) : Out := .next ((s.at t).hfSend port 20)

/-- `RESET_TO_READY`. -/
def execResetToReady (t port : Nat) (s : State) : Out := .next ((s.at t).hfSend port 21)

/-- `READ_SINGLE_BLOCK`. -/
def execReadSingleBlock (t port : Nat) (s : State) : Out := .next ((s.at t).hfSend port 22)

/-- `READ_MULTIPLE_BLOCKS`. -/
def execReadMultipleBlocks (t port : Nat) (s : State) : Out := .next ((s.at t).hfSend port 23)

/-- `WRITE_SINGLE_BLOCK`. -/
def execWriteSingleBlock (t port : Nat) (s : State) : Out := .next ((s.at t).hfSend port 24)

/-- `GET_SYSTEM_INFORMATION`. -/
def execGetSystemInformation (t port : Nat) (s : State) : Out := .next ((s.at t).hfSend port 25)

end Sys2Proof.Machine
end

