-- ==== Sys2Proof/Machine/HfPorts.lean ====
section
/-! DEFINITION. HF ports beside their services: the field loop, faults and probes, field pings, the capacitive channels and
repeat suppression (chapter 9, R297–R302, R319–R326). -/

namespace Sys2Proof.Machine

/-- A run of steps that goes on or begins again. -/
def runOf (b : Bool) (n : Nat) : Nat := if b then n + 1 else 0

/-- Whether a card frame is being sent or received on a port (R298). -/
def State.frameNow (s : State) (h : Nat) : Bool := (s.svc h).waiting || decide (s.now < (s.svc h).sentEnd)

/-- The bound of a port's field loop: the ceiling of R297, or the driver's limit where that is lower. -/
def State.fieldBound (s : State) (limit : Nat) : Nat := if s.siteHf ≤ limit then s.siteHf else limit

/-- A step of the field loop, every 10 µs outside card frames: the power asked of the driver moves by what the delivered power lacks
and clamps at its bound; the 64th consecutive clamped step raises event 0x400B with 1 for the ceiling, 2 for the driver's limits
(R298, R39; log entry 114). -/
def State.fieldLoop (s : State) (h delivered limit : Nat) : State :=
  let v := s.svc h
  if (s.hf h).service.isNone || s.frameNow h || decide (s.now < v.onTick) || decide (s.now < v.loopTick + us 10) then s
  else
    let want := v.drive + s.fieldPower h - delivered
    let clamp := if want ≤ s.fieldBound limit then 0 else if s.siteHf ≤ limit then 1 else 2
    let n := runOf (decide (clamp ≠ 0)) (s.hf h).pinned
    let s1 := (s.modHf h (fun x => { x with
        pinned := n
        service := x.service.map (fun v => { v with drive := if clamp = 0 then want else s.fieldBound limit, loopTick := s.now }) })).set
      (0x2400 + h) 16 delivered
    let s1 := if clamp = 0 then s1 else s1.lanternLoop 7 h delivered (s.fieldPower h) n
    if n = 64 then s1.raise 0x400B ([h, clamp] ++ dU 2 delivered) (s1.reachHf h) (perMinute h) else s1

/-- `HF_FIELD_LOOP`: the delivered power, and what the driver at its limits can be asked for, in mW. -/
def execHfFieldLoop (t port delivered limit : Nat) (s : State) : Out := .next ((s.at t).fieldLoop port delivered limit)

/-- The cause of a fault that a driver current shows, per ten thousand of the matched value: 1 above 1.5 times, 2 below 0.4 times, 0
none (R299). -/
def currentCause (current : Nat) : Nat := if 15000 < current then 1 else if current < 4000 then 2 else 0

/-- A driver current above 1.5 times, or below 0.4 times, the matched value for 5 µs faults a port with its field on; the current has
been there since the tick given, and counts from when the field is on (R295, R299). -/
def State.hfFault (s : State) (h current since : Nat) : State :=
  let cause := currentCause current
  if cause = 0 ∨ (s.txOf h).isNone ∨ s.now < peak since (s.svc h).onTick + us 5 then s
  else
    let s1 := ((s.cutService h 2).set (0x2400 + h) 3 cause).setFlag (0x2400 + h) 4 false
    (s1.modHf h (fun x => { x with probeTick := s.now })).raise 0x4001 ([h, cause] ++ dU 2 (satTo 65535 current)) (s.reachHf h) (perMinute h)

/-- `HF_PORT_FAULT`: the driver current, and since when it has been there. -/
def execHfPortFault (t port : Nat) (current : Sustained) (s : State) : Out := .next ((s.at t).hfFault port current.value current.since)

/-- A probe of a faulted port, with a free transmitter, once every probe interval: a current between 0.6 and 1.3 times the
matched value clears the cause (R302). -/
def State.hfProbe (s : State) (h current : Nat) : State :=
  if s.hfActual h = 3 ∧ s.freeTx.isSome ∧ (s.hf h).probeTick + sec (s.nat (0x2400 + h) 14) ≤ s.now then
    let s1 := s.modHf h (fun x => { x with probeTick := s.now })
    if 6000 ≤ current ∧ current ≤ 13000 then
      (s1.setFlag (0x2400 + h) 4 true).raise 0x4002 [h, s.nat (0x2400 + h) 3] (s.reachHf h) (perMinute h)
    else s1
  else s

/-- `HF_PORT_PROBE`. -/
def execHfPortProbe (t port current : Nat) (s : State) : Out := .next ((s.at t).hfProbe port current)

/-- A re-armed HF port: fault and flag cleared, event 0x4003 (R302). -/
def State.hfReArm (s : State) (h : Nat) : State :=
  ((s.set (0x2400 + h) 3 0).setFlag (0x2400 + h) 4 false).raise 0x4003 [h] (s.reachHf h) (perMinute h)

/-! ### Detections (R319, R320, R322) -/

/-- Something is near a port: a service is requested, unless one that a detection began runs or the card served last is still
there (R296, R319). -/
def State.nearPort (s : State) (h : Nat) : State :=
  let x := s.hf h
  if (x.service.isSome && !(s.svc h).poll) || x.isPresent || !s.mayField h then s else s.requestService h false 0

/-- The card of a port has gone (R319). -/
def State.cardGone (s : State) (h : Nat) : State := s.modHf h (fun x => { x with isPresent := false })

/-- A field ping with the current it read: a change beyond the threshold is a detection, a smaller one moves the baseline
by 1/16 of the difference, rounded down (R320; log entry 67). The baseline is per ten thousand of the matched value. -/
def State.ping (s : State) (h current : Nat) : State :=
  let base := (s.hf h).baseline
  let diff : Int := (current : Int) - base
  if base * s.nat (0x2400 + h) 13 < 10000 * diff.natAbs then s.nearPort h
  else (s.cardGone h).modHf h (fun x => { x with baseline := ((base : Int) + diff.fdiv 16).toNat })

/-- A card still present after the re-serve interval is served again (R319). -/
def State.reServe (s : State) (h : Nat) : State :=
  let x := s.hf h
  let every := s.nat (0x2400 + h) 9
  if x.isPresent && decide (every ≠ 0) && decide (x.servedTick + sec every ≤ s.now) && x.service.isNone && s.mayField h then
    (s.modHf h (fun x => { x with servedTick := s.now })).requestService h false 0
  else s

/-- `RE_SERVE_INTERVAL_EXPIRED`: of a port. -/
def execReServeIntervalExpired (t port : Nat) (s : State) : Out := .next ((s.at t).reServe port)

/-! ### Capacitive channels (R323–R326) -/

/-- A channel. -/
def State.cap (s : State) (n : Nat) : Cap := tget s.caps n capAtReset

/-- Change a channel. -/
def State.modCap (s : State) (n : Nat) (f : Cap → Cap) : State := { s with caps := tmod s.caps n f }

/-- Scans a second: the service scan rate, or 16 Hz in deep standby (R326). -/
def State.scanRate (s : State) : Nat := if s.power.mode = 2 then 16 else 16 * 2 ^ s.nat 0x2500 2

/-- The baseline after a scan: a first-order filter in 65536ths of a count (R324). -/
def trackBaseline (baseline count rate tau : Nat) : Nat :=
  ((baseline : Int) + ((65536 * count : Nat) - (baseline : Int)).tdiv (rate * tau : Nat)).toNat

/-- A pad fault: the channel leaves the scan until its enable bit is written again (R325). -/
def State.padFault (s : State) (n cause : Nat) : State :=
  let s1 := (s.set 0x2500 26 (setBit (s.nat 0x2500 26) n true)).set 0x2500 25 (setBit (s.nat 0x2500 25) n false)
  ((s1.cardGone n).modCap n (fun c => { c with above := 0, below := 0, high := 0, low := 0 })).raise 0x4103 [n, cause] s1.allJoined (perMinute n)

/-- A detection on a channel: a service of its port alone, and event 0x4101 in deep standby (R322, R323, R326). -/
def State.capDetected (s : State) (n : Nat) : State :=
  let s1 := ((s.set 0x2500 25 (setBit (s.nat 0x2500 25) n true)).count 0x2500 27).modCap n (fun c => { c with detectTick := s.now })
  let s2 := if s.power.mode = 2 then s1.raise 0x4101 [n] s1.allJoined (perMinute n) else s1
  if bitOf (s.nat (0x2400 + n) 7) 0 then s2.nearPort n else s2

/-- The scan of one channel (R323–R325). -/
def State.scanCap (s : State) (n count : Nat) : State :=
  let c := s.cap n
  if c.scans < 4 then
    s.modCap n (fun c => { c with
      scans := c.scans + 1, sum := c.sum + count, last := count
      baseline := if c.scans = 3 then 65536 * (c.sum + count) / 4 else c.baseline })
  else
    let base := c.baseline / 65536
    let diff : Int := (count : Int) - base
    let thr := s.nat 0x2500 (8 + n)
    let high := runOf (decide (65535 ≤ count)) c.high
    let low := runOf (decide (8 * count < base)) c.low
    let above := runOf (decide ((thr : Int) ≤ diff)) c.above
    let below := runOf (decide (100 * diff < (thr * (100 - s.nat 0x2500 16) : Nat))) c.below
    let s1 := s.modCap n (fun c => { c with
      last := count, high := high, low := low, above := above, below := below
      baseline := if 2 * diff < (thr : Int) then trackBaseline c.baseline count s.scanRate (s.nat 0x2500 6) else c.baseline })
    let was := bitOf (s.nat 0x2500 25) n
    if 16 ≤ high then s1.padFault n 1
    else if 16 ≤ low then s1.padFault n 2
    else if !was && decide (s.nat 0x2500 4 ≤ above) then s1.capDetected n
    else if was && decide (s.nat 0x2500 5 ≤ below) then
      (s1.set 0x2500 25 (setBit (s.nat 0x2500 25) n false)).cardGone n
    else s1

/-- The scan period in bus ticks (R326). -/
def State.scanPeriod (s : State) : Nat := 122880000 / s.scanRate

/-- Whether a channel is measured now: enabled, not faulted, once every scan period (R323, R325). -/
def State.scans (s : State) (n : Nat) : Bool :=
  bitOf (s.nat 0x2500 1) n && !bitOf (s.nat 0x2500 26) n && decide ((s.cap n).scanTick + s.scanPeriod ≤ s.now)

/-- A scan measures the enabled channels one after another, each once every scan period; faulted channels are left out (R323,
R325). -/
def State.capScan (s : State) (counts : List Nat) : State :=
  (List.range 8).foldl (fun st n =>
    if s.scans n then (st.modCap n (fun c => { c with scanTick := s.now })).scanCap n (satTo 65535 (counts.getD n 0)) else st) s

/-- `CAP_SCAN`: the counts of the eight channels. -/
def execCapScan (t : Nat) (counts : List Nat) (s : State) : Out := .next ((s.at t).capScan counts)

/-- A channel that stays detected for the stuck time with no service completed on its port is re-baselined (R324). -/
def State.capStuck (s : State) (n : Nat) : State :=
  let c := s.cap n
  if bitOf (s.nat 0x2500 25) n ∧ c.detectTick + sec (s.nat 0x2500 7) ≤ s.now ∧ ((s.hf n).servedTick < c.detectTick ∨ (s.hf n).servedTick = 0) then
    (s.modCap n (fun c => { c with baseline := 65536 * c.last, detectTick := s.now })).raise 0x4102
      ([n] ++ dU 2 c.last ++ dU 2 (s.nat 0x2500 (8 + n))) s.allJoined (perMinute n)
  else s

/-- `CHANNEL_STUCK`: of a channel. -/
def execChannelStuck (t channel : Nat) (s : State) : Out := .next ((s.at t).capStuck channel)

/-- A write of the enable bits: a channel written 1 returns to the scan, its fault gone, from a new baseline (R324,
R325). -/
def State.capEnabled (s : State) (old new : Nat) : State :=
  (List.range 8).foldl (fun st n =>
    if bitOf new n && (!bitOf old n || bitOf (s.nat 0x2500 26) n) then
      (st.set 0x2500 26 (setBit (st.nat 0x2500 26) n false)).modCap n (fun _ => capAtReset)
    else if !bitOf new n then (if bitOf old n then st.cardGone n else st).set 0x2500 25 (setBit (st.nat 0x2500 25) n false) else st) s

end Sys2Proof.Machine
end

