-- ==== Sys2Proof/Machine/Meters.lean ====
section
/-! DEFINITION. Meter reads: pseudonyms, authentication, readings and resync (chapter 10, R331–R341; chapter 6, R216;
chapter 7, R239, R241). -/

namespace Sys2Proof.Machine

/-! ### Classes and meters -/

/-- An object of a meter class (Table 1). -/
def State.clsObj (s : State) (c sub : Nat) : Nat := s.nat (0x4010 + c) sub

/-- The modulus W of a class (R333). -/
def State.clsModulus (s : State) (c : Nat) : Nat := if s.clsObj c 5 = 1 then 10 ^ s.clsObj c 6 else 2 ^ s.clsObj c 4

/-- A class as it runs. -/
def State.clsRun (s : State) (c : Nat) : ClassRun := tget s.classes c { seen := 0, begun := none }

/-- Change a class as it runs. -/
def State.modCls (s : State) (c : Nat) (f : ClassRun → ClassRun) : State := { s with classes := tmod s.classes c f }

/-- A meter. -/
def State.meter (s : State) (m : Nat) : Option Meter := NMap.get? s.meters m

/-- Change a meter. -/
def State.modMeter (s : State) (m : Nat) (f : Meter → Meter) : State := { s with meters := NMap.upd s.meters m f }

/-- The meters of a class. -/
def State.metersOf (s : State) (c : Nat) : List (Nat × Meter) := s.meters.filter (fun e => decide (e.2.cls = c))

/-- The first identity and the count of a shade's range (R331). -/
def State.meterRange (s : State) (sh : Nat) : Nat × Nat := (s.nat 0x4000 (4 + sh) / 65536, s.nat 0x4000 (4 + sh) % 65536)

/-- Whether an identity lies in a shade's range. -/
def State.inRange (s : State) (sh m : Nat) : Bool :=
  let r := s.meterRange sh
  decide (r.1 ≤ m) && decide (m < r.1 + r.2)

/-- The shade that owns a meter: the owner of its class; 0xFF for none. -/
def State.meterOwner (s : State) (m : Nat) : Nat :=
  match s.meter m with
  | some x => s.clsObj x.cls 1
  | none => 0xFF

/-- Events that name a meter reach only its owner (Table 13). -/
def ownerOnly (sh : Nat) : List Nat := if sh < 8 then [sh] else []

/-- Events that name a class reach its owner and Slate. -/
def State.clsReach (s : State) (c : Nat) : List Nat := if c < 32 ∧ s.clsObj c 1 < 8 then withSlate (s.clsObj c 1) else [0]

/-! ### Resolution (R337–R339) -/

/-- Whether a counter lies in a meter's pseudonym window; one at or below c_last never does (R337, R338). -/
def State.inWindowOf (s : State) (x : Meter) (c : Nat) : Bool :=
  decide (x.winFrom ≤ c) && decide (c < x.winFrom + s.clsObj x.cls 14) &&
    (match x.cLast with
     | some l => decide (l < c)
     | none => true)

/-- The next counter expected of a meter. -/
def Meter.next (x : Meter) : Nat :=
  match x.cLast with
  | some l => l + 1
  | none => x.cNext

/-- P(c), the pseudonym of a meter of a class at a counter: the first 80 bits of AES-128 under K_P of 0x4D, the class, ten zero bytes and
the counter, most significant byte first; K_P is AES-128 under the meter key of "HJPS" and twelve zero bytes (R335). -/
def pseudonymOf (meterKey : List Byte) (cls c : Nat) : List Byte :=
  (Config.aes128 (Config.aes128 meterKey (ascii "HJPS" ++ zeros 12)) ([0x4D#8, byte cls] ++ zeros 10 ++ (le 4 c).reverse)).take 10

/-- Whether a meter shows a pseudonym at a counter. -/
def Meter.shows (x : Meter) (p : List Byte) (c : Nat) : Bool := decide (pseudonymOf x.key x.cls c = p)

/-- The counter at which a meter's windows hold a pseudonym, and whether it is the ordinary window's and not that of a resync mark whose
4,096 values are computed (R337, R339). -/
def State.shownAt (s : State) (x : Meter) (p : List Byte) : Option (Nat × Bool) :=
  match ((List.range (s.clsObj x.cls 14)).map (x.winFrom + ·)).find? (fun c => s.inWindowOf x c && x.shows p c) with
  | some c => some (c, true)
  | none =>
    if x.marked.isSome && x.setReady then (((List.range 4096).map (x.next + ·)).find? (x.shows p)).map (fun c => (c, false)) else none

/-- The meter that a provisional entry shows, its counter, and whether the ordinary window holds it: the header is 0xB6, the class is
owned by the shade whose plan read the entry, and one of that class's meters shows the pseudonym (R335, R337). The search goes through
the identities from `first` on, and around; where two meters show one pseudonym it decides (log entry 119). -/
def State.resolution (s : State) (first : Nat) (t : TagEntry) : Option (Nat × Nat × Bool) :=
  let c := byteAt t.epc 1
  if decide (t.words = 6) && decide (byteAt t.epc 0 = 0xB6) && decide (c < 32) && decide (s.clsObj c 1 = s.planOwner t.plan) then
    let l := s.meters.map (·.1)
    (l.filter (fun m => decide (first ≤ m)) ++ l.filter (fun m => decide (m < first))).findSome? (fun m => (s.meter m).bind (fun x =>
      if x.cls = c then (s.shownAt x (slice t.epc 2 10)).map (fun k => (m, k)) else none))
  else none

/-- An entry that is not resolved is cancelled with cause 2, counted, and reported (R337). -/
def State.unresolvedTag (s : State) (n : Nat) (t : TagEntry) : State :=
  let f := byteAt t.epc 1
  let k := NMap.getD s.unresolved f 0 + 1
  let s1 : State := ({ s with unresolved := NMap.put s.unresolved f k } : State).count 0x4000 15
  (s1.raise 0x5001 ([f, t.quad] ++ dU 4 (satTo 0xFFFFFFFF k)) (s1.clsReach f) (perMinute (0x10000 + f))).cancelTag n 2

/-- An entry is resolved to a meter and the counter matched; a match of a resync set clears the mark (R337, R339). -/
def State.resolveTag (s : State) (n m c : Nat) (x : Meter) (old : Bool) : State :=
  let s1 := s.modTag n (fun t => { t with resolved := true, identity := m, owner := s.clsObj x.cls 1, counter := c, resync := !old })
  if old then s1
  else
    (s1.modMeter m (fun x => { x with marked := none, setReady := false })).raise 0x500B
      (dU 2 m ++ dU 4 (c + 1 - (x.winFrom + s.clsObj x.cls 14))) (ownerOnly (s.clsObj x.cls 1))

/-- The Dome resolves a provisional meter entry, or cancels it where no meter shows its pseudonym (R337). -/
def State.pseudonym (s : State) (n first : Nat) : State :=
  match s.tag n with
  | none => s
  | some t =>
    if t.confirmed || t.resolved || !t.meter then s
    else match s.resolution first t with
    | none => s.unresolvedTag n t
    | some (m, k, old) =>
      match s.meter m with
      | none => s
      | some x => s.resolveTag n m k x old

/-- `PSEUDONYM_RESOLVED`: of an entry, with the identity from which the Dome searches. -/
def execPseudonymResolved (t entry first : Nat) (s : State) : Out := .next ((s.at t).pseudonym entry first)

/-- The new window of a meter is computed (R338). -/
def State.windowComputed (s : State) (m : Nat) : State :=
  match s.meter m with
  | some x => if x.winDue.isSome then s.modMeter m (fun x => { x with winFrom := x.next, winDue := none }) else s
  | none => s

/-- `PSEUDONYM_WINDOW_COMPUTED`: of a meter. -/
def execPseudonymWindowComputed (t meter : Nat) (s : State) : Out := .next ((s.at t).awake (fun st => st.windowComputed meter))

/-- Mark a meter for resync (R339). -/
def State.markResync (s : State) (m : Nat) : State := s.modMeter m (fun x => { x with marked := some s.now, setReady := false })

/-- The 4,096 pseudonyms of a resync mark are computed (R339). -/
def State.resyncComputed (s : State) (m : Nat) : State :=
  s.modMeter m (fun x => { x with setReady := x.marked.isSome })

/-- `RESYNC_SET_COMPUTED`: of a meter. -/
def execResyncSetComputed (t meter : Nat) (s : State) : Out := .next ((s.at t).awake (fun st => st.resyncComputed meter))

/-- A resync mark clears by itself after 24 h (R339). -/
def State.resyncExpired (s : State) (m : Nat) : State :=
  match s.meter m with
  | some x => match x.marked with
    | some since => if since + sec 86400 ≤ s.now then s.modMeter m (fun x => { x with marked := none, setReady := false }) else s
    | none => s
  | none => s

/-- `RESYNC_MARK_EXPIRED`: of a meter. -/
def execResyncMarkExpired (t meter : Nat) (s : State) : Out := .next ((s.at t).awake (fun st => st.resyncExpired meter))

/-! ### From read to reading (R340, R341) -/

/-- Adopt a reading with flags. -/
def State.adopt (s : State) (m flags : Nat) (r : Reading) : State :=
  s.modMeter m (fun x => { x with last := some r, readings := x.readings ++ [r], flags := x.flags ||| flags })

/-- A usable read is adopted or refused against the meter's last reading (R341). -/
def State.checkRead (s : State) (m : Nat) (x : Meter) (r : Reading) : State :=
  match x.last with
  | none => s.adopt m 1 r
  | some l =>
    let w := s.clsModulus x.cls
    let d := (r.raw + w - l.raw) % w
    let secs := ((r.cycle + 2 ^ 32 - l.cycle) % 2 ^ 32) * 100 / s.nat 0x1B01 1
    let allow := s.clsObj x.cls 9 * (secs + 60) / 3600
    if d = 0 then s.adopt m 0 r
    else if d ≤ allow then s.adopt m (if r.raw < l.raw then 2 else 0) r
    else if w - d ≤ s.clsObj x.cls 10 then
      ((s.modMeter m (fun x => { x with flags := x.flags ||| 8, backward := x.backward + 1 })).count 0x4000 13).raise 0x5002
        (dU 2 m ++ dU 4 (satTo 0xFFFFFFFF (w - d))) (ownerOnly (s.clsObj x.cls 1)) (perMinute m)
    else
      ((s.adopt m 4 r).count 0x4000 14).raise 0x5003 (dU 2 m ++ dU 4 (satTo 0xFFFFFFFF d)) (ownerOnly (s.clsObj x.cls 1)) (perMinute m)

/-- The block count of the Authenticate step that read a meter. -/
def State.blockCount (s : State) (p : Nat) : Nat :=
  match ((List.range 16).map (s.planStep p)).find? (fun b => decide (stepKind b = 10) && decide (byteAt b 2 = 2)) with
  | some b => byteAt b 7
  | none => 0

/-- The metering service takes the raw counter from the custom data; a layout beyond the data or a counter beyond W is
not used (R340). The counters stand in a line under the storage key of the meter's owner (R217). -/
def State.takeRead (s : State) (m plan : Nat) (custom : List Byte) (r : Reading) : State :=
  match s.meter m with
  | none => s
  | some x =>
    let off := s.clsObj x.cls 3
    let w := s.clsObj x.cls 4
    let raw := ofBits (((bitsOfBytes custom).drop off).take w)
    let why := if 8 * custom.length < off + w then 1 else if s.clsModulus x.cls ≤ raw then 2 else 0
    if why = 0 then (if NMap.get? s.heldLines (64 + m) = none then s.holdLines (64 + m) 1 (s.clsObj x.cls 1) else s).checkRead m x { r with raw := raw }
    else (s.count 0x4000 12).raise 0x5004 (dU 2 m ++ [x.cls, s.blockCount plan, why]) (ownerOnly (s.clsObj x.cls 1)) (perMinute m)

/-- Whether the mains tracker is not locked, or the source is free-run or holdover (Table 2). -/
def State.mainsUnlocked (s : State) : Bool :=
  decide (s.nat 0x1B00 1 ≠ 1) || decide (s.nat 0x1B00 2 = 1) || decide (s.nat 0x1B00 2 = 3)

/-- The Dome's verdict on a TAM reply, with the custom data that it decrypted: an accepted one moves the meter's window
on, gives the counters to the metering service and confirms the entry; another cancels it (R37, R216, R239, R338). -/
def State.authenticated (s : State) (n : Nat) (ok : Bool) (custom : List Byte) : State :=
  match s.tag n with
  | none => s
  | some t =>
    if t.confirmed || !t.resolved || t.reply.isEmpty then s
    else if ok then
      let m := t.identity
      let r : Reading := { raw := 0, time := t.lastSeen, cycle := t.lastCycle, unlocked := s.mainsUnlocked, resync := t.resync }
      let s1 := s.modMeter m (fun x => { x with
        cLast := some t.counter, winDue := some (s.now + ms 50), accepted := x.accepted + 1, readsNow := x.readsNow + 1 })
      ((s1.takeRead m t.plan custom r).modTag n (fun t => { t with authenticated := true, reply := [] })).confirmTag n
    else s.cancelTag n 3

/-- `AUTHENTICATION_CHECKED`: of an entry. -/
def execAuthenticationChecked (t entry : Nat) (ok : Bool) (custom : List Byte) (s : State) : Out :=
  .next ((s.at t).authenticated entry ok custom)

end Sys2Proof.Machine
end

