-- ==== Sys2Proof/Machine/Journal.lean ====
section
/-! DEFINITION. Interval boundaries, meter records, the chain, batches, the journal and its delivery (chapter 10,
R334, R342–R357, R359). -/

namespace Sys2Proof.Machine

/-! ### The journal of a shade -/

/-- A shade's journal. -/
def State.journal (s : State) (sh : Nat) : Journal := tget s.journals sh journalAtReset

/-- Change a shade's journal. -/
def State.modJournal (s : State) (sh : Nat) (f : Journal → Journal) : State := { s with journals := tmod s.journals sh f }

/-- The slots of a batch: its records and 5 more (chapter 10, Commit). -/
def Batch.slots (b : Batch) : Nat := b.n + 5

/-- The slots of batches. -/
def slotsOf (l : List Batch) : Nat := sumOf (l.map Batch.slots)

/-- The slots that a shade holds. -/
def State.slotsHeld (s : State) (sh : Nat) : Nat := slotsOf (s.journal sh).batches

/-- The slots in use, of all shades. -/
def State.slotsUsed (s : State) : Nat := sumOf (s.journals.map (fun j => slotsOf j.batches))

/-- The slots of groups that wait. -/
def State.slotsWaiting (s : State) : Nat := sumOf (s.groups.map (fun g => slotsOf g.batches))

/-- The oldest unacknowledged batch; the next sequence when there is none (Table 11). -/
def Journal.oldest (j : Journal) : Nat :=
  match j.batches.find? (fun b => b.acked.isNone) with
  | some b => b.seq
  | none => j.committed.nextBatch

/-- The shade whose oldest batch is acknowledged and was formed first. -/
def State.oldestAcked (s : State) : Option Nat :=
  ((List.range 8).foldl (fun (m : Option (Nat × Nat)) sh =>
    match (s.journal sh).batches with
    | b :: _ =>
      if b.acked.isSome then
        match m with
        | some x => if fieldAt b.bytes 12 4 < x.2 then some (sh, fieldAt b.bytes 12 4) else some x
        | none => some (sh, fieldAt b.bytes 12 4)
      else m
    | [] => m) none).map (·.1)

/-- Whether a group stays under its shade's slot limit, with the groups that wait (Table 3 of chapter 11). -/
def State.underLimit (s : State) (sh need : Nat) : Bool :=
  decide (s.slotsHeld sh + sumOf ((s.groups.filter (fun g => decide (g.shade = sh))).map (fun g => slotsOf g.batches)) + need ≤
    s.nat (0x1310 + sh) 10)

/-- Whether a group of a shade finds room in the ring and under the shade's slot limit (R356). -/
def State.hasRoom (s : State) (sh need : Nat) : Bool :=
  decide (s.slotsUsed + s.slotsWaiting + need ≤ 467840) && s.underLimit sh need

/-- Free acknowledged batches, oldest first, until a group of a shade finds room: its own where its limit binds, those of any
shade where the ring is full (R355). The fuel is the number of batches. -/
def State.makeRoom (s : State) (sh need : Nat) : Nat → State
  | 0 => s
  | fuel + 1 =>
    if s.hasRoom sh need then s
    else
      let from' := if s.underLimit sh need then s.oldestAcked
        else if (s.journal sh).batches.head?.any (fun b => b.acked.isSome) then some sh
        else none
      match from' with
      | some x => (s.modJournal x (fun j => { j with batches := j.batches.drop 1 })).makeRoom sh need fuel
      | none => s

/-! ### Records (R345, R346) -/

/-- A record before it is chained (Table 3). -/
structure Draft where
  kind : Nat
  flags : Nat
  id : Nat
  cls : Nat
  unit : Nat
  boundary : Nat
  offset : Int
  scale : Int
  readCycle : Nat
  counter : Nat
  covered : Nat
  advance : Nat
  boundaryCycle : Nat
  deriving DecidableEq, Repr

/-- The 48 bytes of a record with its sequence and chain link. -/
def Draft.bytes (d : Draft) (seq : Nat) (link : List Byte) : List Byte :=
  [byte d.kind, 1#8] ++ le 2 d.flags ++ le 2 d.id ++ [byte d.cls, byte d.unit] ++ le 4 seq ++ le 4 d.boundary ++
  leInt 2 (if d.offset < -32768 then -32768 else if 32767 < d.offset then 32767 else d.offset) ++ leInt 1 d.scale ++ [0#8] ++
  le 4 d.readCycle ++ le 6 d.counter ++ le 2 (satTo 0xFFFF d.covered) ++ le 4 (satTo 0xFFFFFFFF d.advance) ++ le 4 d.boundaryCycle ++ fit 8 link

/-- Records linked in order from a chain value, and the value after them (R346). -/
def linkDrafts (v : List Byte) (seq : Nat) : List Draft → List (List Byte) × List Byte
  | [] => ([], v)
  | d :: r =>
    let b := d.bytes seq v
    let rest := linkDrafts (Config.sha256 (v ++ b)) (seq + 1) r
    (b :: rest.1, rest.2)

/-- The start value of a shade's chain (R346). -/
def chainStart (sh : Nat) (ownerKey : List Byte) : List Byte :=
  Config.sha256 (ascii "HJ48-METER-CHAIN" ++ Config.devicePublicKey ++ [byte sh] ++ ownerKey)

/-- The chain of a shade starts when it is opened (R346). -/
def State.startChain (s : State) (sh : Nat) : State :=
  let c : ChainEnd := { value := chainStart sh (s.bytes (0x1310 + sh) 3 33), nextRecord := 0, nextBatch := 0, started := false }
  s.modJournal sh (fun _ => { journalAtReset with work := c, committed := c, older := c })

/-- A fresh 32-byte value of the Dome's random source (log entry 3). -/
def State.draw32 (s : State) : List Byte × State := (le 32 s.free, s.drawn)

/-- A batch: chained, signed and encrypted for the owner (R347–R349). -/
def State.formBatch (s : State) (sh : Nat) (c : ChainEnd) (ds : List Draft) : State × ChainEnd × Batch :=
  let l := linkDrafts c.value c.nextRecord ds
  let k := s.draw32
  let nonce := k.2.draw32
  let head := [1#8, byte sh] ++ le 2 ds.length ++ le 4 c.nextBatch ++ le 4 c.nextRecord ++ le 4 s.rtcSec ++ le 4 s.cycle ++
    fit 32 c.value ++ fit 32 l.2 ++ fit 33 (Config.p256Public k.1) ++ zeros 3
  let sig := fit 64 (Config.deviceSign head nonce.1)
  let key := Config.hkdf (head.take 20) (Config.p256Ecdh k.1 (s.bytes (0x1310 + sh) 3 33)) (ascii "HJ48 meter batch") 32
  let plain := l.1.flatMap id
  let sealed' := Config.gcmSeal key (zeros 12) (head ++ sig) plain
  (nonce.2, { value := l.2, nextRecord := c.nextRecord + ds.length, nextBatch := c.nextBatch + 1, started := true },
    { seq := c.nextBatch, n := ds.length, acked := none
      bytes := head ++ sig ++ fit 16 (sealed'.drop plain.length) ++ zeros 40 ++ fit plain.length sealed' })

/-- Records in pieces of at most 256. -/
def inBatches (ds : List Draft) : List (List Draft) :=
  (List.range (ceilDiv ds.length 256)).map (fun i => (ds.drop (256 * i)).take 256)

/-- The record of kind 4 that begins a chain. -/
def State.startDraft (s : State) : Draft :=
  { kind := 4, flags := if s.flag 0x1A02 1 then 128 else 0, id := 0xFFFF, cls := 0, unit := 0, boundary := s.rtcSec, offset := 0, scale := 0,
    readCycle := 0, counter := 0, covered := 0, advance := 0, boundaryCycle := s.cycle }

/-- The drafts of a group; the first record of a chain goes before them (R345). -/
def State.withStart (s : State) (sh : Nat) (ds : List Draft) : List Draft :=
  if (s.journal sh).work.started then ds else s.startDraft :: ds

/-- The slots that drafts of a shade take. -/
def State.slotsFor (s : State) (sh : Nat) (ds : List Draft) : Nat :=
  let n := (s.withStart sh ds).length
  n + 5 * ceilDiv n 256

/-- A commit group is formed and waits for its commit (R347, R350). -/
def State.formGroup (s : State) (sh : Nat) (boundary : Option Nat) (ds : List Draft) (retire : List Nat) : State :=
  let r := (inBatches (s.withStart sh ds)).foldl (fun (a : State × ChainEnd × List Batch) l =>
    let b := a.1.formBatch sh a.2.1 l
    (b.1, b.2.1, a.2.2 ++ [b.2.2])) (s, (s.journal sh).work, [])
  let s1 : State := { r.1 with groups := r.1.groups ++
    [{ shade := sh, boundary := boundary, batches := r.2.2, retire := retire, chain := r.2.1, waited := false, nextTick := s.now }] }
  s1.modJournal sh (fun j => { j with work := r.2.1, formed := j.formed + (s.withStart sh ds).length })

/-! ### Boundaries (R334, R342, R343) -/

/-- Seconds of a class's interval. -/
def State.clsInterval (s : State) (c : Nat) : Nat := 60 * s.clsObj c 11

/-- The RTC reaches the next boundary of a class: the cycle is noted, and the boundary plan starts a pass when no later
boundary has been reached (R334, R343). None begins in deep standby, nor while records of one before are not formed
(R342, R615). -/
def State.intervalBoundary (s : State) (c : Nat) : State :=
  let every := s.clsInterval c
  let b := ((s.clsRun c).seen / every + 1) * every
  if (s.metersOf c).isEmpty || decide (every = 0) || decide (s.rtcSec < b) || (s.clsRun c).begun.isSome || decide (s.power.mode = 2) then s
  else
    let s1 := s.modCls c (fun _ => { seen := b, begun := some (b, s.cycle) })
    let p := s.clsObj c 13
    if p < 64 ∧ s.rtcSec < b + every then s1.modPlan p (fun r => { r with due := some s.now }) else s1

/-- `INTERVAL_BOUNDARY`: of a class. -/
def execIntervalBoundary (t cls : Nat) (s : State) : Out := .next ((s.at t).intervalBoundary cls)

/-- The reading chosen for a boundary, and whether it is one from before it; a pending reading of a deferred boundary
stands in where the boundary has none of its own (R342, R356). -/
def Meter.choose (x : Meter) (b span : Nat) : Option (Reading × Bool) :=
  match x.readings.find? (fun r => decide (b ≤ r.time) && decide (r.time ≤ b + span)) with
  | some r => some (r, false)
  | none =>
    match (x.readings.filter (fun r => decide (b < r.time + span) && decide (r.time < b))).getLast? with
    | some r => some (r, true)
    | none => x.pending.map (fun r => (r, true))

/-- A meter's record of a boundary (R342, R345). -/
def State.intervalDraft (s : State) (m : Nat) (x : Meter) (b cyc : Nat) : Draft :=
  let c := x.cls
  let pick := x.choose b (s.clsObj c 12)
  let w := s.clsModulus c
  let counter := match pick with
    | some (r, _) => r.raw
    | none => (x.last.map (·.raw)).getD 0
  let covered := match x.baseBoundary with
    | some o => peak 1 ((b - o) / s.clsInterval c)
    | none => 1
  let own := match pick with
    | some (r, before) => (if before then 16 else 0) + (if r.unlocked then 64 else 0) + (if r.resync then 2048 else 0)
    | none => 32
  { kind := 1
    flags := (x.flags + own + (if s.flag 0x1A02 1 then 128 else 0)) ||| (if 1 < covered then 512 else 0)
    id := m, cls := c, unit := s.clsObj c 8, boundary := b, scale := s.int (0x4010 + c) 7
    offset := match pick with
      | some (r, _) => (r.time : Int) - b
      | none => 0
    readCycle := match pick with
      | some (r, _) => r.cycle
      | none => (x.last.map (·.cycle)).getD 0
    counter := counter, covered := covered
    advance := match pick, x.baseRaw with
      | some (r, _), some o => (r.raw + w - o) % w
      | _, _ => 0
    boundaryCycle := cyc }

/-- A meter after its record of a boundary. -/
def Meter.recorded (x : Meter) (d : Draft) (seq span : Nat) : Meter :=
  let none' := bitOf d.flags 5
  { x with
    readings := x.readings.filter (fun r => decide (d.boundary + span < r.time)), pending := none, flags := 0
    baseRaw := if x.last.isSome then some d.counter else none, baseBoundary := some d.boundary
    lastSeq := seq, lastBoundary := d.boundary, lastFlags := d.flags
    missing := if none' then x.missing + 1 else 0, readsNow := 0 }

/-- The classes of a shade whose capture span has ended (R342). -/
def State.classesDue (s : State) (sh : Nat) : List (Nat × Nat × Nat) :=
  (List.range 32).filterMap (fun c =>
    match (s.clsRun c).begun with
    | some (b, cyc) => if s.clsObj c 1 = sh ∧ b + s.clsObj c 12 ≤ s.rtcSec then some (c, b, cyc) else none
    | none => none)

/-- The boundary of a shade is deferred: each meter keeps its chosen reading, its next record covers this interval too, and event 0x5007
names the class (R356). -/
def State.deferBoundary (s : State) (sh : Nat) (due : List (Nat × Nat × Nat)) : State :=
  let s1 := due.foldl (fun st e =>
    let span := st.clsObj e.1 12
    let st1 : State := { st with meters := st.meters.map (fun p =>
      if p.2.cls = e.1 then (p.1, { p.2 with
        pending := (p.2.choose e.2.1 span).map (·.1), baseBoundary := some (p.2.baseBoundary.getD (e.2.1 - st.clsInterval e.1)), readings := p.2.readings.filter (fun r => decide (e.2.1 + span < r.time)) }) else p) }
    (st1.modCls e.1 (fun r => { r with begun := none })).raise 0x5007 ([sh, e.1] ++ dU 4 e.2.1) (withSlate sh)) s
  (s1.count 0x4000 16).count (0x4110 + sh) 11

/-- The records of a boundary are formed: in class order, then in identity order, packed into batches that wait for
their commit; without room the boundary is deferred (R342, R347, R356). New batches wait for the Dome's random source
(R395). -/
def State.recordsFormed (s : State) (sh : Nat) : State :=
  let due := s.classesDue sh
  let ds := due.flatMap (fun e => (s.metersOf e.1).filterMap (fun p =>
    if p.2.retiring then none else some (s.intervalDraft p.1 p.2 e.2.1 e.2.2)))
  if due.isEmpty || decide (s.power.mode = 2) || s.domeFailed then s
  else
    let need := s.slotsFor sh ds
    let s1 := s.makeRoom sh need (sumOf (s.journals.map (fun j => j.batches.length)))
    if !s1.hasRoom sh need then s1.deferBoundary sh due
    else
      let first := (s.journal sh).work.nextRecord + (if (s.journal sh).work.started then 0 else 1)
      let s2 := (if ds.isEmpty then s1 else s1.formGroup sh (some (due.head?.map (·.2.1) |>.getD 0)) ds [])
      let s3 := due.foldl (fun st e => st.modCls e.1 (fun r => { r with begun := none })) s2
      (ds.zipIdx).foldl (fun st e =>
        let m := e.1.id
        let st1 := st.modMeter m (fun x => x.recorded e.1 (first + e.2) (st.clsObj e.1.cls 12))
        let n := ((st1.meter m).map (·.missing)).getD 0
        if bitOf e.1.flags 5 then
          st1.raise 0x500C (dU 2 m ++ dU 2 (satTo 0xFFFF n)) (ownerOnly sh) (some { n := 1, period := sec 86400, unit := m })
        else st1) s3

/-- `RECORDS_FORMED`: of a shade. -/
def execRecordsFormed (t shade : Nat) (s : State) : Out := .next ((s.at t).recordsFormed shade)

/-! ### Commit (R350, R351) -/

/-- The shade that holds the most unacknowledged slots. -/
def State.mostUnacked (s : State) : Nat :=
  let held := fun sh => slotsOf ((s.journal sh).batches.filter (fun b => b.acked.isNone))
  (List.range 8).foldl (fun m sh => if held m < held sh then sh else m) 0

/-- Event 0x5006 when the slots in use first pass the high-water mark (R356). -/
def State.highWater (s : State) (before : Nat) : State :=
  let mark := 467840 * s.nat 0x4100 3 / 100
  if before ≤ mark ∧ mark < s.slotsUsed then
    s.raise 0x5006 [100 * s.slotsUsed / 467840, s.mostUnacked] (withSlate s.mostUnacked)
  else s

/-- A meter as the control area holds it: its last adopted reading, c_last and last record (R350). -/
def Meter.saved (x : Meter) : Meter :=
  { x with readings := [], pending := none, flags := 0, winFrom := x.next, winDue := none, marked := none, setReady := false, retiring := false,
           readsNow := 0 }

/-- Whether a page lies in one of the two control copies, 0 or 1, of 64 pages each. -/
def inControl (c page : Nat) : Bool := decide (2560 + 64 * c ≤ page) && decide (page < 2624 + 64 * c)

/-- Whether a control copy is valid: none of its pages has failed or been cleared since its last seal (R539, R541). -/
def State.controlWhole (s : State) (c : Nat) : Bool :=
  (s.store.pages.filter (fun p => inControl c p.1)).all (fun p => p.2.isSealed && decide (p.2.operation ≠ 2))

/-- The older control copy is written and sealed, and is the newer one from then on (R350). -/
def State.sealControl (s : State) : State :=
  let c := 1 - s.newerControl
  let whole := fun (p : Nat × Page) => if inControl c p.1 then (p.1, { p.2 with isSealed := true, operation := 1 }) else p
  ({ s with
    newerControl := c, olderMeters := s.savedMeters, journals := s.journals.map (fun j => { j with older := j.committed })
    store := { s.store with pages := s.store.pages.map whole } } : State).wearPage (2560 + 64 * c) 1

/-- A commit group whose seal is written: its batches are held, its chain end and every meter's state are the control
area's, its retired meters are freed (R350, R359). A meter whose shade has another group waiting keeps the state saved
before, since its last record is not committed. -/
def State.sealGroup (s : State) (g : CommitGroup) : State :=
  let before := s.slotsUsed
  let s0 := s.sealControl
  let s1 := { s0 with groups := s.groups.drop 1, meters := s.meters.filter (fun e => !g.retire.contains e.1) }
  let s2 := s1.modJournal g.shade (fun j => { j with batches := j.batches ++ g.batches, committed := g.chain })
  let s3 := ({ s2 with savedMeters := s2.meters.filterMap (fun e =>
      if s2.groups.any (fun x => decide (x.shade = s2.meterOwner e.1)) then (NMap.get? s.savedMeters e.1).map (fun x => (e.1, x))
      else some (e.1, e.2.saved)) } : State).count 0x4100 6
  let s4 := s3.storeDone.highWater before
  match g.boundary, g.batches.getLast? with
  | some _, some b => s4.raise 0x5005 ([g.shade] ++ dU 4 b.seq ++ [satTo 255 g.batches.length]) (withSlate g.shade)
  | _, _ => s4

/-- Try the first group that waits: it is committed with a stable supply, and otherwise waits for 10 ms, with event
0x5008 once (R351). -/
def State.tryCommit (s : State) : State :=
  match s.groups with
  | [] => s
  | g :: r =>
    if s.now < g.nextTick then s
    else if s.supplyStable then s.sealGroup g
    else
      let s1 : State := ({ s with groups := { g with waited := true, nextTick := s.now + ms 10 } :: r } : State).storeRefused 5
      if g.waited then s1
      else (s1.count 0x4100 8).raise 0x5008 ([g.shade] ++ dU 4 (g.boundary.getD s.rtcSec)) (withSlate g.shade)

/-- `COMMIT_GROUP`. -/
def execCommitGroup (t : Nat) (s : State) : Out := .next (s.at t).tryCommit

/-- `COMMIT_SUPPLY_RETRY`: only a group that has waited is tried. -/
def execCommitSupplyRetry (t : Nat) (s : State) : Out :=
  let s1 := s.at t
  .next (if s1.groups.head?.any (·.waited) then s1.tryCommit else s1)

/-! ### Delivery and acknowledgement (R352–R354) -/

/-- A meter batch report: one piece of a batch (Table 5). -/
def pieceReport (b : Batch) (i : Nat) (again : Bool) : List Byte :=
  let d := (b.bytes.drop (1152 * i)).take 1152
  [32#8, byte (b01 again)] ++ le 2 (i + 1) ++ le 2 (ceilDiv b.bytes.length 1152) ++ le 2 d.length ++ le 4 b.seq ++ d

/-- The next piece of a shade's batches enters its queue while that has room (R352, R479). -/
def State.queuePiece (s : State) (sh : Nat) : State :=
  let j := s.journal sh
  match j.batches.find? (fun b => decide (j.nextOut ≤ b.seq)) with
  | none => s
  | some b =>
    if !s.joined sh || !s.pieceRoom sh then s
    else
      let i := if b.seq = j.nextOut then j.piece else 0
      let s1 := (s.appendItem sh false 2 (pieceReport b i (decide (b.seq < j.again)))).settle
      if 1152 * (i + 1) < b.bytes.length then s1.modJournal sh (fun j => { j with nextOut := b.seq, piece := i + 1 })
      else s1.modJournal sh (fun j => { j with
        nextOut := b.seq + 1, piece := 0, delivered := peak j.delivered (b.seq + 1)
        lastOut := if b.seq = j.oldest then s.now else j.lastOut })

/-- `BATCH_PIECE_QUEUED`: of a shade. -/
def execBatchPieceQueued (t shade : Nat) (s : State) : Out := .next ((s.at t).awake (fun st => st.queuePiece shade))

/-- Delivery restarts at a batch; batches delivered before carry the redelivery flag (R354). -/
def State.redeliver (s : State) (sh b : Nat) : State :=
  s.modJournal sh (fun j => { j with nextOut := b, piece := 0, again := j.delivered, lastOut := s.now })

/-- Every unacknowledged batch is delivered again (R354). -/
def State.redeliverAll (s : State) (sh : Nat) : State :=
  let j := s.journal sh
  if j.oldest < j.delivered then s.redeliver sh j.oldest else s

/-- The owner acknowledges every batch up to one (R353). -/
def State.acknowledge (s : State) (sh b : Nat) : State :=
  s.modJournal sh (fun j => { j with batches := j.batches.map (fun x =>
    if x.seq ≤ b ∧ x.acked = none then { x with acked := some s.rtcSec } else x) })

/-- The redelivery interval has passed since the last delivery of the oldest unacknowledged batch (R354). -/
def State.redeliveryInterval (s : State) (sh : Nat) : State :=
  let j := s.journal sh
  if j.oldest < j.delivered ∧ j.lastOut + sec (s.nat 0x4100 5) ≤ s.now then s.redeliver sh j.oldest else s

/-- `REDELIVERY_INTERVAL`: of a shade. -/
def execRedeliveryInterval (t shade : Nat) (s : State) : Out := .next ((s.at t).awake (fun st => st.redeliveryInterval shade))

/-- Acknowledged batches past the retention time are freed (R355). -/
def State.retentionExpired (s : State) (sh : Nat) : State :=
  s.modJournal sh (fun j => { j with batches := j.batches.filter (fun b =>
    match b.acked with
    | some a => decide (s.rtcSec < a + s.nat 0x4100 4)
    | none => true) })

/-- `RETENTION_EXPIRED`: of a shade. -/
def execRetentionExpired (t shade : Nat) (s : State) : Out := .next ((s.at t).awake (fun st => st.retentionExpired shade))

/-! ### Enrolment, retirement, erase, time changes (R344, R357, R359) -/

/-- The record of an enrolment (kind 2) or of a retirement (kind 3), which carries the last adopted reading (R345). -/
def State.registerDraft (s : State) (kind m : Nat) (x : Meter) : Draft :=
  let l := if kind = 3 then x.last else none
  { kind := kind, flags := if s.flag 0x1A02 1 then 128 else 0, id := m, cls := x.cls, unit := s.clsObj x.cls 8, boundary := s.rtcSec
    offset := match l with
      | some r => (r.time : Int) - s.rtcSec
      | none => 0
    scale := s.int (0x4010 + x.cls) 7, readCycle := (l.map (·.cycle)).getD 0, counter := (l.map (·.raw)).getD 0, covered := 0, advance := 0
    boundaryCycle := s.cycle }

/-- A meter as the 40 bytes of an enrolment give it (Table 7). -/
def enrolled (b : List Byte) : Meter :=
  { cls := byteAt b 2, ref := slice b 8 16, key := slice b 24 16, cNext := fieldAt b 4 4, cLast := none, winFrom := fieldAt b 4 4,
    winDue := none, marked := none, setReady := false, retiring := false, last := none, readings := [], pending := none, flags := 0,
    baseRaw := none, baseBoundary := none, lastSeq := 0, lastBoundary := 0, lastFlags := 0, missing := 0, backward := 0, accepted := 0, readsNow := 0 }

/-- The records of one transaction's enrolments (2) and retirements (3) form one group (R350, R359); while the random source
is stopped they wait (R395). -/
def State.registerGroup (s : State) (sh : Nat) (l : List (Nat × Nat)) : State :=
  let ds := l.filterMap (fun (e : Nat × Nat) => (s.meter e.2).map (fun x => s.registerDraft e.1 e.2 x))
  if ds.isEmpty then s
  else if s.domeFailed then { s with unregistered := s.unregistered ++ [(sh, l)] }
  else
    let first := (s.journal sh).work.nextRecord + (if (s.journal sh).work.started then 0 else 1)
    let s1 := s.makeRoom sh (s.slotsFor sh ds) (sumOf (s.journals.map (fun (j : Journal) => j.batches.length)))
    let s2 := s1.formGroup sh none ds ((l.filter (fun e => decide (e.1 = 3))).map (·.2))
    ds.zipIdx.foldl (fun st e => st.modMeter e.1.id (fun x => { x with
      lastSeq := first + e.2, lastBoundary := e.1.boundary, lastFlags := e.1.flags })) s2

/-- The enrolments and retirements of one transaction (R350, R359): bytes of each enrolment, identities of each
retirement. -/
def State.registerMeters (s : State) (sh : Nat) (enrol : List (List Byte)) (retire : List Nat) : State :=
  let s1 := enrol.foldl (fun (st : State) b =>
    let c := byteAt b 2
    let every := st.clsInterval c
    ({ st with meters := NMap.put st.meters (fieldAt b 0 2) (enrolled b) } : State).modCls c (fun r =>
      { r with seen := peak r.seen (if every = 0 then 0 else st.rtcSec / every * every) })) s
  let s2 := retire.foldl (fun st m => st.modMeter m (fun x => { x with retiring := true })) s1
  s2.registerGroup sh (enrol.map (fun b => (2, fieldAt b 0 2)) ++ retire.map (fun m => (3, m)))

/-- The groups whose records waited for the Dome's random source are formed (R395). -/
def State.formWaiting (s : State) : State :=
  s.unregistered.foldl (fun st e => st.registerGroup e.1 e.2) { s with unregistered := [] }

/-- A shade's metering ends with its erase: meters, keys, classes, slots and chain (R357). -/
def State.eraseMetering (s : State) (sh : Nat) : State :=
  let own := (List.range 32).filter (fun c => decide (s.clsObj c 1 = sh))
  let s1 : State := { s with
    meters := s.meters.filter (fun e => !own.contains e.2.cls)
    savedMeters := s.savedMeters.filter (fun e => !own.contains e.2.cls)
    olderMeters := s.olderMeters.filter (fun e => !own.contains e.2.cls)
    groups := s.groups.filter (fun g => decide (g.shade ≠ sh))
    unregistered := s.unregistered.filter (fun e => decide (e.1 ≠ sh)) }
  let s2 := own.foldl (fun st c => (List.range 14).foldl (fun st i => st.toDefault (key (0x4010 + c) (1 + i))) (st.modCls c (fun _ => { seen := 0, begun := none }))) s1
  s2.modJournal sh (fun _ => journalAtReset)

/-- The RTC was written: boundaries stepped over form no records and mark the next ones "time set" and "intervals skipped"; a step back forms none until the
last boundary is passed again. Either raises event 0x500A (R344). -/
def State.timeChanged (s : State) (old : Nat) : State :=
  (List.range 32).foldl (fun st c =>
    let every := st.clsInterval c
    let a := old / every
    let b := st.rtcSec / every
    if (st.metersOf c).isEmpty ∨ every = 0 ∨ a = b then st
    else if a < b then
      let st1 : State := { st with meters := st.meters.map (fun e => if e.2.cls = c then (e.1, { e.2 with flags := e.2.flags ||| 768 }) else e) }
      (st1.modCls c (fun r => { r with seen := peak r.seen (b * every) })).raise 0x500A ([c, 1] ++ dU 4 (b - a)) (st.clsReach c)
    else (st.modCls c (fun r => { r with seen := peak r.seen (a * every) })).raise 0x500A ([c, 2] ++ dU 4 (a - b)) (st.clsReach c)) s

/-- The class's interval, capture span or rate limits changed: the next record of each meter says so (Table 2). -/
def State.clsChanged (s : State) (c : Nat) : State :=
  { s with meters := s.meters.map (fun e => if e.2.cls = c then (e.1, { e.2 with flags := e.2.flags ||| 1024 }) else e) }

/-- The state of a meter as read (Table 8). -/
def Meter.state (x : Meter) : Nat := if x.retiring then 4 else if x.marked.isSome then 3 else if x.last.isSome then 2 else 1

/-- A meter entry as read, 64 bytes (Table 8). -/
def meterEntry (m : Nat) (x : Meter) : List Byte :=
  [byte x.state, byte x.cls] ++ le 2 m ++ fit 16 x.ref ++ le 6 ((x.last.map (·.raw)).getD 0) ++ le 2 (satTo 0xFFFF x.readsNow) ++
  le 4 ((x.last.map (·.time)).getD 0) ++ le 4 ((x.last.map (·.cycle)).getD 0) ++ le 4 (x.cLast.getD (x.cNext + 2 ^ 32 - 1)) ++ le 4 x.lastSeq ++
  le 4 x.lastBoundary ++ le 2 x.lastFlags ++ le 2 (satTo 0xFFFF x.missing) ++ le 4 x.backward ++ le 4 x.accepted ++ zeros 4

end Sys2Proof.Machine
end

