-- ==== Sys2Proof/Machine/SafeState.lean ====
section
/-! DEFINITION. Safe state, the black box's freeze, bank temperatures and the charter check (chapter 19, R580–R590;
chapter 3, R98, R120; chapter 12, R429). -/

namespace Sys2Proof.Machine

/-! ### The black box (R587) -/

/-- Freeze the black box: event 0x060A is its last record; a freeze that comes while it is frozen changes nothing (R587).
Reason 1 is safe state, 2 Slate, 3 a phase 1 failure. -/
def State.freezeBox (s : State) (reason : Nat) : State :=
  if s.box.frozen ≠ 0 then s
  else
    let held := satTo 256 (s.box.records + 1)
    let s1 := s.raise0 0x060A ([if reason = 3 then 4 else reason] ++ dU 2 held) [0] none
    ({ s1 with box := { s1.box with
        frozen := reason, frozenAt := s.rtcSec, freezeSlot := s1.box.last, holdNext := 0 } } : State).settle

/-- Release a frozen black box: recording resumes after the most recent record, with event 0x060A as its first record
(R587). -/
def State.releaseBox (s : State) : State :=
  if s.box.frozen = 0 then s
  else
    let s1 : State := { s with box := { s.box with frozen := 0, notKept := 0, next := (s.box.last + 1) % 256 } }
    s1.raise 0x060A ([3] ++ dU 2 (satTo 256 (s.box.records + 1))) [0]

/-- Snapshot of the counters (R590). -/
def State.snapshot (s : State) : State :=
  let s1 := (s.set 0x1750 3 s.rtcSec).set 0x1750 4 s.cycle
  (List.range 128).foldl (fun st i => st.set 0x1752 (i + 1) ((tget s.counters i 0 : Nat) : Int)) s1

/-- Clear of the counters (R590). -/
def State.clearCounters (s : State) : State := { s with counters := s.counters.map (fun _ => 0) }

/-! ### Entry and exit (R580–R582) -/

/-- Discard transactions with event 0x0404 to each shade that held one (R429). -/
def State.discardTxns (s : State) (cause : Nat) : State :=
  let l := s.txns
  let s1 : State := { s with txns := [] }
  (List.range 8).foldl (fun st sh =>
    match l.filter (fun t => decide (t.shade = sh)) with
    | [] => st
    | t :: r => st.raise 0x0404 ([cause, 1 + r.length] ++ dU 4 t.num) [sh]) s1

/-- A quad at the entry to safe state: its carrier is off at once; a held ramp counts as abandoned (R106, R581). -/
def State.safeQuad (s : State) (q : Nat) : State :=
  (if (s.tx q).carrier = 3 then s.count (0x2200 + q) 14 else s).cutQuad q

/-- The transmitters are unbiased: every carrier and field is off, every exchange and service is abandoned, CX_REQ is low
(R581, R602). -/
def State.rfOff (s : State) : State :=
  let s1 := s.each (List.range 12) State.safeQuad
  let s2 := s1.each (List.range 8) (fun st h => st.cutService h 5)
  ({ s2 with pins := { s2.pins with cxReq := false }, power := { s2.power with paBias := false } } : State).set 0x2300 6 (setBit (s2.nat 0x2300 6) 0 false)

/-- A cause of safe state: the module enters it, or adds the cause to the active ones (R580, R581). -/
def State.enterSafe (s : State) (cause unit : Nat) : State :=
  let active := s.nat 0x1110 2 ||| 2 ^ cause
  if s.inSafe then (s.set 0x1110 2 active).set 0x1110 3 (s.nat 0x1110 3 ||| 2 ^ cause : Nat)
  else
    let s1 := ((s.setFlag 0x1110 1 true).set 0x1110 2 active).set 0x1110 3 active
    let s2 := (((s1.set 0x1110 4 0).set 0x1110 6 s.rtcSec).set 0x1110 7 s.cycle).set 0x1110 10 unit
    let s3 := (s2.count 0x1110 8).rfOff
    let s4 := ({ s3 with
      safe := { s3.safe with entryCause := cause, leaving := false }
      pins := { s3.pins with safeStatN := false }
      sweep := { s3.sweep with suspended := s3.sweep.suspended || s3.sweep.running } } : State).discardTxns 1
    ((s4.raise0 0x0606 [cause, active, unit] s4.allJoined none).freezeBox 1).settle

/-- A cause clears (R580). -/
def State.clearCause (s : State) (cause : Nat) : State :=
  if bitOf (s.nat 0x1110 2) cause then
    (s.set 0x1110 2 (setBit (s.nat 0x1110 2) cause false)).set 0x1110 4 (s.nat 0x1110 4 ||| 2 ^ cause : Nat)
  else s

/-- SAFE_STAT_N is asserted until RF ready, in safe state, after a phase 1 failure and in recovery (R583). -/
def State.safeStat (s : State) : Bool :=
  !(s.power.rfPending || s.inSafe || s.power.recovery || decide (s.power.phase1Failed ≠ 0) || s.power.resetLow || s.power.refclkLost)

/-- SAFE_STAT_N follows its rule. -/
def State.driveSafeStat (s : State) : State := { s with pins := { s.pins with safeStatN := s.safeStat } }

/-- An accepted Clear: the module leaves safe state with event 0x0607; ports stay blocked to the next slot boundary
(R580, R582). -/
def State.leaveSafe (s : State) : State :=
  if !s.inSafe || decide (s.nat 0x1110 2 ≠ 0) then s
  else
    let s1 := (s.setFlag 0x1110 1 false).raise 0x0607 [s.nat 0x1110 3] s.allJoined
    ({ s1 with
      safe := { s1.safe with leaving := true }
      sweep := { s1.sweep with suspended := s1.sweep.running && !s1.flag 0x1700 1 }
      power := { s1.power with paBias := s1.flag 0x1100 2 } } : State).driveSafeStat

/-- SAFE_N goes low (R580). -/
def State.safeNLow (s : State) : State :=
  ({ s with pins := { s.pins with safeN := false } } : State).enterSafe 0 0xFF

/-- `SAFE_N_LOW`. -/
def execSafeNLow (t : Nat) (s : State) : Out := .next (s.at t).safeNLow

/-- SAFE_N has been high for 10 ms: its cause clears (R580). -/
def State.safeNCleared (s : State) : State :=
  ({ s with pins := { s.pins with safeN := true } } : State).clearCause 0

/-- `SAFE_N_CLEARED`. -/
def execSafeNCleared (t : Nat) (s : State) : Out := .next (s.at t).safeNCleared

/-! ### Temperatures and the charter (R98, R120) -/

/-- A sample of a bank's sensor: derating enters and ends with events 0x2206 and 0x2207 (R98). -/
def State.sampleBank (s : State) (b : Nat) (temp : Int) : State :=
  let hot := decide (s.int 0x2060 1 < temp)
  let was := (s.bank b).derating
  let limit := s.thermalLimit temp
  let s1 := (s.modBank b (fun x => { x with temp := temp, derating := hot }))
  if hot && !was then s1.raise 0x2206 ([b] ++ dI 2 temp ++ dI 2 limit) s1.allJoined
  else if !hot && was then s1.raise 0x2207 ([b] ++ dI 2 temp) s1.allJoined
  else s1

/-- The samples of the three banks; 125.0 °C on any of them enters safe state, and below 115.0 °C on all the cause clears
(R28, R98, R580). -/
def State.sampleBanks (s : State) (a b c : Int) : State :=
  let s1 := ((s.sampleBank 0 a).sampleBank 1 b).sampleBank 2 c
  let excess := [a, b, c].findIdx? (fun x => decide (1250 ≤ x))
  match excess with
  | some i => if bitOf (s1.nat 0x1110 2) 3 then s1 else s1.enterSafe 3 i
  | none => if [a, b, c].all (fun x => decide (x < 1150)) then s1.clearCause 3 else s1

/-- `TEMPERATURE_SAMPLE`: the sensors of banks A, B and C in 0.1 °C. -/
def execTemperatureSample (t : Nat) (tempA tempB tempC : Int) (s : State) : Out := .next ((s.at t).sampleBanks tempA tempB tempC)

/-- The fused charter is checked at cold start and every 60 s with the CRC-32 computed over it: a mismatch sets charter state 2, raises
event 0x2001 and puts the module in safe state (R120). -/
def State.checkCharter (s : State) (crc : Nat) : State :=
  let first := !s.power.charterChecked
  if !first && decide (s.now < s.power.charterTick + sec 60) then s
  else
    let s1 : State := { s with power := { s.power with charterChecked := true, charterTick := s.now } }
    if s.fuses.charterState = 0 ∨ crc = s.fuses.charter.check then s1
    else
      let s2 : State := { s1 with fuses := { s1.fuses with charterState := 2 } }
      (s2.raise 0x2001 ([if first then 1 else 2, 0] ++ dU 4 crc) s2.allJoined).enterSafe 4 0xFF

/-- `FUSED_CHARTER_CHECK`: the computed CRC-32. -/
def execFusedCharterCheck (t crc : Nat) (s : State) : Out := .next ((s.at t).checkCharter crc)

end Sys2Proof.Machine
end

