-- ==== Sys2Proof/Machine/SelfTest.lean ====
section
/-! DEFINITION. Cold BIST, the in-service sweep, memory failures and the repair table, Lantern's time record (chapter 19,
R567–R579, R591). -/

namespace Sys2Proof.Machine

/-- A cold BIST phase has compared its signatures: event 0x0601, and event 0x0602 with safe state where a partition of
phase 2 failed (R569). The duration is in 0.1 ms. -/
def State.phase2Done (s : State) (failed duration : Nat) : State :=
  if !s.power.reachable || s.power.phase2Done then s
  else
    let s1 : State := { s with power := { s.power with phase2Done := true, phase2Passed := decide (failed = 0) } }
    let s2 := (s1.set 0x1700 11 failed).raise 0x0601 ([2, failed] ++ dU 2 duration) s1.allJoined
    if failed = 0 then s2 else (s2.raise 0x0602 [2, failed, 0xFF, 0xFF] s2.allJoined).enterSafe 1 failed

/-- `COLD_BIST_PHASE_2_DONE`: the failing partition, or 0, and the duration in 0.1 ms. -/
def execColdBistPhase2Done (t failed duration : Nat) (s : State) : Out := .next ((s.at t).phase2Done failed duration)

/-! ### Memories (Table 3) -/

/-- Slices of the memories before memory m. -/
def slicesBefore (m : Nat) : Nat := tget [0, 3072, 5120, 5888, 6016] m 6016

/-- The memory of a slice of the sweep. -/
def memoryOf (slice : Nat) : Nat := if slice < 3072 then 0 else if slice < 5120 then 1 else if slice < 5888 then 2 else 3

/-- The bank of an address. -/
def bankOf (m addr : Nat) : Nat := if m = 2 then addr / 262144 else if m = 3 then 0 else addr / 1048576

/-- Spare rows of a bank. -/
def sparesIn (m : Nat) : Nat := if m = 2 then 4 else 8

/-- Banks of a memory. -/
def banksIn (m : Nat) : Nat := tget [12, 8, 12, 1] m 0

/-- Rows of 1 KiB in a bank. -/
def rowsIn (m : Nat) : Nat := if m = 2 then 256 else if m = 3 then 512 else 1024

/-- The spares used or failed of a bank. -/
def State.sparesGone (s : State) (m b : Nat) : Nat := NMap.getD s.sweep.sparesUsed (256 * m + b) 0

/-- `0x1700:0E` + m: good spare rows left and rows repaired (Table 5). -/
def State.memoryObject (s : State) (m : Nat) : Nat :=
  let left := sumOf ((List.range (banksIn m)).map (fun b => sparesIn m - s.sparesGone m b))
  65536 * left + (s.sweep.repairs.filter (fun r => decide (r.1 = m))).length

/-- A failure goes to the log, newest first, with event 0x0603 (R573). Spare is 0xFFFF where none was used. -/
def State.logFailure (s : State) (m result addr bit element spare : Nat) : State :=
  let e := [byte m, byte result] ++ le 4 addr ++ [byte bit, byte element] ++ le 4 s.rtcSec ++ le 2 spare ++ zeros 2
  let s1 := (List.range 15).foldl (fun st i => st.setBytes 0x1720 (16 - i) (st.bytes 0x1720 (15 - i) 16)) s
  let s2 := ((s1.setBytes 0x1720 1 e).count 0x1700 12)
  ({ s2 with sweep := { s2.sweep with failures := s2.sweep.failures + 1 } } : State).raise 0x0603 ([m, result] ++ dU 4 addr) s.allJoined

/-! ### The repair table (R574) -/

/-- The repair table as a page's content. -/
def State.repairPage (s : State) (gen : Nat) : List Byte :=
  le 4 gen ++ le 2 s.sweep.repairs.length ++
  s.sweep.repairs.flatMap (fun r => [byte r.1, byte r.2.1] ++ le 2 r.2.2.1 ++ [byte r.2.2.2] ++ zeros 3)

/-- The generation of a copy of the repair table; a copy whose page is not whole has none (R539). -/
def Sweep.order (w : Sweep) (b : Bool) : Nat :=
  if b then (if w.validB then w.genB else 0) else (if w.validA then w.genA else 0)

/-- The whole table goes into the copy with the lower generation; a refused store is retried every 10 ms (R574). -/
def State.storeRepairs (s : State) : State :=
  if s.supplyStable then
    let older := decide (s.sweep.order true < s.sweep.order false)
    let gen := peak s.sweep.genA s.sweep.genB + 1
    let s1 := (s.writePage (if older then 2559 else 2558) 1 (s.repairPage gen)).storeDone
    if older then ({ s1 with sweep := { s1.sweep with genB := gen, validB := true, retryTick := none } } : State).set 0x1700 13 1
    else ({ s1 with sweep := { s1.sweep with genA := gen, validA := true, retryTick := none } } : State).set 0x1700 13 0
  else ({ s with sweep := { s.sweep with retryTick := some (s.now + ms 10) } } : State).storeRefused 4

/-- A refused store of the repair table is tried again (R574). -/
def State.retryRepairs (s : State) : State :=
  match s.sweep.retryTick with
  | some due => if due ≤ s.now then s.storeRepairs else s
  | none => s

/-- `REPAIR_TABLE_RETRY`. -/
def execRepairTableRetry (t : Nat) (s : State) : Out := .next (s.at t).retryRepairs

/-! ### Slices (R570–R577) -/

/-- A sweep whose slices are all done is complete: event 0x0604 (R578). -/
def State.sweepComplete (s : State) : State :=
  let w := s.sweep
  if w.running ∧ 6016 ≤ w.memDone ∧ w.logicDone.all (fun n => decide (32 ≤ n)) then
    let took := (s.now - w.startTick) / 122880000
    let s1 := (({ s with sweep := { w with running := false, suspended := false } } : State).set 0x1700 9 s.rtcSec).set 0x1700 10 took
    s1.raise 0x0604 (dU 4 took ++ dU 2 (satTo 65535 w.failures)) s1.allJoined
  else s

/-- A failing bit found by the March test: its row goes to the next good spare of its bank, or no spare is left (R571).
A failure is the address, the bit, the element and how many spares failed their own test. -/
def State.repairRow (s : State) (m : Nat) (f : Nat × Nat × Nat × Nat) : State :=
  let b := bankOf m f.1
  let spare := s.sparesGone m b + f.2.2.2
  if spare < sparesIn m then
    let row := f.1 / 1024 % rowsIn m
    let s1 : State := { s with sweep := { s.sweep with
      sparesUsed := NMap.put s.sweep.sparesUsed (256 * m + b) (spare + 1)
      repairs := s.sweep.repairs.filter (fun r => !(decide (r.1 = m) && decide (r.2.1 = b) && decide (r.2.2.1 = row))) ++ [(m, b, row, spare)] } }
    (s1.logFailure m 1 f.1 f.2.1 f.2.2.1 spare).storeRepairs
  else
    let s1 : State := { s with sweep := { s.sweep with sparesUsed := NMap.put s.sweep.sparesUsed (256 * m + b) (sparesIn m) } }
    (s1.logFailure m 2 f.1 f.2.1 f.2.2.1 0xFFFF).enterSafe 2 0xFF

/-- A memory slice, from its start: the slice moved to the front runs first. A word that cannot be corrected at the save
enters safe state (R570–R572). -/
def State.memorySlice (s : State) (failures : List (Nat × Nat × Nat × Nat)) (saveError : Option Nat) : State :=
  if !s.sweeping || !s.sliceFits none (us 400) then s
  else
    let w := s.sweep
    let slice := w.front.head?.getD w.nextMem
    if slice ≥ 6016 then s
    else
      let m := memoryOf slice
      let s1 : State := { s with sweep := if w.front.isEmpty then { w with nextMem := w.nextMem + 1, memDone := w.memDone + 1 } else { w with front := w.front.drop 1 } }
      let s2 := match saveError with
        | some a => (s1.logFailure m 4 a 0xFF 0 0xFFFF).enterSafe 2 0xFF
        | none => failures.foldl (fun st f => st.repairRow m f) s1
      s2.sweepComplete

/-- `MEMORY_SLICE`: failing bits found (address, bit, element, spares that failed) and an uncorrectable word at the save. -/
def execMemorySlice (t : Nat) (failures : List (Nat × Nat × Nat × Nat)) (saveError : Option Nat) (s : State) : Out :=
  .next ((s.at t).memorySlice failures saveError)

/-- A logic slice of a quad that no survey holds; a calibration stands at one instant and holds none (R576). -/
def State.logicSlice (s : State) (q : Nat) (ok : Bool) : State :=
  let k := tget s.sweep.logicDone q 32
  if !s.sweeping || decide (32 ≤ k) || s.carrierOn q || (s.tx q).survey.isSome || decide (s.power.mode ≠ 0) || !s.sliceFits (some q) (us 1000) then s
  else
    let s1 : State := { s with sweep := { s.sweep with logicDone := tmod s.sweep.logicDone q (· + 1) } }
    if ok then s1.sweepComplete
    else (s1.raise 0x0602 [3, 5, q, k] s1.allJoined).enterSafe 1 5

/-- `LOGIC_SLICE`: of a quad, with its outcome. -/
def execLogicSlice (t quad : Nat) (ok : Bool) (s : State) : Out := .next ((s.at t).logicSlice quad ok)

/-- A sweep starts (R578). -/
def State.startSweep (s : State) : State :=
  { s with sweep := { s.sweep with
    running := true, suspended := s.inSafe || !s.flag 0x1700 1, startTick := s.now, nextMem := 0, memDone := 0
    logicDone := List.replicate 12 0, late := false, failures := 0, everStarted := true } }

/-- The sweep period has passed since the last sweep started (R578). -/
def State.sweepDue (s : State) : State :=
  if s.flag 0x1700 1 ∧ s.sweep.running = false ∧ s.inSafe = false ∧
      (s.sweep.everStarted = false ∨ s.sweep.startTick + sec (3600 * s.nat 0x1700 2) ≤ s.now) then s.startSweep
  else s

/-- `SWEEP_DUE`. -/
def execSweepDue (t : Nat) (s : State) : Out := .next ((s.at t).awake (fun st => st.sweepDue))

/-- A sweep not complete 24 h after it started: event 0x0605 (R578). -/
def State.sweepLate (s : State) : State :=
  let w := s.sweep
  if w.running ∧ w.late = false ∧ w.startTick + sec 86400 ≤ s.now then
    ({ s with sweep := { w with late := true } } : State).raise 0x0605
      (dU 2 (6016 - w.memDone) ++ [satTo 255 (384 - sumOf w.logicDone)]) s.allJoined
  else s

/-- `SWEEP_LATE`. -/
def execSweepLate (t : Nat) (s : State) : Out := .next ((s.at t).awake (fun st => st.sweepLate))

/-- In-service BIST is switched: disabled, the sweep is suspended (R578). -/
def State.sweepSwitched (s : State) : State :=
  { s with sweep := { s.sweep with suspended := s.sweep.running && (s.inSafe || !s.flag 0x1700 1) } }

/-! ### Errors in use (R572) -/

/-- A single-bit error corrected in normal use: event 0x0609, and its slice goes to the front of the sweep (R572). -/
def State.correctedError (s : State) (m addr bit : Nat) : State :=
  let slice := slicesBefore m + addr / 4096
  let s1 : State := ({ s with sweep := { s.sweep with
    front := if s.sweep.front.contains slice then s.sweep.front else s.sweep.front ++ [slice] } } : State).count 0x1700 18
  s1.raise 0x0609 ([m] ++ dU 4 addr ++ [bit]) s1.allJoined (perMinute 0)

/-- `CORRECTED_MEMORY_ERROR`. -/
def execCorrectedMemoryError (t memory addr bit : Nat) (s : State) : Out := .next ((s.at t).correctedError memory addr bit)

/-- An uncorrectable word found in normal use: the failure log and safe state (R572, R573). -/
def State.uncorrectableMemory (s : State) (m addr : Nat) : State := (s.logFailure m 3 addr 0xFF 0 0xFFFF).enterSafe 2 0xFF

/-- `UNCORRECTABLE_MEMORY_FAULT`. -/
def execUncorrectableMemoryFault (t memory addr : Nat) (s : State) : Out := .next ((s.at t).uncorrectableMemory memory addr)

/-! ### Lantern (R591) -/

/-- A Lantern time record: the upper half of the bus tick count and the slot count (Table 13). -/
def State.lanternTime (s : State) : State :=
  let s1 := s.lanternPush 1 (dU 4 ((s.now - s.power.releaseTick) / 2 ^ 32) ++ dU 4 s.belfry.slots)
  { s1 with lantern := { s1.lantern with lastTime := s.now } }

/-- `LANTERN_TIME_RECORD`. -/
def execLanternTimeRecord (t : Nat) (s : State) : Out := .next (s.at t).lanternTime

end Sys2Proof.Machine
end

