-- ==== Sys2Proof/Machine/Sessions.lean ====
section
/-! DEFINITION. The host-link transmit queue (R445, R484, R485), sessions as they send, end and are forgotten (R385–R388,
R398), and the queue of memory scans (R563, R565), which a session's end may shorten. -/

namespace Sys2Proof.Machine

/-! ### The transmit queue -/

/-- Whether a link is up: 1 Ethernet, 2 the Spire link. -/
def State.linkUp (s : State) (link : Nat) : Bool :=
  if link = 1 then decide (s.nat 0x1200 3 = 1) else decide (s.nat 0x1210 3 = 1)

/-- Frames of a link in the transmit queue. -/
def State.queuedOn (s : State) (link : Nat) : Nat := (s.txq.filter (fun f => decide (f.link = link))).length

/-- Whether a frame of a link finds a place: fewer than 256 frames in all and 192 of the link (R484). -/
def State.place (s : State) (link : Nat) : Bool := decide (s.txq.length < 256) && decide (s.queuedOn link < 192)

/-! ### Own addresses (R455, R456) -/

/-- The interface identifier of the MAC address by the modified EUI-64 rule. -/
def interfaceId : List Byte :=
  let m := fit 6 Config.macAddress
  [byte (Nat.xor (byteAt m 0) 2)] ++ slice m 1 2 ++ [0xFF#8, 0xFE#8] ++ slice m 3 3

/-- The link-local address. -/
def linkLocal : List Byte := [0xFE#8, 0x80#8] ++ zeros 6 ++ interfaceId

/-- The IPv4 address in use, all zero for none. -/
def State.ip4 (s : State) : List Byte := s.bytes 0x1203 5 4

/-- The global IPv6 address in use, all zero for none. -/
def State.ip6 (s : State) : List Byte := s.bytes 0x1203 11 16

/-- The own address that a frame to a peer is sent from: of the peer's kind, and for a reply that carries a change of address
configuration the one before the change (R444, R456). -/
def State.ownAddress (s : State) (link : Nat) (peer : Addr) : List Byte :=
  if link ≠ 1 then []
  else
    let held := s.eth.replyFrom.getD (s.ip4, s.ip6)
    if peer.family = 4 then held.1
    else if byteAt peer.bytes 0 = 0xFE ∧ byteAt peer.bytes 1 / 64 = 2 then linkLocal
    else held.2

/-- A frame takes a place. -/
def State.enqueue (s : State) (f : OutFrame) : State :=
  ({ s with txq := s.txq ++ [f] } : State).setPeak 0x5000 2 (s.txq.length + 1)

/-- A frame offered to the queue. One formed for a link that is down is discarded, but for a CLOSE (R485); one that finds
no place waits, and the first that has to counts at `0x5000:06` (R484). -/
def State.offer (s : State) (f : OutFrame) : State :=
  if s.linkUp f.link = false ∧ f.op ≠ 0x3F then s.count 0x5000 5
  else if s.place f.link ∧ s.waitingReplies.any (fun w => decide (w.link = f.link)) = false then s.enqueue f
  else
    let s1 : State := { s with waitingReplies := s.waitingReplies ++ [f] }
    if s.waitingReplies.isEmpty then
      (s1.count 0x5000 6).raise 0x6002
        (dU 2 (s.queuedOn 1) ++ dU 2 (s.queuedOn 2) ++ [s1.waitingReplies.length]) [0] (perMinute 0)
    else s1

/-- Frames that wait take the places that have come free, in their order. -/
def State.refill (s : State) : State :=
  s.waitingReplies.foldl
    (fun st f => if st.place f.link then st.enqueue f else { st with waitingReplies := st.waitingReplies ++ [f] })
    { s with waitingReplies := [] }

/-- Discard the frames of the queue that `gone` names, those that wait included; they are counted (R485). -/
def State.discardFrames (s : State) (gone : OutFrame → Bool) : Nat × State :=
  let n := (s.txq.filter gone).length + (s.waitingReplies.filter gone).length
  (n, ({ s with
          txq := s.txq.filter (fun f => !gone f)
          waitingReplies := s.waitingReplies.filter (fun f => !gone f) } : State).addTo 0x5000 5 n)

/-- A link has gone down: its frames are discarded but for CLOSE frames, and event 0x6003 names how many (R485). -/
def State.framesLost (s : State) (link : Nat) : State :=
  let d := s.discardFrames (fun f => decide (f.link = link) && decide (f.op ≠ 0x3F))
  (if 0 < d.1 then d.2.raise 0x6003 ([link] ++ dU 2 d.1) d.2.allJoined (perMinute link) else d.2).refill

/-! ### Memory scans (R563, R565) -/

/-- The session of the scan that runs. -/
def State.scanning (s : State) : Option Session := s.sessions.find? (fun x => decide (x.scan.state = 2))

/-- Scans queued or running (`0x1800:02`). -/
def State.scansOpen (s : State) : Nat :=
  (s.sessions.filter (fun x => decide (x.scan.state = 1) || decide (x.scan.state = 2))).length

/-- Sessions whose scan is queued. -/
def State.scansQueued (s : State) : List Session := s.sessions.filter (fun x => decide (x.scan.state = 1))

/-- The session whose queued scan was accepted first. -/
def firstScan (l : List Session) : Option Session :=
  l.foldl (fun best x => match best with
    | none => some x
    | some b => if x.scan.order < b.scan.order then some x else best) none

/-- Change a session. -/
def State.modSession (s : State) (sid : Nat) (f : Session → Session) : State :=
  { s with sessions := s.sessions.map (fun x => if x.id = sid then f x else x) }

/-- With no scan running, the scan accepted first among those queued starts (R563). -/
def State.nextScan (s : State) : State :=
  match s.scanning, firstScan s.scansQueued with
  | none, some x => s.modSession x.id (fun y => { y with scan := { y.scan with state := 2 } })
  | _, _ => s

/-! ### Sessions -/

/-- The session of an ID, half-open or open. -/
def State.session? (s : State) (sid : Nat) : Option Session := s.sessions.find? (fun x => decide (x.id = sid))

/-- Open sessions of a shade, in order of opening. -/
def State.openOf (s : State) (sh : Nat) : List Session := s.sessions.filter (fun x => decide (x.shade = sh) && x.isOpen)

/-- One of the four keys of R381, 44 bytes: a 32-byte key, then a 12-byte IV. -/
def Session.key (x : Session) (info : String) : List Byte := Config.hkdfExpand x.keys (ascii info) 44

/-- Whether a sequence is higher than the highest received, or one of the 64 below it not yet received (R385). -/
def Session.fresh (x : Session) (q : Nat) : Bool :=
  decide (x.hiSeq < q) || (decide (q < x.hiSeq) && decide (x.hiSeq ≤ q + 64) && !x.seen.contains q)

/-- The record of an accepted frame: sequence, return path and time (R385, R386, R444). -/
def Session.took (x : Session) (q : Nat) (src : Addr) (now sec : Nat) : Session :=
  let hi := peak x.hiSeq q
  { x with
    hiSeq := hi, seen := ((if q < x.hiSeq then [q] else [x.hiSeq]) ++ x.seen).filter (fun v => decide (hi ≤ v + 64)), peer := src
    authFails := 0, lastTick := now, lastSec := sec }

/-- A protected frame of a session leaves under its next sequence (R384, R443). -/
def State.sendUnder (s : State) (x : Session) (op : Nat) (reply : Bool) (payload : List Byte) (info : String) : State :=
  ({ s.modSession x.id (fun y => { y with txSeq := x.txSeq + 1 }) with eth := { s.eth with replyFrom := none } } : State).offer
    { link := x.link, src := s.ownAddress x.link x.peer, dst := x.peer, shade := x.shade, session := x.id, op := op, reply := reply, seq := x.txSeq + 1,
      key := x.key info, payload := payload }

/-- The number of an expired transaction, with event 0x0403 to its shade (R421, R440). -/
def State.expireTxn (s : State) (x : Txn) (cause : Nat) : State :=
  ({ s with
      txns := s.txns.filter (fun y => decide (y.num ≠ x.num))
      txnStats := tmod s.txnStats x.shade (fun c => { c with expiries := (c.expiries + 1) % 2 ^ 32 }) } : State).raise 0x0403
    (dU 4 x.num ++ [cause]) [x.shade]

/-- A session is forgotten: its frames but for its CLOSE, its keys, its views, its scan and its delivery go (R435, R485,
R560, R565), and the transaction that it was staging expires (R421). Its waiting transactions belong to no session any more
(R426). -/
def State.forgetSession (s : State) (x : Session) : State :=
  let s1 := (s.discardFrames (fun f => decide (f.session = x.id) && decide (f.op ≠ 0x3F))).2
  let s2 : State := { s1 with sessions := s1.sessions.filter (fun y => decide (y.id ≠ x.id)) }
  let s3 := s2.modShade x.shade (fun y => { y with delivery := if y.delivery = x.id then 0 else y.delivery })
  let s4 := if x.scan.state = 1 ∨ x.scan.state = 2 then (s3.count 0x1800 3).nextScan else s3
  let s5 := (s4.txns.filter (fun y => decide (y.session = x.id) && !y.waiting)).foldl (fun st y => st.expireTxn y 2) s4
  ({ s5 with txns := s5.txns.map (fun y => if y.session = x.id then { y with session := 0 } else y) } : State).refill

/-- An open session ends: the module's CLOSE carries the reason, and event 0x030A is raised (R388). A half-open session is
discarded without either. -/
def State.endSession (s : State) (sid reason : Nat) : State :=
  match s.session? sid with
  | none => s
  | some x =>
    let s1 := if x.isOpen then s.sendUnder x 0x3F false [byte reason] "HJ48 m2o" else s
    let s2 := s1.forgetSession x
    if x.isOpen then s2.raise 0x030A ([x.shade] ++ dU 4 sid ++ [reason]) [x.shade] else s2

/-- A protected frame of an open session. A session ends with reason 4 before it would use sequence 0xFFFFFFFF, so 0xFFFFFFFE
is left for its CLOSE (R385). -/
def State.sendTo (s : State) (sid op : Nat) (reply : Bool) (payload : List Byte) : State :=
  match s.session? sid with
  | none => s
  | some x =>
    let s1 := s.sendUnder x op reply payload "HJ48 m2o"
    if 0xFFFFFFFD ≤ x.txSeq + 1 then s1.endSession sid 4 else s1

/-- The reply head (R408). -/
def replyHead (q status : Nat) : List Byte := le 4 q ++ le 2 status ++ zeros 2

/-- An ERROR payload (R409). -/
def errorPayload (q status op : Nat) : List Byte := le 4 q ++ le 2 status ++ [byte op, 0#8]

/-- A protected ERROR that answers a frame of an open session. -/
def State.errorReply (s : State) (sid : Nat) (f : Frame) (status : Nat) : State :=
  s.sendTo sid 0x7F true (errorPayload f.seq status f.op)

/-- A frame in clear to the source of a frame (R384, R444). Its own sequence is 0 (log entry 27). -/
def State.clearReply (s : State) (f : Frame) (sid op : Nat) (payload : List Byte) : State :=
  s.offer { link := f.link, src := s.ownAddress f.link f.src, dst := f.src, shade := f.shade, session := sid, op := op, reply := true, seq := 0, key := [],
            payload := payload }

/-- An ERROR in clear (R387). -/
def State.clearError (s : State) (f : Frame) (status : Nat) : State :=
  s.clearReply f f.session 0x7F (errorPayload f.seq status f.op)

/-- The answer to a frame with an unknown session ID, at most 10 per second (R387). -/
def State.unknownSession (s : State) (f : Frame) : State :=
  let recent := s.unknownErrors.filter (fun t => decide (s.now < t + sec 1))
  if recent.length < 10 then ({ s with unknownErrors := recent ++ [s.now] } : State).clearError f 0x0301
  else { s with unknownErrors := recent }

/-- A handshake refusal: the half-open session that the frame names is discarded, an ERROR goes in clear, and event 0x030B
reaches the shade, or Slate while the shade is closed (R387, R399). -/
def State.refuseHello (s : State) (f : Frame) (phase status : Nat) : State :=
  let s1 := match s.session? f.session with
    | some x => if x.isOpen ∨ x.link ≠ f.link ∨ x.shade ≠ f.shade then s else s.forgetSession x
    | none => s
  ((s1.clearError f status).count 0x1300 9).raise 0x030B ([f.shade, phase] ++ dU 2 status)
    (if s.shadeState f.shade = 0 then [0] else [f.shade]) (perMinute f.shade)

/-! ### Receiving a frame of a session -/

/-- Whether a frame arrives at all: the dictionary is reachable, the module is not in deep standby, and the link that carries
it is up. -/
def State.hears (s : State) (f : Frame) : Bool :=
  s.power.reachable && decide (s.power.mode ≠ 2) && (decide (f.link = 1) || decide (f.link = 2)) && s.linkUp f.link

/-- The header of an OAP frame (R441). -/
def frameHeader (f : Frame) : List Byte :=
  [byte f.version, byte f.shade, byte f.flags, byte f.op] ++ le 4 f.session ++ le 4 f.seq ++ le 2 f.payload.length ++ zeros 2

/-- Whether a reassembled Spire link frame is the one that a command carries: its header and its length agree. -/
def frameIsIn (f : Frame) (b : List Byte) : Bool :=
  decide (slice b 0 12 = slice (frameHeader f) 0 12) &&
    (!f.lengthOk || decide (b.length = f.payload.length + 32))

/-- A frame is taken from its link: on the Spire link it is the frame reassembled first (R466); on Ethernet it is counted. -/
def State.takeFrame (s : State) (f : Frame) : Option State :=
  if s.hears f = false then none
  else if f.link = 1 then some (s.count 0x1200 7)
  else match s.spire.inbox with
    | b :: r => if frameIsIn f b then some { s with spire := { s.spire with inbox := r } } else none
    | [] => none

/-- The checks of R442. -/
def wellFramed (f : Frame) : Bool :=
  f.lengthOk && decide (f.version = 1) && decide (f.shade ≤ 7) &&
    (bitOf f.flags 1 || (decide (f.op = 0x30) && decide (f.session = 0)))

/-- The ops of Table 2 of chapter 13 that a host sends. -/
def hostOps : List Nat := [0x01, 0x02, 0x03, 0x10, 0x11, 0x12, 0x13, 0x20, 0x22, 0x30, 0x3F]

/-- Lengths of the items of a WRITE or TXN_STAGE payload: the bytes left after `n` items, none when one is cut short. -/
def afterItems : Nat → List Byte → Option (List Byte)
  | 0, l => some l
  | n + 1, l =>
    let len := fieldAt l 4 2
    if l.length < 8 + len then none else afterItems n (l.drop (8 + len))

/-- Check 3 of R409: the payload has the length that its op requires and its items state; a count of items outside 1–16
answers 0x0106. -/
def payloadCheck (op : Nat) (p : List Byte) : Nat :=
  let exact := fun (n : Nat) => if p.length = n then 0 else 0x0105
  let counted := fun (n : Nat) (ok : Bool) => if n = 0 ∨ 16 < n then 0x0106 else if ok then 0 else 0x0105
  if op = 0x01 then (if p.length < 4 then 0x0105 else counted (byteAt p 0) (decide (p.length = 4 + 4 * byteAt p 0)))
  else if op = 0x02 then (if afterItems 1 p = some [] then 0 else 0x0105)
  else if op = 0x03 then exact 12
  else if op = 0x10 then exact 4
  else if op = 0x11 then
    (if p.length < 8 then 0x0105 else counted (byteAt p 4) (decide (afterItems (byteAt p 4) (p.drop 8) = some [])))
  else if op = 0x12 then exact 16
  else if op = 0x13 then exact 4
  else if op = 0x20 then exact 36
  else if op = 0x22 then exact 4
  else if op = 0x3F then exact 1
  else if op = 0x30 then (if p.isEmpty then 0x0105 else 0)
  else 0x0106

/-- The checks of R409, in order: 0 when the request passes. -/
def requestCheck (f : Frame) : Nat :=
  if 1400 < f.payload.length then 0x0105
  else if bitOf f.flags 0 ∨ hostOps.contains f.op = false then 0x0106
  else payloadCheck f.op f.payload

/-- A protected frame of an open session after R409: its tag, its sequence, and the record of its acceptance (R385, R387).
Answers the session when the frame is to be acted on. -/
def State.checkFrame (s : State) (x : Session) (f : Frame) : Option Session × State :=
  if f.authentic = false then
    let late := match x.lastAuthError with
      | none => true
      | some t => decide (t + sec 1 ≤ s.now)
    let s1 := s.modSession x.id (fun y => { y with
      authFails := y.authFails + 1
      lastAuthError := if late then some s.now else y.lastAuthError })
    let s2 := if late then s1.errorReply x.id f 0x0303 else s1
    (none, if 64 ≤ x.authFails + 1 then s2.endSession x.id 8 else s2)
  else if f.seq = 0xFFFFFFFF then (none, s.endSession x.id 4)
  else if x.fresh f.seq = false then
    (none, (s.modSession x.id (fun y => { y with authFails := 0 })).errorReply x.id f 0x0302)
  else
    let s1 := s.modSession x.id (fun y => y.took f.seq f.src s.now s.rtcSec)
    (s1.session? x.id, s1)

/-- After a request has been handled: a session whose owner has no sequence left ends with reason 4 (R385). -/
def State.afterRequest (s : State) (sid : Nat) : State :=
  match s.session? sid with
  | some x => if 0xFFFFFFFE ≤ x.hiSeq then s.endSession sid 4 else s
  | none => s

/-- A frame of an op whose command this is: discarded under R442, answered for its session (R384–R387, R444), checked
under R409, and acted on when the session is open and the frame authentic and fresh. At most 16 requests wait for a place for
their reply (R416, R484); one more is answered with an ERROR 0x0401. -/
def State.receive (s : State) (f : Frame) (act : State → Session → State) : State :=
  match s.takeFrame f with
  | none => s
  | some s1 =>
    if wellFramed f = false then s1.count 0x1200 9
    else
      match s1.session? f.session with
      | none => s1.unknownSession f
      | some x =>
        if x.link ≠ f.link ∨ x.shade ≠ f.shade then s1.unknownSession f
        else if x.isOpen = false then s1.refuseHello f 2 0x0301
        else if requestCheck f ≠ 0 then s1.errorReply x.id f (requestCheck f)
        else match s1.checkFrame x f with
          | (none, s2) => s2
          | (some y, s2) =>
            if 16 ≤ s2.waitingReplies.length then (s2.errorReply y.id f 0x0401).afterRequest y.id
            else (act s2 y).afterRequest y.id

/-! ### Commands -/

/-- A half-open session whose phase 2 does not arrive within 5 s of its HELLO_REPLY is discarded (R386). -/
def State.halfOpenTimeout (s : State) (sid : Nat) : State :=
  match s.session? sid with
  | some x => if x.isOpen = false ∧ x.startTick + sec 5 ≤ s.now then s.forgetSession x else s
  | none => s

/-- `HALF_OPEN_TIMEOUT`. -/
def execHalfOpenTimeout (t session : Nat) (s : State) : Out := .next ((s.at t).awake (fun st => st.halfOpenTimeout session))

/-- No authenticated frame for the idle limit: the session ends with reason 2 (R386). -/
def State.sessionIdle (s : State) (sid : Nat) : State :=
  match s.session? sid with
  | some x => if x.isOpen ∧ x.lastTick + sec (s.nat 0x1300 5) ≤ s.now then s.endSession sid 2 else s
  | none => s

/-- `SESSION_IDLE`. -/
def execSessionIdle (t session : Nat) (s : State) : Out := .next ((s.at t).awake (fun st => st.sessionIdle session))

/-- The lifetime of 86,400 s has passed: the session ends with reason 3 (R383, R386). -/
def State.sessionLifetime (s : State) (sid : Nat) : State :=
  match s.session? sid with
  | some x => if x.isOpen ∧ x.startTick + sec 86400 ≤ s.now then s.endSession sid 3 else s
  | none => s

/-- `SESSION_LIFETIME`. -/
def execSessionLifetime (t session : Nat) (s : State) : Out := .next ((s.at t).awake (fun st => st.sessionLifetime session))

/-- 1 s after the reply to a rotation's commit, each session of the shade that was open then ends with reason 5 (R380). -/
def State.rotationEnds (s : State) (sh : Nat) : State :=
  (s.openOf sh).foldl (fun st x => match x.endDue with
    | some d => if d.1 ≤ st.now then st.endSession x.id d.2 else st
    | none => st) s

/-- `ROTATION_SESSIONS_END`. -/
def execRotationSessionsEnd (t shade : Nat) (s : State) : Out := .next ((s.at t).awake (fun st => st.rotationEnds shade))

/-- An owner's CLOSE is answered with the module's own CLOSE, and the session ends with reason 1 (R388). -/
def execClose (t : Nat) (f : Frame) (s : State) : Out :=
  .next (if f.op = 0x3F then (s.at t).receive f (fun st x => st.endSession x.id 1) else s.at t)

/-- A frame that fails R442, or one with an op that is unknown or only the module sends, or with the reply flag, is
discarded or answered with an ERROR (R409, R442). -/
def State.frameDiscarded (s : State) (f : Frame) : State :=
  if wellFramed f = false ∨ hostOps.contains f.op = false ∨ bitOf f.flags 0 then s.receive f (fun st _ => st) else s

/-- `OAP_FRAME_DISCARDED`. -/
def execOapFrameDiscarded (t : Nat) (f : Frame) (s : State) : Out := .next ((s.at t).frameDiscarded f)

/-- A frame leaves: the frame of the Ethernet link that entered first is sent (R445, R483). Frames of the Spire link leave as
fragments (Machine/Spire.lean). -/
def State.popFrame (s : State) (link : Nat) : Option (OutFrame × State) :=
  match s.txq.find? (fun f => decide (f.link = link)) with
  | none => none
  | some f => some (f, { s with txq := s.txq.erase f })

/-- The bytes of a frame as it goes out: header, payload sealed under its key, tag (R384, R441). -/
def OutFrame.bytes (f : OutFrame) : List Byte :=
  let flags := b01 f.reply + (if f.key.isEmpty then 0 else 2)
  let head := [1#8, byte f.shade, byte flags, byte f.op] ++ le 4 f.session ++ le 4 f.seq ++ le 2 f.payload.length ++ zeros 2
  if f.key.isEmpty then head ++ f.payload ++ zeros 16
  else
    let iv := slice f.key 32 12
    let nonce := iv.take 8 ++ List.zipWith (fun a b => a ^^^ b) (iv.drop 8) (le 4 f.seq)
    head ++ fit (f.payload.length + 16) (Config.gcmSeal (f.key.take 32) nonce head f.payload)

end Sys2Proof.Machine
end

