-- ==== Sys2Proof/Machine/Shades.lean ====
section
/-! DEFINITION. Shades and the Dome (chapter 11): opening, rotation and erase, the handshake of a session, claims, and the
random source. Erases are completed by the command that begins them (log entry 28). -/

namespace Sys2Proof.Machine

/-! ### Stores -/

/-- A change that the module keeps is stored; while the supply refuses, it is tried again, with event 0x0405 once for a
transaction (R428, R440, R543). -/
def State.keep (s : State) (num sh : Nat) : State :=
  if s.supplyStable then s.storeConfig
  else
    let s1 := s.storeRefused 2
    let s2 : State := { s1 with lateStores := s1.lateStores ++ [{ num := num, shade := sh, nextTick := s1.now + ms 10 }] }
    if num = 0 then s2 else s2.raise 0x0405 (dU 4 num ++ dU 2 s.power.vsys) [sh]

/-- The number of a record of the sealed store: the claim count, a shade, a meter (Table 9; log entry 116). -/
def claimRecord : Nat := 1
def shadeRecord (sh : Nat) : Nat := 2 + sh
def meterRecord (m : Nat) : Nat := 10 + m

/-- A record of the Dome's sealed store is written: the copy that its write counter names next takes the counter raised by one, which
ends the nonce (R392). -/
def State.sealRecord (s : State) (n : Nat) : State :=
  if s.supplyStable then ({ s with sealed := NMap.put s.sealed n (NMap.getD s.sealed n 0 + 1) } : State).storeDone else s.storeRefused 3

/-- The copy of a record that holds, 0 or 1, and the nonce that it was sealed under: the record number, then the write counter
(R392). -/
def State.sealedCopy (s : State) (n : Nat) : Nat × List Byte :=
  (NMap.getD s.sealed n 0 % 2, le 4 n ++ le 8 (NMap.getD s.sealed n 0))

/-- The objects of an index that keep a value, subindices `lo` to `hi`, at their defaults. -/
def State.defaults (s : State) (index lo hi : Nat) : State :=
  (List.range (hi + 1 - lo)).foldl (fun st i => if isKept (key index (lo + i)) then st.toDefault (key index (lo + i)) else st) s

/-! ### Opening and rotation -/

/-- A new storage key for a shade, counted, and its SRAM key pair under the boot nonce (R374, R391, Table 5). -/
def State.newStorageKey (s : State) (sh : Nat) : State :=
  let k := s.draw32
  (k.2.modShade sh (fun x => { x with
    storageKey := k.1, sramKey := Config.hkdf s.bootNonce k.1 (ascii "HJ48 sram" ++ [byte sh]) 64 })).count (0x1310 + sh) 12

/-- Open a shade with the owner public key that its record holds (R374, R375). -/
def State.openShade (s : State) (sh : Nat) : State :=
  let s1 := (s.newStorageKey sh).set (0x1310 + sh) 13 s.rtcSec
  let s2 := ((s1.startChain sh).set (0x1310 + sh) 1 1).sealRecord (shadeRecord sh)
  s2.raise 0x0303 ([sh] ++ dU 4 (s2.nat (0x1310 + sh) 12)) (withSlate sh)

/-- An owner key is replaced: event 0x0307, and every open session of the shade ends 1 s later with reason 5 (R380). -/
def State.rotate (s : State) (sh : Nat) (new : List Byte) : State :=
  let s1 := (s.selfSet (key (0x1310 + sh) 3) (.oct new)).sealRecord (shadeRecord sh)
  let s2 := s1.raise 0x0307 ([sh] ++ ((Config.sha256 new).take 4).map (·.toNat)) (withSlate sh)
  { s2 with sessions := s2.sessions.map (fun x => if x.shade = sh ∧ x.isOpen then { x with endDue := some (s2.now + sec 1, 5) } else x) }

/-! ### Erase (R377) -/

/-- Round plans, card plans and what runs of them return to unallocated. -/
def State.erasePlans (s : State) (sh : Nat) : State :=
  let plans := (List.range 64).filter (fun p => decide (s.nat (0x3000 + p) 1 = sh))
  let cards := (List.range 32).filter (fun p => decide (s.nat (0x3400 + p) 1 = sh))
  let s1 := (List.range 12).foldl (fun st q => match (st.seq q).plan with
    | some p => if plans.contains p then st.cutQuad q else st
    | none => st) s
  let s2 := (List.range 8).foldl (fun st h => match (st.svc h).plan with
    | some p => if cards.contains p then st.cutService h 5 else st
    | none => st) s1
  let s3 := plans.foldl (fun st p => ((((st.modPlan p (fun _ => planAtReset)).defaults (0x3000 + p) 1 41).toDefault (key (0x3000 + p) 15)).toDefault
    (key (0x3000 + p) 16)).dropLines p) s2
  let s4 := cards.foldl (fun st p => st.defaults (0x3400 + p) 1 28) s3
  { s4 with rounds := s4.rounds.filter (fun r => !plans.contains (r.1 / 64)) }

/-- The queue of an erased shade empties; its lines of shared SRAM are freed (R377, R390, R482). -/
def State.eraseQueue (s : State) (sh : Nat) : State :=
  let lines := (s.lines.filter (fun l => decide (l.2.tag = sh))).map (·.1)
  let hit := fun (l : List Nat) => l.any (fun n => lines.contains n)
  let s : State := { s with
    quads := s.quads.map (fun x => if hit x.bufferLines then { x with buffer := [], bufferLines := [] } else x),
    heldLines := s.heldLines.filter (fun e => !hit e.2) }
  (s.modShade sh (fun x => { x with
    items := [], credits := 0, wasFull := false, overrun := false, dropFlags := 0, dropped := 0, pieces := 0,
    delivery := 0 })).releaseLines lines

/-- An erase: 1 by Slate, 2 by the shade, 3 after notice, 4 a sealed record lost (R377). Its transactions go first, without an
event (R430). -/
def State.erase (s : State) (sh cause : Nat) : State :=
  let s1 := ({ s with txns := s.txns.filter (fun t => decide (t.shade ≠ sh)) } : State).set (0x1310 + sh) 1 4
  let s2 := (s1.sessions.filter (fun x => decide (x.shade = sh))).foldl (fun st x => st.endSession x.id 6) s1
  let s3 := s2.modShade sh (fun x => { x with storageKey := [], sramKey := [] })
  let s4 := ((s3.erasePlans sh).freeTags (fun e => decide (e.arrival = sh))).forgetView sh |>.eraseMetering sh
  let s5 := ((s4.defaults (0x3110 + sh) 1 (highestSub 0x3110)).defaults (0x2040 + sh) 1 (highestSub 0x2040)).defaults (0x2050 + sh) 1 (highestSub 0x2050)
  let held := (List.range 16).filter (fun n => decide ((s5.timer n).holder = sh))
  let s6 := held.foldl (fun st n => st.releaseTimer n 2) s5
  let s7 := (s6.defaults (0x1310 + sh) 5 11).eraseQueue sh
  let s8 : State := { s7 with quietDue := s7.quietDue ++ [sh] }
  let s9 := ((s8.toDefault (key (0x1310 + sh) 3)).set (0x1310 + sh) 15 0).set (0x1310 + sh) 1 0
  (State.hopSetsFell s (((s9.keep 0 8).sealRecord (shadeRecord sh)).raise 0x0306 [sh, cause] [0])).settle

/-- The erase due time of a closing shade passes on the RTC (R376). -/
def State.eraseDue (s : State) (sh : Nat) : State :=
  if 0 < sh ∧ sh < 8 ∧ s.shadeState sh = 3 ∧ s.nat (0x1310 + sh) 15 ≠ 0 ∧ s.nat (0x1310 + sh) 15 ≤ s.rtcSec then s.erase sh 3 else s

/-- `ERASE_DUE`. -/
def execEraseDue (t shade : Nat) (s : State) : Out := .next ((s.at t).awake (fun st => st.eraseDue shade))

/-- Slate's forced erase: the shade is closing, its erase due in 72 h; event 0x0305 (R376). -/
def State.closeShade (s : State) (sh : Nat) : State :=
  let due : Nat := (s.rtcSec + 259200) % 2 ^ 32
  let s1 := s.modShade sh (fun x => { x with before := s.shadeState sh })
  (((s1.set (0x1310 + sh) 1 3).set (0x1310 + sh) 15 due).sealRecord (shadeRecord sh)).raise 0x0305 ([sh] ++ dU 4 due ++ [1]) (withSlate sh)

/-- The forced erase is cancelled: the shade returns to the state that it held (R376). -/
def State.cancelClose (s : State) (sh : Nat) : State :=
  let due := s.nat (0x1310 + sh) 15
  (((s.set (0x1310 + sh) 1 (s.shade sh).before).set (0x1310 + sh) 15 0).sealRecord (shadeRecord sh)).raise 0x0305 ([sh] ++ dU 4 due ++ [2]) (withSlate sh)

/-! ### Claims (R371–R373) -/

/-- Whether the lock of R372 holds. -/
def State.claimLocked (s : State) : Bool := decide (s.nat 0x1300 7 ≠ 0) && decide (s.rtcSec < s.nat 0x1300 7)

/-- Whether a reclaim is accepted: safe state entered through SAFE_N, which is still low (R373). -/
def State.reclaimOpen (s : State) : Bool :=
  decide (s.shadeState 0 = 2) && s.inSafe && decide (s.safe.entryCause = 0) && !s.pins.safeN

/-- Event 0x0302: 1 proof failed, 2 locked. -/
def State.claimRefused (s : State) (why : Nat) : State :=
  s.raise 0x0302 ([why, s.nat 0x1300 6] ++ dU 4 (s.nat 0x1300 7)) [0]

/-- A failed claim proof is counted; from the fifth in a row a lock of 10 min follows that doubles up to 24 h (R372). -/
def State.proofFailed (s : State) : State :=
  let n := satTo 255 (s.nat 0x1300 6 + 1)
  let s1 := s.set 0x1300 6 n
  let s2 := if n < 5 then s1 else s1.set 0x1300 7 ((s.rtcSec + satTo 86400 (600 * 2 ^ (n - 5))) % 2 ^ 32 : Nat)
  (s2.sealRecord claimRecord).claimRefused 1

/-- The claim lock time passes (R372). -/
def State.lockExpired (s : State) : State :=
  if s.nat 0x1300 7 ≠ 0 ∧ s.nat 0x1300 7 ≤ s.rtcSec then s.set 0x1300 7 0 else s

/-- `CLAIM_LOCK_EXPIRED`. -/
def execClaimLockExpired (t : Nat) (s : State) : Out := .next (s.at t).lockExpired

/-! ### The handshake (R381–R387) -/

/-- Whether a mode may open a session of a shade now (Table 1, R365, R371, R373, R554). -/
def State.modeAllowed (s : State) (sh mode : Nat) : Bool :=
  let st := s.shadeState sh
  decide (s.nat 0x1300 1 ≠ 2) && (decide (sh = 0) || !s.power.recovery) &&
  (if mode = 0 then (if sh = 0 then decide (st = 2) else decide (st = 1) || decide (st = 2) || decide (st = 3))
   else if mode = 1 then decide (sh = 0) && decide (st = 0)
   else decide (sh = 0) && s.reclaimOpen)

/-- The v-th session ID that is neither 0 nor one of `used`, which rise (R443). -/
def skipUsed (v : Nat) (used : List Nat) : Nat := used.foldl (fun x u => if u ≤ x then x + 1 else x) v

/-- Session IDs in use, rising. -/
def State.usedIds (s : State) : List Nat := (s.sessions.map (·.id)).foldl (fun l x => (l.filter (· < x)) ++ [x] ++ l.filter (x < ·)) []

/-- Whether one more session stays within the module's figures and the shade's limit (R386). -/
def State.sessionRoom (s : State) (sh : Nat) : Bool :=
  decide ((s.sessions.filter (fun x => !x.isOpen)).length < 4) &&
  decide ((s.sessions.filter (fun x => x.isOpen)).length < 16) &&
  decide ((s.sessions.filter (fun x => decide (x.shade = sh))).length < s.nat (0x1310 + sh) 11)

/-- A half-open session as HELLO phase 1 leaves it. -/
def newSession (sid sh mode : Nat) (f : Frame) (th1 prk : List Byte) (now sec : Nat) : Session :=
  { id := sid, shade := sh, isOpen := false, mode := mode, link := f.link, peer := f.src, th1 := th1, keys := prk, startTick := now,
    openedSec := 0, lastTick := now, lastSec := sec, hiSeq := 0, seen := [], txSeq := 0, authFails := 0, lastAuthError := none,
    endDue := none, viewCursor := 0, viewPart := 0, meterCursor := 0, meterPart := 0, batchCursor := 0, batchPart := 0,
    check := { used := false, algorithm := 0, value := 0, register := 0, residue := false },
    scan := { state := 0, region := 0, algorithm := 0, offset := 0, length := 0, result := 0, done := 0, error := 0, errorOffset := 0,
              changed := false, order := 0 },
    shadow := none, staged := [], stagedTick := 0 }

/-- The half-open session is made, and HELLO_REPLY phase 1 answers (R381, R443, Table 8). -/
def State.halfOpen (s : State) (f : Frame) (mode : Nat) : State :=
  let used := s.usedIds
  let sid := skipUsed (1 + s.free % (2 ^ 32 - 1 - used.length)) used
  let rm := s.drawn.draw32
  let em := rm.2.draw32
  let nonce := em.2.draw32
  let cert := Config.deviceCertificate
  let head := [1#8, 0#8] ++ le 2 cert.length ++ fit 32 rm.1 ++ fit 33 (Config.p256Public em.1) ++ zeros 3
  let th1 := Config.sha256 (ascii "HJ48 hello" ++ [byte f.shade] ++ le 4 sid ++ f.payload ++ head ++ cert)
  let prk := Config.hkdfExtract th1 (Config.p256Ecdh em.1 (slice f.payload 36 33))
  let sig := fit 64 (Config.deviceSign (ascii "HJ48 module" ++ th1) nonce.1)
  let x := newSession sid f.shade mode f th1 prk s.now s.rtcSec
  ({ nonce.2 with sessions := nonce.2.sessions ++ [x] } : State).clearReply f sid 0x31 (head ++ sig ++ cert)

/-- A HELLO in clear (R386, R387). -/
def State.helloOne (s : State) (f : Frame) : State :=
  let mode := byteAt f.payload 1
  if 1400 < f.payload.length ∨ f.payload.isEmpty then s.refuseHello f 1 0x0105
  else if bitOf f.flags 0 ∨ byteAt f.payload 0 ≠ 1 then s.refuseHello f 1 0x0106
  else if f.payload.length ≠ 72 then s.refuseHello f 1 0x0105
  else if 2 < mode ∨ Config.onCurve (slice f.payload 36 33) = false then s.refuseHello f 1 0x0106
  else if s.modeAllowed f.shade mode = false then s.refuseHello f 1 0x0301
  else if mode ≠ 0 ∧ s.claimLocked then (s.claimRefused 2).refuseHello f 1 0x0401
  else if s.sessionRoom f.shade = false ∨ s.nat 0x1300 1 = 1 then s.refuseHello f 1 0x0401
  else s.halfOpen f mode

/-- `HELLO_PHASE_1`. -/
def State.helloPhaseOne (s : State) (f : Frame) : State :=
  if f.op ≠ 0x30 ∨ bitOf f.flags 1 then s
  else match s.takeFrame f with
    | none => s
    | some s1 => if wellFramed f = false then s1.count 0x1200 9 else s1.helloOne f

/-- `HELLO_PHASE_1`. -/
def execHelloPhase1 (t : Nat) (f : Frame) (s : State) : Out := .next ((s.at t).helloPhaseOne f)

/-- A claim or reclaim is accepted: the new Slate owner key, for a claim also the storage key and the chain; the count of
failures clears and event 0x0301 is raised (R371–R373). -/
def State.claimed (s : State) (mode : Nat) (new : List Byte) : State :=
  let s1 := ((s.selfSet (key 0x1310 3) (.oct new)).set 0x1300 6 0).set 0x1300 7 0
  let s2 := if mode = 1 then ((((s1.newStorageKey 0).set 0x1310 13 s.rtcSec).startChain 0).set 0x1310 1 2) else s1
  ((s2.sealRecord claimRecord).sealRecord (shadeRecord 0)).raise 0x0301 [mode] (if mode = 2 then s2.allJoined else [0])

/-- The session opens: HELLO_REPLY phase 2 under the handshake key, sequence 1, then traffic; the first session of an opened
shade joins it, and unacknowledged batches are delivered again (R354, R365, R383). -/
def State.openSession (s : State) (x : Session) : State :=
  let body := [2#8, 0#8] ++ le 2 (s.nat 0x1300 5) ++ le 4 86400 ++ le 4 s.rtcSec ++ zeros 4
  let s1 := s.sendUnder x 0x31 true body "HJ48 hs m2o"
  let s2 := s1.modSession x.id (fun y => { y with
    isOpen := true, startTick := s.now, openedSec := s.rtcSec, lastTick := s.now, lastSec := s.rtcSec })
  let s3 : State := { s2 with
    sessions := s2.sessions.filter (fun y => decide (y.id ≠ x.id)) ++ s2.sessions.filter (fun y => decide (y.id = x.id)) }
  let s4 := if 0 < x.shade ∧ s3.shadeState x.shade = 1 then
      ((s3.set (0x1310 + x.shade) 1 2).sealRecord (shadeRecord x.shade)).raise 0x0304 [x.shade] (withSlate x.shade)
    else s3
  (s4.redeliverAll x.shade).raise 0x0309 ([x.shade] ++ dU 4 x.id ++ [x.link]) [x.shade]

/-- The checks of an authentic HELLO phase 2 on its half-open session; the module holds at most 16 open sessions (R382, R386, R387). -/
def State.phaseTwo (s : State) (x : Session) (f : Frame) : State :=
  let p := f.payload
  let new := if x.mode = 0 then s.bytes (0x1310 + x.shade) 3 33 else slice p 68 33
  let signed := Config.onCurve new && Config.verify new (ascii "HJ48 owner" ++ x.th1) (slice p 4 64)
  let proof := decide (slice p 104 32 = Config.hmacSha256 Config.claimKey (ascii "HJ48 claim" ++ x.th1))
  if p.length ≠ (if x.mode = 0 then 68 else 136) then s.refuseHello f 2 0x0105
  else if byteAt p 0 ≠ 2 then s.refuseHello f 2 0x0106
  else if s.modeAllowed x.shade x.mode = false then s.refuseHello f 2 0x0301
  else if x.mode ≠ 0 ∧ s.claimLocked then (s.claimRefused 2).refuseHello f 2 0x0401
  else if x.mode ≠ 0 ∧ proof = false then s.proofFailed.refuseHello f 2 0x0303
  else if signed = false then s.refuseHello f 2 0x0303
  else if 16 ≤ (s.sessions.filter (fun y => y.isOpen)).length then s.refuseHello f 2 0x0401
  else (if x.mode = 0 then s else s.claimed x.mode new).openSession x

/-- A HELLO phase 2 on a half-open session of one of `modes`: its tag and its sequence come first (R385, R387). On any other
session it is answered as a frame of that session. -/
def State.helloPhaseTwo (s : State) (f : Frame) (modes : List Nat) : State :=
  if f.op ≠ 0x30 ∨ bitOf f.flags 1 = false then s
  else match s.session? f.session with
    | none => if modes.contains 0 then s.receive f (fun st y => st.errorReply y.id f 0x0106) else s
    | some x =>
      if x.isOpen ∨ x.link ≠ f.link ∨ x.shade ≠ f.shade then
        (if modes.contains 0 then s.receive f (fun st y => st.errorReply y.id f 0x0106) else s)
      else if modes.contains x.mode = false then s
      else match s.takeFrame f with
        | none => s
        | some s1 =>
          if wellFramed f = false then s1.count 0x1200 9
          else if 1400 < f.payload.length then s1.refuseHello f 2 0x0105
          else if bitOf f.flags 0 then s1.refuseHello f 2 0x0106
          else if f.authentic = false then s1.refuseHello f 2 0x0303
          else if x.fresh f.seq = false ∨ f.seq = 0xFFFFFFFF then s1.refuseHello f 2 0x0302
          else
            let y := x.took f.seq f.src s1.now s1.rtcSec
            (s1.modSession x.id (fun _ => y)).phaseTwo y f

/-- `HELLO_PHASE_2`: a session of any mode. -/
def execHelloPhase2 (t : Nat) (f : Frame) (s : State) : Out := .next ((s.at t).helloPhaseTwo f [0, 1, 2])

/-- `CLAIM`: a session in claim mode. -/
def execClaim (t : Nat) (f : Frame) (s : State) : Out := .next ((s.at t).helloPhaseTwo f [1])

/-- `RECLAIM`: a session in reclaim mode. -/
def execReclaim (t : Nat) (f : Frame) (s : State) : Out := .next ((s.at t).helloPhaseTwo f [2])

/-! ### The random source (R395) -/

/-- A continuous test fails: event 0x030D and Dome state 1. -/
def State.trngFailed (s : State) (kind : Nat) : State :=
  let s1 := if s.nat 0x1300 1 = 0 then s.set 0x1300 1 1 else s
  (({ s1 with trngKind := kind, trngTick := s1.now } : State).count 0x1300 10).raise 0x030D [kind, 0] [0]

/-- `TRNG_HEALTH_FAILURE`: 1 repetition count, 2 adaptive proportion, 3 start-up. -/
def execTrngHealthFailure (t kind : Nat) (s : State) : Out := .next ((s.at t).trngFailed kind)

/-- A failed source is tested again every 1 s; 1,024 samples that pass return the Dome to state 0, and the batches that wait
are formed. -/
def State.trngRetest (s : State) (ok : Bool) : State :=
  if s.nat 0x1300 1 ≠ 1 ∨ s.now < s.trngTick + sec 1 then s
  else if ok then ((s.set 0x1300 1 0).raise 0x030D [s.trngKind, 1] [0]).formWaiting
  else { s with trngTick := s.now }

/-- `TRNG_RETEST`. -/
def execTrngRetest (t : Nat) (ok : Bool) (s : State) : Out := .next ((s.at t).awake (fun st => st.trngRetest ok))

end Sys2Proof.Machine
end

