-- ==== Sys2Proof/Machine/Links.lean ====
section
/-! DEFINITION. Ethernet (R446–R457): its interfaces, MDIO and PLCA, the addresses that it acquires and holds, and what it
answers of its own. OAP frames are taken by the requests that they carry (Machine/Sessions.lean). -/

namespace Sys2Proof.Machine

/-- Change Ethernet's own state. -/
def State.modEth (s : State) (f : Eth → Eth) : State := { s with eth := f s.eth }

/-- The module sends a frame of its own, counted at `0x1200:08`. -/
def State.ethSend (s : State) (kind : Nat) (subject : List Byte) : State :=
  (s.modEth (fun e => { e with sent := e.sent ++ [(kind, subject)] })).count 0x1200 8

/-- The frames of its own that earlier commands made the module send are past. -/
def State.ethQuiet (s : State) : State := s.modEth (fun e => { e with sent := [] })

/-- The Ethernet interface that the straps select: 0 none, 1 the on-module PHY, 2 RGMII (R446). -/
def State.ethInterface (s : State) : Nat :=
  if s.pins.straps % 4 = 0 then 1 else if s.pins.straps % 4 = 1 then 2 else 0

/-- Whether the selected interface is powered and started: enabled, the dictionary reachable, not in deep standby. -/
def State.ethRuns (s : State) : Bool :=
  decide (s.ethInterface ≠ 0) && s.flag 0x1200 5 && s.power.reachable && decide (s.power.mode ≠ 2)

/-! ### Addresses (R455, R456) -/

/-- Whether the module holds an address. -/
def State.holds (s : State) (a : List Byte) : Bool :=
  (decide (a = s.ip4) && decide (a ≠ zeros 4)) || (decide (a = s.ip6) && decide (a ≠ zeros 16)) || decide (a = linkLocal)

/-- An IPv4 address goes on probe: an ARP probe leaves (RFC 5227). -/
def State.probe4 (s : State) (a : List Byte) (source : Nat) : State :=
  (s.modEth (fun e => { e with tentative4 := a, tentative4Source := source })).ethSend 2 a

/-- An IPv6 address goes on duplicate detection, after a report for its solicited-node group (RFC 4862). -/
def State.probe6 (s : State) (a : List Byte) (source : Nat) : State :=
  ((s.modEth (fun e => { e with tentative6 := a, tentative6Source := source })).ethSend 9 a).ethSend 7 a

/-- Acquire an IPv4 address as `0x1203:01` asks, unless one is held. -/
def State.acquire4 (s : State) : State :=
  let mode := s.nat 0x1203 1
  if s.ip4 ≠ zeros 4 then s
  else if mode = 2 ∧ s.bytes 0x1203 2 4 ≠ zeros 4 then s.probe4 (s.bytes 0x1203 2 4) 1
  else if mode = 1 then (s.modEth (fun e => { e with dhcpState := 1 })).ethSend 4 []
  else s

/-- Acquire a global IPv6 address as `0x1203:07` asks, unless one is held. -/
def State.acquire6 (s : State) : State :=
  let mode := s.nat 0x1203 7
  if s.ip6 ≠ zeros 16 then s
  else if mode = 2 ∧ s.bytes 0x1203 8 16 ≠ zeros 16 then s.probe6 (s.bytes 0x1203 8 16) 1
  else if mode = 1 then s.ethSend 8 []
  else s

/-- The IPv4 address, its probe and its lease's claim on it are dropped. -/
def State.drop4 (s : State) : State :=
  (s.setBytes 0x1203 5 (zeros 4)).modEth (fun e => { e with
    tentative4 := [], tentative4Source := 0, source4 := 0, retry4 := none, dhcpState := 0 })

/-- The global IPv6 address and its probe are dropped. -/
def State.drop6 (s : State) : State :=
  (s.setBytes 0x1203 11 (zeros 16)).modEth (fun e => { e with
    tentative6 := [], tentative6Source := 0, retry6 := none, prefix6 := [] })

/-- A changed address configuration takes effect; the reply that it answers leaves from the address held before (R456). -/
def State.readdress (s0 : State) (six : Bool) : State :=
  let s := s0.modEth (fun e => { e with replyFrom := some (e.replyFrom.getD (s0.ip4, s0.ip6)) })
  if six then (if s.linkUp 1 then s.drop6.acquire6 else s.drop6)
  else
    let s1 := s.drop4.modEth (fun e => { e with leaseEnd := none })
    if s.linkUp 1 then s1.acquire4 else s1

/-- The probe of an address completes without a conflict: it is in use, announced, with event 0x0203. -/
def State.addressAcquired (s : State) (family : Nat) : State :=
  let e := s.eth
  if s.linkUp 1 = false then s
  else if family = 4 ∧ e.tentative4 ≠ [] then
    let s1 := ((s.setBytes 0x1203 5 e.tentative4).modEth (fun x => { x with
      tentative4 := [], tentative4Source := 0, source4 := e.tentative4Source, retry4 := none })).ethSend 3 e.tentative4
    s1.raise 0x0203 ([4, e.tentative4Source] ++ e.tentative4.map (·.toNat)) s1.allJoined
  else if family = 6 ∧ e.tentative6 ≠ [] then
    let s1 := (s.setBytes 0x1203 11 e.tentative6).modEth (fun x => { x with
      tentative6 := [], tentative6Source := 0, retry6 := none })
    s1.raise 0x0203 ([6, e.tentative6Source] ++ (e.tentative6.drop 12).map (·.toNat)) s1.allJoined
  else s

/-- `ADDRESS_ACQUIRED`: 4 or 6. -/
def execAddressAcquired (t family : Nat) (s : State) : Out := .next ((s.at t).ethQuiet.addressAcquired family)

/-- A duplicate is found: the address is withdrawn with event 0x0204, and the module tries again after 10 s. -/
def State.addressDuplicate (s : State) (family : Nat) : State :=
  let again := some (s.now + sec 10)
  if family = 4 ∧ (s.eth.tentative4 ≠ [] ∨ s.ip4 ≠ zeros 4) then
    let s1 := s.drop4.modEth (fun e => { e with retry4 := again, leaseEnd := none })
    s1.raise 0x0204 [4, 2] s1.allJoined
  else if family = 6 ∧ (s.eth.tentative6 ≠ [] ∨ s.ip6 ≠ zeros 16) then
    let s1 := s.drop6.modEth (fun e => { e with retry6 := again })
    s1.raise 0x0204 [6, 2] s1.allJoined
  else s

/-- `ADDRESS_DUPLICATE`: 4 or 6. -/
def execAddressDuplicate (t family : Nat) (s : State) : Out := .next ((s.at t).ethQuiet.addressDuplicate family)

/-- Whether an instant has come. -/
def State.reached (s : State) (due : Option Nat) : Bool :=
  match due with
  | some d => decide (d ≤ s.now)
  | none => false

/-- 10 s after a withdrawal, acquisition is tried again. -/
def State.addressRetry (s : State) (family : Nat) : State :=
  if s.linkUp 1 = false then s
  else if family = 4 ∧ s.reached s.eth.retry4 then (s.modEth (fun e => { e with retry4 := none })).acquire4
  else if family = 6 ∧ s.reached s.eth.retry6 then (s.modEth (fun e => { e with retry6 := none })).acquire6
  else s

/-- `ADDRESS_RETRY`: 4 or 6. -/
def execAddressRetry (t family : Nat) (s : State) : Out := .next ((s.at t).ethQuiet.addressRetry family)

/-! ### DHCP (RFC 2131) -/

/-- The lease of a DHCPACK. -/
def State.leased (s : State) (mask router : List Byte) (lease : Nat) : State :=
  s.modEth (fun e => { e with leaseEnd := some (s.now + sec lease), leaseMask := mask, leaseRouter := router, dhcpState := 3 })

/-- A server's message: 2 an offer, 5 an acknowledgement, 6 a refusal, as DHCP option 53 numbers them (log entry 30). An
acknowledged new address goes on probe; one in use has its lease extended. -/
def State.dhcpMessage (s : State) (kind : Nat) (address server mask router : List Byte) (lease : Nat) : State :=
  let st := s.eth.dhcpState
  if s.linkUp 1 = false ∨ s.nat 0x1203 1 ≠ 1 then s
  else
    let s1 := s.count 0x1200 7
    if kind = 2 ∧ st = 1 then (s1.modEth (fun e => { e with dhcpState := 2, dhcpServer := server })).ethSend 5 address
    else if kind = 5 ∧ (st = 2 ∨ st = 3) ∧ server = s.eth.dhcpServer then
      (if address = s.ip4 then s1.leased mask router lease
       else ((s1.leased mask router lease).setBytes 0x1203 5 (zeros 4)).probe4 (fit 4 address) 2)
    else if kind = 6 ∧ (st = 2 ∨ st = 3) ∧ server = s.eth.dhcpServer then
      let s2 := s1.drop4.modEth (fun e => { e with leaseEnd := none })
      (if s.ip4 = zeros 4 then s2 else s2.raise 0x0204 [4, 1] s2.allJoined).acquire4
    else s1

/-- `DHCPV4_MESSAGE`. -/
def execDhcpv4Message (t kind : Nat) (address server mask router : List Byte) (lease : Nat) (s : State) : Out :=
  .next ((s.at t).ethQuiet.dhcpMessage kind address server mask router lease)

/-- A lease runs out: the address is lost with event 0x0204, and the client starts again. -/
def State.leaseExpired (s : State) : State :=
  if s.reached s.eth.leaseEnd = false then s
  else
    let s1 := s.modEth (fun e => { e with leaseEnd := none })
    if s.eth.source4 = 2 ∧ s.ip4 ≠ zeros 4 then
      let s2 := s1.drop4.raise 0x0204 [4, 1] s1.allJoined
      if s2.linkUp 1 then s2.acquire4 else s2
    else s1

/-- `DHCP_LEASE_EXPIRED`. -/
def execDhcpLeaseExpired (t : Nat) (s : State) : Out := .next (s.at t).ethQuiet.leaseExpired

/-! ### What Ethernet answers of its own (R452–R454) -/

/-- An ARP request for an address held is answered. -/
def State.arpRequest (s : State) (target : List Byte) : State :=
  if s.linkUp 1 = false then s
  else
    let s1 := s.count 0x1200 7
    if target = s.ip4 ∧ target ≠ zeros 4 then s1.ethSend 1 target else s1

/-- `ARP_REQUEST`: the address asked for. -/
def execArpRequest (t : Nat) (target : List Byte) (s : State) : Out := .next ((s.at t).ethQuiet.arpRequest target)

/-- A neighbour solicitation for an address held is answered with an advertisement. -/
def State.neighbourSolicitation (s : State) (target : List Byte) : State :=
  if s.linkUp 1 = false then s
  else
    let s1 := s.count 0x1200 7
    if target = linkLocal ∨ (target = s.ip6 ∧ target ≠ zeros 16) then s1.ethSend 6 target else s1

/-- `NEIGHBOUR_SOLICITATION`: the address asked for. -/
def execNeighbourSolicitation (t : Nat) (target : List Byte) (s : State) : Out := .next ((s.at t).ethQuiet.neighbourSolicitation target)

/-- A router advertisement sets the default router, and its prefix gives the first SLAAC address; a prefix of no lifetime
withdraws the address formed from it (R453, R455). -/
def State.routerAdvertisement (s : State) (router : List Byte) (lifetime : Nat) (pfx : List Byte) (valid : Nat) : State :=
  if s.linkUp 1 = false then s
  else
    let s1 := s.count 0x1200 7
    let s2 := if lifetime = 0 then (if s1.bytes 0x1203 12 16 = router then s1.setBytes 0x1203 12 (zeros 16) else s1)
      else s1.setBytes 0x1203 12 router
    if pfx = [] ∨ s.nat 0x1203 7 ≠ 1 then s2
    else if valid = 0 then
      (if s2.eth.prefix6 ≠ pfx then s2
       else if s2.ip6 = zeros 16 then s2.drop6
       else
         let s3 := s2.drop6
         s3.raise 0x0204 [6, 3] s3.allJoined)
    else if s2.ip6 ≠ zeros 16 ∨ s2.eth.tentative6 ≠ [] ∨ s2.eth.retry6.isSome then s2
    else (s2.modEth (fun e => { e with prefix6 := pfx })).probe6 (fit 8 pfx ++ interfaceId) 3

/-- `ROUTER_ADVERTISEMENT`: the router's address and lifetime, the prefix (8 bytes, empty for none) and its lifetime. -/
def execRouterAdvertisement (t : Nat) (router : List Byte) (lifetime : Nat) (pfx : List Byte) (valid : Nat) (s : State) : Out :=
  .next ((s.at t).ethQuiet.routerAdvertisement router lifetime pfx valid)

/-- An echo request to an address held is answered while `0x1200:06` is TRUE, at most 100 in a second. -/
def State.echoRequest (s : State) (target : List Byte) : State :=
  if s.linkUp 1 = false then s
  else
    let s1 := s.count 0x1200 7
    let recent := s.eth.echoes.filter (fun e => decide (s.now < e + sec 1))
    if s.flag 0x1200 6 && s.holds target && decide (recent.length < 100) then
      (s1.modEth (fun e => { e with echoes := recent ++ [s.now] })).ethSend 10 target
    else s1.modEth (fun e => { e with echoes := recent })

/-- `ECHO_REQUEST`: the address it was sent to. -/
def execEchoRequest (t : Nat) (target : List Byte) (s : State) : Out := .next ((s.at t).ethQuiet.echoRequest target)

/-- A frame that the module discards: 0 VLAN-tagged, 1 oversize, 2 bad FCS, 3 bad UDP checksum, 4 a fragmented IPv4 datagram,
5 an IPv6 fragment header (R452, R454). -/
def State.ethDiscarded (s : State) (why : Nat) : State :=
  if s.linkUp 1 = false then s
  else
    let s1 := s.count 0x1200 9
    if why = 2 then s1.count 0x1200 10 else if 3 ≤ why then s1.count 0x1200 7 else s1

/-- `ETHERNET_FRAME_DISCARDED`. -/
def execEthernetFrameDiscarded (t why : Nat) (s : State) : Out := .next ((s.at t).ethQuiet.ethDiscarded why)

/-! ### Links up and down (R447–R450, R457) -/

/-- PLCA status as its configuration gives it when the PHY starts: off, a coordinator running, a follower waiting (R448). -/
def State.plcaStart (s : State) : Nat :=
  if s.ethInterface ≠ 1 ∨ s.ethRuns = false ∨ s.flag 0x1201 1 = false then 0 else if s.nat 0x1201 2 = 0 then 2 else 1

/-- PLCA status changes; a change from running is counted and raises event 0x0207 (R448). -/
def State.setPlca (s : State) (new : Nat) : State :=
  let s1 := s.set 0x1201 8 new
  if s.nat 0x1201 8 = 2 ∧ new ≠ 2 then (s1.count 0x1201 10).raise 0x0207 [new, s.nat 0x1201 2] s1.allJoined else s1

/-- The Ethernet link comes up at a speed, with event 0x0201; addresses are acquired (R455). -/
def State.ethUp (s : State) (speed : Nat) : State :=
  let s1 := (s.set 0x1200 3 1).set 0x1200 4 speed
  (s1.raise 0x0201 ([s.ethInterface] ++ dU 2 speed) s1.allJoined).acquire4.acquire6

/-- The Ethernet link goes down with event 0x0202; its frames are discarded (R485). -/
def State.ethDown (s : State) (cause : Nat) : State :=
  if s.linkUp 1 then
    let s1 := ((s.set 0x1200 3 0).set 0x1200 4 0).count 0x1200 11
    (s1.raise 0x0202 [s.ethInterface, cause] s1.allJoined).framesLost 1
  else s

/-- The interface starts, as at reset release: the on-module PHY has its link at once (log entry 31); an external PHY is polled
over MDIO. -/
def State.ethStart (s : State) : State :=
  if s.ethRuns = false then s
  else
    let s1 := s.modEth (fun e => { e with mdioStarted := false, unsupported := false, nextPoll := s.now })
    if s.ethInterface = 1 then (s1.setPlca s1.plcaStart).ethUp 10 else s1

/-- Ethernet enable is committed (R457). -/
def State.ethEnabled (s : State) (on : Bool) : State :=
  if s.ethInterface = 0 then s
  else if on then (if s.linkUp 1 ∨ s.eth.mdioStarted then s else s.ethStart)
  else (((s.modEth (fun e => { e with mdioStarted := false })).setPlca 0).ethDown 2).drop4.drop6

/-- PLCA is reconfigured while the PHY runs. -/
def State.plcaChanged (s : State) : State := if s.nat 0x1201 8 = s.plcaStart then s else s.setPlca s.plcaStart

/-- A follower receives no BEACON any more: its status leaves running (R448). -/
def State.plcaLost (s : State) : State := if s.nat 0x1201 8 = 2 then s.setPlca 1 else s

/-- `PLCA_STATUS_CHANGED`. -/
def execPlcaStatusChanged (t : Nat) (s : State) : Out := .next (s.at t).ethQuiet.plcaLost

/-- A BEACON reaches a follower that waits for one: its status becomes running (R448). -/
def State.plcaBeacon (s : State) : State := if s.nat 0x1201 8 = 1 then s.setPlca 2 else s

/-- `PLCA_BEACON_RECEIVED`. -/
def execPlcaBeaconReceived (t : Nat) (s : State) : Out := .next (s.at t).ethQuiet.plcaBeacon

/-- The speed that registers 5 and 10 of the external PHY resolve to against what `0x1202:05` advertises: 1000, 100, or 0 for a
result that R450 refuses. The bits are those of IEEE 802.3 clause 22 (log entry 23). -/
def State.resolveSpeed (s : State) (reg5 reg10 : Nat) : Nat :=
  let mine := s.nat 0x1202 5
  if bitOf mine 1 && bitOf reg10 11 then 1000 else if bitOf mine 0 && bitOf reg5 8 then 100 else 0

/-- An MDIO poll: the first after a link start reads the PHY's identifier and starts its auto-negotiation; the others come at
the poll interval and follow the link bit of register 1 (R450). -/
def State.mdioPoll (s : State) (id reg1 reg5 reg10 : Nat) : State :=
  let next := s.now + ms (s.nat 0x1202 7)
  if s.ethRuns = false ∨ s.ethInterface ≠ 2 ∨ s.now < s.eth.nextPoll then s
  else if s.eth.mdioStarted = false then
    (s.set 0x1202 6 ((id % 2 ^ 32 : Nat) : Int)).modEth (fun e => { e with mdioStarted := true, nextPoll := next })
  else
    let s1 := s.modEth (fun e => { e with nextPoll := next, unsupported := e.unsupported && bitOf reg1 2 })
    let speed := s.resolveSpeed reg5 reg10
    if bitOf reg1 2 = false then s1.ethDown 1
    else if s1.linkUp 1 ∨ s1.eth.unsupported then s1
    else if speed = 0 then (s1.modEth (fun e => { e with unsupported := true })).raise 0x0202 [2, 3] s1.allJoined
    else s1.ethUp speed

/-- `MDIO_POLL`: registers 2 and 3 as one number, and registers 1, 5 and 10. -/
def execMdioPoll (t id reg1 reg5 reg10 : Nat) (s : State) : Out := .next ((s.at t).ethQuiet.mdioPoll id reg1 reg5 reg10)

end Sys2Proof.Machine
end

