-- ==== Sys2Proof/Machine/Spire.lean ====
section
/-! DEFINITION. The Spire link (R459–R471): the shift register, its frames, confirmation and repeats, restart; and frames as
they leave the transmit queue on either link (R445, R483). -/

namespace Sys2Proof.Machine

/-- Change the Spire link. -/
def State.modSpire (s : State) (f : Spire → Spire) : State := { s with spire := f s.spire }

/-- The busy pattern (R461). -/
def busyPattern : List Byte := List.replicate 68 0xC3#8

/-- Whether the link works at all: enabled, the dictionary reachable, not in deep standby (R461, R615). -/
def State.spireRuns (s : State) : Bool := s.flag 0x1210 1 && s.power.reachable && decide (s.power.mode ≠ 2)

/-! ### Frames (R464, R465) -/

/-- A Spire link frame: status and fragment, then the check. -/
def spireFrame (status : Nat) (frag : List Byte) : List Byte :=
  let body := [0x5A#8, byte status] ++ le 2 frag.length ++ fit 60 frag
  body ++ le 4 (crcBytes 4 body)

/-- The status byte of a frame, the fields of Table 10. -/
def statusByte (first last ready more : Bool) (seq echo : Nat) : Nat :=
  b01 first + 2 * b01 last + 4 * b01 ready + 8 * b01 more + 16 * seq + 64 * echo

/-- A frame as received, read by its fields. -/
structure SpireIn where
  first : Bool
  last : Bool
  ready : Bool
  seq : Nat
  echo : Nat
  frag : List Byte
  deriving DecidableEq, Repr

/-- A valid frame (R465); none for one that is not. -/
def spireRead (b : List Byte) : Option SpireIn :=
  let st := byteAt b 1
  let len := fieldAt b 2 2
  let first := bitOf st 0
  let last := bitOf st 1
  let seq := st / 16 % 4
  let fieldsOk := if len = 0 then !first && !last && (decide (seq = 0) || decide (seq = 3))
    else decide (seq ≤ 2) && decide (len ≤ 60) && (last || decide (len = 60))
  if b.length = 68 ∧ byteAt b 0 = 0x5A ∧ fieldAt b 64 4 = crcBytes 4 (b.take 64) ∧ fieldsOk = true ∧
      (slice b (4 + len) (60 - len)).all (fun x => decide (x = 0#8)) = true then
    some { first := first, last := last, ready := bitOf st 2, seq := seq, echo := st / 64, frag := slice b 4 len }
  else none

/-- An OAP frame cut into fragments (R466); their numbers are given as they go out. -/
def fragmentsFrom (first : Bool) : Nat → List Byte → List Fragment
  | 0, _ => []
  | n + 1, b =>
    { num := 0, first := first, last := decide (b.length ≤ 60), bytes := b.take 60 } ::
      (if b.length ≤ 60 then [] else fragmentsFrom false n (b.drop 60))

/-- The fragments of an OAP frame. -/
def fragments (b : List Byte) : List Fragment := fragmentsFrom true (b.length / 60 + 1) b

/-! ### Errors (R472) -/

/-- An error of the link is counted and raises event 0x0209, which sums those of the last minute and is delivered at most once a minute
(R472, R665). A busy pattern alone raises nothing (log entry 32). -/
def State.spireError (s : State) (kind : Nat) : State :=
  let l := s.spire.errors.filter (fun e => decide (s.now < e.1 + sec 60)) ++ [(s.now, kind)]
  let n := fun (k : Nat) => satTo 0xFFFF (l.filter (fun e => decide (e.2 = k))).length
  let s1 := (s.modSpire (fun x => { x with errors := l })).count 0x1210 (if kind = 0 then 6 else if kind = 1 then 7 else 8)
  if kind = 2 then s1 else s1.raise 0x0209 (dU 2 (n 0) ++ dU 2 (n 1) ++ dU 2 (n 2)) s1.allJoined (perMinute 0)

/-! ### Inbound (R466, R467, R469) -/

/-- A fragment joins the frame being assembled; a frame that its Last completes waits for the Dome. -/
def State.spireAssemble (s : State) (x : SpireIn) : State :=
  let s1 := if x.first ∧ s.spire.assembling then s.count 0x1200 9 else s
  if x.first = false ∧ s.spire.assembling = false then s1
  else
    let whole := (if x.first then [] else s.spire.partialIn) ++ x.frag
    if x.last then s1.modSpire (fun y => { y with partialIn := [], assembling := false, inbox := y.inbox ++ [whole] })
    else s1.modSpire (fun y => { y with partialIn := whole, assembling := true })

/-- A non-empty valid fragment: accepted when its Sequence is the next and Ready had been promised. -/
def State.spireFragment (s : State) (x : SpireIn) : State :=
  if x.frag = [] then s
  else if x.seq = (s.spire.lastIn + 1) % 3 then
    (if s.spire.promised then ((s.modSpire (fun y => { y with lastIn := x.seq })).count 0x1210 5).spireAssemble x else s)
  else s.count 0x1210 9

/-- The host is in restart: its frame carries Echo 0b11. -/
def Spire.peerRestarts (y : Spire) : Spire :=
  { y with
    partialIn := [], assembling := false, lastIn := 2, unconfirmed := [], nextNum := 0, toSend := y.current, lastOut := none
    prevSent := none, prevVoid := false, resendFrom := none, inReg := none, peerRestart := true }

/-- The module leaves restart on Sequence 0b11. -/
def Spire.leaveRestart (y : Spire) : Spire :=
  if y.restart then
    { y with
      restart := false, partialIn := [], assembling := false, lastIn := 2, unconfirmed := [], nextNum := 0, toSend := y.current
      lastOut := none, prevSent := none, prevVoid := false, resendFrom := none, inReg := none }
  else y

/-! ### Confirmation (R468) -/

/-- The fragments of the frames in progress once the first unconfirmed one is confirmed. -/
def afterLast (l : List Fragment) : List Fragment := (l.dropWhile (fun g => !g.last)).drop 1

/-- The oldest unconfirmed fragment is confirmed; with a Last, its frame is out. -/
def Spire.confirmOne (y : Spire) : Spire :=
  match y.unconfirmed with
  | [] => y
  | g :: r => { y with unconfirmed := r, current := if g.last then afterLast y.current else y.current }

/-- An Echo confirms every unconfirmed fragment up to the one it names. -/
def Spire.confirm (y : Spire) (echo : Nat) : Spire :=
  match y.unconfirmed.findIdx? (fun g => decide (g.num = echo)) with
  | none => y
  | some 0 => y.confirmOne
  | some _ => y.confirmOne.confirmOne

/-- Whether a fragment of a number is unconfirmed. -/
def Spire.holdsNum (y : Spire) (n : Option Nat) : Bool :=
  match n with
  | some k => y.unconfirmed.any (fun g => decide (g.num = k))
  | none => false

/-- After a valid frame with Echo 0–2: what it confirms, and whether the sending before this one has to go back. -/
def Spire.judge (y : Spire) (echo : Nat) : Spire :=
  let z := y.confirm echo
  let back := !y.prevVoid && z.holdsNum y.prevSent
  { z with prevSent := y.inReg, prevVoid := back && y.inReg.isSome, resendFrom := if back then y.prevSent else z.resendFrom }

/-- After a frame that is not valid: the oldest unconfirmed fragment goes back. -/
def Spire.judgeInvalid (y : Spire) : Spire :=
  match y.unconfirmed with
  | [] => { y with prevSent := y.inReg, prevVoid := false, peerReady := false }
  | g :: _ => { y with prevSent := y.inReg, prevVoid := y.inReg.isSome, resendFrom := some g.num, peerReady := false }

/-! ### The transfer (R460, R461, R471) -/

/-- A valid frame is taken: the link is up, and its status and fragment act. -/
def State.spireTake (s : State) (x : SpireIn) : State :=
  let up := s.linkUp 2
  let s1 := (s.modSpire (fun y => { y with lastValid := s.now })).count 0x1210 4
  let s2 := if up then s1 else (s1.set 0x1210 3 1).raise 0x0205 [b01 (decide (x.echo = 3))] s1.allJoined
  let s3 := s2.modSpire (fun y =>
    let z := if x.echo = 3 then y.peerRestarts else { y.judge x.echo with peerRestart := false }
    { (if x.frag = [] ∧ x.seq = 3 then z.leaveRestart else z) with peerReady := x.ready })
  s3.spireFragment x

/-- SPI_SEL_N rises: the register is latched and filled with the busy pattern (R460, R461). -/
def State.transferEnd (s : State) (edges : Nat) (register : List Byte) : State :=
  let y := s.spire
  let sentReady := y.loaded && bitOf (byteAt y.outReg 1) 2
  let after := fun (st : State) =>
    st.modSpire (fun z => { z with outReg := busyPattern, loaded := false, promised := sentReady, inReg := none })
  if s.power.mode = 2 then s
  else if s.spireRuns = false then
    (if s.power.reachable then (after s).spireError 2 else (after s).count 0x1210 8)
  else if y.loaded = false then after (s.spireError 2)
  else if edges = 0 ∨ edges % 544 ≠ 0 then after ((s.spireError 1).modSpire Spire.judgeInvalid)
  else match spireRead register with
    | none => after ((s.spireError 0).modSpire Spire.judgeInvalid)
    | some x => after (s.spireTake x)

/-- `SPIRE_TRANSFER_END`: the rising edges counted, and the register's content. -/
def execSpireTransferEnd (t edges : Nat) (register : List Byte) (s : State) : Out := .next ((s.at t).transferEnd edges register)

/-- Which fragment goes into the next transfer, and whether it has gone out before: the one that goes back, else the one after
the last sent, when at most two are unconfirmed (R468). -/
def Spire.pick (y : Spire) : Option (Fragment × Bool) :=
  if y.restart || !y.peerReady then none
  else match y.unconfirmed.find? (fun g => decide (y.resendFrom = some g.num)) with
    | some g => some (g, true)
    | none =>
      match y.unconfirmed.find? (fun g => decide (y.lastOut.map (fun k => (k + 1) % 3) = some g.num)) with
      | some g => some (g, true)
      | none =>
        if 2 ≤ y.unconfirmed.length then none
        else y.toSend.head?.map (fun g => ({ g with num := y.nextNum }, false))

/-- Whether the fragment after a numbered one waits to go out again. -/
def Spire.follows (y : Spire) (n : Option Nat) : Bool := y.holdsNum (n.map (fun k => (k + 1) % 3))

/-- The register with the module's next frame: a picked fragment, or an empty frame. Pending-out holds while a further fragment
is to go: one that goes back, one not yet sent, or one of a frame in the transmit queue (`waits`). -/
def Spire.load (y : Spire) (ready waits : Bool) : Spire :=
  let echo := if y.restart then 3 else y.lastIn
  match y.pick with
  | none =>
    let more := waits || !y.toSend.isEmpty || y.holdsNum y.resendFrom || y.follows y.lastOut
    { y with
      outReg := spireFrame (statusByte false false ready more (if y.peerRestart then 3 else 0) echo) []
      loaded := true, inReg := none }
  | some (g, again) =>
    let more := waits || !(if again then y.toSend else y.toSend.drop 1).isEmpty || y.follows (some g.num)
    { y with
      outReg := spireFrame (statusByte g.first g.last ready more g.num echo) g.bytes
      loaded := true, inReg := some g.num, lastOut := some g.num
      resendFrom := if y.resendFrom = some g.num then none else y.resendFrom
      unconfirmed := if again then y.unconfirmed else y.unconfirmed ++ [g]
      toSend := if again then y.toSend else y.toSend.drop 1
      nextNum := if again then y.nextNum else (y.nextNum + 1) % 3 }

/-- The busy pattern is replaced by the next outbound frame (R461). Ready stands outside restart while fewer than 16 frames wait
to be opened (log entry 32). -/
def State.loadOutbound (s : State) : State :=
  let y := s.spire
  if s.spireRuns = false ∨ y.loaded then s
  else
    let z := y.load (!y.restart && decide (y.inbox.length < 16)) (decide (0 < s.queuedOn 2))
    let again := match y.pick with
      | some (_, a) => a
      | none => false
    let s1 := s.modSpire (fun _ => z)
    if again then s1.count 0x1210 10 else s1

/-- `OUTBOUND_FRAME_LOADED`. -/
def execOutboundFrameLoaded (t : Nat) (s : State) : Out := .next (s.at t).loadOutbound

/-- The link's state after it goes down: in restart, with no partial frame in either direction; frames already whole stay for
the Dome (R469, R471). -/
def Spire.restarted (y : Spire) : Spire :=
  { spireAtReset with inbox := y.inbox, lastValid := y.lastValid, errors := y.errors }

/-- The Spire link goes down: event 0x0206 with its cause; its frames are discarded (R471, R485). -/
def State.spireDown (s : State) (cause : Nat) : State :=
  let s1 := s.modSpire Spire.restarted
  if s.linkUp 2 then ((s1.set 0x1210 3 0).raise 0x0206 [cause] s1.allJoined).framesLost 2 else s1

/-- No valid frame for the link timeout (R471). The next outbound frame is that of restart. -/
def State.spireTimeout (s : State) : State :=
  if s.linkUp 2 ∧ s.spire.lastValid + ms (s.nat 0x1210 2) ≤ s.now then (s.spireDown 1).loadOutbound else s

/-- `SPIRE_LINK_TIMEOUT`. -/
def execSpireLinkTimeout (t : Nat) (s : State) : Out := .next (s.at t).spireTimeout

/-- Spire link enable is committed: the busy pattern for FALSE, the next outbound frame for TRUE (R471, Table 12). -/
def State.spireEnabled (s : State) (on : Bool) : State := if on then s else s.spireDown 2

/-! ### The transmit queue drains (R445, R483, R484) -/

/-- A frame leaves the transmit queue on its link: on Ethernet with the collisions it met, on the Spire link into fragments, once
those of the frame before it have gone out. Frames that wait take the place. -/
def State.frameTransmitted (s : State) (link collisions : Nat) : State :=
  if s.linkUp link = false ∨ s.power.reachable = false then s
  else if link = 2 ∧ s.spire.toSend ≠ [] then s
  else match s.popFrame link with
    | none => s
    | some (f, s1) =>
      if link = 1 then ((s1.count 0x1200 8).addTo 0x1201 9 collisions).refill
      else
        let l := fragments f.bytes
        (s1.modSpire (fun y => { y with toSend := l, current := y.current ++ l })).refill

/-- `FRAME_TRANSMITTED`: the link, and on a mixing segment the collisions that the frame met. -/
def execFrameTransmitted (t link collisions : Nat) (s : State) : Out := .next ((s.at t).ethQuiet.frameTransmitted link collisions)

end Sys2Proof.Machine
end

