-- ==== Sys2Proof/Machine/Power.lean ====
section
/-! DEFINITION. Power, reset and sequencing (chapter 20): power-up and power-down of the rails, collapse, the reset sources, the
start that follows a reset release, the operating modes and the fabric clock's spread. -/

namespace Sys2Proof.Machine

/-- Change the power controller. -/
def State.modPower (s : State) (f : Power → Power) : State := { s with power := f s.power }

/-- A record that the backup domain or the control die writes into the black box alone (R602, R604, R605, R622). -/
def State.boxOnly (s : State) (code : Nat) (detail : List Nat) : State :=
  s.boxAppend code (s.eventRecord code detail)

/-- An event that the next start raises once the dictionary is reachable (R622). -/
def State.atBoot (s : State) (code : Nat) (detail : List Nat) : State :=
  { s with bootEvents := s.bootEvents ++ [{ code := code, detail := detail }] }

/-! ### Power-up (R598) -/

/-- A power-up starts: the 0.8 V rail is enabled; the time off is recorded (R598, R607, `0x1102:06`). -/
def State.startPowerUp (s : State) : State :=
  let p := s.power
  if p.stage = 0 ∧ p.vsysHeld ∧ p.offUntil ≤ s.now ∧ p.thermalOff = false then
    (s.modPower (fun x => { x with stage := 1, step := 1, rails := 0, attempts := x.attempts + 1, internalRelease := false })).set 0x1102 6
      (satTo 0xFFFFFFFF ((s.now - p.offSince) / 122880) : Nat)
  else s

/-- `VSYS_HELD`: VSYS has held 4.6 V for 1.0 ms; it reads `mv`. A domain that had lost its supply makes this a power-on, and a
minimum off time that was broken off counts from the return of VSYS, 1.0 ms ago (R607). -/
def execVsysHeld (t mv : Nat) (s : State) : Out :=
  .next (((s.at t).modPower (fun p => { p with
    vsys := mv, slope := 0, vsysHeld := true, offBroken := false
    offUntil := if p.offBroken then (s.at t).now + ms 19 else p.offUntil
    cause := if (s.at t).rtc.lostPending ∧ p.stage = 0 then 1 else p.cause })).startPowerUp)

/-- `MINIMUM_OFF_TIME`. -/
def execMinimumOffTime (t : Nat) (s : State) : Out := .next (s.at t).startPowerUp

/-- While the module is off after a hard thermal shutdown, every sensor below 100.0 °C permits a power-up (R612). -/
def State.thermalReading (s : State) (temps : List Int) : State :=
  if s.power.stage = 0 ∧ s.power.thermalOff ∧ temps.all (fun x => decide (x < 1000)) then
    (s.modPower (fun p => { p with thermalOff := false })).startPowerUp
  else s

/-- `THERMAL_OFF_READING`: the three bank sensors and that of the control die, in 0.1 °C. -/
def execThermalOffReading (t : Nat) (tempA tempB tempC die : Int) (s : State) : Out :=
  .next ((s.at t).thermalReading [tempA, tempB, tempC, die])

/-- A rail reaches regulation and the next is enabled; after 3.3 V the internal release is awaited (R598). -/
def State.railUp (s : State) : State :=
  if s.power.stage = 1 ∧ s.power.step ≤ 4 then
    s.modPower (fun p => { p with rails := setBit p.rails (p.step - 1) true, step := p.step + 1 })
  else s

/-- `RAIL_IN_REGULATION`. -/
def execRailInRegulation (t : Nat) (s : State) : Out := .next (s.at t).railUp

/-- 1.0 ms after the 3.3 V rail is in regulation the power-up ends (R598). -/
def State.internalReleased (s : State) : State :=
  if s.power.stage = 1 ∧ s.power.step = 5 then
    s.modPower (fun p => { p with stage := 2, step := 0, internalRelease := true, released := false })
  else s

/-- `INTERNAL_RELEASE`. -/
def execInternalRelease (t : Nat) (s : State) : Out := .next (s.at t).internalReleased

/-! ### Shutdown triggers, power-down and collapse (R602–R606) -/

/-- The logic is held in reset: RF is off, SAFE_STAT_N is asserted, nothing is reachable (R583, R602, R608). -/
def State.holdLogic (s : State) (trigger cause : Nat) : State :=
  let s1 := (s.rfOff.modPower (fun p => { p with
    paBias := false, released := false, reachable := false, rfPending := true, trigger := trigger, cause := cause })).set 0x1102 4 trigger
  { s1 with pins := { s1.pins with safeStatN := false } }

/-- A commit group that was being written when the power went is torn; the next start reports it (R350). A group that waits
for the supply has not begun. -/
def State.tornGroup (s : State) : State :=
  match s.groups with
  | [] => s
  | g :: _ =>
    if g.waited then s
    else match g.batches with
      | [] => s
      | b :: _ => s.atBoot 0x5009 ([g.shade] ++ dU 4 b.seq ++ [satTo 255 g.batches.length])

/-- An orderly power-down begins: the write gate is shut, event 0x0103 goes into the black box, and the 3.3 V rail is disabled
(R602, R603). -/
def State.shutdown (s : State) (trigger cause : Nat) : State :=
  if s.power.stage ≠ 1 ∧ s.power.stage ≠ 2 then s
  else
    let s1 := s.tornGroup.holdLogic trigger cause
    let s2 := ({ s1 with store := { s1.store with gateShut := true } } : State).boxOnly 0x0103
      ([trigger] ++ dU 2 s.power.vsys ++ [s.power.mode])
    s2.modPower (fun p => { p with
      stage := 3, step := 3, internalRelease := false, lowestVsys := p.vsys, returnStep := none })

/-- The shutdown end: every rail is off and the minimum off time runs; after the third collapse without a reset release the
power controller stops trying, with event 0x010B (R604, R605, R607). -/
def State.shutdownEnds (s : State) : State :=
  let s1 := s.modPower (fun p => { p with
    stage := if 3 ≤ p.collapses then 4 else 0, step := 0, rails := 0, shutdownEnd := s.now, offUntil := s.now + ms 20, offSince := s.now
    offSinceSec := s.rtcSec })
  if 3 ≤ s.power.collapses then s1.boxOnly 0x010B [satTo 255 s.power.attempts, s.nat 0x1102 5 / 256] else s1

/-- A rail has fallen below 10 % and the next step of Table 5 starts; in a collapse all of them have (R603, R604). -/
def State.powerDownStep (s : State) : State :=
  let p := s.power
  if p.stage = 3 then
    let s1 := s.modPower (fun x => { x with rails := setBit x.rails (6 - x.step) false, step := x.step + 1 })
    if p.step = 6 then s1.shutdownEnds else s1
  else if p.stage = 5 then s.shutdownEnds
  else s

/-- `POWER_DOWN_STEP`. -/
def execPowerDownStep (t : Nat) (s : State) : Out := .next (s.at t).powerDownStep

/-- A collapse: a rail and its voltage. The order is abandoned, the write gate is shut, event 0x0104 goes into the black box
(R604). -/
def State.collapse (s : State) (rail mv : Nat) : State :=
  let p := s.power
  if p.stage ≠ 1 ∧ p.stage ≠ 2 ∧ p.stage ≠ 3 then s
  else
    let kind := if p.stage = 1 then 1 else if p.stage = 2 then 2 else 3
    let s1 := s.tornGroup.holdLogic 2 5
    let s2 := ({ s1 with store := { s1.store with gateShut := true } } : State).boxOnly 0x0104 ([rail, p.step, kind] ++ dU 2 mv)
    (s2.modPower (fun x => { x with
      stage := 5, internalRelease := false, collapses := x.collapses + 1
      lowestVsys := if p.stage = 3 then x.lowestVsys else x.vsys, returnStep := none })).set 0x1102 5 (256 * rail + kind : Nat)

/-- `RAIL_COLLAPSE`: a rail (its step of Table 2) leaves regulation, or fails to discharge within its step. -/
def execRailCollapse (t rail mv : Nat) (s : State) : Out := .next ((s.at t).collapse rail mv)

/-- `RAIL_TIMEOUT`: the rail being enabled is not in regulation within 1.0 ms. -/
def execRailTimeout (t mv : Nat) (s : State) : Out :=
  .next (let s1 := s.at t
         if s1.power.stage = 1 ∧ s1.power.step ≤ 4 then s1.collapse s1.power.step mv else s1)

/-- `VSYS_FALL`: VSYS falls through 4.5 V. -/
def execVsysFall (t mv : Nat) (s : State) : Out :=
  .next (((s.at t).modPower (fun p => { p with vsys := mv, vsysHeld := false })).shutdown 1 4)

/-- VSYS returns above 4.6 V before the shutdown end: the step is recorded, and event 0x010C follows at the next boot (R606). -/
def State.supplyReturns (s : State) : State :=
  let p := s.power
  if (p.stage = 3 ∨ p.stage = 5) ∧ p.returnStep = none then
    (s.modPower (fun x => { x with returnStep := some x.step, vsys := peak x.vsys 4600 })).atBoot 0x010C ([p.step] ++ dU 2 p.lowestVsys)
  else s

/-- `SUPPLY_RETURN_DURING_SHUTDOWN`. -/
def execSupplyReturnDuringShutdown (t : Nat) (s : State) : Out := .next (s.at t).supplyReturns

/-- A bank's PA supply below 11.0 V raises event 0x0105, at most once a minute (R596). -/
def State.vpaLow (s : State) (mv : List Nat) : State :=
  let s1 := (List.range 3).foldl (fun st i => st.supplyMeasured i (tget mv i 0)) s
  let low := (List.range 3).foldl (fun m i => if tget mv i 0 < 11000 then m + 2 ^ i else m) 0
  if low = 0 then s1
  else s1.raise 0x0105 ([low] ++ dU 2 (mv.foldl (fun m v => if v < m then v else m) 65535)) s1.allJoined (perMinute 0)

/-- `VPA_OUT_OF_WINDOW`: the supplies of banks A, B and C in mV. -/
def execVpaOutOfWindow (t mvA mvB mvC : Nat) (s : State) : Out := .next ((s.at t).vpaLow [mvA, mvB, mvC])

/-! ### Resets (R608–R612) -/

/-- RESET_N low for 1 µs: RF is off and the logic held in reset, the rails left up (R608). -/
def State.resetNLow (s : State) : State :=
  if s.power.stage = 2 then (s.tornGroup.holdLogic 3 2).modPower (fun p => { p with resetLow := true })
  else s.modPower (fun p => { p with resetLow := true })

/-- `RESET_N_LOW`. -/
def execResetNLow (t : Nat) (s : State) : Out := .next (s.at t).resetNLow

/-- `RESET_N_RISE`. -/
def execResetNRise (t : Nat) (s : State) : Out := .next ((s.at t).modPower (fun p => { p with resetLow := false }))

/-- No edge of REFCLK_IN for 1 µs: as RESET_N low, and counted (R610, Table 14). -/
def State.refclkLost (s : State) : State :=
  if s.power.refclkLost then s
  else
    let s1 := (s.setFlag 0x1104 1 false).count 0x1104 5
    let s2 := if s1.power.stage = 2 then s1.tornGroup.holdLogic 4 6 else s1
    s2.modPower (fun p => { p with refclkLost := true, refclkLostAt := s.now })

/-- `REFCLK_LOST`. -/
def execRefclkLost (t : Nat) (s : State) : Out := .next (s.at t).refclkLost

/-- REFCLK_IN has run for 10 ms: the hold ends, and event 0x0109 with the length of the loss follows at the next start
(R610). -/
def State.refclkReturned (s : State) : State :=
  if s.power.refclkLost then
    let loss := satTo 0xFFFFFFFF ((s.now - s.power.refclkLostAt - ms 10) * 25 / 3072 + 1)
    ((s.modPower (fun p => { p with refclkLost := false, refclkLoss := loss })).setFlag 0x1104 1 true).atBoot 0x0109 (dU 4 loss)
  else s

/-- `REFCLK_RETURNED`. -/
def execRefclkReturned (t : Nat) (s : State) : Out := .next (s.at t).refclkReturned

/-- The control die has not served the supervisor for 2 s: a full cold start, and event 0x010A at the next boot (R611). -/
def State.supervisor (s : State) : State :=
  if s.power.reachable then (s.shutdown 6 7).atBoot 0x010A [1] else s

/-- `SUPERVISOR_TIMEOUT`. -/
def execSupervisorTimeout (t : Nat) (s : State) : Out := .next (s.at t).supervisor

/-- A sensor (0–2 bank, 3 control die) at 140.0 °C: an orderly power-down, then off until R612 permits. -/
def State.hardLimit (s : State) (sensor : Nat) (temp : Int) : State :=
  if (s.power.stage = 1 ∨ s.power.stage = 2) ∧ 1400 ≤ temp then
    (s.shutdown 5 8).modPower (fun p => { p with thermalOff := true, thermalSensor := sensor, thermalTemp := temp })
  else s

/-- `HARD_THERMAL_LIMIT`. -/
def execHardThermalLimit (t sensor : Nat) (temp : Int) (s : State) : Out := .next ((s.at t).hardLimit sensor temp)

/-- 100 ms after the reply to Activate 1 the cold start begins (R551). -/
def State.activationStart (s : State) : State :=
  match s.store.coldStartDue with
  | some due => if due ≤ s.now then ({ s with store := { s.store with coldStartDue := none } } : State).shutdown 6 3 else s
  | none => s

/-- `ACTIVATION_COLD_START`. -/
def execActivationColdStart (t : Nat) (s : State) : Out := .next (s.at t).activationStart

/-- The trial time passes without Activate 2: the slot is failed, event 0x0509, and a cold start into the other slot (R553). -/
def State.trialExpired (s : State) : State :=
  if s.power.reachable ∧ s.store.inTrial ∧ s.store.trialStart + sec (s.nat 0x1620 7) ≤ s.now then
    let i := s.store.running
    let s1 := (s.setSlot i { s.store.slot i with state := 5 }).raise 0x0509 [i, 2] [0]
    ({ s1 with store := { s1.store with lastBoot := 4 } } : State).shutdown 6 3
  else s

/-- `TRIAL_TIME_EXPIRED`. -/
def execTrialTimeExpired (t : Nat) (s : State) : Out := .next (s.at t).trialExpired

/-! ### Reset release (R539, R548, R552, R567, R599, R600) -/

/-- A channel memory entry read back from its 128 bytes; none where its check fails (R89). -/
def ChanEntry.parse (b : List Byte) : Option ChanEntry :=
  if b.length ≠ 128 ∨ fieldAt b 124 4 ≠ crcBytes 4 (b.take 124) then none
  else some {
    channel := fieldAt b 0 2, port := byteAt b 2, synthValid := bitOf (byteAt b 3) 0, tunerValid := bitOf (byteAt b 3) 1
    cancValid := bitOf (byteAt b 3) 2, vcoBand := byteAt b 4, capCode := fieldAt b 6 2, calTemp := ofLeInt (slice b 8 2)
    calTime := fieldAt b 10 4
    tuner := (List.range 4).map (fun i => 4096 * byteAt b (16 + 3 * i) + 64 * byteAt b (17 + 3 * i) + byteAt b (18 + 3 * i))
    blocks := (List.range 4).map (fun i => slice b (28 + 24 * i) 24) }

/-- The entries of the sealed pages of channel memory: the number 256 × quad + entry with each. -/
def State.storedChannels (s : State) : List (Nat × ChanEntry) :=
  (s.store.pages.filter (fun p => decide (2432 ≤ p.1) && decide (p.1 < 2532) && p.2.isSealed)).flatMap (fun p =>
    (List.range 31).filterMap (fun i =>
      let n := 31 * (p.1 - 2432) + i
      if n < 3072 then (ChanEntry.parse (Memory.readAll s.store.mram (4096 * p.1 + 128 * i) 128)).map (fun e => (n, e)) else none))

/-- The entries of the sealed pages that hold something but fail their check, in the same numbering (R89). -/
def State.badChannels (s : State) : List Nat :=
  (s.store.pages.filter (fun p => decide (2432 ≤ p.1) && decide (p.1 < 2532) && p.2.isSealed)).flatMap (fun p =>
    (List.range 31).filterMap (fun i =>
      let b := Memory.readAll s.store.mram (4096 * p.1 + 128 * i) 128
      if (ChanEntry.parse b).isNone ∧ b.any (fun x => decide (x ≠ 0#8)) then some (31 * (p.1 - 2432) + i) else none))

/-- Status objects that a reset does not start afresh: what the backup domain, the sealed store, the fuses and MRAM hold, and
the monitor of the PA supplies. -/
def keptStatus (k : Nat) : Bool :=
  let i := k / 256
  let sub := k % 256
  (decide (0x1310 ≤ i) && decide (i ≤ 0x1317) && (decide (sub = 1) || decide (sub = 12) || decide (sub = 13) || decide (sub = 15))) ||
  (decide (i = 0x1300) && (decide (sub = 6) || decide (sub = 7))) ||
  decide (i = 0x1102) || (decide (i = 0x1104) && decide (sub = 5)) || (decide (i = 0x2060) && decide (sub = 8)) ||
  (decide (i = 0x1A02) && decide (sub ≤ 8)) || ((decide (i = 0x1A10) || decide (i = 0x1A11)) && (decide (sub = 10) || decide (sub = 11))) ||
  decide (i = 0x1A20) || (decide (i = 0x2030) && decide (sub = 2)) || (decide (i = 0x1600) && (decide (sub = 9) || decide (sub = 11))) ||
  decide (i = 0x1610) || decide (i = 0x1620) || (decide (i = 0x1700) && decide (13 ≤ sub) && decide (sub ≤ 17))

/-- A page found half-cleared: cleared again, counted, reported with the operation of its trailer, and its partition treats it
as not whole (R539, Table 1 of chapter 17). -/
def State.tornPage (s : State) (page op : Nat) : State :=
  let p := partitionOf page
  let s1 : State := { s with
   store := { s.store with
    slotA := if p = 0 then { s.store.slotA with verifies := false } else s.store.slotA
    slotB := if p = 1 then { s.store.slotB with verifies := false } else s.store.slotB
    copyA := if p = 2 ∧ page < 2176 then { s.store.copyA with valid := false } else s.store.copyA
    copyB := if p = 2 ∧ 2176 ≤ page then { s.store.copyB with valid := false } else s.store.copyB }
   sweep := { s.sweep with validA := s.sweep.validA && decide (page ≠ 2558), validB := s.sweep.validB && decide (page ≠ 2559) } }
  ((s1.writePage page 2 []).count 0x1600 6).atBoot 0x0502 ([p] ++ dU 2 (page - partitionBase p) ++ [op])

/-- The boot ROM's choice: STRAP3 forces recovery mode without touching the slots (R552, R629). -/
def State.chooseImage (s : State) : State :=
  if bitOf s.pins.straps 3 then
    { s with store := { s.store with lastBoot := 3, inRecoveryBefore := true }, power := { s.power with recovery := true } }
  else s.bootSlot

/-- The start of every volatile part at a reset release. What survives is the backup domain, MRAM, the fuses, the Dome's keys
and the pins; shared SRAM, sessions, transactions and queues are lost (R388, R391, R405, R430, R609). -/
def State.restart (s : State) (phase1 straps : Nat) : State :=
  let nonce := s.draw32
  let rest := nonce.2
  let r := State.reset
  { r with
    now := s.now, pending := s.pending, freeCount := s.freeCount + 2, dict := s.dict.filter (fun e => keptStatus e.1)
    fuses := s.fuses
    shades := s.shades.mapIdx (fun i x => { shadeAtReset with
      storageKey := x.storageKey, before := x.before
      sramKey := if x.storageKey.isEmpty then [] else Config.hkdf nonce.1 x.storageKey (ascii "HJ48 sram" ++ [byte i]) 64
      lostTxns := (s.txns.filter (fun t => decide (t.shade = i) && t.waiting)).length })
    sealed := s.sealed, challenges := s.challenges, bootNonce := nonce.1, moduleKey := le 64 rest.free
    power := { r.power with
      attempts := s.power.attempts, trigger := s.power.trigger, cause := s.power.cause, releaseTick := s.now, vsys := s.power.vsys
      slope := s.power.slope, lowestVsys := s.power.vsys, vsysHeld := s.power.vsysHeld, offSince := s.power.offSince
      offSinceSec := s.power.offSinceSec, thermalSensor := s.power.thermalSensor, thermalTemp := s.power.thermalTemp, phase1Failed := phase1 }
    pins := { s.pins with straps := straps, safeStatN := false, cxReq := false }
    box := s.box, lantern := { r.lantern with sentTick := s.now, lastTime := s.now }
    sweep := { r.sweep with
      repairs := s.sweep.repairs, sparesUsed := s.sweep.sparesUsed, genA := s.sweep.genA, genB := s.sweep.genB, validA := s.sweep.validA
      validB := s.sweep.validB }
    store := { s.store with coldStartDue := none, gateShut := false, correctedHour := 0, chanTick := s.now }
    rtc := s.rtc, bootEvents := s.bootEvents
    banks := s.banks.map (fun b => { bankAtReset with temp := b.temp, supply := b.supply, inWindow := b.inWindow })
    belfry := { r.belfry with tick := s.now, slotTick := s.now }
    quietDue := s.quietDue, meters := s.savedMeters, savedMeters := s.savedMeters, olderMeters := s.olderMeters, newerControl := s.newerControl
    journals := s.journals.map (fun j => { j with work := j.committed, piece := 0 }) }

/-- A newer control copy of the journal that is not valid gives way to the older one: what was committed after it is discarded, as a torn
group is (R350). -/
def State.olderControl (s : State) : State :=
  if s.controlWhole s.newerControl || !s.controlWhole (1 - s.newerControl) then s
  else
    let s1 := (List.range 8).foldl (fun st sh =>
      let j := s.journal sh
      match j.batches.filter (fun b => decide (j.older.nextBatch ≤ b.seq)) with
      | [] => st
      | b :: r => (st.atBoot 0x5009 ([sh] ++ dU 4 b.seq ++ [satTo 255 (1 + r.length)])).count 0x4100 7) s
    { s1 with
      newerControl := 1 - s.newerControl, meters := s.olderMeters, savedMeters := s.olderMeters
      journals := s.journals.map (fun j =>
        let n := j.older.nextBatch
        { j with
          work := j.older, committed := j.older, batches := j.batches.filter (fun b => decide (b.seq < n)), piece := 0
          nextOut := if n < j.nextOut then n else j.nextOut, again := if n < j.again then n else j.again
          delivered := if n < j.delivered then n else j.delivered }) }

/-- The configuration that a boot takes, as far as the shades' keys open it (R379), or defaults and an empty site charter with events
0x0503 and 0x2003 (R120, R402, R548). -/
def State.loadConfig (s : State) : State :=
  match s.store.bootCopy with
  | some c =>
    { s with dict := (c.2.content.filter (fun e => isKept e.1 && s.opens c.2 e.1)).foldl (fun m e => NMap.put m e.1 e.2) s.dict, store := { s.store with copyInUse := c.1 } }
  | none =>
    (((({ s with store := { s.store with copyInUse := 0xFF } } : State).set 0x2030 3 0).atBoot 0x0503 [b01 s.store.copyA.valid + 2 * b01 s.store.copyB.valid]).atBoot 0x2003 [0] : State)

/-- A written charter of a BLH-HJ48-G1 module comes into use, at this boot only with event 0x2004 (R121). -/
def State.takeCharter (s : State) : State :=
  match s.fuses.written with
  | some c => ({ s with fuses := { s.fuses with charter := c, written := none, charterState := 1 } } : State).atBoot 0x2004 [c.uhfRule, c.hfRule]
  | none => s

/-- Event 0x2005 for each band that the charters of this boot leave short of channels for a shade (R117). -/
def State.bootShort (s : State) : State :=
  (List.range 8).foldl (fun st sh => ((List.range 4).filter (fun b => s.bandShort sh b)).foldl (fun st b => st.atBoot 0x2005 (s.shortDetail (sh, b))) st) s

/-- The quads load channel memory from MRAM; an entry changed since the last write, but for the power of the RF dies, stays as it is, and one that fails its check is cleared (R89, R614). -/
def State.loadChannels (s : State) : State :=
  let entries := s.storedChannels
  let bad := s.badChannels
  { s with quads := s.quads.mapIdx (fun q x => { x with
      mem := (entries.filter (fun e => decide (e.1 / 256 = q) && !x.tx.dirty.contains (e.1 % 256))).foldl (fun m e => NMap.put m (e.1 % 256) e.2)
        (x.mem.filter (fun e => x.tx.dirty.contains e.1))
      tx := { x.tx with badEntries := (bad.filter (fun n => decide (n / 256 = q) && !x.tx.dirty.contains (n % 256))).map (· % 256) } }) }

/-- What the stored configuration sets up before the dictionary is reachable: channel memory, timers, Belfry, ports, metering
classes. -/
def State.applyConfig (s : State) : State :=
  let f := s.nat 0x1B01 1
  let s1 : State := { s.loadChannels with
    belfry := { s.belfry with incF := incOf f, ceilK := incOf f * (1000 + s.nat 0x1B01 10) }
    timers := s.timers.map (fun x => { x with baseTick := s.now })
    ports := s.ports.mapIdx (fun p x => { x with enabled := s.flag (0x2100 + p) 1 })
    hfPorts := s.hfPorts.mapIdx (fun h x => { x with enabled := s.flag (0x2400 + h) 1 }) }
  let s2 := (List.range 16).foldl (fun st n => st.applyPrescaler n) s1
  let s3 := ((s2.followGrants 0).each (List.range 12) State.fixTuners).each (List.range 64) State.planLines
  (List.range 32).foldl (fun st c =>
    let every := st.clsInterval c
    st.modCls c (fun r => { r with seen := if every = 0 then 0 else st.rtcSec / every * every })) s3

/-- A sealed record that no valid copy holds (R393): 1 identity, 2 claim count, 3 a shade, 4 a meter. -/
def State.lostRecord (s : State) (kind n : Nat) : State :=
  let s1 := s.atBoot 0x030C ([kind] ++ dU 2 (if kind = 1 ∨ kind = 2 then 0 else n))
  if kind = 1 then s1.set 0x1300 1 2
  else if kind = 2 then (s1.set 0x1300 6 13).set 0x1300 7 ((s1.rtcSec + 86400) % 2 ^ 32 : Nat)
  else if kind = 3 ∧ n = 0 then ((s1.toDefault (key 0x1310 3)).set 0x1310 1 0).modShade 0 (fun x => { x with storageKey := [], sramKey := [] })
  else if kind = 3 ∧ n < 8 ∧ s1.shadeState n ≠ 0 then s1.erase n 4
  else if kind = 4 then { s1 with meters := NMap.erase s1.meters n, savedMeters := NMap.erase s1.savedMeters n, olderMeters := NMap.erase s1.olderMeters n }
  else s1

/-- Events of the backup domain and of the power controller that wait for the start (R512, R530, R535, R612). -/
def State.domainEvents (s : State) (vbak : Nat) : State :=
  let s1 := if s.power.cause = 8 then
      s.atBoot 0x0106 ([s.power.thermalSensor] ++ dI 2 s.power.thermalTemp ++ dU 2 (satTo 0xFFFF (s.rtcSec - s.power.offSinceSec)))
    else s
  let s2 := if s1.rtc.lostPending then s1.atBoot 0x1104 (dU 2 vbak) else s1
  let s3 := if s2.rtc.unreported then
      s2.atBoot 0x1105 (dU 4 (s2.nat 0x1A02 4) ++ dU 2 (satTo 0xFFFF (s2.nat 0x1A02 7 / 60)))
    else s2
  let s4 := s3.rtc.lateAlarms.foldl (fun st a => st.atBoot 0x1101 ([a.1, 1] ++ dU 4 a.2)) s3
  { s4 with rtc := { s4.rtc with lostPending := false, unreported := false, lateAlarms := [] } }

/-- The reset release: cold BIST phase 1, the boot scan, the image and the configuration (R539, R548, R552, R567, R568, R600). -/
def State.release (s : State) (phase1 duration straps vbak : Nat) (torn lost : List (Nat × Nat)) : State :=
  let p := s.power
  if p.stage ≠ 2 ∨ p.internalRelease = false ∨ p.resetLow ∨ p.refclkLost ∨ p.released then s
  else
    let s1 := s.restart phase1 straps
    let s2 := (((s1.count 0x1102 2).set 0x1102 3 s1.rtcSec).set 0x1102 1 p.cause).set 0x2300 6 (2 * b01 s.pins.cxGnt + 4 * b01 s.pins.cxAct : Nat)
    if phase1 ≠ 0 then (s2.boxOnly 0x0602 [1, phase1, 0xFF, 0xFF]).freezeBox 3
    else
      let s3 := torn.foldl (fun st e => st.tornPage e.1 e.2) (s2.atBoot 0x0601 ([1, 0] ++ dU 2 duration))
      let s4 := s3.olderControl.takeCharter.loadConfig.bootShort.applyConfig
      let s5 := if s4.sweep.validA || s4.sweep.validB then
          s4.set 0x1700 13 (if s4.sweep.validB && (!s4.sweep.validA || decide (s4.sweep.genA < s4.sweep.genB)) then 1 else 0)
        else ({ s4 with sweep := { s4.sweep with repairs := [], sparesUsed := [] } } : State).set 0x1700 13 0xFF
      let s6 := if s4.sweep.validA || s4.sweep.validB then s5 else s5.atBoot 0x0608 [0]
      let torn5 := (s.bootEvents.filter (fun e => decide (e.code = 0x5009))).length
      let s7 := (lost.foldl (fun st e => st.lostRecord e.1 e.2) (s6.addTo 0x4100 7 torn5)).chooseImage.domainEvents vbak
      let s8 := if straps / 4 % 2 = 1 ∨ straps % 4 = 3 then s7.atBoot 0x0208 [straps] else s7
      if s8.pins.safeN then s8 else s8.enterSafe 0 0xFF

/-- `RESET_RELEASE`: the failing partition of phase 1 or 0, its duration in 0.1 ms, the straps, VBAK in mV, the pages found
half-cleared with the operation of their trailers, the sealed records without a valid copy. -/
def execResetRelease (t phase1 duration straps vbak : Nat) (torn : List (Nat × Nat)) (lost : List (Nat × Nat)) (s : State) : Out :=
  .next ((s.at t).release phase1 duration straps vbak torn lost)

/-- The reach of an event that the start raises. -/
def State.bootReach (s : State) (e : BootEvent) : List Nat :=
  if e.code = 0x5009 then withSlate (tget e.detail 0 8)
  else if e.code / 256 = 5 ∨ e.code / 256 = 3 ∨ e.code = 0x1104 ∨ e.code = 0x1105 then [0]
  else s.allJoined

/-- The dictionary is reachable: the events of the start are raised, and the shades that lost waiting transactions learn of it
(R388, R430, R600, R622). -/
def State.reachDictionary (s : State) : State :=
  if s.power.released = false ∨ s.power.reachable ∨ s.power.phase1Failed ≠ 0 then s
  else
    let tenths := satTo 0xFFFF ((s.now - s.power.releaseTick) * 10 / 122880)
    let s1 := ((s.modPower (fun p => { p with reachable := true, reachTick := s.now })).set 0x1100 10 tenths)
    let s2 : State := { s1 with bootEvents := [], store := { s1.store with trialStart := s1.now } }
    let s3 := s2.raise 0x0101 ([s.power.cause] ++ dU 2 tenths ++ [satTo 255 s.power.attempts, s.power.trigger]) s2.allJoined
    let s4 := s.bootEvents.foldl (fun st e => st.raise e.code e.detail (st.bootReach e)) s3
    let s5 := (List.range 8).foldl (fun st i =>
      let n := (st.shade i).lostTxns
      if n = 0 then st else (st.modShade i (fun x => { x with lostTxns := 0 })).raise 0x0404 ([2, satTo 255 n] ++ dU 4 0) [i]) s4
    (s5.modPower (fun p => { p with attempts := 0 })).ethStart

/-- `DICTIONARY_REACHABLE`. -/
def execDictionaryReachable (t : Nat) (s : State) : Out := .next (s.at t).reachDictionary

/-- RF ready: BIST phase 2 and the charter check have passed, channel memory is loaded and the synthesizers are locked; not in
safe state or recovery (R554, R600, R601). -/
def State.rfIsReady (s : State) : State :=
  let p := s.power
  if p.reachable = false ∨ p.mode ≠ 0 ∨ p.phase2Passed = false ∨ p.phase2Done = false ∨ p.charterChecked = false ∨ s.fuses.charterState = 2 ∨
      s.inSafe ∨ p.recovery ∨ s.flag 0x1100 2 then s
  else
    let millis := satTo 0xFFFF ((s.now - p.releaseTick) / 122880)
    let banks := (List.range 3).foldl (fun m b => if (s.bank b).inWindow then m + 2 ^ b else m) 0
    let s1 := s.modPower (fun x => { x with paBias := true, rfPending := false })
    let s2 := ((s1.setFlag 0x1100 2 true).set 0x1100 11 millis).driveSafeStat
    s2.raise 0x0102 (dU 2 millis ++ [banks]) s2.allJoined

/-- `RF_READY`: the quads have loaded their channel memory and locked their synthesizers. -/
def execRfReady (t : Nat) (s : State) : Out := .next (s.at t).rfIsReady

/-- `CHARTER_WRITTEN_BY_STATION`: a programming station writes the fuses of a BLH-HJ48-G1 module; the next boot takes the
charter into use (R121). The fuses take no charter above the ceilings of R2 (log entry 91). -/
def execCharterWrittenByStation (t : Nat) (charter : Charter) (s : State) : Out :=
  .next (let s1 := s.at t
         if s1.fuses.ordering = 2 ∧ s1.fuses.charterState = 0 ∧ s1.fuses.written = none ∧ charterFits charter = true then
           { s1 with fuses := { s1.fuses with written := some charter } }
         else s1)

/-! ### Operating modes (R613–R617) -/

/-- Whether a way back from deep standby is armed (R613). -/
def State.wayBack (s : State) : Bool :=
  let w := s.nat 0x1101 3
  bitOf w 2 || (bitOf w 0 && decide (s.nat 0x2500 1 ≠ 0)) ||
    (bitOf w 1 && ([0, 1].any (fun a => s.flag (alarmIndex a) 1 && bitOf (s.nat (alarmIndex a) 9) 1)))

/-- Whether work is pending that refuses standby (R613). -/
def State.modeBusy (s : State) : Bool :=
  s.txns.any (fun t => t.waiting) || !s.lateStores.isEmpty || !s.groups.isEmpty || s.sweep.retryTick.isSome ||
    decide (s.store.slotA.state = 1) || decide (s.store.slotB.state = 1) || decide (s.store.slotA.state = 3) || decide (s.store.slotB.state = 3) ||
    decide (0 < s.scansOpen)

/-- The UHF side stops and is unpowered; from full operation, what channel memory held beyond MRAM goes with its power (R614). -/
def State.uhfDown (s : State) : State :=
  let s0 := s.each (List.range 12) State.cutQuad
  let s1 := if s.power.mode = 0 then s0.each (List.range 12) (fun st q => st.modTx q (fun x => { x with dirty := [] })) else s0
  (s1.modPower (fun p => { p with paBias := false })).setFlag 0x1100 2 false

/-- The host links of a module that enters deep standby are shut: their frames are discarded, the Spire link restarts (R485,
R615). -/
def State.linksShut (s : State) : State :=
  let s1 := if s.linkUp 1 then (s.set 0x1200 3 0).set 0x1200 4 0 else s
  let s2 := if s.linkUp 2 then s1.set 0x1210 3 0 else s1
  let s3 := ((s2.modSpire Spire.restarted).modEth (fun e => { e with mdioStarted := false })).set 0x1201 8 0
  let s4 := if s.linkUp 1 then s3.framesLost 1 else s3
  if s.linkUp 2 then s4.framesLost 2 else s4

/-- A mode change that waits for a slot boundary: standby there, deep standby once no HF card service runs; deep standby keeps no
transaction (R614, R615). -/
def State.changeMode (s : State) : State :=
  match s.power.modeDue with
  | none => s
  | some m =>
    let s1 := s.uhfDown
    if m = 2 ∧ s1.hfPorts.any (fun x => x.service.isSome) then s1
    else
      let s2 := (s1.modPower (fun p => { p with mode := m, modeDue := none })).set 0x1100 1 (m : Nat)
      let s3 := s2.raise 0x0107 [s.power.mode, m, 0] s2.allJoined
      if m = 2 then
        ((({ s3 with txns := [] } : State).modPower (fun p => { p with deepSince := s.now })).count 0x1101 6).linksShut.timersDeep (s3.flag 0x1A02 1)
      else s3

/-- A mode that Slate asks for, after R613 has let it pass: full operation at once, the others at the next slot boundary. -/
def State.askMode (s : State) (m : Nat) : State :=
  if m = 0 then
    if s.power.mode = 0 then s.modPower (fun p => { p with modeDue := none })
    else
      let s1 := (s.loadChannels.modPower (fun p => { p with mode := 0, modeDue := none, phase2Done := false, phase2Passed := false })).set 0x1100 1 0
      s1.raise 0x0107 [s.power.mode, 0, 0] s1.allJoined
  else if m = s.power.mode then s
  else s.modPower (fun p => { p with modeDue := some m })

/-- Whether a wake source may end deep standby: 1 capacitive, 2 and 3 alarms A and B with their action bit 1, 4 SPI_SEL_N, 5 SAFE_N
(R530, R616). -/
def State.wakes (s : State) (source : Nat) : Bool :=
  let w := s.nat 0x1101 3
  (decide (source = 1) && bitOf w 0) || ((decide (source = 2) || decide (source = 3)) && bitOf w 1 && bitOf (s.nat (alarmIndex (source - 2)) 9) 1) || (decide (source = 4) && bitOf w 2) ||
    decide (source = 5)

/-- A wake source ends deep standby: the module returns to its wake mode with event 0x0107; a pad's wake raises event 0x4104, and
SAFE_N enters safe state (R326, R616). -/
def State.wake (s : State) (source channel hfReady : Nat) : State :=
  if s.power.mode ≠ 2 ∨ s.wakes source = false then s
  else
    let m := s.nat 0x1101 2
    let s1 := (if m = 0 then s.loadChannels else s).timersWake.belfryWakes.modPower (fun p => { p with mode := m, phase2Done := p.phase2Done && decide (m ≠ 0), phase2Passed := p.phase2Passed && decide (m ≠ 0) })
    let s2 := ((s1.set 0x1100 1 m).set 0x1101 4 source).set 0x1101 5 ((s.now - s.power.deepSince) / 122880000 : Nat)
    let s3 := s2.raise 0x0107 [2, m, source] s2.allJoined
    let s4 := if source = 1 then s3.raise 0x4104 ([channel] ++ dU 2 hfReady) s3.allJoined else s3
    let s5 := s4.ethStart
    if source = 5 then s5.safeNLow else s5

/-- `WAKE`: the source, and for a pad its channel and the time to HF ready in 0.1 ms. -/
def execWake (t source channel hfReady : Nat) (s : State) : Out := .next ((s.at t).wake source channel hfReady)

/-! ### The spread of the fabric clock (R620) -/

/-- The spread is restored: event 0x0108. -/
def State.spreadOn (s : State) : State :=
  match s.power.spreadEnd with
  | none => s
  | some _ =>
    let s1 := (s.modPower (fun p => { p with spreadEnd := none })).setFlag 0x1104 2 true
    s1.raise 0x0108 [2] s1.allJoined

/-- The spread is off for a number of minutes; 0 restores it at once. -/
def State.spreadOff (s : State) (minutes : Nat) : State :=
  if minutes = 0 then s.spreadOn
  else
    let s1 := (s.modPower (fun p => { p with spreadEnd := some (s.now + sec (60 * minutes)) })).setFlag 0x1104 2 false
    if s.power.spreadEnd.isSome then s1 else s1.raise 0x0108 ([1] ++ dU 2 minutes) s1.allJoined

/-- `SPREAD_RESTORED`: the time of `0x1104:03` has run out. -/
def execSpreadRestored (t : Nat) (s : State) : Out :=
  .next (let s1 := s.at t
         match s1.power.spreadEnd with
         | some due => if due ≤ s1.now then s1.spreadOn else s1
         | none => s1)

end Sys2Proof.Machine
end

