-- ==== Sys2Proof/Machine/Live.lean ====
section
/-! DEFINITION. What a READ returns: objects that the module computes as they are read, the entries that a shade sees of
them (R403), and the streams of R415. Every other object is read from the dictionary. -/

namespace Sys2Proof.Machine

/-! ### Values that are computed as they are read -/

/-- The bits of a signed quantity in `n` bits, as an object of an unsigned field holds it. -/
def packed (n : Nat) (v : Int) : Nat := (v.emod (2 ^ n)).toNat

/-- A number object. -/
def num (n : Nat) : Option Val := some (.num n)

/-- The mean of a list, rounded to the nearest; 0 for an empty one. -/
def meanOf (l : List Int) : Int :=
  let n : Int := l.length
  if n = 0 then 0 else (2 * l.foldl (fun a b => a + b) 0 + n).fdiv (2 * n)

/-- Power and clocks (Tables 7 and 9 of chapter 20) and safe state (Table 7 of chapter 19). The die temperature and the input
power are measurements that no command brings: free values (log entry 3). -/
def State.livePower (s : State) (index sub : Nat) : Option Val :=
  if index = 0x1100 then
    (if sub = 3 then num s.power.vsys
     else if 4 ≤ sub ∧ sub ≤ 6 then num (s.bank (sub - 4)).supply
     else if sub = 7 then num (s.power.rails % 16 + 16 * b01 s.power.paBias)
     else if sub = 8 then some (.num (ofLeInt (le 2 (Config.freeValue s.freeCount))))
     else if sub = 9 then num (Config.freeValue (s.freeCount + 1) % 2 ^ 32)
     else none)
  else if index = 0x1104 ∧ sub = 4 then
    num (match s.power.spreadEnd with
      | some e => ceilDiv (e - s.now) (sec 60)
      | none => 0)
  else if index = 0x1110 ∧ sub = 9 then num (b01 s.pins.safeN)
  else none

/-- Links and addressing (chapter 13). -/
def State.liveLinks (s : State) (index sub : Nat) : Option Val :=
  if index = 0x1200 ∧ sub = 1 then num s.ethInterface
  else if index = 0x1200 ∧ sub = 2 then some (.oct Config.macAddress)
  else if index = 0x1203 ∧ sub = 6 then
    num (match s.eth.leaseEnd with
      | some e => (e - s.now) / sec 1
      | none => 0)
  else if index = 0x1203 ∧ sub = 10 then some (.oct linkLocal)
  else none

/-- A session entry of the session view (Table 13 of chapter 11), as session `me` reads it. -/
def State.sessionEntry (s : State) (me : Nat) (x : Session) : List Byte :=
  let used := (s.now - x.lastTick) / sec 1
  le 4 x.id ++ [byte x.link, byte (b01 (decide ((s.shade x.shade).delivery = x.id)) + 2 * b01 (decide (x.id = me)) +
    4 * b01 (s.txns.any (fun t => decide (t.session = x.id) && !t.waiting)))] ++
  le 2 (satTo 0xFFFF (s.nat 0x1300 5 - used)) ++ le 4 x.openedSec ++ le 4 x.lastSec ++ le 4 x.hiSeq ++ le 4 x.txSeq ++
  [byte x.peer.family, 0#8] ++ le 2 x.peer.port ++ fit 4 (x.peer.bytes.drop (x.peer.bytes.length - 4))

/-- The Dome, shade records and session views (chapter 11). -/
def State.liveShades (s : State) (x : Session) (index sub : Nat) : Option Val :=
  if index = 0x1300 then
    (if sub = 2 then some (.oct Config.devicePublicKey)
     else if sub = 3 then num Config.deviceCertificate.length
     else if sub = 4 then some (.oct Config.deviceCertificate)
     else if sub = 8 then num (s.sessions.filter (fun y => y.isOpen)).length
     else none)
  else if 0x1310 ≤ index ∧ index < 0x1318 ∧ sub = 16 then num (s.openOf (index - 0x1310)).length
  else if 0x1320 ≤ index ∧ index < 0x1328 ∧ 1 ≤ sub ∧ sub ≤ 4 then
    some (.oct (match (s.openOf (index - 0x1320))[sub - 1]? with
      | some y => s.sessionEntry x.id y
      | none => zeros 32))
  else none

/-- Transactions (Table 15 of chapter 12), of the reading shade. -/
def State.liveTxns (s : State) (sh sub : Nat) : Option Val :=
  let st := tget s.txnStats sh { commits := 0, conflicts := 0, expiries := 0, dropped := 0 }
  let mine := s.txns.filter (fun t => decide (t.shade = sh))
  if sub = 1 then num (mine.filter (fun t => !t.waiting)).length
  else if sub = 2 then num (mine.filter (fun t => t.waiting)).length
  else if sub = 6 then num st.commits
  else if sub = 7 then num st.conflicts
  else if sub = 8 then num st.expiries
  else if sub = 9 then num st.dropped
  else if sub = 10 then num s.generation
  else if sub = 11 then num s.txns.length
  else if sub = 12 then num (b01 !s.bootDict.isEmpty)
  else none

/-- Items delivered and not acknowledged (R436). -/
def Shade.outstanding (x : Shade) : Nat := (x.items.filter (fun i => i.number.isSome)).length

/-- Subscription and delivery (Table 19 of chapter 12), of the reading shade. -/
def State.liveDelivery (s : State) (sh sub : Nat) : Option Val :=
  let y := s.shade sh
  if sub = 1 then num y.subFlags
  else if sub = 2 then some (.oct (le 32 y.classMask))
  else if sub = 3 then num y.delivery
  else if sub = 4 then num y.nextNumber
  else if sub = 5 then num y.ackedThrough
  else if sub = 6 then num y.outstanding
  else if sub = 7 then some (s.val (key 0x1500 (16 * sh + 7)))
  else if sub = 8 then num (y.redelivered % 2 ^ 32)
  else if sub = 9 then num (y.filtered % 2 ^ 32)
  else none

/-- The MRAM store and firmware slots (Tables 8–10 of chapter 17). -/
def State.liveStore (s : State) (index sub : Nat) : Option Val :=
  let st := s.store
  let trial := if st.slotA.state = 3 then st.slotA.trialBoots else if st.slotB.state = 3 then st.slotB.trialBoots else 0
  if index = 0x1600 then
    (if sub = 1 then num (if s.lateStores.isEmpty ∧ s.groups.all (fun g => !g.waited) then 0 else 2)
     else if sub = 2 then num s.power.vsys
     else if sub = 3 then some (.num s.power.slope)
     else if sub = 10 then num st.copyInUse
     else if sub = 11 then
       num (if st.copyA.valid ∧ st.copyB.valid then
           (if st.copyA.generation < st.copyB.generation then st.copyA.generation else st.copyB.generation)
         else 0)
     else none)
  else if index = 0x1610 then
    (if sub = 1 then num st.running
     else if sub = 2 then num st.slotA.state
     else if sub = 3 then num st.slotB.state
     else if sub = 4 then num st.slotA.version
     else if sub = 5 then num st.slotB.version
     else if sub = 6 then num st.slotA.sequence
     else if sub = 7 then num st.slotB.sequence
     else if sub = 8 then num trial
     else if sub = 9 then num st.minSecurity
     else if sub = 10 then num st.lastBoot
     else none)
  else if index = 0x1620 ∧ sub = 6 then num (st.slot st.target).state
  else none

/-- BIST and black box (Tables 2 and 10 of chapter 19). -/
def State.liveTest (s : State) (index sub : Nat) : Option Val :=
  if index = 0x1700 then
    (if sub = 4 then num (if s.sweep.running then (if s.sweep.suspended then 2 else 1) else 0)
     else if sub = 5 then num s.sweep.memDone
     else if sub = 7 then num (sumOf s.sweep.logicDone)
     else if 14 ≤ sub ∧ sub ≤ 17 then num (s.memoryObject (sub - 14))
     else none)
  else if index = 0x1710 then
    (if sub = 1 then num s.box.records
     else if sub = 2 then num s.box.next
     else if sub = 3 then some (.oct (s.box.slots.flatMap (fun r => fit 16 r)))
     else if sub = 6 then num s.box.frozen
     else if sub = 7 then num s.box.frozenAt
     else if sub = 8 then num s.box.notKept
     else none)
  else none

/-- The check-value engine (chapter 18), of the reading session. How far a running scan has come is open. -/
def State.liveCheck (s : State) (x : Session) (index sub : Nat) : Option Val :=
  if index = 0x1800 ∧ sub = 2 then num s.scansOpen
  else if index = 0x1801 then
    (if sub = 2 then num x.check.value
     else if sub = 3 then num x.check.register
     else if sub = 4 then num (b01 x.check.residue)
     else none)
  else if index = 0x1810 then
    (if sub = 3 then num x.scan.state
     else if sub = 4 then num x.scan.result
     else if sub = 5 then num (if x.scan.state = 2 then Config.freeValue s.freeCount % (x.scan.length + 1) else x.scan.done)
     else if sub = 6 then num x.scan.error
     else if sub = 7 then num x.scan.errorOffset
     else if sub = 8 then num (b01 x.scan.changed)
     else none)
  else none

/-- Timers and GPIOs (Tables 5, 7 and 10 of chapter 15). -/
def State.liveTimers (s : State) (index sub : Nat) : Option Val :=
  if 0x1910 ≤ index ∧ index < 0x1920 then
    let n := index - 0x1910
    let y := s.timer n
    (if sub = 1 then num y.holder
     else if sub = 3 then num (y.count s.now)
     else if sub = 4 then num (b01 y.output)
     else if sub = 7 then num (s.chanValue n 0)
     else if sub = 8 then num y.ch0.status
     else if sub = 11 then num (s.chanValue n 1)
     else if sub = 12 then num y.ch1.status
     else none)
  else if 0x1940 ≤ index ∧ index < 0x1950 ∧ sub = 6 then num (b01 (s.gpioLevel (index - 0x1940)))
  else none

/-- The shadow that a session reads, while its freeze lasts (R520). -/
def State.frozenTime (s : State) (x : Session) : Option Nat :=
  match x.shadow with
  | some (start, total) => if s.now < start + ms 250 then some total else none
  | none => none

/-- The real-time clock (Tables 1 and 2 of chapter 16), with the reading session's shadow. -/
def State.liveRtc (s : State) (x : Session) (index sub : Nat) : Option Val :=
  if index = 0x1A00 ∧ 1 ≤ sub then num (rtcField ((s.frozenTime x).getD s.rtc.total) sub)
  else if index = 0x1A01 ∧ sub = 1 then num s.rtcSec
  else if index = 0x1A01 ∧ sub = 2 then num s.fraction
  else none

/-- The Belfry's status (Table 6 of chapter 2). -/
def State.liveBelfry (s : State) (index sub : Nat) : Option Val :=
  if index = 0x1B00 then
    (if sub = 3 then num (s.belfry.phase % 2 ^ 48 / 2 ^ 16)
     else if sub = 4 then num s.cycle
     else if sub = 5 then num s.belfry.slots
     else if sub = 6 then num s.frameSlot
     else if sub = 9 then num s.belfry.incF
     else none)
  else none

/-- The smaller of R97 for the fused and site EIRP limits of a port's current band; with no current channel there is none,
and the value is free (log entry 3). -/
def State.eirpLimit (s : State) (p : Nat) : Int :=
  match s.bandOf (s.txChannel (p / 4)) with
  | some b =>
    let f := s.fromEirp p (s.fusedBand b).eirp
    let t := s.fromEirp p (s.siteBand b).eirp
    if f ≤ t then f else t
  | none => ofLeInt (le 2 (Config.freeValue (s.freeCount + 18 + p)))

/-- The ordering code as `0x2000:01` spells it. -/
def orderingName (o : Nat) : List Byte :=
  ascii (if o = 0 then "BLH-HJ48-E1" else if o = 1 then "BLH-HJ48-U1" else "BLH-HJ48-G1")

/-- Charters, UHF ports, quads and the noise of HSB replies (chapters 3, 4 and 8). -/
def State.liveRadio (s : State) (index sub : Nat) : Option Val :=
  let c := s.fuses.charter
  if index = 0x2000 then
    (if sub = 1 then some (.oct (orderingName s.fuses.ordering))
     else if sub = 2 then num s.fuses.charterState
     else if sub = 3 then num c.uhfRule
     else if sub = 4 then num c.hfRule
     else if sub = 5 then some (.num c.uhfCeiling)
     else if sub = 6 then num c.hfCeiling
     else if sub = 7 then num c.check
     else if sub = 8 then num c.channels.length
     else none)
  else if index = 0x2060 ∧ 5 ≤ sub ∧ sub ≤ 7 then some (.num (s.bank (sub - 5)).temp)
  else if index = 0x2060 ∧ 9 ≤ sub ∧ sub ≤ 11 then some (.num (s.thermalLimit (s.bank (sub - 9)).temp))
  else if index = 0x2001 then
    (if sub = 0 then num c.channels.length else if sub ≤ c.channels.length then num (s.channelAt (sub - 1)) else none)
  else if 0x2010 ≤ index ∧ index < 0x2014 ∧ 1 ≤ sub then some (.num (bandField (s.fusedBand (index - 0x2010)) sub))
  else if 0x2020 ≤ index ∧ index < 0x2024 ∧ 1 ≤ sub then some (.num (s.siteField (index - 0x2020) sub))
  else if index = 0x2030 ∧ sub = 3 then num s.siteMask
  else if index = 0x2030 ∧ sub = 4 then num s.siteHf
  else if 0x2100 ≤ index ∧ index < 0x2130 ∧ sub = 2 then num (s.actual (index - 0x2100))
  else if 0x2100 ≤ index ∧ index < 0x2130 ∧ sub = 8 then some (.num (s.eirpLimit (index - 0x2100)))
  else if 0x2130 ≤ index ∧ index < 0x2160 ∧ sub = 2 then num (s.rxState (index - 0x2130))
  else if 0x2200 ≤ index ∧ index < 0x220C ∧ sub = 9 then num (s.validSynth (index - 0x2200))
  else if 0x2400 ≤ index ∧ index < 0x2408 ∧ sub = 2 then num (s.hfActual (index - 0x2400))
  else if index = 0x2500 ∧ 17 ≤ sub ∧ sub ≤ 24 then
    num (65536 * ((s.cap (sub - 17)).last % 65536) + (s.cap (sub - 17)).baseline / 65536 % 65536)
  else if index = 0x3202 ∧ 1 ≤ sub then some (.num (meanOf ((NMap.getD s.hsbErrors (sub - 1) []).map (100 * ·))))
  else none

/-- The state of a round plan (`0x3000`+p:42). -/
def State.planState (s : State) (p : Nat) : Nat :=
  if s.planOwner p = 0xFF then 0
  else if s.planObj p 2 = 0 then 1
  else if (s.plan p).cause ≠ 0 then 4
  else if (s.plan p).running then 3
  else 2

/-- The state of a card plan (`0x3400`+p:29). -/
def State.cardPlanState (s : State) (p : Nat) : Nat :=
  if s.nat (0x3400 + p) 1 = 0xFF then 0
  else if s.nat (0x3400 + p) 2 = 0 then 1
  else if (List.range 8).any (fun h => match (s.hf h).service with
    | some v => decide (v.plan = some p)
    | none => false) then 3
  else 2

/-- The entries of a shade's view of the tag table, by number: routed to it, and still one that it may see (R248, R251,
R253). -/
def State.viewOf (s : State) (sh : Nat) : List (Nat × TagEntry) :=
  s.tags.filter (fun e => e.2.confirmed && bitOf e.2.routed sh && decide (e.2.heard &&& s.nat (0x1310 + sh) 6 ≠ 0) &&
    (!e.2.meter || decide (e.2.owner = sh)))

/-- The meters that a shade has enrolled. -/
def State.metersIn (s : State) (sh : Nat) : List (Nat × Meter) := s.meters.filter (fun e => decide (s.meterOwner e.1 = sh))

/-- Plans, the tag table and link profiles (chapters 6, 7 and 9). -/
def State.livePlans (s : State) (sh index sub : Nat) : Option Val :=
  if 0x3000 ≤ index ∧ index < 0x3040 ∧ sub = 42 then num (s.planState (index - 0x3000))
  else if index = 0x3100 ∧ sub = 1 then num (s.viewOf sh).length
  else if index = 0x3101 ∧ sub = 5 then num s.tags.length
  else if index = 0x3101 ∧ sub = 6 then num s.provisional
  else if 0x3300 ≤ index ∧ index < 0x3310 then
    let l := s.link (index - 0x3300)
    (if sub = 21 then num (s.actualBlf (index - 0x3300))
     else if sub = 22 then num l.rtcal
     else if sub = 23 then num l.t1Min
     else if sub = 24 then num l.t1Max
     else none)
  else if 0x3400 ≤ index ∧ index < 0x3420 ∧ sub = 29 then num (s.cardPlanState (index - 0x3400))
  else none

/-- The metering service (chapter 10). -/
def State.liveMeters (s : State) (sh index sub : Nat) : Option Val :=
  if index = 0x4000 ∧ sub = 1 then num (if sh = 0 then s.meters.length else (s.metersIn sh).length)
  else if index = 0x4000 ∧ sub = 2 then
    num ((if sh = 0 then sumOf (s.journals.map (·.formed)) else (s.journal sh).formed) % 2 ^ 32)
  else if 0x4010 ≤ index ∧ index < 0x4030 ∧ sub = 15 then num (s.metersOf (index - 0x4010)).length
  else if index = 0x4030 ∧ sub = 1 then num (s.metersIn sh).length
  else if index = 0x4100 ∧ sub = 2 then num s.slotsUsed
  else if 0x4110 ≤ index ∧ index < 0x4118 then
    let j := s.journal (index - 0x4110)
    (if sub = 1 then num j.committed.nextBatch
     else if sub = 2 then num j.oldest
     else if sub = 3 then num (if j.delivered = 0 then 0xFFFFFFFF else j.delivered - 1)
     else if sub = 6 then num (s.slotsHeld (index - 0x4110))
     else if sub = 7 then num j.committed.nextRecord
     else if sub = 8 then some (.oct j.committed.value)
     else none)
  else none

/-- Queues (chapter 14). -/
def State.liveQueues (s : State) (index sub : Nat) : Option Val :=
  if index = 0x5000 then
    (if sub = 1 then num s.txq.length
     else if sub = 3 then num (s.queuedOn 1)
     else if sub = 4 then num (s.queuedOn 2)
     else if sub = 7 then num (sumOf (s.shades.map (fun y => sumOf (y.items.map (fun i => i.lines.length)))))
     else none)
  else if 0x5010 ≤ index ∧ index < 0x5018 then
    let h := index - 0x5010
    let y := s.shade h
    (if sub = 1 then num y.items.length
     else if sub = 2 then num y.credits
     else if sub = 3 then num (s.quota h)
     else if sub = 4 then num (b01 (s.isFull h))
     else if sub = 5 then num (b01 y.overrun)
     else if sub = 7 then num y.outstanding
     else if sub = 8 then num y.pieces
     else none)
  else if 0x5020 ≤ index ∧ index < 0x502C then
    let q := index - 0x5020
    (if sub = 1 then num (s.quad q).results.length
     else if 3 ≤ sub ∧ sub ≤ 6 then num ((s.port (4 * q + (sub - 3))).reserved + (s.port (4 * q + (sub - 3))).fifo.length)
     else none)
  else none

/-- The cursors of R415, one set for each session. -/
def cursorOf (x : Session) (index sub : Nat) : Option Val :=
  if index = 0x3100 ∧ sub = 2 then num x.viewCursor
  else if index = 0x4030 ∧ sub = 2 then num x.meterCursor
  else if 0x4110 ≤ index ∧ index < 0x4118 ∧ sub = 9 then num x.batchCursor
  else none

/-- The value of an object that the module computes as a session reads it; none for an object of the dictionary. -/
def State.live (s : State) (x : Session) (index sub : Nat) : Option Val :=
  let page := index / 256
  if (cursorOf x index sub).isSome then cursorOf x index sub
  else if page = 0x10 then (if index = 0x1018 ∧ sub = 4 then num (Config.serialNumber % 2 ^ 32) else none)
  else if page = 0x11 then s.livePower index sub
  else if page = 0x12 then s.liveLinks index sub
  else if page = 0x13 then s.liveShades x index sub
  else if page = 0x14 then s.liveTxns x.shade sub
  else if page = 0x15 then s.liveDelivery x.shade sub
  else if page = 0x16 then s.liveStore index sub
  else if page = 0x17 then s.liveTest index sub
  else if page = 0x18 then s.liveCheck x index sub
  else if page = 0x19 then s.liveTimers index sub
  else if page = 0x1A then s.liveRtc x index sub
  else if page = 0x1B then s.liveBelfry index sub
  else if 0x20 ≤ page ∧ page ≤ 0x25 ∨ index = 0x3202 then s.liveRadio index sub
  else if 0x30 ≤ page ∧ page ≤ 0x34 then s.livePlans x.shade index sub
  else if page = 0x40 ∨ page = 0x41 then s.liveMeters x.shade index sub
  else if page = 0x50 then s.liveQueues index sub
  else none

/-! ### Streams (R415) -/

/-- The objects that R415 calls streams. -/
def isStream (index sub : Nat) : Bool :=
  decide (index = 0x3100 ∧ sub = 3) || decide (index = 0x4030 ∧ sub = 3) ||
    (decide (0x4110 ≤ index) && decide (index < 0x4118) && decide (sub = 10))

/-- The units of a stream, each with the cursor value that names it, in order. -/
def State.units (s : State) (sh index : Nat) : List (Nat × List Byte) :=
  if index = 0x3100 then (s.viewOf sh).map (fun e =>
    let r := s.tagReport sh 1 e.1 e.2 0 0 []
    (e.1, r.take 8 ++ le 4 e.2.lastSeen ++ le 4 e.2.lastCycle ++ r.drop 16))
  else if index = 0x4030 then (s.metersIn sh).map (fun e => (e.1, meterEntry e.1 e.2))
  else (s.journal (index - 0x4110)).batches.map (fun b => (b.seq, b.bytes))

/-- A session's cursor and part position in a stream. -/
def Session.cursor (x : Session) (index : Nat) : Nat × Nat :=
  if index = 0x3100 then (x.viewCursor, x.viewPart)
  else if index = 0x4030 then (x.meterCursor, x.meterPart)
  else (x.batchCursor, x.batchPart)

/-- The session with a cursor and a part position. -/
def Session.setCursor (x : Session) (index : Nat) (c : Nat × Nat) : Session :=
  if index = 0x3100 then { x with viewCursor := c.1, viewPart := c.2 }
  else if index = 0x4030 then { x with meterCursor := c.1, meterPart := c.2 }
  else { x with batchCursor := c.1, batchPart := c.2 }

/-- Whole units as far as `room` bytes allow; the bytes and the cursor past the last one. -/
def wholeUnits (room cursor : Nat) : List (Nat × List Byte) → List Byte × Nat
  | [] => ([], cursor)
  | (n, b) :: r =>
    if b.length ≤ room then
      let rest := wholeUnits (room - b.length) (n + 1) r
      (b ++ rest.1, rest.2)
    else ([], cursor)

/-- A block of a stream: its bytes, the flag that the unit continues, and the cursor and part position after it (R415). A
part position holds only for the unit that it was left in. -/
def readUnits (units : List (Nat × List Byte)) (c : Nat × Nat) (room : Nat) : List Byte × Bool × (Nat × Nat) :=
  match units.filter (fun u => decide (c.1 ≤ u.1)) with
  | [] => ([], false, c)
  | (n, b) :: r =>
    let part := if n = c.1 ∧ c.2 < b.length then c.2 else 0
    if part = 0 ∧ b.length ≤ room then
      let w := wholeUnits room c.1 ((n, b) :: r)
      (w.1, false, (w.2, 0))
    else
      let left := b.drop part
      if left.length ≤ room then (left, false, (n + 1, 0)) else (left.take room, true, (n, part + room))

end Sys2Proof.Machine
end

