-- ==== Sys2Proof/Machine/Rights.lean ====
section
/-! DEFINITION. What a shade may address, read and write: visibility (R403 and the rules that introduce each object table),
write rights (R401), and the writes that safe state allows (R431, R584). -/

namespace Sys2Proof.Machine

/-! ### Visibility -/

/-- The indices of records, one for each shade. -/
def ownIndex (base index : Nat) : Option Nat := if base ≤ index ∧ index < base + 8 then some (index - base) else none

/-- The visibility mask of an index (R403): bit s where shade s may address it at all. Narrowing by permission, ownership or
grant is not in the mask, which is fixed (R400). -/
def visMask (index : Nat) : Nat :=
  match ownIndex 0x1310 index, ownIndex 0x1320 index, ownIndex 0x2040 index, ownIndex 0x2050 index, ownIndex 0x3110 index,
    ownIndex 0x4110 index, ownIndex 0x5010 index with
  | some h, _, _, _, _, _, _ => 2 ^ h ||| 1
  | _, some h, _, _, _, _, _ => 2 ^ h
  | _, _, some h, _, _, _, _ => 2 ^ h ||| 1
  | _, _, _, some h, _, _, _ => 2 ^ h ||| 1
  | _, _, _, _, some h, _, _ => 2 ^ h
  | _, _, _, _, _, some h, _ => 2 ^ h
  | _, _, _, _, _, _, some h => 2 ^ h ||| 1
  | none, none, none, none, none, none, none =>
    if index = 0x1620 ∨ index = 0x1710 ∨ index = 0x1750 ∨ index = 0x1751 ∨ index = 0x1752 ∨ index = 0x3202 then 1 else 0xFF

/-- The timer that a GPIO record names. -/
def State.gpioTimer (s : State) (g : Nat) : Nat := s.nat (0x1940 + g) 2

/-- Whether a shade sees an index now: the visibility mask, and the narrowing by permission, ownership and grant (R112, R155,
R226, R303, R311, R332, R492, R503). -/
def State.seesIndex (s : State) (sh index : Nat) : Bool :=
  let slate := decide (sh = 0)
  bitOf (visMask index) sh &&
  (if 0x2100 ≤ index ∧ index < 0x2130 then slate || s.permits sh (index - 0x2100)
   else if 0x2130 ≤ index ∧ index < 0x2160 then slate || s.permits sh (index - 0x2130)
   else if 0x2400 ≤ index ∧ index < 0x2408 then slate || s.permitsHf sh (index - 0x2400)
   else if 0x3000 ≤ index ∧ index < 0x3040 then slate || decide (s.planOwner (index - 0x3000) = sh)
   else if 0x3400 ≤ index ∧ index < 0x3420 then slate || decide (s.nat index 1 = sh)
   else if 0x4010 ≤ index ∧ index < 0x4030 then slate || decide (s.nat index 1 = sh)
   else if 0x1914 ≤ index ∧ index < 0x1920 then slate || decide ((s.timer (index - 0x1910)).holder = sh)
   else if 0x1940 ≤ index ∧ index < 0x1950 then
     slate || (decide (s.gpioTimer (index - 0x1940) < 16) && decide ((s.timer (s.gpioTimer (index - 0x1940))).holder = sh))
   else true)

/-- Whether a shade may address a subindex of an index that it sees. Slate addresses only a summary of the plans and classes
of other shades, and writes only their owner (R226, R311, R332); a timer that another shade holds is closed to its writes
(R492). A READ of a password is answered as a READ of a WO object (R228). -/
def State.seesSub (s : State) (sh index sub : Nat) (write : Bool) : Bool :=
  if 0x3000 ≤ index ∧ index < 0x3040 then
    decide (s.planOwner (index - 0x3000) = sh) ||
      (if write then decide (sub = 1) else decide (sub ≤ 14) || (decide (42 ≤ sub) && decide (sub ≤ 46)))
  else if 0x3400 ≤ index ∧ index < 0x3420 then
    decide (s.nat index 1 = sh) || (if write then decide (sub = 1) else decide (sub ≤ 12) || decide (29 ≤ sub))
  else if 0x4010 ≤ index ∧ index < 0x4030 then
    decide (s.nat index 1 = sh) || (if write then decide (sub = 1) else decide (sub = 0) || decide (sub = 1) || decide (sub = 15))
  else if 0x1914 ≤ index ∧ index < 0x1920 ∧ write then
    decide ((s.timer (index - 0x1910)).holder = sh) || decide (8 ≤ (s.timer (index - 0x1910)).holder)
  else true

/-- The key of an object as a shade's session addresses it: each shade has its own instance of `0x1500` (R438). -/
def objKey (sh index sub : Nat) : Nat := if index = 0x1500 then key index (16 * sh + sub) else key index sub

/-- Whether a subindex exists (check 4). -/
def subExists (index sub : Nat) : Bool :=
  !(decide (index = 0x1500) && decide (9 < sub)) && (rowOf? (key index sub)).isSome

/-- Whether the dictionary offers an index: in recovery mode only a few (R554), of the fused channel list only the entries
that it has (Table 12 of chapter 3). -/
def State.offers (s : State) (index sub : Nat) : Bool :=
  (!s.power.recovery || (decide (0x1000 ≤ index) && decide (index ≤ 0x1018)) || decide (index = 0x1600) || decide (index = 0x1610) ||
    decide (index = 0x1620)) && (decide (index ≠ 0x2001) || decide (sub ≤ s.channels.length))

/-- Whether an access is the READ of a plan's password, which is refused as that of a WO object to any shade (R228). -/
def passwordRead (index sub : Nat) (write : Bool) : Bool :=
  !write && decide (0x3000 ≤ index) && decide (index < 0x3040) && (decide (sub = 15) || decide (sub = 16))

/-- Checks 2–4 of Table 9 of chapter 12: 0 when the object exists and the shade may address it. -/
def State.addressCheck (s : State) (sh index sub : Nat) (write : Bool) : Nat :=
  if indexExists index = false ∨ s.offers index 0 = false then 0x0101
  else if s.seesIndex sh index = false ∧ passwordRead index sub write = false then 0x0103
  else if subExists index sub = false ∨ s.offers index sub = false then 0x0102
  else if s.seesSub sh index sub write = false ∧ passwordRead index sub write = false then 0x0103
  else 0

/-! ### Reading -/

/-- Whether a shade other than Slate reads an object as zero (R72, R254, R358, R397, R432, R555, R621). -/
def State.readsZero (s : State) (sh index sub : Nat) : Bool :=
  decide (sh ≠ 0) &&
  ((decide (index = 0x1102) && decide (4 ≤ sub) && decide (sub ≤ 6)) ||
   (decide (index = 0x1300) && decide (6 ≤ sub) && decide (sub ≤ 11)) ||
   (decide (index = 0x1400) && decide (sub = 10)) ||
   (decide (index = 0x1600) && decide (4 ≤ sub) && decide (sub ≤ 12)) ||
   (decide (index = 0x3101) && decide (5 ≤ sub) && decide (sub ≤ 14)) ||
   (decide (index = 0x4000) && ((decide (4 ≤ sub) && decide (sub ≤ 11) && decide (sub ≠ 4 + sh)) || decide (12 ≤ sub))) ||
   (decide (index = 0x1B10) && decide (1 ≤ sub) && decide (entryShade (s.nat 0x1B10 sub) ≠ sh)))

/-- A value of a type with every byte zero. -/
def zeroOf (t : OType) : Val :=
  match t with
  | .oct n => .oct (zeros n)
  | .str _ => .oct []
  | _ => .num 0

/-- The bytes that a READ of an object returns to a session (R402, R403). -/
def State.shown (s : State) (x : Session) (index sub : Nat) (t : OType) : List Byte :=
  t.bytes (if s.readsZero x.shade index sub then zeroOf t else (s.live x index sub).getD (s.val (objKey x.shade index sub)))

/-! ### Writing -/

/-- Whether a shade has the right to write an object that it may address (check 6, the narrowing of R401): its own objects,
what it owns, and, for everything else, only Slate. -/
def State.mayWrite (s : State) (sh index sub : Nat) : Bool :=
  match ownIndex 0x1310 index with
  | some h =>
    if sub = 4 then decide (h = sh)
    else if sub = 14 then decide (sh = h ∧ h ≠ 0) || decide (sh = 0 ∧ h ≠ 0)
    else if sub = 3 then decide (sh = 0) && decide (h ≠ 0) && (decide (s.shadeState h = 0) || decide (s.shadeState h = 1))
    else decide (sh = 0)
  | none =>
    if (ownIndex 0x1320 index).isSome ∨ index = 0x1500 ∨ index = 0x1801 ∨ index = 0x1810 ∨ index = 0x3100 ∨
        (ownIndex 0x3110 index).isSome ∨ index = 0x4030 ∨ index = 0x4031 ∨ (ownIndex 0x4110 index).isSome then true
    else if 0x2040 ≤ index ∧ index < 0x2048 then decide (index = 0x2040 + sh)
    else if 0x2050 ≤ index ∧ index < 0x2058 then decide (index = 0x2050 + sh)
    else if 0x3000 ≤ index ∧ index < 0x3040 then
      (if sub = 1 then decide (sh = 0) && !s.flag index 2 else decide (s.planOwner (index - 0x3000) = sh))
    else if 0x3400 ≤ index ∧ index < 0x3420 then
      (if sub = 1 then decide (sh = 0) && !s.flag index 2 else decide (s.nat index 1 = sh))
    else if 0x4010 ≤ index ∧ index < 0x4030 then
      (if sub = 1 then decide (sh = 0) && (s.metersOf (index - 0x4010)).isEmpty else decide (s.nat index 1 = sh))
    else if 0x1910 ≤ index ∧ index < 0x1914 then false
    else if 0x1914 ≤ index ∧ index < 0x1920 then decide ((s.timer (index - 0x1910)).holder = sh)
    else if (0x2020 ≤ index ∧ index < 0x2024) ∨ (index = 0x2030 ∧ (sub = 3 ∨ sub = 4)) then decide (sh = 0) && decide (s.nat 0x2030 1 = 0)
    else decide (sh = 0)

/-- The safe-state objects (Table 8 of chapter 19). -/
def safeObject (index sub : Nat) : Bool :=
  (decide (index = 0x1110) && decide (sub = 5)) || (decide (index = 0x1710) && (decide (sub = 4) || decide (sub = 5))) ||
  decide (index = 0x1730) || (decide (index = 0x1750) && (decide (sub = 1) || decide (sub = 2))) ||
  (decide (index = 0x3100) && decide (sub = 2)) || (decide (index = 0x4030) && decide (sub = 2)) ||
  ((ownIndex 0x4110 index).isSome && (decide (sub = 4) || decide (sub = 5) || decide (sub = 9))) ||
  (decide (index = 0x1801) && decide (sub = 1)) || (decide (index = 0x1810) && (decide (sub = 1) || decide (sub = 2)))

end Sys2Proof.Machine
end

