-- ==== Sys2Proof/Machine/Checks.lean ====
section
/-! DEFINITION. The checks of one object (Table 9 of chapter 12): items as a frame carries them, checks 2–8, and the
whole-object, cross-object and charter rules of checks 9 and 10, each read on the values in effect with every write applied
(R412, R422). Every function answers the status of the first check that fails, 0 when none does. -/

namespace Sys2Proof.Machine

/-! ### Items -/

/-- An item of a WRITE or a TXN_STAGE (Table 8 of chapter 12). -/
structure Item where
  index : Nat
  sub : Nat
  type : Nat
  value : List Byte
  deriving DecidableEq, Repr

/-- The item at the head of a payload, and the bytes after it. -/
def takeItem (p : List Byte) : Item × List Byte :=
  let len := fieldAt p 4 2
  ({ index := fieldAt p 0 2, sub := byteAt p 2, type := byteAt p 3, value := slice p 8 len }, p.drop (8 + len))

/-- The first `n` items of a payload. -/
def takeItems : Nat → List Byte → List Item
  | 0, _ => []
  | n + 1, p => (takeItem p).1 :: takeItems n (takeItem p).2

/-- One write of a transaction: the object's key, as `objKey` gives it, and the value. -/
structure Put where
  key : Nat
  val : Val
  deriving DecidableEq, Repr

/-- Who writes: the shade, the session and the link that carries it (0 when the session has ended). -/
structure Writer where
  shade : Nat
  session : Nat
  link : Nat
  deriving DecidableEq, Repr

/-- The index and the subindex of a key, as the object tables number them. -/
def keyIndex (k : Nat) : Nat := k / 256

/-- The subindex of a key in its object table. -/
def keySub (k : Nat) : Nat := tableSub k

/-- Whether every byte of a string is zero. -/
def allZero (b : List Byte) : Bool := b.all (fun x => decide (x = 0#8))

/-! ### Reserved bits inside structured values (R12, check 8) -/

/-- A calendar entry (R70, Table 5 of chapter 2). -/
def entryOk (v : Nat) : Bool :=
  decide (v / 2 ^ 12 % 2 ^ 15 = 0) && (decide (entryKind v ≠ 0) || decide (entryShade v = 0)) &&
    (decide (entryKind v ≠ 3) || decide (v / 2 ^ 8 % 16 = 0))

/-- A channel configuration (Table 8 of chapter 15). -/
def chanConfigOk (v : Nat) : Bool :=
  decide (v % 8 ≤ 3) && decide (v / 2 ^ 6 % 4 ≤ 2) && decide (v / 2 ^ 21 % 8 ≤ 4) && decide (v / 2 ^ 30 = 0)

/-- A routing filter's EPC mask (Table 8 of chapter 7). -/
def epcMaskOk (b : List Byte) : Bool := decide (byteAt b 0 ≤ 2) && decide (byteAt b 1 ≤ 128) && allZero (slice b 4 4)

/-- Whether a value sets no reserved bit of its object and stays inside its object's own enumerations. -/
def shapeOk (k : Nat) (v : Val) : Bool :=
  let index := keyIndex k
  let sub := keySub k
  let n := v.toInt.toNat
  let b := v.toBytes
  if index = 0x1B10 then entryOk n
  else if 0x1910 ≤ index ∧ index < 0x1920 ∧ (sub = 5 ∨ sub = 9) then chanConfigOk n
  else if 0x3110 ≤ index ∧ index < 0x3118 ∧ 5 ≤ sub then epcMaskOk b
  else if 0x3000 ≤ index ∧ index < 0x3040 ∧ 18 ≤ sub ∧ sub ≤ 25 then decide (byteAt b 8 < 2)
  else if 0x3000 ≤ index ∧ index < 0x3040 ∧ 26 ≤ sub then decide (byteAt b 1 < 8)
  else if 0x3400 ≤ index ∧ index < 0x3420 ∧ 13 ≤ sub then decide (byteAt b 1 < 16) && decide (byteAt b 13 = 0)
  else if index = 0x4031 ∧ sub = 1 then decide (byteAt b 3 = 0) && decide (byteAt b 2 < 32)
  else if index = 0x1801 then
    decide (byteAt b 0 < 6) && decide (byteAt b 1 < 2) && decide (1 ≤ fieldAt b 2 2) && decide (fieldAt b 2 2 ≤ 8192) && allZero (slice b 4 4)
  else if index = 0x1810 ∧ sub = 1 then decide (byteAt b 1 < 6) && allZero (slice b 2 2)
  else true

/-- The status of checks 7 and 8 for a value as it is sent, and the value. -/
def valueCheck (r : ObjRow) (k type : Nat) (value : List Byte) : Nat × Val :=
  if type ≠ r.ty.code then (0x0105, .num 0)
  else match r.ty.parse value with
    | none => (0x0105, .num 0)
    | some v => (if r.ty.admits v && r.rng.admits v && shapeOk k v then 0 else 0x0106, v)

/-- Checks 2–8 of Table 9 for one item, with its write. A TXN_STAGE may name an RWT object, and never the clock (R419,
R515). -/
def State.itemCheck (s : State) (sh : Nat) (staging : Bool) (i : Item) : Nat × Put :=
  let k := objKey sh i.index i.sub
  let bad := fun (st : Nat) => (st, ({ key := k, val := .num 0 } : Put))
  let addr := s.addressCheck sh i.index i.sub true
  if addr ≠ 0 then bad addr
  else if s.inSafe && !safeObject i.index i.sub then bad 0x0501
  else match rowOf? (key i.index i.sub) with
    | none => bad 0x0102
    | some r =>
      if r.acc = .const ∨ r.acc = .ro ∨ (r.acc = .rwt ∧ staging = false) ∨ s.mayWrite sh i.index i.sub = false then bad 0x0104
      else if staging ∧ i.index = 0x1A00 then bad 0x0106
      else
        let c := valueCheck r k i.type i.value
        (c.1, { key := k, val := c.2 })

/-! ### Whole-object and cross-object rules (check 9)

`o` holds the values in effect, `n` the same with every write applied. -/

/-- A status where a rule is broken. -/
def refuse (status : Nat) (broken : Bool) : Nat := if broken then status else 0

/-- The first of a list of statuses that is not 0. -/
def firstOf : List Nat → Nat
  | [] => 0
  | a :: r => if a ≠ 0 then a else firstOf r

/-- The quad-slots of UHF kind that the calendar table gives a shade (R71). -/
def State.quadSlots (s : State) (sh : Nat) : Nat :=
  sumOf ((List.range 128).map (fun e =>
    let v := s.nat 0x1B10 (e + 1)
    if (entryKind v = 1 ∨ entryKind v = 2) ∧ entryShade v = sh then popcount 12 v else 0))

/-- Whether the calendar table gives a shade more than its airtime share (R71). -/
def State.overShare (s : State) (sh : Nat) : Bool :=
  decide (s.nat (0x1310 + sh) 5 < ceilDiv (s.quadSlots sh * 1000) 1536)

/-- The Belfry and the calendar (R71, Table 4 of chapter 2). -/
def State.ruleBelfry (n : State) (index sub : Nat) : Nat :=
  if index = 0x1B01 ∧ (sub = 8 ∨ sub = 9) then refuse 0x0106 (decide (n.nat 0x1B01 9 ≤ n.nat 0x1B01 8))
  else if index = 0x1B10 then refuse 0x0106 ((List.range 8).any n.overShare)
  else 0

/-- The grants of a shade record, each with its default (R367). -/
def State.grantsDefault (s : State) (sh : Nat) : Bool :=
  [5, 6, 7, 8, 9, 10, 11].all (fun i => decide (s.val (key (0x1310 + sh) i) = objDefault (key (0x1310 + sh) i)))

/-- R376: what subindex 14 takes from each writer and in each state. -/
def State.ruleErase (o : State) (w : Writer) (h v : Nat) : Nat :=
  let st := o.shadeState h
  if v = 1 then
    (if st = 0 ∨ st = 4 then 0x0106
     else refuse 0x0401 (decide (w.shade = 0) && (o.journal h).batches.any (fun b => b.acked.isNone)))
  else if w.shade = 0 ∧ v = 2 then refuse 0x0106 (decide (st = 0) || decide (st = 3) || decide (st = 4))
  else if w.shade = 0 ∧ v = 3 then refuse 0x0106 (decide (st ≠ 3))
  else 0x0104

/-- Shade records and session views (R367, R374–R376, R380, R398). -/
def State.ruleShades (o n : State) (w : Writer) (ps : List Put) (index sub : Nat) (v : Val) : Nat :=
  if 0x1310 ≤ index ∧ index < 0x1318 then
    let h := index - 0x1310
    if sub = 3 then
      (if h = 0 ∨ (o.shadeState h ≠ 0 ∧ o.shadeState h ≠ 1) then 0x0104 else refuse 0x0106 !(Config.onCurve v.toBytes))
    else if sub = 4 then
      refuse 0x0106 !(Config.onCurve (v.toBytes.take 33) &&
        Config.verify (v.toBytes.take 33) (ascii "HJ48 rotate" ++ [byte h] ++ v.toBytes.take 33) (v.toBytes.drop 33))
    else if sub = 14 then o.ruleErase w h v.toInt.toNat
    else if 5 ≤ sub ∧ sub ≤ 11 then
      firstOf [
        refuse 0x0106 (decide (sub = 5) && decide (1000 < sumOf ((List.range 8).map (fun i => n.nat (0x1310 + i) 5)))),
        refuse 0x0106 (decide (sub = 5) && n.overShare h),
        refuse 0x0106 (decide (sub = 8) && (List.range 8).any (fun i => decide (i ≠ h) && decide (n.nat (0x1310 + i) 8 &&& n.nat index 8 ≠ 0))),
        refuse 0x0106 (decide (sub = 9) && decide (8192 < sumOf ((List.range 8).map n.quota))),
        refuse 0x0106 (decide (o.shadeState h = 0) && !ps.any (fun p => decide (p.key = key index 3)) && !n.grantsDefault h)]
    else 0
  else if 0x1320 ≤ index ∧ index < 0x1328 ∧ sub = 5 then
    let sid := v.toInt.toNat
    refuse 0x0106 (decide (sid = w.session) || !(o.openOf (index - 0x1320)).any (fun y => decide (y.id = sid)))
  else 0

/-- A link that would switch off the session that asks (R462). -/
def ruleLinks (w : Writer) (index sub : Nat) (v : Val) : Nat :=
  refuse 0x0106 ((decide (index = 0x1200 ∧ sub = 5 ∧ w.link = 1) || decide (index = 0x1210 ∧ sub = 1 ∧ w.link = 2)) && decide (v.toInt = 0))

/-- The steps of a round plan up to the one of kind 0, numbered from 0. -/
def State.stepsOf (s : State) (p : Nat) : List (List Byte) := (s.planSteps p).map (fun i => s.planStep p i)

/-- Whether the parameters of a step lie inside Tables 1 of chapter 6 and 3 of chapter 7, or 17 of chapter 8, with every unused
byte zero (R196). -/
def stepParamsOk (b : List Byte) : Bool :=
  let k := byteAt b 0
  let bank := byteAt b 2
  let count := byteAt b 3
  if k = 1 then decide (count ≤ 3) && (decide (byteAt b 4 ≤ 15) || decide (byteAt b 4 = 0xFF)) && allZero (b.drop 5)
  else if k = 2 then decide (bank ≤ 3) && decide (1 ≤ count) && decide (count ≤ 64) && allZero (b.drop 8)
  else if k = 3 then decide (bank ≤ 3) && decide (count ≤ 15) && allZero (b.drop 8)
  else if k = 4 ∨ k = 5 then decide (1 ≤ bank) && decide (bank ≤ 3) && decide (1 ≤ count) && decide (count ≤ 16) && allZero (b.drop 8)
  else if k = 6 then allZero (slice b 2 2) && decide (fieldAt b 4 3 < 2 ^ 20) && allZero (b.drop 7)
  else if k = 7 then decide (bank ≤ 1) && decide (1 ≤ count) && decide (count ≤ 8) && allZero (b.drop 8)
  else if k = 8 then allZero (b.drop 2)
  else if k = 9 then allZero (b.drop 4)
  else if k = 10 then
    (if bank = 1 then allZero (b.drop 4)
     else decide (bank = 2) && decide (byteAt b 4 ≤ 15) && decide (fieldAt b 5 2 < 4096) && decide (1 ≤ byteAt b 7) && decide (byteAt b 7 ≤ 15) && allZero (b.drop 8))
  else if k = 11 then decide (bank ≤ 4) && decide (count ≤ 7) && allZero (b.drop 4)
  else if k = 12 then
    decide (bank ≤ 3) && decide (1 ≤ count) && decide (count ≤ 4) && decide (1 ≤ fieldAt b 8 2) && decide (fieldAt b 8 2 ≤ 2048) &&
      decide (byteAt b 10 ≤ 40) && decide (byteAt b 11 ≤ 3) && allZero (b.drop 12)
  else false

/-- Whether a Mark is followed by an access step in its group (R229). -/
def markFollowed : List (List Byte) → Bool
  | a :: b :: r => (decide (stepKind a = 11) && decide (stepKind b ≠ 1)) || markFollowed (b :: r)
  | _ => false

/-- A Select entry (Table 4 of chapter 7). -/
def selectOk (b : List Byte) : Bool :=
  decide (byteAt b 0 ≤ 4) && decide (byteAt b 1 ≤ 7) && decide (byteAt b 2 ≤ 3) && decide (byteAt b 3 ≤ 248)

/-- The steps of a plan against R229: their kinds and parameters, passwords, the profile and the sessions they name. -/
def State.planStepsOk (s : State) (p : Nat) : Bool :=
  let steps := s.stepsOf p
  let owner := s.planOwner p
  decide ((steps.head?.map stepKind).getD 1 = 1) && steps.all stepParamsOk && !markFollowed steps &&
  !(steps.any (fun b => decide (stepKind b = 8)) && decide (s.planObj p 16 = 0)) &&
  !(steps.any (fun b => stepFlag b 1) && decide (s.planObj p 15 = 0)) &&
  steps.all (fun b => decide (stepKind b ≠ 12) || stepFlag b 0) &&
  (steps.isEmpty || (s.flag (0x3300 + s.planObj p 5) 1 && s.allocated owner (s.planObj p 6) &&
    steps.all (fun b => decide (stepKind b ≠ 11) || decide (byteAt b 2 = 4) || s.allocated owner (byteAt b 2)) &&
    steps.all (fun b => decide (stepKind b ≠ 1) || (bitsOf 8 (byteAt b 2)).all (fun i =>
      decide (byteAt (s.planSelect p i) 0 = 4) || s.allocated owner (byteAt (s.planSelect p i) 0)))))

/-- A round plan's commit (R229). A plan with no step commits only while it is disabled. -/
def State.rulePlan (n : State) (p : Nat) : Nat :=
  firstOf [
    refuse 0x0106 (decide (n.int (0x3000 + p) 11 < n.int (0x3000 + p) 12)),
    refuse 0x0106 (decide (n.planObj p 2 = 1) && (n.stepsOf p).isEmpty),
    refuse 0x0106 !((List.range 8).all (fun i => selectOk (n.planSelect p i))),
    refuse 0x0106 !(n.planStepsOk p),
    refuse 0x0106 (n.isMeterPlan p && !(n.stepsOf p).any (fun b => decide (stepKind b = 10) && decide (byteAt b 2 = 2)))]

/-- A link profile's commit (R198, Table 2 of chapter 6). -/
def State.ruleProfile (n : State) (p : Nat) : Nat :=
  let g := n.linkObj p
  let num := if g 6 = 0 then 8 else 64
  let den := if g 6 = 0 then 1 else 3
  let trcal := num * 10 ^ 13
  let rtcal := g 2 * (1000 + g 3) * g 5 * den
  firstOf [
    refuse 0x0106 (decide (trcal < 11 * rtcal) || decide (30 * rtcal < trcal)),
    refuse 0x0106 (decide (g 2 * g 4 < 2000000)),
    refuse 0x0106 (decide (g 19 < g 18))]

/-- Whether a strike's pulse fits its timer (R497): fewer than 2^31 ticks of its prescaler. -/
def State.pulseFits (s : State) (t millis : Nat) : Bool := decide (ceilDiv (ms millis) (2 ^ s.nat (0x1910 + t) 2) < 2 ^ 31)

/-- The steps of a card plan up to the one of kind 0. -/
def State.cardStepsOf (s : State) (p : Nat) : List (List Byte) :=
  ((List.range 16).map (fun i => s.cardStep p i)).takeWhile (fun b => decide (byteAt b 0 ≠ 0))

/-- A card plan step against R312 and Table 7 of chapter 9. -/
def State.cardStepCheck (s : State) (p : Nat) (b : List Byte) : Nat :=
  let k := byteAt b 0
  let proto := s.cardObj p 5
  let len := byteAt b 3
  let t := byteAt b 12
  let pulse := fieldAt b 14 2
  if 3 < k ∨ 2 < byteAt b 2 then 0x0106
  else if k = 3 then
    (if t < 4 ∨ 15 < t ∨ pulse < 1 ∨ 60000 < pulse then 0x0106
     else if s.granteeOf t ≠ s.cardObj p 1 then 0x0103
     else refuse 0x0106 !(s.pulseFits t pulse))
  else firstOf [
    refuse 0x0106 (decide (k = 1) && (decide (proto = 3) || decide (s.cardObj p 9 = 0))),
    refuse 0x0106 (decide (k = 2) && decide (proto ≠ 3)),
    refuse 0x0106 (decide (len = 0) || decide (48 < len)),
    refuse 0x0106 (decide (k = 2) && decide (frameOfCode (byteAt b 16) = 0)),
    refuse 0x0106 (decide (fieldAt b 10 2 < 1) || decide (5000 < fieldAt b 10 2))]

/-- A selector: bytes that the protocol does not use are zero (Table 6 of chapter 9). -/
def selectorOk (proto : Nat) (b : List Byte) : Bool :=
  if proto = 1 then allZero (b.drop 6)
  else if proto = 2 then allZero (b.drop 1)
  else decide (byteAt b 1 ≤ 1) && decide (byteAt b 2 ≤ 1) && allZero (b.drop 3)

/-- A card plan's commit (R312). -/
def State.ruleCard (n : State) (p : Nat) : Nat :=
  firstOf ((refuse 0x0106 (!(selectorOk (n.cardObj p 5) (n.selector p)))) :: (n.cardStepsOf p).map (n.cardStepCheck p))

/-- Whether a chain of masters that starts at a channel comes back to a channel already in it (R501). -/
def State.masterLoops (s : State) : Nat → List (Nat × Nat) → Nat × Nat → Bool
  | 0, _, _ => true
  | f + 1, seen, c =>
    if seen.contains c then true
    else if modeOf (s.chanConfig c.1 c.2) = 3 then s.masterLoops f (c :: seen) (masterOf (s.chanConfig c.1 c.2))
    else false

/-- A channel's configuration against R498 and R501. -/
def State.ruleChannel (n : State) (t c : Nat) : Nat :=
  let v := n.chanConfig t c
  let g := v / 2 ^ 8 % 16
  let m := masterOf v
  if modeOf v = 2 then refuse 0x0103 !(decide (n.nat (0x1940 + g) 1 = 0) && decide (n.gpioTimer g = t))
  else if modeOf v = 3 then
    (if m ≠ (2, 0) ∧ (m.1 < 4 ∨ (n.timer m.1).holder ≠ (n.timer t).holder) then 0x0103
     else refuse 0x0106 (n.masterLoops 32 [] (t, c)))
  else 0

/-- Timer records (R495, R497–R499, R501). -/
def State.ruleTimers (n : State) (index sub : Nat) (v : Val) : Nat :=
  let t := index - 0x1910
  if sub = 5 then n.ruleChannel t 0
  else if sub = 9 then n.ruleChannel t 1
  else if sub = 2 then
    refuse 0x0106 ((List.range 32).any (fun p => decide (n.cardObj p 1 = (n.timer t).holder) &&
      (n.cardStepsOf p).any (fun b => decide (byteAt b 0 = 3) && decide (byteAt b 12 = t) && !n.pulseFits t (fieldAt b 14 2))))
  else if sub = 6 ∨ sub = 10 then
    let mode := modeOf (n.chanConfig t (if sub = 6 then 0 else 1))
    refuse 0x0106 (!(decide (mode = 1) || (decide (mode = 3) && decide (v.toInt < 2 ^ 31))))
  else 0

/-- The pseudonyms held when a class's window, or the enrolled meters, are as in `n`, with one more meter of a class (R394). -/
def State.pseudonyms (n : State) (more : List Nat) : Nat :=
  sumOf (n.meters.map (fun e => n.clsObj e.2.cls 14)) + sumOf (more.map (fun c => n.clsObj c 14))

/-- A meter class (R332–R334, R394). -/
def State.ruleClass (o n : State) (c sub : Nat) : Nat :=
  let g := n.clsObj c
  let plan := g 13
  firstOf [
    refuse 0x0106 (decide (2 ≤ sub) && decide (sub ≤ 8) && !(o.metersOf c).isEmpty),
    refuse 0x0106 (decide (g 5 = 1) && decide (2 ^ g 4 < 10 ^ g 6)),
    refuse 0x0106 (decide (30 * g 11 < g 12)),
    refuse 0x0106 (decide (plan ≠ 0xFF) && !(n.isMeterPlan plan && decide (n.planOwner plan = g 1))),
    refuse 0x0106 (decide (sub = 14) && decide (65536 < n.pseudonyms []))]

/-- The identity ranges (R331). -/
def State.ruleRange (o n : State) (sh : Nat) : Nat :=
  let r := n.meterRange sh
  firstOf [
    refuse 0x0106 (decide (4096 < r.1 + r.2)),
    refuse 0x0106 (decide (r.2 ≠ 0) && (List.range 8).any (fun i =>
      decide (i ≠ sh) && decide ((n.meterRange i).1 < r.1 + r.2) && decide (r.1 < (n.meterRange i).1 + (n.meterRange i).2) && decide ((n.meterRange i).2 ≠ 0))),
    refuse 0x0106 (o.meters.any (fun e => decide (o.meterOwner e.1 = sh) && !n.inRange sh e.1))]

/-- Enrolment, retirement and resync (R339, R359, R394). -/
def State.ruleRegister (o n : State) (w : Writer) (sub : Nat) (v : Val) : Nat :=
  let m := if sub = 1 then fieldAt v.toBytes 0 2 else v.toInt.toNat
  let cls := byteAt v.toBytes 2
  if n.inRange w.shade m = false then 0x0103
  else if sub = 1 then
    firstOf [
      refuse 0x0106 (o.meter m).isSome,
      refuse 0x0106 (decide (n.clsObj cls 1 ≠ w.shade)),
      refuse 0x0106 (decide (65536 < n.pseudonyms [cls]))]
  else if (o.meter m).isNone then 0x0106
  else if sub = 3 then
    refuse 0x0401 (match o.meter m with
      | some x => x.marked.isNone && decide (16 ≤ (o.meters.filter (fun e => e.2.marked.isSome)).length)
      | none => false)
  else 0

/-- Batch acknowledgement (R353). -/
def State.ruleJournal (o : State) (index sub : Nat) (v : Val) : Nat :=
  refuse 0x0106 (decide (sub = 4) && decide ((o.journal (index - 0x4110)).delivered ≤ v.toInt.toNat))

/-- Whether an object lies in the backup domain, whose writes R533 locks. -/
def domainObject (index sub : Nat) : Bool :=
  decide (index = 0x1A00) || decide (index = 0x1A02) || (decide (index = 0x1A03) && decide (sub ≤ 2)) || decide (index = 0x1A10) ||
    decide (index = 0x1A11) || decide (index = 0x1A20)

/-- The backup domain (R523, R528, R531–R533). -/
def State.ruleDomain (o n : State) (w : Writer) (index sub : Nat) (v : Val) : Nat :=
  if o.rtc.locked then 0x0402
  else if index = 0x1A00 ∧ sub = 1 then
    match o.session? w.session with
    | some x => refuse 0x0106 (newTime o.rtc.total x.staged v.toInt.toNat).isNone
    | none => 0
  else if index = 0x1A03 ∧ sub = 1 then refuse 0x0106 (n.flag 0x1A03 2)
  else if index = 0x1A20 then refuse 0x0106 (decide (v.toInt ≠ 0) && !(n.restores 0 || n.restores 1))
  else if index = 0x1A10 ∨ index = 0x1A11 then
    refuse 0x0106 ((o.rtc.offDue.isSome || !o.pins.pwrOn) && !(n.restores 0 || n.restores 1))
  else 0

/-- Firmware update (R550, R551, R553). -/
def State.ruleFirmware (o : State) (sub : Nat) (v : Val) : Nat :=
  let f := o.store.slot o.store.target
  if sub = 3 then refuse 0x0106 !(o.fwDataFits (fieldAt v.toBytes 0 4))
  else if sub = 4 then refuse 0x0106 (decide (f.state ≠ 1) || decide (o.nat 0x1620 2 < o.store.loadLength))
  else if sub = 5 then
    (if v.toInt = 1 then refuse 0x0106 (decide (f.state ≠ 2)) else refuse 0x0106 !o.store.inTrial)
  else 0

/-- The length of a scan region and whether a shade may scan it (Table 3 of chapter 18). Region 2 is as long as the running
image. -/
def State.regionLength (s : State) (region : Nat) : Nat :=
  if region ≤ 1 then 4194304 else if region = 2 then (s.store.slot s.store.running).length else if region = 3 then 524288 else 4096

/-- The check-value engine (R561–R563). -/
def State.ruleEngine (o : State) (w : Writer) (index sub : Nat) (v : Val) : Nat :=
  let b := v.toBytes
  match o.session? w.session with
  | none => 0x0106
  | some x =>
    if index = 0x1801 then
      refuse 0x0106 (decide (byteAt b 1 = 1) && !(x.check.used && decide (x.check.algorithm = byteAt b 0)))
    else if sub = 1 then
      let region := byteAt b 0
      let off := fieldAt b 4 4
      let len := fieldAt b 8 4
      if 4 < region then 0x0106
      else if (region = 3 ∨ region = 4) ∧ w.shade ≠ 0 then 0x0103
      else if len = 0 ∨ o.regionLength region < off + len then 0x0106
      else if x.scan.state = 1 ∨ x.scan.state = 2 then 0x0106
      else refuse 0x0401 (decide (8 ≤ o.scansOpen))
    else 0

/-- The remaining objects with a rule of their own: the power mode (R613), a safe-state Clear (R580), a sweep (R579), re-arms
(R110, R302), HSB settings (R293). -/
def State.ruleOther (o n : State) (index sub : Nat) (v : Val) : Nat :=
  if index = 0x1101 ∧ sub = 1 then
    (if v.toInt = 0 then 0
     else if o.modeBusy then 0x0401
     else refuse 0x0106 (decide (v.toInt = 2) && !o.wayBack))
  else if index = 0x1110 ∧ sub = 5 then refuse 0x0401 (o.inSafe && decide (o.nat 0x1110 2 ≠ 0))
  else if index = 0x1700 ∧ sub = 3 then refuse 0x0401 o.sweep.running
  else if 0x2100 ≤ index ∧ index < 0x2130 ∧ sub = 5 then refuse 0x0401 !(o.flag index 4)
  else if 0x2400 ≤ index ∧ index < 0x2408 ∧ sub = 5 then refuse 0x0401 !(o.flag index 4)
  else if index = 0x3200 ∧ (sub = 3 ∨ sub = 4) then refuse 0x0106 (decide (n.nat 0x3200 4 ≤ n.nat 0x3200 3))
  else 0

/-- Check 9 for one write among those of a transaction. -/
def State.rule (o n : State) (w : Writer) (ps : List Put) (p : Put) : Nat :=
  let index := keyIndex p.key
  let sub := keySub p.key
  let v := p.val
  if 0x1A00 ≤ index ∧ index < 0x1B00 then (if domainObject index sub then State.ruleDomain o n w index sub v else 0)
  else if 0x1B00 ≤ index ∧ index < 0x1C00 then n.ruleBelfry index sub
  else if 0x1310 ≤ index ∧ index < 0x1330 then State.ruleShades o n w ps index sub v
  else if 0x1200 ≤ index ∧ index < 0x1300 then ruleLinks w index sub v
  else if index = 0x1620 then o.ruleFirmware sub v
  else if index = 0x1801 ∨ index = 0x1810 then o.ruleEngine w index sub v
  else if 0x1910 ≤ index ∧ index < 0x1920 then n.ruleTimers index sub v
  else if 0x3000 ≤ index ∧ index < 0x3040 then (if sub = 1 then 0 else n.rulePlan (index - 0x3000))
  else if 0x3300 ≤ index ∧ index < 0x3310 then n.ruleProfile (index - 0x3300)
  else if 0x3400 ≤ index ∧ index < 0x3420 then (if sub = 1 then 0 else n.ruleCard (index - 0x3400))
  else if index = 0x4000 then (if 4 ≤ sub then State.ruleRange o n (sub - 4) else 0)
  else if 0x4010 ≤ index ∧ index < 0x4030 then (if sub = 1 then 0 else State.ruleClass o n (index - 0x4010) sub)
  else if index = 0x4031 then State.ruleRegister o n w sub v
  else if 0x4110 ≤ index ∧ index < 0x4118 then o.ruleJournal index sub v
  else State.ruleOther o n index sub v

/-! ### Charter and policy bounds (check 10) -/

/-- Check 10 for one write among those of a transaction (R3, R38, R117, R227, R297, R311, R668). -/
def State.bound (n : State) (p : Put) : Nat :=
  let index := keyIndex p.key
  let sub := keySub p.key
  if 0x2020 ≤ index ∧ index < 0x2024 then refuse 0x0107 !(narrows (n.siteBand (index - 0x2020)) (n.fusedBand (index - 0x2020)))
  else if index = 0x2030 ∧ sub = 3 then
    firstOf [
      refuse 0x0107 (decide (n.siteMask &&& n.fusedMask ≠ n.siteMask)),
      refuse 0x0107 ((List.range 8).any (fun sh => (List.range 4).any (fun b => n.bandShort sh b)))]
  else if index = 0x2030 ∧ sub = 4 then refuse 0x0107 (decide (n.fuses.charter.hfCeiling < n.siteHf))
  else if 0x2040 ≤ index ∧ index < 0x2048 ∧ sub = 2 then refuse 0x0107 ((List.range 4).any (fun b => n.bandShort (index - 0x2040) b))
  else if ((0x2100 ≤ index ∧ index < 0x2130) ∨ (0x2400 ≤ index ∧ index < 0x2408)) ∧ sub = 1 then
    refuse 0x0107 (decide (p.val.toInt = 1) && decide (n.fuses.charterState = 0))
  else if 0x2400 ≤ index ∧ index < 0x2408 ∧ sub = 6 then refuse 0x0107 (decide (n.siteHf < n.nat index 6))
  else if 0x3000 ≤ index ∧ index < 0x3040 ∧ sub = 4 then
    refuse 0x0107 (decide (n.planObj (index - 0x3000) 4 &&& n.nat (0x1310 + n.planOwner (index - 0x3000)) 6 ≠ n.planObj (index - 0x3000) 4))
  else if 0x3400 ≤ index ∧ index < 0x3420 ∧ sub = 4 then
    refuse 0x0107 (decide (n.nat index 4 &&& n.nat (0x1310 + n.nat index 1) 7 ≠ n.nat index 4))
  else 0

end Sys2Proof.Machine
end

