-- ==== Sys2Proof/Machine/Engine.lean ====
section
/-! DEFINITION. The check-value engine (chapter 18): computations over supplied bits and memory scans. -/

namespace Sys2Proof.Machine

/-- A computation over supplied bits: subindices 2–4 of the session's `0x1801` (R557, R558, R560, R561). The register is kept as
subindex 3 shows it. -/
def State.compute (s : State) (sid : Nat) (v : List Byte) : State :=
  let code := byteAt v 0
  let a := crcAlg code
  s.modSession sid (fun x =>
    let start := if bitOf (byteAt v 1) 0 then crcShown a x.check.register else a.preset
    let reg := crcRun a start ((crcBits a (v.drop 8)).take (fieldAt v 2 2))
    { x with check := { used := true, algorithm := code, value := crcOut a reg, register := crcShown a reg
                        residue := decide (crcShown a reg = a.residue) } })

/-- A scan is queued, and starts when no other runs (R563). Its result is open until it is done (Table 5 of chapter 18). -/
def State.startScan (s : State) (sid : Nat) (v : List Byte) : State :=
  let s1 := s.drawn.modSession sid (fun x => { x with scan := {
    state := 1, region := byteAt v 0, algorithm := byteAt v 1, offset := fieldAt v 4 4, length := fieldAt v 8 4, result := s.free % 2 ^ 32
    done := 0, error := 0, errorOffset := 0, changed := false, order := s.nextOrder } })
  ({ s1 with nextOrder := s.nextOrder + 1 } : State).nextScan

/-- Abort ends the session's scan in state 5 with error 2 (R565). How far a running scan had come is open. -/
def State.abortScan (s : State) (sid : Nat) : State :=
  match s.session? sid with
  | none => s
  | some x =>
    if x.scan.state ≠ 1 ∧ x.scan.state ≠ 2 then s
    else
      let done := if x.scan.state = 2 then s.free % (x.scan.length + 1) else 0
      let s1 := s.drawn.modSession sid (fun y => { y with scan := { y.scan with state := 5, error := 2, done := done } })
      (s1.count 0x1800 3).nextScan

/-- The bytes that a scan covers (Table 3 of chapter 18). -/
def State.scanBytes (s : State) (c : Scan) : List Byte :=
  if c.region = 4 then slice (s.box.slots.flatMap (fun r => fit 16 r)) c.offset c.length
  else
    let base := if c.region = 0 then 0 else if c.region = 1 then 4194304 else if c.region = 2 then 4096 * slotBase s.store.running else 9961472
    Memory.readAll s.store.mram (base + c.offset) c.length

/-- A session's running scan ends: done with its result, which is open where bytes of the range changed under it, or failed on an
uncorrectable word at an offset (R564, R565). -/
def State.scanComplete (s : State) (sid : Nat) (error : Option Nat) : State :=
  match s.session? sid with
  | none => s
  | some x =>
    let c := x.scan
    if c.state ≠ 2 then s
    else match error with
      | none =>
        let result := if c.changed then s.free % 2 ^ (crcAlg c.algorithm).width else crcBytes c.algorithm (s.scanBytes c)
        let s1 := s.drawn.modSession sid (fun y => { y with scan := { y.scan with state := 3, result := result, done := c.length } })
        (s1.count 0x1800 1).nextScan
      | some off =>
        let s1 := s.modSession sid (fun y => { y with scan := { y.scan with state := 4, error := 1, errorOffset := off, done := off - c.offset } })
        (s1.count 0x1800 3).nextScan

/-- `SCAN_COMPLETE`: of a session, with the offset of an uncorrectable word if one ended it. -/
def execScanComplete (t session : Nat) (error : Option Nat) (s : State) : Out := .next ((s.at t).scanComplete session error)

end Sys2Proof.Machine
end

