-- ==== Sys2Proof/Machine/Commit.lean ====
section
/-! DEFINITION. Writes taking effect (chapter 12, R402–R405, R423–R425): the values, the change counts, the store, and what the
written objects make the module do, area by area. A WRITE, a TXN_COMMIT and a boundary all come here. -/

namespace Sys2Proof.Machine

/-! ### Values -/

/-- The commit class of an object. -/
def clsOf (k : Nat) : Cls := (rowOf? k).elim .none (fun r => r.cls)

/-- Whether a plan's access or kill password, which is write-only, stands at a key (Table 3 of chapter 7). -/
def isPassword (k : Nat) : Bool :=
  decide (0x3000 ≤ keyIndex k) && decide (keyIndex k < 0x3040) && (decide (keySub k = 15) || decide (keySub k = 16))

/-- Whether a write's value goes into effect as the object's value: not an action, a cursor, a field of the clock, or an object of
class B. -/
def isStored (k : Nat) : Bool :=
  match rowOf? k with
  | some r => decide (r.cls ≠ .b) && !isCursor k && (decide (r.acc = .rw) || decide (r.acc = .rwt) || isPassword k)
  | none => false

/-- The objects that a change of owner returns to their defaults (R226, R311, R332). -/
def resetWith (k : Nat) : List Nat :=
  let index := keyIndex k
  let upTo := fun (hi : Nat) => (List.range (hi - 1)).map (fun i => key index (i + 2))
  if keySub k ≠ 1 then []
  else if 0x3000 ≤ index ∧ index < 0x3040 then upTo 41
  else if 0x3400 ≤ index ∧ index < 0x3420 then upTo 28
  else if 0x4010 ≤ index ∧ index < 0x4030 then upTo 14
  else []

/-- The owner resets of a write: none while the owner stays. -/
def State.resetsOf (s : State) (p : Put) : List Nat := if s.val p.key = p.val then [] else resetWith p.key

/-- The values in effect with every write applied, owner resets first (R422); change counts rise (R423). -/
def State.applied (s : State) (ps : List Put) : State :=
  let s1 := ps.foldl (fun st p => (s.resetsOf p).foldl State.toDefault st) s
  ps.foldl (fun st p =>
    let st1 : State := if isStored p.key then { st with dict := NMap.put st.dict p.key p.val } else st
    st1.touch p.key) s1

/-- Values of class B wait for the next boot (R402). -/
def State.bootPuts (s : State) (ps : List Put) : State :=
  ps.foldl (fun st p =>
    if clsOf p.key = .b then
      { st with bootDict := if st.val p.key = p.val then NMap.erase st.bootDict p.key else NMap.put st.bootDict p.key p.val }
    else st) s

/-- Whether the writes change a value that the configuration keeps (R405). -/
def State.changesKept (s : State) (ps : List Put) : Bool :=
  ps.any (fun p =>
    if clsOf p.key = .b then decide ((NMap.get? s.bootDict p.key).getD (s.val p.key) ≠ p.val)
    else isKept p.key && isStored p.key && decide (s.val p.key ≠ p.val))

/-- Whether a write is a store of its own: an owner key, an erase, an enrolment or retirement, or firmware (R392, R350, R550,
R551). -/
def storesItself (p : Put) : Bool :=
  let index := keyIndex p.key
  let sub := keySub p.key
  (decide (0x1310 ≤ index) && decide (index < 0x1318) && (decide (sub = 3) || decide (sub = 4) || decide (sub = 14))) ||
  (decide (index = 0x4031) && decide (sub ≤ 2)) ||
  (decide (index = 0x1620) && (decide (sub ≠ 3) || decide ((fieldAt p.val.toBytes 0 4 + 1024) % 4096 = 0)) && decide (sub ≤ 5))

/-- Whether the writes need the stable supply (check 11 of Table 9 of chapter 12). -/
def State.needsStore (s : State) (ps : List Put) : Bool := s.changesKept ps || ps.any storesItself

/-! ### Verdicts -/

/-- The write right of a shade at commit, on the values in effect (R401). -/
def State.rightCheck (s : State) (sh : Nat) (k : Nat) : Nat :=
  let index := keyIndex k
  let sub := keySub k
  if s.seesIndex sh index = false ∨ s.seesSub sh index sub true = false then 0x0103
  else refuse 0x0104 !(s.mayWrite sh index sub)

/-- The first write that a check refuses: its status and its number from 1. -/
def firstBad (f : Put → Nat) : Nat → List Put → Option (Nat × Nat)
  | _, [] => none
  | i, p :: r => if f p ≠ 0 then some (f p, i) else firstBad f (i + 1) r

/-- The image in the slot being loaded, against R549: 0 when it verifies. The hash and the signature are computed over its bytes
(log entry 4). -/
def State.verifyCheck (s : State) : Nat :=
  let i := s.store.target
  let h := s.fwHeader i
  let body := Memory.readAll s.store.mram (4096 * slotBase i + 1024) (fieldAt h 12 4 - 1024)
  s.fwCheck i (decide (fit 32 (Config.sha256 body) = slice h 20 32)) (Config.firmwareVerify (h.take 52) (slice h 52 64))

/-- Whether a write is Verify of an image that does not verify: it is refused, and the slot becomes empty (R551). -/
def State.verifyFails (s : State) (p : Put) : Bool :=
  decide (p.key = key 0x1620 4) && decide (s.verifyCheck ≠ 0)

/-- Checks 9 and 10 of Table 9, and 5 and 6 of R422: the status and the failing write, 0 and 0xFF when all hold. -/
def State.verdict (s : State) (w : Writer) (ps : List Put) : Nat × Nat :=
  let n := s.applied ps
  match firstBad (fun p => firstOf [s.rightCheck w.shade p.key, State.rule s n w ps p]) 1 ps, firstBad n.bound 1 ps with
  | some x, _ => x
  | none, some x => x
  | none, none => (0, 0xFF)

/-! ### What written objects do -/

/-- Power, clocks and safe state (R580, R613, R620). -/
def State.effectPower (s : State) (index sub v : Nat) : State :=
  if index = 0x1101 ∧ sub = 1 then s.askMode v
  else if index = 0x1104 ∧ sub = 3 then s.spreadOff v
  else if index = 0x1110 ∧ sub = 5 then s.leaveSafe
  else s

/-- Host links (R448, R456, R457, R471). -/
def State.effectLinks (s : State) (changed : Bool) (index sub v : Nat) : State :=
  if index = 0x1200 ∧ sub = 5 then s.ethEnabled (decide (v ≠ 0))
  else if index = 0x1210 ∧ sub = 1 then s.spireEnabled (decide (v ≠ 0))
  else if index = 0x1201 ∧ (sub = 1 ∨ sub = 2) then s.plcaChanged
  else if index = 0x1203 ∧ changed then s.readdress (decide (7 ≤ sub))
  else s

/-- Shade records and session views (R374–R380, R398). -/
def State.effectShades (s : State) (w : Writer) (index sub : Nat) (v : Val) : State :=
  if 0x1310 ≤ index ∧ index < 0x1318 then
    let h := index - 0x1310
    if sub = 3 then s.openShade h
    else if sub = 4 then s.rotate h (v.toBytes.take 33)
    else if sub = 14 then
      (if v.toInt = 1 then s.erase h (if w.shade = h then 2 else 1) else if v.toInt = 2 then s.closeShade h else s.cancelClose h)
    else s
  else if 0x1320 ≤ index ∧ index < 0x1328 ∧ sub = 5 then s.endSession v.toInt.toNat 1
  else s

/-- Firmware update (R550–R553). -/
def State.effectFirmware (s : State) (sub : Nat) (v : Val) : State :=
  if sub = 1 then s.fwBegin v.toInt.toNat
  else if sub = 3 then s.fwData (fieldAt v.toBytes 0 4) (slice v.toBytes 4 1024)
  else if sub = 4 then s.fwVerify (decide (s.verifyCheck ≠ 4)) (decide (s.verifyCheck ≠ 5))
  else if sub = 5 then (if v.toInt = 1 then s.fwActivate else s.fwConfirm)
  else s

/-- Self-test, black box, counters and Lantern (R578, R587, R589–R592). Lantern disabled loses the records that wait. -/
def State.effectTest (s : State) (changed : Bool) (index sub v : Nat) : State :=
  if index = 0x1700 ∧ sub = 1 then s.sweepSwitched
  else if index = 0x1700 ∧ sub = 3 then s.startSweep
  else if index = 0x1710 ∧ sub = 4 then s.freezeBox 2
  else if index = 0x1710 ∧ sub = 5 then s.releaseBox
  else if index = 0x1730 ∧ sub = 1 ∧ changed then
    { s with lantern := { s.lantern with fifo := if v = 0 then [] else s.lantern.fifo, sentTick := s.now } }
  else if index = 0x1750 ∧ sub = 1 then s.snapshot
  else if index = 0x1750 ∧ sub = 2 then s.clearCounters
  else if index = 0x1751 ∧ 1 ≤ sub ∧ changed then { s with counters := tmod s.counters (sub - 1) (fun _ => 0) }
  else s

/-- The check-value engine (R560–R565). -/
def State.effectEngine (s : State) (w : Writer) (index sub : Nat) (v : Val) : State :=
  if index = 0x1801 then s.compute w.session v.toBytes
  else if sub = 1 then s.startScan w.session v.toBytes
  else if sub = 2 then s.abortScan w.session
  else s

/-- Timers (R490, R495, R496, R499, R502). -/
def State.effectTimers (o s : State) (index sub v : Nat) : State :=
  if 0x1910 ≤ index ∧ index < 0x1920 then
    let n := index - 0x1910
    if sub = 2 then s.applyPrescaler n
    else if sub = 5 then s.configChanged n 0 (o.chanConfig n 0)
    else if sub = 9 then s.configChanged n 1 (o.chanConfig n 1)
    else if sub = 6 then (s.armChannel n 0 v).2
    else if sub = 10 then (s.armChannel n 1 v).2
    else if sub = 13 then s.forceOutput n (decide (v ≠ 0))
    else s
  else s

/-- A session's staged time values are discarded (R522). -/
def State.dropStaged (s : State) (sid : Nat) : State := s.modSession sid (fun x => { x with staged := [] })

/-- A session commits the time: it lands at once (log entry 21), the staged values and the session's freeze end, and the metering
service follows the step (R344, R520, R523, R524). -/
def State.commitTime (s : State) (sid v : Nat) : State :=
  match s.session? sid with
  | none => s
  | some x =>
    match newTime s.rtc.total x.staged v with
    | none => s.dropStaged sid
    | some new =>
      let s1 := (s.dropStaged sid).modSession sid (fun y => { y with shadow := none })
      (s1.landTime new (decide (NMap.get? x.staged 4 = none))).timeChanged s.rtc.total

/-- A power-off request (R531). -/
def State.powerOff (s : State) (n : Nat) : State :=
  if n = 0 then ({ s with rtc := { s.rtc with offDue := none } } : State).set 0x1A20 3 0
  else ({ s with rtc := { s.rtc with offDue := some (s.rtc.total + n) } } : State).set 0x1A20 3 ((s.rtcSec + n) % 2 ^ 32 : Nat)

/-- The backup domain (R522, R523, R530, R531). -/
def State.effectRtc (s : State) (w : Writer) (index sub v : Nat) : State :=
  if index = 0x1A00 ∧ sub = 1 then s.commitTime w.session v
  else if index = 0x1A00 then
    s.modSession w.session (fun x => { x with staged := NMap.put x.staged sub v, stagedTick := s.now })
  else if (index = 0x1A10 ∨ index = 0x1A11) ∧ sub = 1 then s.setFlag index 10 false
  else if index = 0x1A20 ∧ sub = 2 then s.powerOff v
  else s

/-- The Belfry (R56, R79, R70): a nominal frequency on nominal free-run, the clamp, within which the standing correction stays, the
role, and changes of the calendar for event 0x1008. -/
def State.effectBelfry (s : State) (changed : Bool) (index sub v : Nat) : State :=
  if index = 0x1B01 ∧ sub = 1 then (if s.nat 0x1B00 2 = 1 then s.modBelfry (fun b => { b with incF := incOf v }) else s)
  else if index = 0x1B01 ∧ sub = 10 then s.modBelfry (fun b => { b with incC := clampTo s.correctionBound b.incC })
  else if index = 0x1B02 ∧ sub = 4 then s.modBelfry (fun b => { b with conflict := false })
  else if index = 0x1B10 ∧ changed then s.modBelfry (fun b => { b with calendarChanged := true })
  else if index = 0x1B02 ∧ (sub = 2 ∨ sub = 3 ∨ sub = 5) ∧ changed then
    s.modBelfry (fun b => { b with calendarChanged := true, placementChanged := true })
  else s

/-- Ports, quads, derating, coexistence and capacitive sensing (R98, R108–R110, R122, R300–R302, R324). A port that is enabled is so at once; one that is disabled,
from the next slot boundary (R109, R301). -/
def State.effectPorts (o s : State) (index sub v : Nat) : State :=
  if 0x2100 ≤ index ∧ index < 0x2130 then
    (if sub = 1 ∧ v = 1 then s.modPort (index - 0x2100) (fun x => { x with enabled := true })
     else if sub = 5 then s.reArm (index - 0x2100)
     else if sub = 9 ∧ v < o.nat index 9 then s.modPort (index - 0x2100) (fun x => { x with lowered := true })
     else if (sub = 10 ∨ sub = 12) ∧ (s.seq ((index - 0x2100) / 4)).state < 2 then s.fixTuners ((index - 0x2100) / 4)
     else s)
  else if index = 0x2060 ∧ sub = 1 then s.each [0, 1, 2] (fun st b => st.sampleBank b (st.bank b).temp)
  else if 0x2200 ≤ index ∧ index < 0x220C ∧ sub = 16 then s.invalidateChannels (index - 0x2200)
  else if 0x2400 ≤ index ∧ index < 0x2408 then
    (if sub = 1 ∧ v = 1 then s.modHf (index - 0x2400) (fun x => { x with enabled := true })
     else if sub = 5 then s.hfReArm (index - 0x2400) else s)
  else if index = 0x2500 ∧ sub = 1 then s.capEnabled (o.nat 0x2500 1) v
  else if index = 0x2300 ∧ sub = 1 ∧ v = 0 then
    ({ s with pins := { s.pins with cxReq := false }, coex := { s.coex with waiting := false } } : State).set 0x2300 6 (setBit (s.nat 0x2300 6) 0 false)
  else s

/-- A plan that no longer runs: each quad leaves it after the slot in progress (R46). -/
def State.stopPlan (s : State) (p : Nat) : State :=
  (s.each (List.range 12) (fun st q => st.leavePlan p q)).modPlan p (fun r => { r with running := false, due := none })

/-- A plan follows its enable and its class: passes start at once, or at the boundaries of its class alone (R334). -/
def State.replan (o s : State) (p : Nat) : State :=
  let was := decide (o.planObj p 2 = 1)
  if 64 ≤ p then s
  else if s.planObj p 2 ≠ 1 then (if was then s.stopPlan p else s)
  else if s.isBoundaryPlan p then (if was && o.isBoundaryPlan p then s else s.modPlan p (fun r => { r with due := none }))
  else if was && !o.isBoundaryPlan p then s
  else s.modPlan p (fun r => { r with due := some s.now })

/-- A plan newly enabled starts with no cause of suspension (R235). -/
def State.freshPlan (o s : State) (p : Nat) : State :=
  if o.planObj p 2 ≠ 1 ∧ s.planObj p 2 = 1 then s.modPlan p (fun r => { r with cause := 0, lastWindow := s.belfry.slots }) else s

/-- Round plans, the tag-table view and session allocations (R219, R226, R253, R415). -/
def State.effectPlans (o s : State) (w : Writer) (changed : Bool) (index sub v : Nat) : State :=
  if 0x3000 ≤ index ∧ index < 0x3040 then
    (if sub = 1 ∧ changed then
       (({ s with rounds := s.rounds.filter (fun r => decide (r.1 / 64 ≠ index - 0x3000)) } : State).modPlan (index - 0x3000) (fun _ => planAtReset)).planLines (index - 0x3000)
     else if sub = 2 then State.freshPlan o (State.replan o s (index - 0x3000)) (index - 0x3000)
     else if sub = 4 ∧ (s.plan (index - 0x3000)).running = true then s.skipIdle (index - 0x3000)
     else s)
  else if index = 0x3100 ∧ sub = 2 then s.modSession w.session (fun x => x.setCursor index (v, 0))
  else if index = 0x3100 ∧ sub = 4 then s.forgetView w.shade
  else if index = 0x3310 then
    (List.range 64).foldl (fun st p => if (st.plan p).running then st.skipIdle p else st) s
  else s

/-- Metering (R339, R353, R354, R415, Table 2 of chapter 10). -/
def State.effectMeters (o s : State) (w : Writer) (changed : Bool) (index sub v : Nat) : State :=
  if 0x4010 ≤ index ∧ index < 0x4030 then
    (if 9 ≤ sub ∧ sub ≤ 12 ∧ changed then s.clsChanged (index - 0x4010)
     else if sub = 13 then State.replan o (State.replan o s (o.nat index 13)) v
     else s)
  else if index = 0x4030 ∧ sub = 2 then s.modSession w.session (fun x => x.setCursor index (v, 0))
  else if index = 0x4031 ∧ sub = 3 then s.markResync v
  else if 0x4110 ≤ index ∧ index < 0x4118 then
    (if sub = 4 then s.acknowledge (index - 0x4110) v
     else if sub = 5 then s.redeliver (index - 0x4110) v
     else if sub = 9 then s.modSession w.session (fun x => x.setCursor index (v, 0))
     else s)
  else s

/-- What one written object makes the module do; `o` is the state before the commit. -/
def State.effect (o s : State) (w : Writer) (p : Put) : State :=
  let index := keyIndex p.key
  let sub := keySub p.key
  let page := index / 256
  let v := p.val.toInt.toNat
  let changed := decide (o.val p.key ≠ p.val)
  if page = 0x11 then s.effectPower index sub v
  else if page = 0x12 then s.effectLinks changed index sub v
  else if page = 0x13 then s.effectShades w index sub p.val
  else if index = 0x1620 then s.effectFirmware sub p.val
  else if page = 0x17 then s.effectTest changed index sub v
  else if page = 0x18 then s.effectEngine w index sub p.val
  else if page = 0x19 then State.effectTimers o s index sub v
  else if page = 0x1A then s.effectRtc w index sub v
  else if page = 0x1B then s.effectBelfry changed index sub v
  else if 0x20 ≤ page ∧ page ≤ 0x25 then State.effectPorts o s index sub v
  else if 0x30 ≤ page ∧ page ≤ 0x33 then State.effectPlans o s w changed index sub v
  else if page = 0x40 ∨ page = 0x41 then State.effectMeters o s w changed index sub v
  else s

/-- The grants that a commit changed, one event 0x0308 for each shade; timers follow their grants, and running plans skip the ports that
they lost (R227, R232, R368, R493). -/
def State.effectGrants (o s : State) (ps : List Put) : State :=
  let bitsFor := fun (h : Nat) => sumOf ((List.range 7).map (fun i =>
    if ps.any (fun p => decide (p.key = key (0x1310 + h) (5 + i)) && decide (o.val p.key ≠ p.val)) then 2 ^ i else 0))
  let s0 := if (List.range 8).any (fun h => bitOf (bitsFor h) 3) then s.followGrants 1 else s
  let s1 := (List.range 64).foldl (fun st p =>
    if (st.plan p).running && decide (st.planOwner p < 8) && bitOf (bitsFor (st.planOwner p)) 1 then st.skipIdle p else st) s0
  (List.range 8).foldl (fun st h => if bitsFor h = 0 then st else st.raise 0x0308 [h, bitsFor h] (withSlate h)) s1

/-- A commit that changes the site charter: its generation rises, with event 0x2002 (Table 12 of chapter 3). -/
def State.effectCharter (o s : State) : State :=
  if decide ((List.range 4).map o.siteBand ≠ (List.range 4).map s.siteBand) || decide (o.siteMask ≠ s.siteMask) ||
      decide (o.siteHf ≠ s.siteHf) then
    let s1 := s.count 0x2030 2
    s1.raise 0x2002 (dU 4 (s1.nat 0x2030 2) ++ [s1.nat 0x2030 1]) s1.allJoined
  else s

/-- The enrolments and retirements of a commit, as one group; the Dome writes their sealed records (R350, R359, R392). -/
def State.effectRegister (o s : State) (w : Writer) (ps : List Put) : State :=
  let enrol := (ps.filter (fun p => decide (p.key = key 0x4031 1))).map (fun p => p.val.toBytes)
  let retire := (ps.filter (fun p => decide (p.key = key 0x4031 2))).map (fun p => p.val.toInt.toNat)
  if enrol.isEmpty ∧ retire.isEmpty then s
  else
    let s1 := s.registerMeters w.shade enrol retire
    let s2 := (enrol.map (fun b => fieldAt b 0 2) ++ retire).foldl (fun st m => st.sealRecord (meterRecord m)) s1
    enrol.foldl (fun st b => State.replan o st (st.clsObj (byteAt b 2) 13)) s2

/-- Whether an object alters how work is done, so that an exchange in progress keeps its old value (R46); changes that forbid an
emission cut it instead (R45). -/
def altersWork (k : Nat) : Bool :=
  let index := keyIndex k
  let sub := keySub k
  (decide (0x2050 ≤ index) && decide (index < 0x2058)) || (decide (0x2210 ≤ index) && decide (index < 0x2240)) ||
  (decide (0x3000 ≤ index) && decide (index < 0x3040) && !([1, 2, 4, 11, 12].contains sub)) ||
  (decide (0x2130 ≤ index) && decide (index < 0x2160) && decide (sub = 1)) ||
  (decide (0x2400 ≤ index) && decide (index < 0x2408) && decide (10 ≤ sub) && decide (sub ≤ 12)) ||
  (decide (0x3101 ≤ index) && decide (index < 0x3118)) || decide (index = 0x3200) || decide (index = 0x3201) ||
  (decide (0x3300 ≤ index) && decide (index ≤ 0x3310)) || (decide (0x3400 ≤ index) && decide (index < 0x3420) && decide (3 ≤ sub) && decide (sub ≠ 4))

/-- Whether a new value of an object that bounds emission narrows an old one (R109): limits, masks, dwell and occupancy, re-use off time,
the declared gain and loss, the trip threshold. -/
def narrower (k : Nat) (old new : Int) : Bool :=
  let index := keyIndex k
  let sub := keySub k
  let lower := decide (new < old)
  let loses := decide (old.toNat &&& new.toNat ≠ old.toNat)
  if 0x2020 ≤ index ∧ index < 0x2024 then
    (if sub = 6 then decide (old < new) else if sub = 7 then decide (old < new) || decide (old = 0 ∧ new ≠ 0) else if sub = 9 then loses else lower)
  else if index = 0x2030 ∧ sub = 3 then loses
  else if index = 0x2030 ∧ sub = 4 then lower
  else if 0x2040 ≤ index ∧ index < 0x2048 then (if sub = 1 then lower else loses)
  else if 0x2100 ≤ index ∧ index < 0x2130 then (if sub = 6 then decide (old < new) else if sub = 7 ∨ sub = 9 then lower else false)
  else false

/-- The value of an object that bounds emission, with the fused value of a site object that Slate has not written. -/
def State.boundValue (s : State) (k : Nat) : Int :=
  let index := keyIndex k
  if 0x2020 ≤ index ∧ index < 0x2024 then s.siteField (index - 0x2020) (keySub k)
  else if index = 0x2030 ∧ keySub k = 3 then s.siteMask
  else if index = 0x2030 ∧ keySub k = 4 then s.siteHf
  else (s.val k).toInt

/-- A change that forbids emission leaves the old value in force up to the next slot boundary (R109). -/
def State.holdBack (o s : State) (ps : List Put) : State :=
  let old := (ps.filter (fun p => narrower p.key (o.boundValue p.key) (s.boundValue p.key))).map (fun p => (p.key, o.boundValue p.key))
  let add := (old.filter (fun e => !s.heldBack.any (fun x => decide (x.1 = e.1)))).map (fun e => (e.1, Val.num e.2))
  { s with
    heldBack := s.heldBack ++ add
    dwellLowered := s.dwellLowered || old.any (fun e => decide (0x2020 ≤ keyIndex e.1) && decide (keyIndex e.1 < 0x2024) &&
      (decide (keySub e.1 = 5) || decide (keySub e.1 = 7) || decide (keySub e.1 = 8))) }

/-- Exchanges in progress keep the values that they started with (R46). -/
def State.freezeOld (o s : State) (ps : List Put) : State :=
  let old := (ps.filter (fun p => altersWork p.key && decide (o.val p.key ≠ s.val p.key))).map (fun p => (p.key, o.val p.key))
  if old.isEmpty then s
  else
    let add := fun (l : List (Nat × Val)) => l ++ old.filter (fun e => !l.any (fun x => decide (x.1 = e.1)))
    let s1 := s.each (List.range 12) (fun st q =>
      if 2 ≤ (st.seq q).state then st.modSeq q (fun x => { x with frozen := add x.frozen }) else st)
    s1.each (List.range 8) (fun st h =>
      if (st.svc h).waiting then st.modSvc h (fun v => { v with frozen := add v.frozen }) else st)

/-- Writes take effect together: values, change counts, the store, then what each makes the module do, in their order (R423–R425,
R428); what forbids emission waits for the slot boundary (R109). `num` names the transaction, 0 for none. -/
def State.commit (s : State) (w : Writer) (num : Nat) (ps : List Put) : State :=
  let kept := s.changesKept ps
  let s1 := (s.applied ps).bootPuts ps
  let s2 := if kept then s1.keep num w.shade else s1
  let s3 := ps.foldl (fun st p => State.effect s st w p) s2
  let s4 := State.effectRegister s (State.effectGrants s s3 ps) w ps
  (State.freezeOld s (State.holdBack s (State.effectCharter s s4) ps) ps).settle

end Sys2Proof.Machine
end

