-- ==== Sys2Proof/Machine/Oap.lean ====
section
/-! DEFINITION. OAP requests (chapter 12): READ, WRITE, READ_BLOCK, transactions, subscriptions and the delivery of a shade's
queue. Each request is a frame that `State.receive` has checked; each answers one frame of its session. -/

namespace Sys2Proof.Machine

/-! ### READ and READ_BLOCK (R408–R415) -/

/-- The answer to a read of one object: item status, type code, value. -/
structure ReadAnswer where
  status : Nat
  type : Nat
  value : List Byte
  deriving DecidableEq, Repr

/-- A read refused with a status. -/
def ReadAnswer.no (status : Nat) : ReadAnswer := { status := status, type := 0, value := [] }

/-- A read of the clock starts or ends the session's freeze (R520). -/
def State.freezeAsRead (s : State) (sid index sub : Nat) : State :=
  if index ≠ 0x1A00 then s
  else if sub = 1 then s.modSession sid (fun x => { x with shadow := some (s.now, s.rtc.total) })
  else if sub = 8 then s.modSession sid (fun x => { x with shadow := none })
  else s

/-- The value of an object as a session reads it (checks 2–4 of Table 9, R401, R520), and the state after the read. -/
def State.readValue (s : State) (sid index sub : Nat) : ReadAnswer × State :=
  match s.session? sid with
  | none => (.no 0x0301, s)
  | some x =>
    let addr := s.addressCheck x.shade index sub false
    if addr ≠ 0 then (.no addr, s)
    else match rowOf? (key index sub) with
      | none => (.no 0x0102, s)
      | some r =>
        if r.acc = .wo then (.no 0x0104, s)
        else
          let s1 := if sub = 1 then s.freezeAsRead sid index sub else s
          let y := (s1.session? sid).getD x
          ({ status := 0, type := r.ty.code, value := s1.shown y index sub r.ty }, s1.freezeAsRead sid index sub)

/-- The description of an object (R410): of a record at its subindex 0. -/
def State.describe (s : State) (sid index sub : Nat) : ReadAnswer :=
  match s.session? sid with
  | none => .no 0x0301
  | some x =>
    let addr := s.addressCheck x.shade index sub false
    if addr ≠ 0 then .no addr
    else match rowOf? (key index sub) with
      | none => .no 0x0102
      | some r =>
        let isRecord := decide (highestSub index ≠ 0)
        let highest := if isRecord then byteAt (s.shown x index 0 .u8) 0 else 0
        let own := if isRecord && decide (sub = 0) then [0x0E#8, 0#8, 0#8, byte (visMask index)] ++ le 2 1
          else [byte r.ty.code, byte r.acc.code, byte r.cls.code, byte (visMask index)] ++ le 2 r.ty.width
        { status := 0, type := 0x0E, value := own ++ [byte highest, 0#8] }

/-- Whether an object is read only with READ_BLOCK (R411). -/
def blockOnly (index sub : Nat) : Bool :=
  isStream index sub || (match rowOf? (key index sub) with
    | some r => decide (1024 < r.ty.width)
    | none => false)

/-- One item of a READ (R410, R411). -/
def State.readItem (s : State) (sid : Nat) (b : List Byte) : List Byte × State :=
  let index := fieldAt b 0 2
  let sub := byteAt b 2
  let flags := byteAt b 3
  let a := s.readValue sid index sub
  let r : ReadAnswer × State :=
    if bitOf flags 0 then (s.describe sid index sub, s)
    else if a.1.status = 0 ∧ blockOnly index sub then (.no 0x0105, s)
    else a
  let r1 := if r.1.status = 0 ∧ 1 < flags then (.no 0x0106, s) else r
  (le 2 index ++ [byte sub, byte r1.1.type] ++ le 2 r1.1.status ++ le 2 r1.1.value.length ++ r1.1.value, r1.2)

/-- The items of a READ, in order. -/
def State.readItems (s : State) (sid : Nat) : Nat → List Byte → List Byte × State
  | 0, _ => ([], s)
  | n + 1, b =>
    let a := s.readItem sid b
    let rest := a.2.readItems sid n (b.drop 4)
    (a.1 ++ rest.1, rest.2)

/-- READ: all items of one moment; a reply over 1,400 bytes is the head alone with status 0x0105 (R410, R411, R663). -/
def State.onRead (s : State) (x : Session) (f : Frame) : State :=
  let r := s.readItems x.id (byteAt f.payload 0) (f.payload.drop 4)
  if 1392 < r.1.length then s.sendTo x.id 0x01 true (replyHead f.seq 0x0105)
  else r.2.drawnByRead.sendTo x.id 0x01 true (replyHead f.seq 0 ++ r.1)

/-- READ_BLOCK: the status, the body of the reply and the state after it (R413, R415). -/
def State.readBlock (s : State) (x : Session) (p : List Byte) : Nat × List Byte × State :=
  let index := fieldAt p 0 2
  let sub := byteAt p 2
  let off := fieldAt p 4 4
  let max := fieldAt p 8 2
  let a := s.readValue x.id index sub
  let block := fun (total off : Nat) (data : List Byte) (more : Bool) => le 4 total ++ le 4 off ++ le 2 data.length ++ le 2 (b01 more) ++ data
  if a.1.status ≠ 0 then (a.1.status, [], s)
  else if max = 0 ∨ 1024 < max then (0x0106, [], s)
  else if isStream index sub then
    (if off ≠ 0 then (0x0106, [], s)
     else
       let u := readUnits (s.units x.shade index) (x.cursor index) max
       (0, block 0xFFFFFFFF 0 u.1 u.2.1, s.modSession x.id (fun y => y.setCursor index u.2.2)))
  else if a.1.value.length < off then (0x0106, [], s)
  else (0, block a.1.value.length off ((a.1.value.drop off).take max) false, a.2)

/-- READ_BLOCK answered. -/
def State.onReadBlock (s : State) (x : Session) (f : Frame) : State :=
  let r := s.readBlock x f.payload
  r.2.2.drawnByRead.sendTo x.id 0x03 true (replyHead f.seq r.1 ++ r.2.1)

/-! ### Boundaries (R80, R81) -/

/-- Whether the boundary `k` slots ahead is eligible: its earliest time lies at least 200 µs ahead (R80). -/
def State.boundaryEligible (s : State) (k : Nat) : Bool := decide (s.now + us 200 ≤ s.earliestBoundary k)

/-- Slots to the first eligible slot boundary. -/
def State.nextSlot (s : State) : Nat := (((List.range 16).drop 1).find? s.boundaryEligible).getD 16

/-- The first eligible frame boundary. -/
def State.nextFrame (s : State) : Boundary := { kind := 1, slot := s.belfry.slots + s.nextSlot, frame := 0 }

/-- The boundary that a specifier names: none when it is refused, `some none` for at once. `c` holds for a
transaction with an object of class C (Table 9 of chapter 2, R80, R81). -/
def State.boundaryOf (s : State) (mode value : Nat) (c : Bool) : Option (Option Boundary) :=
  if mode ≤ 2 ∧ value ≠ 0 then none
  else if mode = 0 then (if c then some (some s.nextFrame) else some none)
  else if mode = 1 then (if c then none else some (some { kind := 0, slot := s.belfry.slots + s.nextSlot, frame := 0 }))
  else if mode = 2 then some (some s.nextFrame)
  else if mode = 3 then
    let d := (value + 2 ^ 32 - s.belfry.slots % 2 ^ 32) % 2 ^ 32
    if d < 2 ∨ 65536 < d ∨ s.boundaryEligible d = false ∨ (c = true ∧ (s.frameSlot + d) % 128 ≠ 0) then none
    else some (some { kind := 0, slot := s.belfry.slots + d, frame := 0 })
  else if mode = 4 ∧ value < 256 ∧ s.flag 0x1B00 11 then some (some { s.nextFrame with kind := 2, frame := value })
  else none

/-- The slot count that a boundary is expected at, for a reply (Table 3 and Table 15 of chapter 12). -/
def State.boundarySlot (s : State) (b : Boundary) : Nat := s.belfry.slots + s.boundaryAhead b

/-! ### Refusals and acceptance of writes -/

/-- The checks of a set of writes, and Verify: an image that does not verify refuses the set and empties its slot (R551). -/
def State.judge (s : State) (w : Writer) (ps : List Put) : (Nat × Nat) × State :=
  let v := s.verdict w ps
  if v.1 ≠ 0 then (v, s)
  else match firstBad (fun p => if s.verifyFails p then 0x0106 else 0) 1 ps with
    | some x => (x, s.fwVerify (decide (s.verifyCheck ≠ 4)) (decide (s.verifyCheck ≠ 5)))
    | none => (v, s)

/-- The partition that a write's store belongs to (Table 1 of chapter 17). -/
def State.partitionOfPut (s : State) (p : Put) : Nat :=
  let page := keyIndex p.key / 256
  if page = 0x13 then 3 else if page = 0x16 then s.store.target else if page = 0x40 then 5 else 2

/-- A store that the supply refuses for a request (R405, R543). -/
def State.refuseStore (s : State) (ps : List Put) : State :=
  s.storeRefused (match ps with
    | p :: _ => s.partitionOfPut p
    | [] => 2)

/-- What a refused write of an object leaves: the backup domain's lock counts it, and staged time values are discarded (R522,
R533). -/
def State.refusedAt (s : State) (sid index sub status : Nat) : State :=
  let met := s.rtc.locked && domainObject index sub && decide (status = 0x0402)
  let s1 := if met then s.count 0x1A02 11 else s
  if met ∨ (index = 0x1A00 ∧ sub = 1) then s1.dropStaged sid else s1

/-- A transaction with a number takes effect: it is counted, and event 0x0401 is raised (R425, R440). -/
def State.inEffect (s : State) (sh num : Nat) : State :=
  ({ s with txnStats := tmod s.txnStats sh (fun c => { c with commits := (c.commits + 1) % 2 ^ 32 }) } : State).raise 0x0401
    (dU 4 num ++ dU 2 (s.belfry.slots % 65536)) [sh]

/-- A transaction leaves its place. -/
def State.dropTxn (s : State) (num : Nat) : State := { s with txns := s.txns.filter (fun t => decide (t.num ≠ num)) }

/-- Change a transaction. -/
def State.modTxn (s : State) (num : Nat) (f : Txn → Txn) : State :=
  { s with txns := s.txns.map (fun t => if t.num = num then f t else t) }

/-- The writes of a transaction, in staging order. -/
def Txn.puts (t : Txn) : List Put := t.staged.map (fun e => { key := e.key, val := e.val })

/-- Whether a shade finds a free place (R417). -/
def State.placeFor (s : State) (sh : Nat) : Bool :=
  decide (s.txns.length < (if sh = 0 then 4 else 3)) && decide ((s.txns.filter (fun t => decide (t.shade = sh))).length < 2)

/-- A transaction takes the next number and a place (R418). -/
def State.newTxn (s : State) (t : Txn) : State :=
  { s with txns := s.txns ++ [{ t with num := s.nextTxn }], nextTxn := s.nextTxn % 0xFFFFFFFF + 1 }

/-! ### WRITE (R412) -/

/-- An accepted WRITE of class C waits for the first eligible frame boundary, under a number and in a place (Table 3, R417). -/
def State.writeClassC (s : State) (x : Session) (f : Frame) (p : Put) : State :=
  if s.placeFor x.shade = false then s.sendTo x.id 0x02 true (replyHead f.seq 0x0401)
  else
    let s1 := s.newTxn {
      num := 0, session := x.id, shade := x.shade, waiting := true, lastTick := s.now
      staged := [{ key := p.key, val := p.val, count := NMap.getD s.changes p.key 0 }], boundary := s.nextFrame, accepted := s.nextOrder }
    ({ s1 with nextOrder := s.nextOrder + 1 } : State).sendTo x.id 0x02 true (replyHead f.seq 0 ++ le 8 (s.boundarySlot s.nextFrame) ++ le 4 s.nextTxn)

/-- WRITE: the checks of Table 9 in their order, then the effect of its commit class (Table 3). -/
def State.onWrite (s : State) (x : Session) (f : Frame) : State :=
  let i := (takeItem f.payload).1
  let w : Writer := { shade := x.shade, session := x.id, link := x.link }
  let c := s.itemCheck x.shade false i
  let refused := fun (st : State) (status : Nat) =>
    (st.refusedAt x.id i.index i.sub status).sendTo x.id 0x02 true (replyHead f.seq status)
  if c.1 ≠ 0 then refused s c.1
  else
    let j := s.judge w [c.2]
    if s.needsStore [c.2] && decide ((s.verdict w [c.2]).1 = 0) && !s.supplyStable then refused (s.refuseStore [c.2]) 0x0402
    else if j.1.1 ≠ 0 then refused j.2 j.1.1
    else if clsOf c.2.key = .c then s.writeClassC x f c.2
    else
      let slot := if clsOf c.2.key = .b then le 8 0xFFFFFFFFFFFFFFFF else le 8 s.belfry.slots
      (s.commit w 0 [c.2]).sendTo x.id 0x02 true (replyHead f.seq 0 ++ slot ++ zeros 4)

/-! ### Transactions (R417–R426) -/

/-- TXN_OPEN. -/
def State.onTxnOpen (s : State) (x : Session) (f : Frame) : State :=
  let refused := fun (status : Nat) => s.sendTo x.id 0x10 true (replyHead f.seq status)
  if s.inSafe then refused 0x0501
  else if s.txns.any (fun t => decide (t.session = x.id) && !t.waiting) ∨ s.placeFor x.shade = false then refused 0x0401
  else
    (s.newTxn { num := 0, session := x.id, shade := x.shade, waiting := false, lastTick := s.now, staged := [], boundary := { kind := 0, slot := 0, frame := 0 }, accepted := 0 }).sendTo
      x.id 0x10 true (replyHead f.seq 0 ++ le 4 s.nextTxn ++ le 2 64 ++ le 2 4096)

/-- The length of a staged value. -/
def Staged.size (e : Staged) : Nat := (rowOf? e.key).elim 0 (fun r => (r.ty.bytes e.val).length)

/-- One write staged among those of a transaction: it replaces an earlier one and keeps the count recorded first (R420, R423). -/
def stageOne (s : State) (l : List Staged) (p : Put) : List Staged :=
  if l.any (fun e => decide (e.key = p.key)) then l.map (fun e => if e.key = p.key then { e with val := p.val } else e)
  else l ++ [{ key := p.key, val := p.val, count := NMap.getD s.changes p.key 0 }]

/-- The items of a TXN_STAGE staged in order: the status and number of the first that fails, 0 and 0xFF when none does, and the
staged writes (R419). -/
def State.stageItems (s : State) (sh : Nat) : Nat → List Item → List Staged → (Nat × Nat) × List Staged
  | _, [], l => ((0, 0xFF), l)
  | n, i :: r, l =>
    let c := s.itemCheck sh true i
    if c.1 ≠ 0 then ((c.1, n), l) else s.stageItems sh (n + 1) r (stageOne s l c.2)

/-- The body of a TXN_STAGE reply. -/
def stageBody (failing : Nat) (l : List Staged) : List Byte :=
  [byte failing, 0#8] ++ le 2 l.length ++ le 2 (sumOf (l.map Staged.size))

/-- A transaction of a session that is staging (R418). -/
def State.staging? (s : State) (sid num : Nat) : Option Txn :=
  s.txns.find? (fun t => decide (t.num = num) && decide (t.session = sid) && !t.waiting)

/-- TXN_STAGE: accepted or refused as a whole; the body stands after the head either way (R408, R419, R420). -/
def State.onTxnStage (s : State) (x : Session) (f : Frame) : State :=
  let p := f.payload
  let answer := fun (st : State) (status failing : Nat) (l : List Staged) =>
    st.sendTo x.id 0x11 true (replyHead f.seq status ++ stageBody failing l)
  if s.inSafe then answer s 0x0501 0xFF []
  else match s.staging? x.id (fieldAt p 0 4) with
    | none => answer s 0x0203 0xFF []
    | some t =>
      let s1 := s.modTxn t.num (fun y => { y with lastTick := s.now })
      let r := s.stageItems x.shade 1 (takeItems (byteAt p 4) (p.drop 8)) t.staged
      if r.1.1 ≠ 0 then answer s1 r.1.1 r.1.2 t.staged
      else if 64 < r.2.length ∨ 4096 < sumOf (r.2.map Staged.size) then answer s1 0x0202 0xFF t.staged
      else answer (s1.modTxn t.num (fun y => { y with staged := r.2 })) 0 0xFF r.2

/-- The first staged write whose object's change count has moved (R423). -/
def State.conflict (s : State) (l : List Staged) : Option (Nat × Nat) :=
  firstBad (fun p => if l.any (fun e => decide (e.key = p.key) && decide (NMap.getD s.changes e.key 0 ≠ e.count)) then 0x0201 else 0) 1
    (l.map (fun e => { key := e.key, val := e.val }))

/-- The key of a numbered write of a list, as index and subindex. -/
def nthKey (ps : List Put) (n : Nat) : Nat × Nat :=
  match ps[n - 1]? with
  | some p => (keyIndex p.key, keySub p.key)
  | none => (0, 0)

/-- Checks 3–6 of R422: the status and the failing write, the boundary, and the state after them. -/
def State.commitChecks (s : State) (w : Writer) (t : Txn) (mode value : Nat) : (Nat × Nat) × Option Boundary × State :=
  match s.conflict t.staged with
  | some x => (x, none,
      { s with txnStats := tmod s.txnStats t.shade (fun c => { c with conflicts := (c.conflicts + 1) % 2 ^ 32 }) })
  | none =>
    match s.boundaryOf mode value (t.staged.any (fun e => isClassC e.key)) with
    | none => ((0x0106, 0xFF), none, s)
    | some b =>
      let j := s.judge w t.puts
      (j.1, b, j.2)

/-- TXN_COMMIT: the checks of R422 in their order, then the effect at once or the wait for the boundary (R424). A refusal under
check 7 leaves the transaction staging. -/
def State.onTxnCommit (s : State) (x : Session) (f : Frame) : State :=
  let p := f.payload
  let answer := fun (st : State) (status slot failing : Nat) =>
    st.sendTo x.id 0x12 true (replyHead f.seq status ++ le 8 slot ++ [byte failing, 0#8, 0#8, 0#8])
  if s.inSafe then answer s 0x0501 0 0xFF
  else match s.staging? x.id (fieldAt p 0 4) with
    | none => answer s 0x0203 0 0xFF
    | some t =>
      let w : Writer := { shade := x.shade, session := x.id, link := x.link }
      let c := s.commitChecks w t (byteAt p 4) (fieldAt p 8 4)
      if c.1.1 ≠ 0 then
        let k := nthKey t.puts c.1.2
        answer ((c.2.2.dropTxn t.num).refusedAt x.id k.1 k.2 c.1.1) c.1.1 0 c.1.2
      else if s.needsStore t.puts && !s.supplyStable then
        answer ((s.modTxn t.num (fun y => { y with lastTick := s.now })).refuseStore t.puts) 0x0402 0 0xFF
      else match c.2.1 with
        | none => answer (((s.dropTxn t.num).commit w t.num t.puts).inEffect t.shade t.num) 0 s.belfry.slots 0xFF
        | some b =>
          let s1 := s.modTxn t.num (fun y => { y with waiting := true, boundary := b, accepted := s.nextOrder, lastTick := s.now })
          answer { s1 with nextOrder := s.nextOrder + 1 } 0 (s.boundarySlot b) 0xFF

/-- TXN_ABORT: a staging transaction is discarded; a waiting one is withdrawn while its boundary cannot arrive within 200 µs
(R426). -/
def State.onTxnAbort (s : State) (x : Session) (f : Frame) : State :=
  let num := fieldAt f.payload 0 4
  let answer := fun (st : State) (status : Nat) => st.sendTo x.id 0x13 true (replyHead f.seq status)
  match s.txns.find? (fun t => decide (t.num = num) && decide (t.session = x.id)) with
  | none => answer s 0x0203
  | some t =>
    if t.waiting ∧ s.earliestBoundary (s.boundaryAhead t.boundary) ≤ s.now + us 200 then answer s 0x0401
    else answer (s.dropTxn num) 0

/-- A staging transaction is idle for 10 s (R421). -/
def State.txnIdle (s : State) (num : Nat) : State :=
  match s.txns.find? (fun t => decide (t.num = num)) with
  | some t => if !t.waiting && decide (t.lastTick + sec 10 ≤ s.now) then s.expireTxn t 1 else s
  | none => s

/-- A store refused at a boundary is tried again every 10 ms (R428). -/
def State.retryStore (s : State) (num : Nat) : State :=
  match s.lateStores.find? (fun l => decide (l.num = num) && decide (l.nextTick ≤ s.now)) with
  | none => s
  | some l =>
    if s.supplyStable then ({ s with lateStores := s.lateStores.filter (fun y => decide (y ≠ l)) } : State).storeConfig
    else
      ({ s with lateStores := s.lateStores.map (fun y => if y = l then { y with nextTick := s.now + ms 10 } else y) } : State).storeRefused 2

/-! ### Subscription and delivery (R434–R437) -/

/-- The event classes of Table 6 of the scope (R17). -/
def eventClasses : Nat := shadeAtReset.classMask

/-- SUBSCRIBE: the shade's subscription, and its delivery session, to which items delivered before go again (R434, R435, R437). The
reserved flag bits are ignored (R13). -/
def State.onSubscribe (s : State) (x : Session) (f : Frame) : State :=
  let flags := byteAt f.payload 0
  let mask := fieldAt f.payload 4 32
  if mask &&& eventClasses ≠ mask then s.sendTo x.id 0x20 true (replyHead f.seq 0x0106)
  else
    let s1 := s.modShade x.shade (fun y => { y with subFlags := flags % 4, classMask := mask })
    let s2 := if bitOf flags 2 then
        s1.modShade x.shade (fun y => { y with
          delivery := x.id, items := y.items.map (fun i => if i.number.isSome then { i with again := true } else i) })
      else s1
    s2.sendTo x.id 0x20 true (replyHead f.seq 0 ++ le 4 (s.shade x.shade).nextNumber)

/-- Whether a subscription delivers an item: bit 0 reports, bit 1 events. -/
def Shade.wants (x : Shade) (i : QItem) : Bool := bitOf x.subFlags (b01 i.isEvent)

/-- An item in an EVENT payload (Table 18 of chapter 12). -/
def QItem.bytes (i : QItem) : List Byte := [if i.isEvent then 1#8 else 2#8, 0#8] ++ le 2 i.content.length ++ i.content

/-- How far a delivery number lies past the last acknowledged one. -/
def Shade.past (x : Shade) (n : Nat) : Nat := (n + 2 ^ 32 - (x.ackedThrough + 1) % 2 ^ 32) % 2 ^ 32

/-- The item to be delivered again under a number. -/
def Shade.againAt (x : Shade) (n : Nat) : Option QItem := x.items.find? (fun i => i.again && decide (i.number = some n) && x.wants i)

/-- The oldest number to be delivered again (R437). -/
def Shade.oldestAgain (x : Shade) : Option Nat :=
  (x.items.filter (fun i => i.again && x.wants i)).foldl (fun m i => match m, i.number with
    | none, n => n
    | some a, some n => if x.past n < x.past a then some n else some a
    | m, none => m) none

/-- A run of items with consecutive numbers, at most `k`, in `room` bytes. -/
def Shade.againRun (x : Shade) : Nat → Nat → Nat → List QItem
  | 0, _, _ => []
  | k + 1, n, room => match x.againAt n with
    | some i => if i.bytes.length ≤ room then i :: x.againRun k ((n + 1) % 2 ^ 32) (room - i.bytes.length) else []
    | none => []

/-- New items take the next numbers, at most `k`, in `room` bytes: the queue after it and the items numbered (R436). -/
def numberNew (x : Shade) (now : Nat) : List QItem → Nat → Nat → Nat → List QItem × List QItem
  | [], _, _, _ => ([], [])
  | i :: r, k, room, n =>
    if i.number = none ∧ x.wants i then
      if k = 0 ∨ room < i.bytes.length then (i :: r, [])
      else
        let j := { i with number := some n, sentTick := now }
        let rest := numberNew x now r (k - 1) (room - i.bytes.length) ((n + 1) % 2 ^ 32)
        (j :: rest.1, j :: rest.2)
    else
      let rest := numberNew x now r k room n
      (i :: rest.1, rest.2)

/-- An EVENT payload. -/
def eventPayload (first : Nat) (l : List QItem) : List Byte := le 4 first ++ [byte l.length] ++ zeros 3 ++ l.flatMap QItem.bytes

/-- Whether the delivery stage may build a frame of a session: its link is up and a place is free (R484). -/
def State.mayDeliverTo (s : State) (x : Session) : Bool :=
  s.linkUp x.link && s.place x.link && !s.waitingReplies.any (fun w => decide (w.link = x.link))

/-- An EVENT frame of one shade: items to be delivered again first, from the oldest, then new ones, at most 64 items and 1,400
bytes, with at most 256 delivered and not acknowledged (R436, R437, R484). Delivery of an overrun report clears the overrun flag
(R481). -/
def State.sendEvents (s : State) (sh : Nat) : State :=
  let x := s.shade sh
  match s.session? x.delivery with
  | none => s
  | some y =>
    if y.shade ≠ sh ∨ y.isOpen = false ∨ s.mayDeliverTo y = false then s
    else match x.oldestAgain with
      | some n =>
        let run := x.againRun 64 n 1392
        (s.modShade sh (fun z => { z with
          redelivered := z.redelivered + run.length
          items := z.items.map (fun i => if i.again && run.any (fun j => decide (j.number = i.number)) then
            { i with again := false, sentTick := s.now } else i) })).sendTo y.id 0x21 false (eventPayload n run)
      | none =>
        let r := numberNew x s.now x.items (if 192 < x.outstanding then 256 - x.outstanding else 64) 1392 x.nextNumber
        if r.2.isEmpty then s
        else
          (s.modShade sh (fun z => { z with
            items := r.1, nextNumber := (z.nextNumber + r.2.length) % 2 ^ 32
            overrun := z.overrun && !r.2.any (fun i => decide (i.cls = 3)) })).sendTo y.id 0x21 false (eventPayload x.nextNumber r.2)

/-- ACK: items through a number leave the queue and free their lines, and an overrun report enters where there is room now (R437,
R481, R482). A number not yet delivered is answered with an ERROR. -/
def State.onAck (s : State) (x : Session) (f : Frame) : State :=
  let n := fieldAt f.payload 0 4
  let q := s.shade x.shade
  let before := fun (a b : Nat) => decide ((b + 2 ^ 32 - a) % 2 ^ 32 < 2 ^ 31)
  if before n ((q.nextNumber + 2 ^ 32 - 1) % 2 ^ 32) = false then s.errorReply x.id f 0x0106
  else
    let goes := fun (i : QItem) => match i.number with
      | some k => before k n
      | none => false
    let gone := q.items.filter goes
    let s1 := s.modShade x.shade (fun z => { z with
      items := z.items.filter (fun i => !goes i)
      pieces := z.pieces - (gone.filter (fun i => decide (i.cls = 2))).length
      ackedThrough := if before z.ackedThrough n then n else z.ackedThrough })
    ((s1.releaseLines (gone.flatMap (fun i => i.lines))).formOverrun x.shade).settle

/-- Items that stand unacknowledged for the redelivery time of `0x1500:07` are delivered again (R437). -/
def State.redeliveryTime (s : State) (sh : Nat) : State :=
  let late := fun (i : QItem) => i.number.isSome && !i.again && decide (i.sentTick + ms (s.nat 0x1500 (16 * sh + 7)) ≤ s.now)
  if (s.shade sh).items.any late = false then s
  else (s.modShade sh (fun z => { z with items := z.items.map (fun i => if late i then { i with again := true } else i) })).sendEvents sh

/-! ### Commands -/

/-- A request frame of one op, checked and acted on. -/
def State.hostRequest (s : State) (f : Frame) (op : Nat) (act : State → Session → Frame → State) : State :=
  if f.op = op then s.receive f (fun st x => act st x f) else s

/-- `READ`. -/
def execRead (t : Nat) (f : Frame) (s : State) : Out := .next ((s.at t).hostRequest f 0x01 State.onRead)

/-- `WRITE`. -/
def execWrite (t : Nat) (f : Frame) (s : State) : Out := .next ((s.at t).hostRequest f 0x02 State.onWrite)

/-- `READ_BLOCK`. -/
def execReadBlock (t : Nat) (f : Frame) (s : State) : Out := .next ((s.at t).hostRequest f 0x03 State.onReadBlock)

/-- `TXN_OPEN`. -/
def execTxnOpen (t : Nat) (f : Frame) (s : State) : Out := .next ((s.at t).hostRequest f 0x10 State.onTxnOpen)

/-- `TXN_STAGE`. -/
def execTxnStage (t : Nat) (f : Frame) (s : State) : Out := .next ((s.at t).hostRequest f 0x11 State.onTxnStage)

/-- `TXN_COMMIT`. -/
def execTxnCommit (t : Nat) (f : Frame) (s : State) : Out := .next ((s.at t).hostRequest f 0x12 State.onTxnCommit)

/-- `TXN_ABORT`. -/
def execTxnAbort (t : Nat) (f : Frame) (s : State) : Out := .next ((s.at t).hostRequest f 0x13 State.onTxnAbort)

/-- `TRANSACTION_EXPIRED`: of a transaction number. -/
def execTransactionExpired (t txn : Nat) (s : State) : Out := .next ((s.at t).txnIdle txn)

/-- `STORE_AFTER_BOUNDARY_RETRY`: of a transaction number. -/
def execStoreAfterBoundaryRetry (t txn : Nat) (s : State) : Out := .next ((s.at t).retryStore txn)

/-- `SUBSCRIBE`. -/
def execSubscribe (t : Nat) (f : Frame) (s : State) : Out := .next ((s.at t).hostRequest f 0x20 State.onSubscribe)

/-- `ACK`. -/
def execAck (t : Nat) (f : Frame) (s : State) : Out := .next ((s.at t).hostRequest f 0x22 State.onAck)

/-- `REDELIVERY_TIME_EXPIRED`: of a shade. -/
def execRedeliveryTimeExpired (t shade : Nat) (s : State) : Out := .next ((s.at t).redeliveryTime shade)

end Sys2Proof.Machine
end

