-- ==== Sys2Proof/Machine/Manage.lean ====
section
/-! DEFINITION. The commands that are a host's write, or read, of one object: the same request as `WRITE`, `TXN_COMMIT` or `READ`
carries it out, and each acts only on a frame that names its object and, where the command's name gives one, its value. -/

namespace Sys2Proof.Machine

/-- Whether a request writes an object that `p` names by index, subindex and value: a WRITE of it, or the TXN_COMMIT of the
session's transaction that holds it. -/
def State.writesTo (s : State) (f : Frame) (p : Nat → Nat → Nat → Bool) : Bool :=
  if f.op = 0x02 then
    let i := (takeItem f.payload).1
    p i.index i.sub (fieldAt i.value 0 i.value.length)
  else if f.op = 0x12 then
    match s.staging? f.session (fieldAt f.payload 0 4) with
    | some t => t.puts.any (fun e => p (keyIndex e.key) (keySub e.key) e.val.toInt.toNat)
    | none => false
  else false

/-- The write of an object that `p` names; any other frame is not this command's. -/
def State.writeRow (s : State) (f : Frame) (p : Nat → Nat → Nat → Bool) : State :=
  if s.writesTo f p = false then s
  else if f.op = 0x02 then s.hostRequest f 0x02 State.onWrite
  else s.hostRequest f 0x12 State.onTxnCommit

/-- Whether a READ or a READ_BLOCK names an object. -/
def readsOf (f : Frame) (index sub : Nat) : Bool :=
  if f.op = 0x01 then
    (List.range (byteAt f.payload 0)).any (fun k => decide (fieldAt f.payload (4 + 4 * k) 2 = index) && decide (byteAt f.payload (6 + 4 * k) = sub))
  else decide (f.op = 0x03) && decide (fieldAt f.payload 0 2 = index) && decide (byteAt f.payload 2 = sub)

/-- The read of an object; any other frame is not this command's. -/
def State.readRow (s : State) (f : Frame) (index sub : Nat) : State :=
  if readsOf f index sub = false then s
  else if f.op = 0x01 then s.hostRequest f 0x01 State.onRead
  else s.hostRequest f 0x03 State.onReadBlock

/-- The objects of `REQUESTED_STATE`: the requested state of a UHF port (R108, R667). -/
def rowsRequestedState : Nat → Nat → Nat → Bool := fun i j _ => decide (0x2100 ≤ i) && decide (i < 0x2130) && decide (j = 1)

/-- `REQUESTED_STATE`: a write of the requested state of a UHF port (R108, R667). -/
def execRequestedState (t : Nat) (f : Frame) (s : State) : Out := .next ((s.at t).writeRow f rowsRequestedState)

/-- The objects of `RE_ARM`: 1 to the re-arm of a UHF port (R110). -/
def rowsReArm : Nat → Nat → Nat → Bool := fun i j v => decide (0x2100 ≤ i) && decide (i < 0x2130) && decide (j = 5) && decide (v = 1)

/-- `RE_ARM`: a write of 1 to the re-arm of a UHF port (R110). -/
def execReArm (t : Nat) (f : Frame) (s : State) : Out := .next ((s.at t).writeRow f rowsReArm)

/-- The objects of `HF_REQUESTED_STATE`: the requested state of an HF port (R301). -/
def rowsHfRequestedState : Nat → Nat → Nat → Bool := fun i j _ => decide (0x2400 ≤ i) && decide (i < 0x2408) && decide (j = 1)

/-- `HF_REQUESTED_STATE`: a write of the requested state of an HF port (R301). -/
def execHfRequestedState (t : Nat) (f : Frame) (s : State) : Out := .next ((s.at t).writeRow f rowsHfRequestedState)

/-- The objects of `HF_RE_ARM`: 1 to the re-arm of an HF port (R302). -/
def rowsHfReArm : Nat → Nat → Nat → Bool := fun i j v => decide (0x2400 ≤ i) && decide (i < 0x2408) && decide (j = 5) && decide (v = 1)

/-- `HF_RE_ARM`: a write of 1 to the re-arm of an HF port (R302). -/
def execHfReArm (t : Nat) (f : Frame) (s : State) : Out := .next ((s.at t).writeRow f rowsHfReArm)

/-- The objects of `INVALIDATE_CHANNEL_MEMORY`: 1 to a quad's Invalidate (R664). -/
def rowsInvalidateChannelMemory : Nat → Nat → Nat → Bool := fun i j v => decide (0x2200 ≤ i) && decide (i < 0x220C) && decide (j = 16) && decide (v = 1)

/-- `INVALIDATE_CHANNEL_MEMORY`: a write of 1 to a quad's Invalidate (R664). -/
def execInvalidateChannelMemory (t : Nat) (f : Frame) (s : State) : Out := .next ((s.at t).writeRow f rowsInvalidateChannelMemory)

/-- The objects of `FORGET_VIEW`: 1 to the view's Forget (R253). -/
def rowsForgetView : Nat → Nat → Nat → Bool := fun i j v => decide (i = 0x3100) && decide (j = 4) && decide (v = 1)

/-- `FORGET_VIEW`: a write of 1 to the view's Forget (R253). -/
def execForgetView (t : Nat) (f : Frame) (s : State) : Out := .next ((s.at t).writeRow f rowsForgetView)

/-- The objects of `ACKNOWLEDGE_THROUGH`: a batch sequence that acknowledges (R353). -/
def rowsAcknowledgeThrough : Nat → Nat → Nat → Bool := fun i j _ => decide (0x4110 ≤ i) && decide (i < 0x4118) && decide (j = 4)

/-- `ACKNOWLEDGE_THROUGH`: a write of a batch sequence that acknowledges (R353). -/
def execAcknowledgeThrough (t : Nat) (f : Frame) (s : State) : Out := .next ((s.at t).writeRow f rowsAcknowledgeThrough)

/-- The objects of `REDELIVER_FROM`: a batch at which delivery starts again (R354). -/
def rowsRedeliverFrom : Nat → Nat → Nat → Bool := fun i j _ => decide (0x4110 ≤ i) && decide (i < 0x4118) && decide (j = 5)

/-- `REDELIVER_FROM`: a write of a batch at which delivery starts again (R354). -/
def execRedeliverFrom (t : Nat) (f : Frame) (s : State) : Out := .next ((s.at t).writeRow f rowsRedeliverFrom)

/-- The objects of `ENROL`: a meter to be enrolled (R359). -/
def rowsEnrol : Nat → Nat → Nat → Bool := fun i j _ => decide (i = 0x4031) && decide (j = 1)

/-- `ENROL`: a write of a meter to be enrolled (R359). -/
def execEnrol (t : Nat) (f : Frame) (s : State) : Out := .next ((s.at t).writeRow f rowsEnrol)

/-- The objects of `RETIRE`: a meter to be retired (R359). -/
def rowsRetire : Nat → Nat → Nat → Bool := fun i j _ => decide (i = 0x4031) && decide (j = 2)

/-- `RETIRE`: a write of a meter to be retired (R359). -/
def execRetire (t : Nat) (f : Frame) (s : State) : Out := .next ((s.at t).writeRow f rowsRetire)

/-- The objects of `RESYNC`: a meter to be marked for resync (R339). -/
def rowsResync : Nat → Nat → Nat → Bool := fun i j _ => decide (i = 0x4031) && decide (j = 3)

/-- `RESYNC`: a write of a meter to be marked for resync (R339). -/
def execResync (t : Nat) (f : Frame) (s : State) : Out := .next ((s.at t).writeRow f rowsResync)

/-- The objects of `END_SESSION`: a session to be ended (R398). -/
def rowsEndSession : Nat → Nat → Nat → Bool := fun i j _ => decide (0x1320 ≤ i) && decide (i < 0x1328) && decide (j = 5)

/-- `END_SESSION`: a write of a session to be ended (R398). -/
def execEndSession (t : Nat) (f : Frame) (s : State) : Out := .next ((s.at t).writeRow f rowsEndSession)

/-- The objects of `SHADE_OPENED`: an owner public key (R374, R375). -/
def rowsShadeOpened : Nat → Nat → Nat → Bool := fun i j _ => decide (0x1310 ≤ i) && decide (i < 0x1318) && decide (j = 3)

/-- `SHADE_OPENED`: a write of an owner public key (R374, R375). -/
def execShadeOpened (t : Nat) (f : Frame) (s : State) : Out := .next ((s.at t).writeRow f rowsShadeOpened)

/-- The objects of `ROTATE_OWNER_KEY`: a new owner key (R380). -/
def rowsRotateOwnerKey : Nat → Nat → Nat → Bool := fun i j _ => decide (0x1310 ≤ i) && decide (i < 0x1318) && decide (j = 4)

/-- `ROTATE_OWNER_KEY`: a write of a new owner key (R380). -/
def execRotateOwnerKey (t : Nat) (f : Frame) (s : State) : Out := .next ((s.at t).writeRow f rowsRotateOwnerKey)

/-- The objects of `ERASE`: 1 to a shade's Erase (R376, R377). -/
def rowsErase : Nat → Nat → Nat → Bool := fun i j v => decide (0x1310 ≤ i) && decide (i < 0x1318) && decide (j = 14) && decide (v = 1)

/-- `ERASE`: a write of 1 to a shade's Erase (R376, R377). -/
def execErase (t : Nat) (f : Frame) (s : State) : Out := .next ((s.at t).writeRow f rowsErase)

/-- The objects of `FORCED_ERASE`: 2 to a shade's Erase (R376). -/
def rowsForcedErase : Nat → Nat → Nat → Bool := fun i j v => decide (0x1310 ≤ i) && decide (i < 0x1318) && decide (j = 14) && decide (v = 2)

/-- `FORCED_ERASE`: a write of 2 to a shade's Erase (R376). -/
def execForcedErase (t : Nat) (f : Frame) (s : State) : Out := .next ((s.at t).writeRow f rowsForcedErase)

/-- The objects of `CANCEL_FORCED_ERASE`: 3 to a shade's Erase (R376). -/
def rowsCancelForcedErase : Nat → Nat → Nat → Bool := fun i j v => decide (0x1310 ≤ i) && decide (i < 0x1318) && decide (j = 14) && decide (v = 3)

/-- `CANCEL_FORCED_ERASE`: a write of 3 to a shade's Erase (R376). -/
def execCancelForcedErase (t : Nat) (f : Frame) (s : State) : Out := .next ((s.at t).writeRow f rowsCancelForcedErase)

/-- The objects of `ETHERNET_ENABLE`: Ethernet's Enable (R457). -/
def rowsEthernetEnable : Nat → Nat → Nat → Bool := fun i j _ => decide (i = 0x1200) && decide (j = 5)

/-- `ETHERNET_ENABLE`: a write of Ethernet's Enable (R457). -/
def execEthernetEnable (t : Nat) (f : Frame) (s : State) : Out := .next ((s.at t).writeRow f rowsEthernetEnable)

/-- The objects of `SPIRE_LINK_ENABLE`: the Spire link's Enable (R462). -/
def rowsSpireLinkEnable : Nat → Nat → Nat → Bool := fun i j _ => decide (i = 0x1210) && decide (j = 1)

/-- `SPIRE_LINK_ENABLE`: a write of the Spire link's Enable (R462). -/
def execSpireLinkEnable (t : Nat) (f : Frame) (s : State) : Out := .next ((s.at t).writeRow f rowsSpireLinkEnable)

/-- The objects of `FORCE_OUTPUT`: a timer's Force output (R496). -/
def rowsForceOutput : Nat → Nat → Nat → Bool := fun i j _ => decide (0x1910 ≤ i) && decide (i < 0x1920) && decide (j = 13)

/-- `FORCE_OUTPUT`: a write of a timer's Force output (R496). -/
def execForceOutput (t : Nat) (f : Frame) (s : State) : Out := .next ((s.at t).writeRow f rowsForceOutput)

/-- The objects of `STAGED_TIME_WRITE`: a field 2–8 of the clock (R522). -/
def rowsStagedTimeWrite : Nat → Nat → Nat → Bool := fun i j _ => decide (i = 0x1A00) && decide (2 ≤ j) && decide (j ≤ 8)

/-- `STAGED_TIME_WRITE`: a write of a field 2–8 of the clock (R522). -/
def execStagedTimeWrite (t : Nat) (f : Frame) (s : State) : Out := .next ((s.at t).writeRow f rowsStagedTimeWrite)

/-- The objects of `TIME_COMMIT`: the seconds of the clock (R523, R524). -/
def rowsTimeCommit : Nat → Nat → Nat → Bool := fun i j _ => decide (i = 0x1A00) && decide (j = 1)

/-- `TIME_COMMIT`: a write of the seconds of the clock (R523, R524). -/
def execTimeCommit (t : Nat) (f : Frame) (s : State) : Out := .next ((s.at t).writeRow f rowsTimeCommit)

/-- The objects of `POWER_OFF_REQUEST`: a power-off request (R531, R532). -/
def rowsPowerOffRequest : Nat → Nat → Nat → Bool := fun i j _ => decide (i = 0x1A20) && decide (j = 2)

/-- `POWER_OFF_REQUEST`: a write of a power-off request (R531, R532). -/
def execPowerOffRequest (t : Nat) (f : Frame) (s : State) : Out := .next ((s.at t).writeRow f rowsPowerOffRequest)

/-- The objects of `BEGIN`: an image length (R550). -/
def rowsBegin : Nat → Nat → Nat → Bool := fun i j _ => decide (i = 0x1620) && decide (j = 1)

/-- `BEGIN`: a write of an image length (R550). -/
def execBegin (t : Nat) (f : Frame) (s : State) : Out := .next ((s.at t).writeRow f rowsBegin)

/-- The objects of `DATA`: a block of an image (R550). -/
def rowsData : Nat → Nat → Nat → Bool := fun i j _ => decide (i = 0x1620) && decide (j = 3)

/-- `DATA`: a write of a block of an image (R550). -/
def execData (t : Nat) (f : Frame) (s : State) : Out := .next ((s.at t).writeRow f rowsData)

/-- The objects of `VERIFY`: 1 to Verify (R551). -/
def rowsVerify : Nat → Nat → Nat → Bool := fun i j v => decide (i = 0x1620) && decide (j = 4) && decide (v = 1)

/-- `VERIFY`: a write of 1 to Verify (R551). -/
def execVerify (t : Nat) (f : Frame) (s : State) : Out := .next ((s.at t).writeRow f rowsVerify)

/-- The objects of `ACTIVATE_TRIAL`: 1 to Activate (R551). -/
def rowsActivateTrial : Nat → Nat → Nat → Bool := fun i j v => decide (i = 0x1620) && decide (j = 5) && decide (v = 1)

/-- `ACTIVATE_TRIAL`: a write of 1 to Activate (R551). -/
def execActivateTrial (t : Nat) (f : Frame) (s : State) : Out := .next ((s.at t).writeRow f rowsActivateTrial)

/-- The objects of `ACTIVATE_CONFIRM`: 2 to Activate (R553). -/
def rowsActivateConfirm : Nat → Nat → Nat → Bool := fun i j v => decide (i = 0x1620) && decide (j = 5) && decide (v = 2)

/-- `ACTIVATE_CONFIRM`: a write of 2 to Activate (R553). -/
def execActivateConfirm (t : Nat) (f : Frame) (s : State) : Out := .next ((s.at t).writeRow f rowsActivateConfirm)

/-- The objects of `COMPUTE`: a computation over supplied bits (R560). -/
def rowsCompute : Nat → Nat → Nat → Bool := fun i j _ => decide (i = 0x1801) && decide (j = 1)

/-- `COMPUTE`: a write of a computation over supplied bits (R560). -/
def execCompute (t : Nat) (f : Frame) (s : State) : Out := .next ((s.at t).writeRow f rowsCompute)

/-- The objects of `START`: a scan (R562, R563). -/
def rowsStart : Nat → Nat → Nat → Bool := fun i j _ => decide (i = 0x1810) && decide (j = 1)

/-- `START`: a write of a scan (R562, R563). -/
def execStart (t : Nat) (f : Frame) (s : State) : Out := .next ((s.at t).writeRow f rowsStart)

/-- The objects of `ABORT`: 1 to Abort (R565). -/
def rowsAbort : Nat → Nat → Nat → Bool := fun i j v => decide (i = 0x1810) && decide (j = 2) && decide (v = 1)

/-- `ABORT`: a write of 1 to Abort (R565). -/
def execAbort (t : Nat) (f : Frame) (s : State) : Out := .next ((s.at t).writeRow f rowsAbort)

/-- The objects of `START_SWEEP`: 1 to Start sweep (R578, R579). -/
def rowsStartSweep : Nat → Nat → Nat → Bool := fun i j v => decide (i = 0x1700) && decide (j = 3) && decide (v = 1)

/-- `START_SWEEP`: a write of 1 to Start sweep (R578, R579). -/
def execStartSweep (t : Nat) (f : Frame) (s : State) : Out := .next ((s.at t).writeRow f rowsStartSweep)

/-- The objects of `CLEAR`: 1 to the safe state's Clear (R580). -/
def rowsClear : Nat → Nat → Nat → Bool := fun i j v => decide (i = 0x1110) && decide (j = 5) && decide (v = 1)

/-- `CLEAR`: a write of 1 to the safe state's Clear (R580). -/
def execClear (t : Nat) (f : Frame) (s : State) : Out := .next ((s.at t).writeRow f rowsClear)

/-- The objects of `FREEZE`: 1 to the black box's Freeze (R587). -/
def rowsFreeze : Nat → Nat → Nat → Bool := fun i j v => decide (i = 0x1710) && decide (j = 4) && decide (v = 1)

/-- `FREEZE`: a write of 1 to the black box's Freeze (R587). -/
def execFreeze (t : Nat) (f : Frame) (s : State) : Out := .next ((s.at t).writeRow f rowsFreeze)

/-- The objects of `RELEASE`: 1 to the black box's Release (R587). -/
def rowsRelease : Nat → Nat → Nat → Bool := fun i j v => decide (i = 0x1710) && decide (j = 5) && decide (v = 1)

/-- `RELEASE`: a write of 1 to the black box's Release (R587). -/
def execRelease (t : Nat) (f : Frame) (s : State) : Out := .next ((s.at t).writeRow f rowsRelease)

/-- The objects of `SNAPSHOT`: 1 to Snapshot (R590). -/
def rowsSnapshot : Nat → Nat → Nat → Bool := fun i j v => decide (i = 0x1750) && decide (j = 1) && decide (v = 1)

/-- `SNAPSHOT`: a write of 1 to Snapshot (R590). -/
def execSnapshot (t : Nat) (f : Frame) (s : State) : Out := .next ((s.at t).writeRow f rowsSnapshot)

/-- The objects of `COUNTERS_CLEAR`: 1 to the counters' Clear (R590). -/
def rowsCountersClear : Nat → Nat → Nat → Bool := fun i j v => decide (i = 0x1750) && decide (j = 2) && decide (v = 1)

/-- `COUNTERS_CLEAR`: a write of 1 to the counters' Clear (R590). -/
def execCountersClear (t : Nat) (f : Frame) (s : State) : Out := .next ((s.at t).writeRow f rowsCountersClear)

/-- The objects of `ENTER_FULL_OPERATION`: 0, full operation, to the requested mode (R614). -/
def rowsEnterFullOperation : Nat → Nat → Nat → Bool := fun i j v => decide (i = 0x1101) && decide (j = 1) && decide (v = 0)

/-- `ENTER_FULL_OPERATION`: a write of 0, full operation, to the requested mode (R614). -/
def execEnterFullOperation (t : Nat) (f : Frame) (s : State) : Out := .next ((s.at t).writeRow f rowsEnterFullOperation)

/-- The objects of `ENTER_STANDBY`: 1, standby, to the requested mode (R613, R614). -/
def rowsEnterStandby : Nat → Nat → Nat → Bool := fun i j v => decide (i = 0x1101) && decide (j = 1) && decide (v = 1)

/-- `ENTER_STANDBY`: a write of 1, standby, to the requested mode (R613, R614). -/
def execEnterStandby (t : Nat) (f : Frame) (s : State) : Out := .next ((s.at t).writeRow f rowsEnterStandby)

/-- The objects of `ENTER_DEEP_STANDBY`: 2, deep standby, to the requested mode (R613, R615). -/
def rowsEnterDeepStandby : Nat → Nat → Nat → Bool := fun i j v => decide (i = 0x1101) && decide (j = 1) && decide (v = 2)

/-- `ENTER_DEEP_STANDBY`: a write of 2, deep standby, to the requested mode (R613, R615). -/
def execEnterDeepStandby (t : Nat) (f : Frame) (s : State) : Out := .next ((s.at t).writeRow f rowsEnterDeepStandby)

/-- The objects of `SPREAD_OFF_FOR`: minutes without the fabric clock's spread (R620). -/
def rowsSpreadOffFor : Nat → Nat → Nat → Bool := fun i j _ => decide (i = 0x1104) && decide (j = 3)

/-- `SPREAD_OFF_FOR`: a write of minutes without the fabric clock's spread (R620). -/
def execSpreadOffFor (t : Nat) (f : Frame) (s : State) : Out := .next ((s.at t).writeRow f rowsSpreadOffFor)

/-- The arm subindex of a timer channel in a mode: 1 compare, 3 triggered (Table 8 of chapter 15). -/
def State.armsIn (s : State) (mode : Nat) : Nat → Nat → Nat → Bool := fun i j _ =>
  decide (0x1910 ≤ i) && decide (i < 0x1920) &&
    ((decide (j = 6) && decide (modeOf (s.chanConfig (i - 0x1910) 0) = mode)) || (decide (j = 10) && decide (modeOf (s.chanConfig (i - 0x1910) 1) = mode)))

/-- `COMPARE_ARM`: a write of the arm subindex of a channel in compare mode (R495). -/
def execCompareArm (t : Nat) (f : Frame) (s : State) : Out := .next ((s.at t).writeRow f (s.armsIn 1))

/-- `TRIGGER_ARM`: a write of the arm subindex of a channel in triggered mode (R499). -/
def execTriggerArm (t : Nat) (f : Frame) (s : State) : Out := .next ((s.at t).writeRow f (s.armsIn 3))

/-- `SECONDS_READ`: a read of the seconds field of the clock (R520). -/
def execSecondsRead (t : Nat) (f : Frame) (s : State) : Out := .next ((s.at t).readRow f 0x1A00 1)

/-- `CENTURY_READ`: a read of the century field of the clock (R520). -/
def execCenturyRead (t : Nat) (f : Frame) (s : State) : Out := .next ((s.at t).readRow f 0x1A00 8)

/-- A freeze ends 250 ms after it started (R520). -/
def State.freezeExpired (s : State) (sid : Nat) : State :=
  s.modSession sid (fun x => { x with shadow := match x.shadow with
    | some (start, total) => if start + ms 250 ≤ s.now then none else some (start, total)
    | none => none })

/-- `FREEZE_EXPIRED`: of a session. -/
def execFreezeExpired (t session : Nat) (s : State) : Out := .next ((s.at t).freezeExpired session)

/-- A session's staged time values are discarded 10 s after the last staged write (R522). -/
def State.stagedExpired (s : State) (sid : Nat) : State :=
  s.modSession sid (fun x => if x.stagedTick + sec 10 ≤ s.now then { x with staged := [] } else x)

/-- `STAGED_TIME_DISCARDED`: of a session. -/
def execStagedTimeDiscarded (t session : Nat) (s : State) : Out := .next ((s.at t).stagedExpired session)

end Sys2Proof.Machine
end

