-- ==== Sys2Proof/Machine/Boundary.lean ====
section
/-! DEFINITION. Slot boundaries and what they bring, in the order of R663: due transactions, changes that forbid emission, the
windows of the new slot; window ends; CAL_SYNC pulses at a follower (chapter 2; R45, R109, R233–R235, R301, R320, R321, R478, R591,
R614). -/

namespace Sys2Proof.Machine

/-! ### Transactions due (R82, R427) -/

/-- A transaction in its place among those accepted before it. -/
def insertTxn (t : Txn) : List Txn → List Txn
  | [] => [t]
  | x :: r => if t.accepted < x.accepted then t :: x :: r else x :: insertTxn t r

/-- The transactions due at the boundary just reached, in the order of their acceptance; one with an object of class C waits for a
frame boundary (R81–R83). -/
def State.dueTxns (s : State) : List Txn :=
  (s.txns.filter (fun t => t.waiting && s.boundaryReached t.boundary &&
    (decide (s.frameSlot = 0) || !t.staged.any (fun e => isClassC e.key)))).foldl (fun l t => insertTxn t l) []

/-- A due transaction, unless one before it discarded it, is checked again and takes effect, or is dropped whole (R427). -/
def State.takeDue (s : State) (t : Txn) : State :=
  if s.txns.any (fun y => decide (y.num = t.num)) = false then s
  else
    let w : Writer := { shade := t.shade, session := t.session, link := (s.session? t.session).elim 0 (fun x => x.link) }
    let j := s.judge w t.puts
    let s1 := j.2.dropTxn t.num
    if j.1.1 ≠ 0 then
      ({ s1 with txnStats := tmod s1.txnStats t.shade (fun c => { c with dropped := (c.dropped + 1) % 2 ^ 32 }) } : State).raise 0x0402
        (dU 4 t.num ++ dU 2 j.1.1) [t.shade]
    else (s1.commit w t.num t.puts).inEffect t.shade t.num

/-- Every transaction due takes its turn; they are TMR3's commit compare. -/
def State.takeDues (s : State) : State :=
  let l := s.dueTxns
  let s1 := if l.isEmpty then s else s.belfryTick 3 1 s.now
  let s2 := l.foldl State.takeDue s1
  if l.isEmpty then s2 else { s2 with eth := { s2.eth with replyFrom := none } }

/-! ### Changes that forbid emission (R45, R109, R301) -/

/-- The power that charters and policy allow a port: the limits of R96 that management writes. -/
def State.managedLimit (s : State) (sh port b : Nat) : Int := smallest (((s.powerLimits sh port b 0).drop 1).take 5)

/-- Whether management forbids the emission of a quad whose carrier is on: the port's requested state, its channel and modulation,
its power, its trip threshold, or a dwell or occupancy that a change shortened to less than it has had (R109). A plan's own values
stand as the exchange started with them (R46). -/
def State.forbidden (s : State) (q : Nat) : Bool :=
  let x := s.tx q
  let sh := (s.seq q).shade
  s.carrierOn q &&
  (!s.enabled x.port || ((s.port x.port).lowered && decide (tripVswr (s.nat (0x2100 + x.port) 9) < s.nat (0x2100 + x.port) 13)) ||
    (match x.index, (s.seq q).plan with
     | some i, some p =>
       !((s.hopSet sh ((s.overlay (s.seq q).frozen).planModulation p)).contains i) || (s.dwellLowered && !fits (s.now + 1) (s.dwellEnd q i)) ||
         (match s.bandOf (s.channelAt i) with
          | some b => decide (s.managedLimit sh x.port b < s.int (0x2200 + q) 4)
          | none => true)
     | _, _ => false))

/-- An emission that is forbidden is cut, with event 0x2106: 1 at a slot boundary, 2 where the change came with the boundary (R45,
R109). The quad takes other work of its window. -/
def State.cutForbidden (s : State) (before : List Nat) (q : Nat) : State :=
  if s.forbidden q = false then s
  else
    let p := (s.tx q).port
    ((s.cutQuad q).goOn q).raise 0x2106 [p, if before.contains q then 1 else 2] (s.reachPort p)

/-- Ports whose requested state is disabled go dark (R107, R109). -/
def State.portsDark (s : State) : State :=
  { s with ports := s.ports.mapIdx (fun p x => { x with enabled := x.enabled && s.enabled p }) }

/-- Lowered trip thresholds, dwells and occupancies have taken effect. -/
def State.loweredDone (s : State) : State := { s with ports := s.ports.map (fun x => { x with lowered := false }), dwellLowered := false }

/-- What was held back up to the slot boundary is in force (R109). -/
def State.nothingHeld (s : State) : State := { s with heldBack := [] }

/-- An HF port that management forbids: its service is cut with status 5, and a disabled port goes dark (R301). -/
def State.hfCut (s : State) (h : Nat) : State :=
  if s.hfForbidden h = false then s
  else
    let s1 := if (s.hf h).service.isSome then s.cutService h 5 else s
    s1.modHf h (fun x => { x with request := none, enabled := x.enabled && decide (s.nat (0x2400 + h) 1 = 1) })

/-! ### The calendar at a frame boundary (R70, R74, R377) -/

/-- The entries of erased shades become quiet (R377). -/
def State.quietErased (s : State) : State :=
  let gone := (List.range 128).filter (fun e =>
    let v := s.nat 0x1B10 (e + 1)
    decide (entryKind v ≠ 0) && s.quietDue.contains (entryShade v))
  let s1 : State := { s with quietDue := [] }
  if gone.isEmpty then s1
  else ((gone.foldl (fun st e => st.selfSet (key 0x1B10 (e + 1)) (.num 0)) s1).modBelfry (fun b => { b with calendarChanged := true })).keep 0 8

/-- The cascade frame number at a frame boundary: the leader counts it and pulls CAL_SYNC low, for 6 µs at number 0 and 2 µs
otherwise, but not in deep standby (R617); a follower counts it once it is valid, but for the boundary that a marker has named (R74, R75, R78). -/
def State.frameCount (s : State) : State :=
  let n := (s.nat 0x1B00 10 + 1) % 256
  if s.role = 1 then
    let ends := s.now + (if n = 0 then us 6 else us 2)
    let s1 := (s.set 0x1B00 10 n).setFlag 0x1B00 11 (s.flag 0x1B00 11 || decide (n = 0))
    s1.awake (fun st => ((st.modBelfry (fun b => { b with pulseEnd := ends })).belfryTick 1 0 s.now).belfryTick 1 1 ends)
  else if s.role = 2 then
    (if s.flag 0x1B00 11 && !s.belfry.skipInc then s.set 0x1B00 10 n else s).modBelfry (fun b => { b with skipInc := false })
  else s

/-- A change of the calendar or of the placement that took effect: event 0x1008 (R70, R84). -/
def State.calendarEvent (s : State) : State :=
  if s.belfry.calendarChanged then
    (s.modBelfry (fun b => { b with calendarChanged := false, placementChanged := false })).raise 0x1008
      (dU 4 (s.belfry.slots % 2 ^ 32) ++ [s.nat 0x1B00 10, b01 s.belfry.placementChanged]) s.allJoined
  else s

/-! ### Windows of the new slot (R68, R233–R235, R478) -/

/-- Whether the present slot is the first of a unit's window; a window without end is taken to open with each frame. -/
def State.opensNow (s : State) (unit : Nat) : Bool :=
  decide (s.slotsBefore unit s.frameSlot = 0) || (decide (s.windowId unit = 0) && decide (s.frameSlot = 0))

/-- A quad that held for a credit throughout a window that is over: event 0x6004 (R478). -/
def State.heldForCredit (s : State) (q : Nat) : State :=
  let x := s.seq q
  if s.inWindow q && decide (s.windowId q = x.window) then s
  else
    let s1 := s.modSeq q (fun y => { y with starved := false, granted := false })
    match x.plan with
    | some p =>
      if x.starved && !x.granted then s1.raise 0x6004 ([q, p, x.shade] ++ dU 2 (s.fill x.shade)) (withSlate x.shade) (perMinute q) else s1
    | none => s1

/-- A window opens on a quad whose carrier is off: the plan that a hop has prepared stays where it is still eligible, else the engine
chooses (R36, R233), also where a change of the calendar has put another window in its place. Outside windows a quad has no plan. -/
def State.openWindow (s : State) (q : Nat) : State :=
  let x := s.seq q
  if s.carrierOn q then s
  else if s.inWindow q = false then s.modSeq q (fun y => { y with plan := none })
  else if s.opensNow q = false ∧ x.window = s.windowId q then s
  else
    let ready := match x.plan with
      | some p => decide (x.window = s.windowId q) && decide (x.window ≠ 0) && s.portServes p x.port && s.eligible p q s.windowShade (entryKind s.entryNow)
      | none => false
    if ready then s
    else
      let s1 := s.assignNow q
      if ((s1.seq q).plan = x.plan ∧ (s1.seq q).port = x.port) ∨ (s1.tx q).index = none then s1 else s1.dropHop q

/-- A carrier that is still on in a slot that is not of its quad's window: cut where the slot is quiet, of another kind or shade, or
without the quad; where only the lock that windows need is gone, it goes off after its exchange (R66, R67). -/
def State.offWindow (s : State) (q : Nat) : State :=
  let e := s.entryNow
  if s.carrierOn q = false then s
  else if !(entryHas e q && (decide (entryKind e = 1) || decide (entryKind e = 2)) && decide (entryShade e = (s.seq q).shade)) then s.cutQuad q
  else if !s.windowsOpen then s.closeAfterExchange q
  else s

/-- Whether the present slot lies in a window of a plan's shade and kind that covers one of its quads (R235). -/
def State.planCovered (s : State) (p : Nat) : Bool :=
  let e := s.entryNow
  s.windowsOpen && decide (entryShade e = s.planOwner p) && (decide (entryKind e = 1) || decide (entryKind e = 2)) &&
    (decide (entryKind e = 2) || (s.planGroups p).any (fun g => !s.groupHsbOnly p g)) && (s.planQuads p).any (fun q => entryHas e q)

/-- The cause for which a plan is suspended, 0 for none (R235). -/
def State.suspendCause (s : State) (p : Nat) : Nat :=
  if (s.planQuads p).isEmpty then 1
  else if s.allocated (s.planOwner p) (s.planObj p 6) = false then 2
  else if s.linkObj (s.planObj p 5) 1 ≠ 1 then 3
  else if (s.plan p).lastWindow + 8192 ≤ s.belfry.slots then 4
  else 0

/-- A plan is suspended, with event 0x3005, or leaves suspension at the first window in which no cause holds (R235). -/
def State.suspendPlan (s : State) (p : Nat) : State :=
  if s.planObj p 2 ≠ 1 then s
  else
    let covered := s.planCovered p
    let s1 := if covered then s.modPlan p (fun r => { r with lastWindow := s.belfry.slots }) else s
    let c := s1.suspendCause p
    if (s.plan p).cause = 0 ∧ c ≠ 0 then
      ((s1.each (List.range 12) (fun st q => st.leavePlan p q)).modPlan p (fun r => { r with cause := c })).raise 0x3005 [p, c] (withSlate (s.planOwner p))
    else if c = 0 ∧ covered = true then s1.modPlan p (fun r => { r with cause := 0 })
    else s1

/-- The work of an HF poll window that opens on a port: a field ping where the port uses one, with the driver current it reads, and
an unprompted poll under the plans of the window's shade (R320, R321). -/
def State.hfWindow (s : State) (pings : List Nat) (h : Nat) : State :=
  let e := s.entryNow
  if !(s.windowsOpen && decide (entryKind e = 3) && entryHas e h && s.opensNow h && s.mayField h && decide (s.power.mode ≠ 2) && decide (s.power.modeDue ≠ some 2)) || (s.hf h).service.isSome then s
  else
    let s1 := if bitOf (s.nat (0x2400 + h) 7) 1 && s.freeTx.isSome then
        (match pings[h]? with
         | some c => s.ping h c
         | none => s)
      else s
    if (s1.cardPlans h true (entryShade e)).isEmpty then s1 else s1.requestService h true (entryShade e)

/-! ### Lantern at a slot boundary (R591) -/

/-- The queue level records of every queue. -/
def State.lanternQueues (s : State) : State :=
  let level := fun (kind n fill credits : Nat) => [kind, n] ++ dU 2 fill ++ dU 2 credits
  let s1 := s.each (List.range 48) (fun st p => st.lanternQuad (p / 4) 5 (level 1 p (s.port p).fifo.length (s.port p).reserved))
  let s2 := s1.each (List.range 12) (fun st q => st.lanternQuad q 5 (level 2 q (s.quad q).results.length 0))
  let s3 := s2.each (List.range 8) (fun st h => st.lanternPush 5 (level 3 h (s.fill h) (s.shade h).credits))
  s3.lanternPush 5 (level 4 0 s.txq.length 0)

/-- The state records of every loop. -/
def State.lanternLoops (s : State) : State :=
  let s1 := s.each (List.range 12) (fun st q =>
    (st.lanternLoop 1 q (s.int (0x2200 + q) 4) (s.int (0x2200 + q) 4) (s.tx q).pinned).lanternLoop 5 q
      (((s.seq q).plan.bind (fun p => (s.round p (s.seq q).port).qfp)).getD 0 : Nat) 1500 (s.seq q).qPinned)
  let s2 := s1.each (List.range 48) (fun st p =>
    ((st.lanternLoop 2 p (tunerCode (s.nat (0x2100 + p) 11) 1 : Nat) 63 (s.port p).tunerPinned).lanternLoop 3 p (s.port p).residual 0
      (s.port p).cancPinned).lanternLoop 4 p (s.int (0x2130 + p) 9) (s.gMax p) (s.port p).agcPinned)
  let s3 := s2.lanternLoop 6 0 (s.int 0x1B00 8) (s.int 0x1B00 8) s.belfry.pinned
  let s4 := s3.each (List.range 8) (fun st h => st.lanternLoop 7 h (s.int (0x2400 + h) 16) (s.fieldPower h) (s.hf h).pinned)
  s4.lanternLoop 8 0 (s.int 0x1A03 1) 511 s.rtc.pinned

/-- The slot boundary record, then levels and loops. -/
def State.lanternSlot (s : State) : State :=
  if s.flag 0x1730 1 = false then s
  else
    let e := s.entryNow
    ((s.lanternPush 2 ([s.frameSlot, entryKind e, entryShade e] ++ dU 2 (e % 4096) ++ [s.nat 0x1B00 1, s.nat 0x1B00 2])).lanternQueues).lanternLoops

/-! ### The slot boundary -/

/-- Whether the accumulator has reached the next slot boundary (R63). -/
def State.boundaryDue (s : State) : Bool := s.power.released && decide (s.belfry.slots + 1 ≤ s.belfry.phase / 2 ^ 44)

/-- Ticks from now to the boundary after the latest one at the present rate, for TMR2's compare. -/
def State.nextBoundaryTick (s : State) : Nat :=
  s.now + ceilDiv (((s.belfry.slots + 1) * 2 ^ 44 - s.belfry.phase) * 1000) (if s.belfry.rateK = 0 then 1 else s.belfry.rateK)

/-- The slot count moves on; ports blocked since a safe-state Clear are free again (R63, R582). -/
def State.nextSlotCount (s : State) : State :=
  let s1 : State := { s with safe := { s.safe with leaving := false } }
  s1.modBelfry (fun b => { b with slots := b.slots + 1, slotTick := s.now })

/-- Boundary work of a frame boundary that comes before its transactions. -/
def State.frameWork (s : State) : State := if s.frameSlot = 0 then s.frameCount.quietErased else s

/-- What forbids emission takes effect, `before` naming the quads that a change committed before the boundary stops; then a mode
change that waits (R45, R109, R301, R614). -/
def State.forbidWork (s : State) (before : List Nat) : State :=
  ((s.portsDark.each (List.range 12) (fun st q => st.cutForbidden before q)).loweredDone.each (List.range 8) State.hfCut).changeMode

/-- The windows of the new slot open. -/
def State.windowWork (s : State) (pings : List Nat) : State :=
  let s1 := ((s.each (List.range 12) State.surveyAbort).each (List.range 12) State.heldForCredit).each (List.range 12) State.offWindow
  let s2 := s1.each (List.range 64) State.suspendPlan
  let s3 := s2.each (List.range 12) State.openWindow
  ((s3.each (List.range 8) State.endPoll).each (List.range 8) (fun st h => st.hfWindow pings h)).cxRest

/-- A slot boundary, in the order of R663; the ceiling rate is published with INC_f and the clamp as they then stand (R58). `pings`
are the driver currents that field pings read. -/
def State.slotBoundary (s : State) (pings : List Nat) : State :=
  if s.boundaryDue = false then s
  else
    let s0 := s.nothingHeld
    let before := (List.range 12).filter s0.forbidden
    let s1 := s0.nextSlotCount.frameWork.takeDues.nothingHeld
    let s2 := (s1.modBelfry (fun b => { b with ceilK := s1.nextCeil })).forbidWork before
    let s3 := if s2.frameSlot = 0 then s2.calendarEvent else s2
    let s4 := (s3.belfryTick 2 0 s3.nextBoundaryTick).masterEvent 2 0
    (s4.windowWork pings).lanternSlot

/-- `SLOT_BOUNDARY`. -/
def execSlotBoundary (t : Nat) (pings : List Nat) (s : State) : Out := .next ((s.at t).slotBoundary pings)

/-! ### Window ends (R69) -/

/-- The usable part of a quad's window is over, or windows are shut: the carrier goes off, after the exchange in progress where there is
one (R43, R66, R69). -/
def State.endWindow (s : State) (q : Nat) : State :=
  if (s.tx q).carrier ≠ 2 then s
  else if s.inWindow q = false then s.closeAfterExchange q
  else match s.windowEnd q with
    | some e => if e ≤ s.now then s.closeAfterExchange q else s
    | none => s

/-- The usable end of windows, TMR3's compare. -/
def State.windowEnds (s : State) : State :=
  let excess := (List.range 12).any (fun q => s.inWindow q && (match s.windowEnd q with
    | some e => decide (e ≤ s.now)
    | none => false))
  let s1 := if excess then s.belfryTick 3 0 s.now else s
  s1.each (List.range 12) State.endWindow

/-- `WINDOW_END`. -/
def execWindowEnd (t : Nat) (s : State) : Out := .next (s.at t).windowEnds

/-! ### CAL_SYNC at a follower (R75–R78) -/

/-- A low pulse on CAL_SYNC at a follower, just ended: its width in ns, with the tracked rate and the correction that the loop
makes of it. After a slip every exchange in progress is abandoned (R77). -/
def State.calSyncPulse (s : State) (width incF : Nat) (want : Int) : State :=
  if s.role ≠ 2 ∨ s.power.released = false then s
  else match pulseKind width with
    | none => s.count 0x1B00 12
    | some marker =>
      let s1 := (s.belfryTick 1 0 (s.now - ns width)).belfryTick 1 1 s.now
      let r := s1.validPulse marker width incF want
      if r.2 then r.1.each (List.range 12) (fun st q => if st.carrierOn q then st.cutQuad q else st) else r.1

/-- `CAL_SYNC_PULSE_RECEIVED`. Deep standby samples none (R617). -/
def execCalSyncPulseReceived (t width incF : Nat) (want : Int) (s : State) : Out :=
  .next ((s.at t).awake (fun st => st.calSyncPulse width incF want))

end Sys2Proof.Machine
end

