-- ==== Sys2Proof/Machine/Drain.lean ====
section
/-! DEFINITION. The drain order of the queues (chapter 14, R483; Table 6 of chapter 1): transmission, delivery, results, FIFO entries.
A stage waits for the stages above it that are ready, and serves its units in rotation. -/

namespace Sys2Proof.Machine

/-- Whether a frame can leave the transmit queue now: Ethernet carries it. A frame of the Spire link leaves when the host transfers
(R445, R468). -/
def State.sendReady (s : State) : Bool := s.linkUp 1 && s.txq.any (fun f => decide (f.link = 1))

/-- Whether a shade has items that can be delivered now (R436, R484). -/
def State.deliverReady (s : State) (sh : Nat) : Bool := decide (s.txq.length < (s.sendEvents sh).txq.length)

/-- Whether a quad has a result for the inventory engine. -/
def State.resultReady (s : State) (q : Nat) : Bool := !(s.quad q).results.isEmpty

/-- Whether the head of a port's FIFO can leave it: it has no result, or its quad's result queue has room (R475). -/
def State.entryReady (s : State) (p : Nat) : Bool :=
  match (s.port p).fifo with
  | [] => false
  | (_, tail) :: _ => tail.isEmpty || decide ((s.quad (p / 4)).results.length < 256)

/-- The unit of a stage whose turn it is: the first that is ready after the one served last (R483). -/
def turnFrom (n last : Nat) (ready : Nat → Bool) : Option Nat := ((List.range n).map (fun i => (last + 1 + i) % n)).find? ready

/-- The unit that stage 2 (shades), 3 (quads) or 4 (ports) serves next, none while a stage above it is ready or it has none. -/
def State.stageTurn (s : State) (stage : Nat) : Option Nat :=
  if s.sendReady then none
  else match turnFrom 8 (tget s.served 0 7) s.deliverReady with
  | some sh => if stage = 2 then some sh else none
  | none =>
    match turnFrom 12 (tget s.served 1 11) s.resultReady with
    | some q => if stage = 3 then some q else none
    | none => if stage = 4 then turnFrom 48 (tget s.served 2 47) s.entryReady else none

/-- A stage serves a unit where it is that unit's turn. -/
def State.serveStage (s : State) (stage unit : Nat) (f : State → State) : State :=
  if s.stageTurn stage = some unit then
    let s1 := f s
    { s1 with served := tmod s1.served (stage - 2) (fun _ => unit) }
  else s

/-- `EVENT`: the module sends items of a shade. -/
def execEvent (t shade : Nat) (s : State) : Out := .next ((s.at t).serveStage 2 shade (·.sendEvents shade))

/-- `RESULT_TAKEN`: from a quad. -/
def execResultTaken (t quad : Nat) (s : State) : Out := .next ((s.at t).serveStage 3 quad (·.takeResult quad))

/-- `FIFO_ENTRY_MOVED`: of a port. -/
def execFifoEntryMoved (t port : Nat) (s : State) : Out := .next ((s.at t).serveStage 4 port (·.moveEntry port))

end Sys2Proof.Machine
end

