-- ==== Sys2Proof/Machine/Dispatch.lean ====
section
/-! DEFINITION. One arm per command: each is one direct call of that command's meaning. -/

namespace Sys2Proof.Machine

/-- The effect of a command on everything but the queue of pending commands. -/
def exec (i : Instr) (s : State) : Host.Outcome State Fault Refusal :=
  match i with
  | .slotBoundary t pings => Sys2Proof.Machine.execSlotBoundary t pings s
  | .windowEnd t => Sys2Proof.Machine.execWindowEnd t s
  | .mainsEdgeCapture t incF want => Sys2Proof.Machine.execMainsEdgeCapture t incF want s
  | .mainsLost t => Sys2Proof.Machine.execMainsLost t s
  | .calSyncPulseReceived t width incF want => Sys2Proof.Machine.execCalSyncPulseReceived t width incF want s
  | .calSyncLost t => Sys2Proof.Machine.execCalSyncLost t s
  | .calSyncConflict t width => Sys2Proof.Machine.execCalSyncConflict t width s
  | .synthesizerHop t quad draw calOk band cap => Sys2Proof.Machine.execSynthesizerHop t quad draw calOk band cap s
  | .rampStart t quad => Sys2Proof.Machine.execRampStart t quad s
  | .carrierAtSetPower t quad => Sys2Proof.Machine.execCarrierAtSetPower t quad s
  | .cancellerSettled t port residual coarse fine taps analog digital dc => Sys2Proof.Machine.execCancellerSettled t port residual coarse fine taps analog digital dc s
  | .cancellerShallow t port moves readings => Sys2Proof.Machine.execCancellerShallow t port moves readings s
  | .synthesizerUnlock t quad => Sys2Proof.Machine.execSynthesizerUnlock t quad s
  | .backgroundCalibration t quad index port ok band cap => Sys2Proof.Machine.execBackgroundCalibration t quad index port ok band cap s
  | .channelMemoryWrite t => Sys2Proof.Machine.execChannelMemoryWrite t s
  | .powerLoopMeasurement t quad fwd => Sys2Proof.Machine.execPowerLoopMeasurement t quad fwd s
  | .feedForwardRefresh t bank mv => Sys2Proof.Machine.execFeedForwardRefresh t bank mv s
  | .powerShortfall t quad measured => Sys2Proof.Machine.execPowerShortfall t quad measured s
  | .tunerStep t port bank up vswr => Sys2Proof.Machine.execTunerStep t port bank up vswr s
  | .mismatchTrip t port wave => Sys2Proof.Machine.execMismatchTrip t port wave s
  | .hardShort t port gamma => Sys2Proof.Machine.execHardShort t port gamma s
  | .paSupplyOutOfWindow t bank mv => Sys2Proof.Machine.execPaSupplyOutOfWindow t bank mv s
  | .paSupplyBackInWindow t bank mv => Sys2Proof.Machine.execPaSupplyBackInWindow t bank mv s
  | .rampAbandoned t quad => Sys2Proof.Machine.execRampAbandoned t quad s
  | .temperatureSample t tempA tempB tempC => Sys2Proof.Machine.execTemperatureSample t tempA tempB tempC s
  | .portProbe t port vswr overCurrent draw => Sys2Proof.Machine.execPortProbe t port vswr overCurrent draw s
  | .dwellLimit t quad => Sys2Proof.Machine.execDwellLimit t quad s
  | .fusedCharterCheck t crc => Sys2Proof.Machine.execFusedCharterCheck t crc s
  | .cxReqRaised t => Sys2Proof.Machine.execCxReqRaised t s
  | .cxGntChange t level => Sys2Proof.Machine.execCxGntChange t level s
  | .grantWaitExpired t => Sys2Proof.Machine.execGrantWaitExpired t s
  | .foreignActivity t => Sys2Proof.Machine.execForeignActivity t s
  | .noiseSurveyDwell t quad levels => Sys2Proof.Machine.execNoiseSurveyDwell t quad levels s
  | .agcBlock t port block fwd => Sys2Proof.Machine.execAgcBlock t port block fwd s
  | .isoSelect t quad => Sys2Proof.Machine.execIsoSelect t quad s
  | .query t quad => Sys2Proof.Machine.execQuery t quad s
  | .queryadjust t quad => Sys2Proof.Machine.execQueryadjust t quad s
  | .queryrep t quad => Sys2Proof.Machine.execQueryrep t quad s
  | .isoAck t quad => Sys2Proof.Machine.execIsoAck t quad s
  | .nak t quad => Sys2Proof.Machine.execNak t quad s
  | .reqRn t quad => Sys2Proof.Machine.execReqRn t quad s
  | .isoRead t quad => Sys2Proof.Machine.execIsoRead t quad s
  | .isoWrite t quad => Sys2Proof.Machine.execIsoWrite t quad s
  | .kill t quad => Sys2Proof.Machine.execKill t quad s
  | .lock t quad => Sys2Proof.Machine.execLock t quad s
  | .access t quad => Sys2Proof.Machine.execAccess t quad s
  | .blockwrite t quad => Sys2Proof.Machine.execBlockwrite t quad s
  | .blockerase t quad => Sys2Proof.Machine.execBlockerase t quad s
  | .blockpermalock t quad => Sys2Proof.Machine.execBlockpermalock t quad s
  | .untraceable t quad => Sys2Proof.Machine.execUntraceable t quad s
  | .authenticate t quad challenge => Sys2Proof.Machine.execAuthenticate t quad challenge s
  | .hsbProbe t quad => Sys2Proof.Machine.execHsbProbe t quad s
  | .hsbLoad t quad => Sys2Proof.Machine.execHsbLoad t quad s
  | .hsbGroupack t quad => Sys2Proof.Machine.execHsbGroupack t quad s
  | .preambleDetected t quad found => Sys2Proof.Machine.execPreambleDetected t quad found s
  | .coChannelHoldLimit t quad => Sys2Proof.Machine.execCoChannelHoldLimit t quad s
  | .detectionWithdrawn t quad inPhase quadrature fwd => Sys2Proof.Machine.execDetectionWithdrawn t quad inPhase quadrature fwd s
  | .separationSettled t quad settled => Sys2Proof.Machine.execSeparationSettled t quad settled s
  | .replyDecision t quad air => Sys2Proof.Machine.execReplyDecision t quad air s
  | .receiveWindowClose t quad => Sys2Proof.Machine.execReceiveWindowClose t quad s
  | .probeAnalysisDone t quad ports fwd => Sys2Proof.Machine.execProbeAnalysisDone t quad ports fwd s
  | .ldpcCodewordDone t core quads ports fwd => Sys2Proof.Machine.execLdpcCodewordDone t core quads ports fwd s
  | .pseudonymResolved t entry first => Sys2Proof.Machine.execPseudonymResolved t entry first s
  | .authenticationChecked t entry ok custom => Sys2Proof.Machine.execAuthenticationChecked t entry ok custom s
  | .provisionalLifetimeExpired t entry => Sys2Proof.Machine.execProvisionalLifetimeExpired t entry s
  | .entryAgeOut t entry => Sys2Proof.Machine.execEntryAgeOut t entry s
  | .passStart t plan => Sys2Proof.Machine.execPassStart t plan s
  | .passLimitReached t plan => Sys2Proof.Machine.execPassLimitReached t plan s
  | .resultTaken t quad => Sys2Proof.Machine.execResultTaken t quad s
  | .fifoEntryMoved t port => Sys2Proof.Machine.execFifoEntryMoved t port s
  | .capScan t counts => Sys2Proof.Machine.execCapScan t counts s
  | .channelStuck t channel => Sys2Proof.Machine.execChannelStuck t channel s
  | .hfServiceStart t port => Sys2Proof.Machine.execHfServiceStart t port s
  | .guardTimeExpiry t port => Sys2Proof.Machine.execGuardTimeExpiry t port s
  | .reqa t port => Sys2Proof.Machine.execReqa t port s
  | .wupa t port => Sys2Proof.Machine.execWupa t port s
  | .anticollision t port => Sys2Proof.Machine.execAnticollision t port s
  | .selectTypeA t port => Sys2Proof.Machine.execSelectTypeA t port s
  | .hlta t port => Sys2Proof.Machine.execHlta t port s
  | .reqb t port => Sys2Proof.Machine.execReqb t port s
  | .wupb t port => Sys2Proof.Machine.execWupb t port s
  | .slotMarker t port => Sys2Proof.Machine.execSlotMarker t port s
  | .attrib t port => Sys2Proof.Machine.execAttrib t port s
  | .hltb t port => Sys2Proof.Machine.execHltb t port s
  | .rats t port => Sys2Proof.Machine.execRats t port s
  | .pps t port => Sys2Proof.Machine.execPps t port s
  | .iBlock t port => Sys2Proof.Machine.execIBlock t port s
  | .rAck t port => Sys2Proof.Machine.execRAck t port s
  | .rNak t port => Sys2Proof.Machine.execRNak t port s
  | .sWtx t port => Sys2Proof.Machine.execSWtx t port s
  | .sDeselect t port => Sys2Proof.Machine.execSDeselect t port s
  | .inventory t port => Sys2Proof.Machine.execInventory t port s
  | .stayQuiet t port => Sys2Proof.Machine.execStayQuiet t port s
  | .select15693 t port => Sys2Proof.Machine.execSelect15693 t port s
  | .resetToReady t port => Sys2Proof.Machine.execResetToReady t port s
  | .readSingleBlock t port => Sys2Proof.Machine.execReadSingleBlock t port s
  | .readMultipleBlocks t port => Sys2Proof.Machine.execReadMultipleBlocks t port s
  | .writeSingleBlock t port => Sys2Proof.Machine.execWriteSingleBlock t port s
  | .getSystemInformation t port => Sys2Proof.Machine.execGetSystemInformation t port s
  | .cardReply t port reply => Sys2Proof.Machine.execCardReply t port reply s
  | .cardReplyTimeout t port => Sys2Proof.Machine.execCardReplyTimeout t port s
  | .stepTimeout t port => Sys2Proof.Machine.execStepTimeout t port s
  | .hfFieldLoop t port delivered limit => Sys2Proof.Machine.execHfFieldLoop t port delivered limit s
  | .hfPortFault t port current => Sys2Proof.Machine.execHfPortFault t port current s
  | .hfPortProbe t port current => Sys2Proof.Machine.execHfPortProbe t port current s
  | .hfRequestedState t f => Sys2Proof.Machine.execHfRequestedState t f s
  | .hfReArm t f => Sys2Proof.Machine.execHfReArm t f s
  | .requestedState t f => Sys2Proof.Machine.execRequestedState t f s
  | .reArm t f => Sys2Proof.Machine.execReArm t f s
  | .invalidateChannelMemory t f => Sys2Proof.Machine.execInvalidateChannelMemory t f s
  | .forgetView t f => Sys2Proof.Machine.execForgetView t f s
  | .intervalBoundary t cls => Sys2Proof.Machine.execIntervalBoundary t cls s
  | .recordsFormed t shade => Sys2Proof.Machine.execRecordsFormed t shade s
  | .commitGroup t => Sys2Proof.Machine.execCommitGroup t s
  | .commitSupplyRetry t => Sys2Proof.Machine.execCommitSupplyRetry t s
  | .batchPieceQueued t shade => Sys2Proof.Machine.execBatchPieceQueued t shade s
  | .acknowledgeThrough t f => Sys2Proof.Machine.execAcknowledgeThrough t f s
  | .redeliverFrom t f => Sys2Proof.Machine.execRedeliverFrom t f s
  | .redeliveryInterval t shade => Sys2Proof.Machine.execRedeliveryInterval t shade s
  | .retentionExpired t shade => Sys2Proof.Machine.execRetentionExpired t shade s
  | .enrol t f => Sys2Proof.Machine.execEnrol t f s
  | .retire t f => Sys2Proof.Machine.execRetire t f s
  | .resync t f => Sys2Proof.Machine.execResync t f s
  | .resyncMarkExpired t meter => Sys2Proof.Machine.execResyncMarkExpired t meter s
  | .read t f => Sys2Proof.Machine.execRead t f s
  | .write t f => Sys2Proof.Machine.execWrite t f s
  | .readBlock t f => Sys2Proof.Machine.execReadBlock t f s
  | .txnOpen t f => Sys2Proof.Machine.execTxnOpen t f s
  | .txnStage t f => Sys2Proof.Machine.execTxnStage t f s
  | .txnCommit t f => Sys2Proof.Machine.execTxnCommit t f s
  | .txnAbort t f => Sys2Proof.Machine.execTxnAbort t f s
  | .transactionExpired t txn => Sys2Proof.Machine.execTransactionExpired t txn s
  | .storeAfterBoundaryRetry t txn => Sys2Proof.Machine.execStoreAfterBoundaryRetry t txn s
  | .subscribe t f => Sys2Proof.Machine.execSubscribe t f s
  | .event t shade => Sys2Proof.Machine.execEvent t shade s
  | .ack t f => Sys2Proof.Machine.execAck t f s
  | .redeliveryTimeExpired t shade => Sys2Proof.Machine.execRedeliveryTimeExpired t shade s
  | .helloPhase1 t f => Sys2Proof.Machine.execHelloPhase1 t f s
  | .helloPhase2 t f => Sys2Proof.Machine.execHelloPhase2 t f s
  | .claim t f => Sys2Proof.Machine.execClaim t f s
  | .reclaim t f => Sys2Proof.Machine.execReclaim t f s
  | .halfOpenTimeout t session => Sys2Proof.Machine.execHalfOpenTimeout t session s
  | .sessionIdle t session => Sys2Proof.Machine.execSessionIdle t session s
  | .sessionLifetime t session => Sys2Proof.Machine.execSessionLifetime t session s
  | .close t f => Sys2Proof.Machine.execClose t f s
  | .endSession t f => Sys2Proof.Machine.execEndSession t f s
  | .shadeOpened t f => Sys2Proof.Machine.execShadeOpened t f s
  | .rotateOwnerKey t f => Sys2Proof.Machine.execRotateOwnerKey t f s
  | .rotationSessionsEnd t shade => Sys2Proof.Machine.execRotationSessionsEnd t shade s
  | .erase t f => Sys2Proof.Machine.execErase t f s
  | .forcedErase t f => Sys2Proof.Machine.execForcedErase t f s
  | .cancelForcedErase t f => Sys2Proof.Machine.execCancelForcedErase t f s
  | .eraseDue t shade => Sys2Proof.Machine.execEraseDue t shade s
  | .trngHealthFailure t kind => Sys2Proof.Machine.execTrngHealthFailure t kind s
  | .trngRetest t ok => Sys2Proof.Machine.execTrngRetest t ok s
  | .arpRequest t target => Sys2Proof.Machine.execArpRequest t target s
  | .dhcpv4Message t kind address server mask router lease => Sys2Proof.Machine.execDhcpv4Message t kind address server mask router lease s
  | .neighbourSolicitation t target => Sys2Proof.Machine.execNeighbourSolicitation t target s
  | .routerAdvertisement t router lifetime pfx valid => Sys2Proof.Machine.execRouterAdvertisement t router lifetime pfx valid s
  | .echoRequest t target => Sys2Proof.Machine.execEchoRequest t target s
  | .addressDuplicate t family => Sys2Proof.Machine.execAddressDuplicate t family s
  | .addressRetry t family => Sys2Proof.Machine.execAddressRetry t family s
  | .dhcpLeaseExpired t => Sys2Proof.Machine.execDhcpLeaseExpired t s
  | .mdioPoll t id reg1 reg5 reg10 => Sys2Proof.Machine.execMdioPoll t id reg1 reg5 reg10 s
  | .plcaStatusChanged t => Sys2Proof.Machine.execPlcaStatusChanged t s
  | .ethernetEnable t f => Sys2Proof.Machine.execEthernetEnable t f s
  | .spireLinkEnable t f => Sys2Proof.Machine.execSpireLinkEnable t f s
  | .spireTransferEnd t edges register => Sys2Proof.Machine.execSpireTransferEnd t edges register s
  | .outboundFrameLoaded t => Sys2Proof.Machine.execOutboundFrameLoaded t s
  | .spireLinkTimeout t => Sys2Proof.Machine.execSpireLinkTimeout t s
  | .frameTransmitted t link collisions => Sys2Proof.Machine.execFrameTransmitted t link collisions s
  | .compareFire t timer channel => Sys2Proof.Machine.execCompareFire t timer channel s
  | .capture t timer channel rising => Sys2Proof.Machine.execCapture t timer channel rising s
  | .compareArm t f => Sys2Proof.Machine.execCompareArm t f s
  | .triggerArm t f => Sys2Proof.Machine.execTriggerArm t f s
  | .forceOutput t f => Sys2Proof.Machine.execForceOutput t f s
  | .prescaler t timer => Sys2Proof.Machine.execPrescaler t timer s
  | .timerReleased t timer => Sys2Proof.Machine.execTimerReleased t timer s
  | .timerEventsSuppressed t timer channel => Sys2Proof.Machine.execTimerEventsSuppressed t timer channel s
  | .rtcSecond t => Sys2Proof.Machine.execRtcSecond t s
  | .secondsRead t f => Sys2Proof.Machine.execSecondsRead t f s
  | .centuryRead t f => Sys2Proof.Machine.execCenturyRead t f s
  | .freezeExpired t session => Sys2Proof.Machine.execFreezeExpired t session s
  | .stagedTimeWrite t f => Sys2Proof.Machine.execStagedTimeWrite t f s
  | .stagedTimeDiscarded t session => Sys2Proof.Machine.execStagedTimeDiscarded t session s
  | .timeCommit t f => Sys2Proof.Machine.execTimeCommit t f s
  | .oscillatorStopped t => Sys2Proof.Machine.execOscillatorStopped t s
  | .oscillatorRestart t => Sys2Proof.Machine.execOscillatorRestart t s
  | .trimPeriodEnd t => Sys2Proof.Machine.execTrimPeriodEnd t s
  | .crystalMeasurement t ticks => Sys2Proof.Machine.execCrystalMeasurement t ticks s
  | .vbakMeasurement t mv => Sys2Proof.Machine.execVbakMeasurement t mv s
  | .powerOffRequest t f => Sys2Proof.Machine.execPowerOffRequest t f s
  | .powerOffByPwrOn t => Sys2Proof.Machine.execPowerOffByPwrOn t s
  | .writeLock t => Sys2Proof.Machine.execWriteLock t s
  | .writeLockRelease t => Sys2Proof.Machine.execWriteLockRelease t s
  | .switchOverToVbak t => Sys2Proof.Machine.execSwitchOverToVbak t s
  | .returnToVsys t => Sys2Proof.Machine.execReturnToVsys t s
  | .backupDomainSupplyReturn t vbak => Sys2Proof.Machine.execBackupDomainSupplyReturn t vbak s
  | .store t partition page content => Sys2Proof.Machine.execStore t partition page content s
  | .correctedWord t page => Sys2Proof.Machine.execCorrectedWord t page s
  | .uncorrectablePage t page => Sys2Proof.Machine.execUncorrectablePage t page s
  | .mramScrub t page => Sys2Proof.Machine.execMramScrub t page s
  | .begin t f => Sys2Proof.Machine.execBegin t f s
  | .data t f => Sys2Proof.Machine.execData t f s
  | .verify t f => Sys2Proof.Machine.execVerify t f s
  | .activateTrial t f => Sys2Proof.Machine.execActivateTrial t f s
  | .activationColdStart t => Sys2Proof.Machine.execActivationColdStart t s
  | .activateConfirm t f => Sys2Proof.Machine.execActivateConfirm t f s
  | .trialTimeExpired t => Sys2Proof.Machine.execTrialTimeExpired t s
  | .compute t f => Sys2Proof.Machine.execCompute t f s
  | .start t f => Sys2Proof.Machine.execStart t f s
  | .abort t f => Sys2Proof.Machine.execAbort t f s
  | .scanComplete t session error => Sys2Proof.Machine.execScanComplete t session error s
  | .coldBistPhase2Done t failed duration => Sys2Proof.Machine.execColdBistPhase2Done t failed duration s
  | .startSweep t f => Sys2Proof.Machine.execStartSweep t f s
  | .sweepDue t => Sys2Proof.Machine.execSweepDue t s
  | .memorySlice t failures saveError => Sys2Proof.Machine.execMemorySlice t failures saveError s
  | .logicSlice t quad ok => Sys2Proof.Machine.execLogicSlice t quad ok s
  | .sweepLate t => Sys2Proof.Machine.execSweepLate t s
  | .correctedMemoryError t memory addr bit => Sys2Proof.Machine.execCorrectedMemoryError t memory addr bit s
  | .uncorrectableMemoryFault t memory addr => Sys2Proof.Machine.execUncorrectableMemoryFault t memory addr s
  | .repairTableRetry t => Sys2Proof.Machine.execRepairTableRetry t s
  | .safeNLow t => Sys2Proof.Machine.execSafeNLow t s
  | .safeNCleared t => Sys2Proof.Machine.execSafeNCleared t s
  | .clear t f => Sys2Proof.Machine.execClear t f s
  | .freeze t f => Sys2Proof.Machine.execFreeze t f s
  | .release t f => Sys2Proof.Machine.execRelease t f s
  | .snapshot t f => Sys2Proof.Machine.execSnapshot t f s
  | .countersClear t f => Sys2Proof.Machine.execCountersClear t f s
  | .lanternTimeRecord t => Sys2Proof.Machine.execLanternTimeRecord t s
  | .vsysHeld t mv => Sys2Proof.Machine.execVsysHeld t mv s
  | .railInRegulation t => Sys2Proof.Machine.execRailInRegulation t s
  | .railTimeout t mv => Sys2Proof.Machine.execRailTimeout t mv s
  | .internalRelease t => Sys2Proof.Machine.execInternalRelease t s
  | .resetRelease t phase1 duration straps vbak torn lost => Sys2Proof.Machine.execResetRelease t phase1 duration straps vbak torn lost s
  | .dictionaryReachable t => Sys2Proof.Machine.execDictionaryReachable t s
  | .rfReady t => Sys2Proof.Machine.execRfReady t s
  | .vsysFall t mv => Sys2Proof.Machine.execVsysFall t mv s
  | .powerDownStep t => Sys2Proof.Machine.execPowerDownStep t s
  | .railCollapse t rail mv => Sys2Proof.Machine.execRailCollapse t rail mv s
  | .minimumOffTime t => Sys2Proof.Machine.execMinimumOffTime t s
  | .resetNLow t => Sys2Proof.Machine.execResetNLow t s
  | .resetNRise t => Sys2Proof.Machine.execResetNRise t s
  | .refclkLost t => Sys2Proof.Machine.execRefclkLost t s
  | .refclkReturned t => Sys2Proof.Machine.execRefclkReturned t s
  | .supervisorTimeout t => Sys2Proof.Machine.execSupervisorTimeout t s
  | .hardThermalLimit t sensor temp => Sys2Proof.Machine.execHardThermalLimit t sensor temp s
  | .thermalOffReading t tempA tempB tempC die => Sys2Proof.Machine.execThermalOffReading t tempA tempB tempC die s
  | .vpaOutOfWindow t mvA mvB mvC => Sys2Proof.Machine.execVpaOutOfWindow t mvA mvB mvC s
  | .enterFullOperation t f => Sys2Proof.Machine.execEnterFullOperation t f s
  | .enterStandby t f => Sys2Proof.Machine.execEnterStandby t f s
  | .enterDeepStandby t f => Sys2Proof.Machine.execEnterDeepStandby t f s
  | .wake t source channel hfReady => Sys2Proof.Machine.execWake t source channel hfReady s
  | .spreadOffFor t f => Sys2Proof.Machine.execSpreadOffFor t f s
  | .spreadRestored t => Sys2Proof.Machine.execSpreadRestored t s
  | .receiveWindowOpen t opening => Sys2Proof.Machine.execReceiveWindowOpen t opening s
  | .rampDownComplete t quad => Sys2Proof.Machine.execRampDownComplete t quad s
  | .cxActFalls t => Sys2Proof.Machine.execCxActFalls t s
  | .mainsSenseEdgeRejected t => Sys2Proof.Machine.execMainsSenseEdgeRejected t s
  | .pseudonymWindowComputed t meter => Sys2Proof.Machine.execPseudonymWindowComputed t meter s
  | .resyncSetComputed t meter => Sys2Proof.Machine.execResyncSetComputed t meter s
  | .backupDomainSupplyLost t => Sys2Proof.Machine.execBackupDomainSupplyLost t s
  | .supplyReturnDuringShutdown t => Sys2Proof.Machine.execSupplyReturnDuringShutdown t s
  | .reServeIntervalExpired t port => Sys2Proof.Machine.execReServeIntervalExpired t port s
  | .oapFrameDiscarded t f => Sys2Proof.Machine.execOapFrameDiscarded t f s
  | .ethernetFrameDiscarded t why => Sys2Proof.Machine.execEthernetFrameDiscarded t why s
  | .addressAcquired t family => Sys2Proof.Machine.execAddressAcquired t family s
  | .claimLockExpired t => Sys2Proof.Machine.execClaimLockExpired t s
  | .plcaBeaconReceived t => Sys2Proof.Machine.execPlcaBeaconReceived t s
  | .vsysMeasurement t mv slope => Sys2Proof.Machine.execVsysMeasurement t mv slope s
  | .charterWrittenByStation t charter => Sys2Proof.Machine.execCharterWrittenByStation t charter s

end Sys2Proof.Machine
end

