-- ==== Sys2Proof/WellFormed.lean ====
section
/-! DEFINITION. What a command's operands can be: the ranges that the spec's units, numbers and fields have. The
meanings are total and do not look at this; a statement that needs a port, quad or shade to exist takes it as a premise. -/

namespace Sys2Proof

/-- An IPv4 or an IPv6 address (R451). -/
def isAddress (b : List Byte) : Bool := decide (b.length = 4) || decide (b.length = 16)

/-- A value of an INT16 object (Table 1 of chapter 12). -/
def isI16 (v : Int) : Bool := decide (-32768 ≤ v) && decide (v < 32768)

/-- An address of a host link: none on the Spire link, 4 bytes for IPv4, 16 for IPv6. -/
def Addr.wellFormed (a : Addr) : Bool :=
  (decide (a.family = 0) && decide (a.bytes.length = 0)) || (decide (a.family = 4) && decide (a.bytes.length = 4)) ||
    (decide (a.family = 6) && decide (a.bytes.length = 16))

/-- The header fields of an OAP frame fit their places (Table 1 of chapter 13), and the payload as its length field; R409 refuses
one of over 1,400 bytes (R441). -/
def Frame.wellFormed (f : Frame) : Bool :=
  (decide (f.link = 1) || decide (f.link = 2)) && f.src.wellFormed && decide (f.version < 256) && decide (f.shade < 256) &&
    decide (f.flags < 256) && decide (f.op < 256) && decide (f.session < 2 ^ 32) && decide (f.seq < 2 ^ 32) &&
    decide (f.payload.length < 65536)

/-- A sample of the 14-bit converter (Table 1 of chapter 4). -/
def isSample (x : Cx) : Bool :=
  decide (-8192 ≤ x.re) && decide (x.re < 8192) && decide (-8192 ≤ x.im) && decide (x.im < 8192)

/-- Samples of the four ports of a quad. -/
def arePorts (l : List (List Cx)) : Bool := decide (l.length = 4) && l.all (fun x => x.all isSample)

/-- The values of I, or of Q, of the four ports of a quad. -/
def areRails (l : List (List Int)) : Bool := decide (l.length = 4) && l.all (fun x => x.all (fun v => decide (-8192 ≤ v) && decide (v < 8192)))

/-- Samples of the four ports of a quad and of the forward reference. -/
def Air.wellFormed (a : Air) : Bool := arePorts a.ports && a.fwd.all isSample

/-- At most nine hypotheses, each with a correlation of every port (R162). -/
def Detection.wellFormed (d : Detection) : Bool :=
  decide (d.hyps.length ≤ 9) && d.hyps.all (fun h => decide (h.corr.length = 4)) && decide (d.noise.length = 4) && decide (d.heard < 2 ^ 32)

/-- At most 256 samples of each port (R159). -/
def Opening.wellFormed (o : Opening) : Bool :=
  decide (o.quad < 12) && arePorts o.pre && o.pre.all (fun l => decide (l.length ≤ 256))

/-- At most three streams are separated (R172). -/
def Settled.wellFormed (s : Settled) : Bool :=
  s.air.wellFormed && decide (s.est.length ≤ 3) && s.est.all (fun e => decide (e.signature.length = 4))

/-- A coupler's reading fits its objects (Table 7 of chapter 3). -/
def Wave.wellFormed (w : Wave) : Bool := decide (w.vswr < 65536) && isI16 w.fwd

/-- The taps of a canceller fit their fields (Table 4 of chapter 4). -/
def CancMove.wellFormed (m : CancMove) : Bool := decide (m.taps.length = 4) && m.taps.all isI16

/-- The residual and depths of a canceller fit their objects (Table 7 of chapter 4). -/
def CancReading.wellFormed (r : CancReading) : Bool := isI16 r.residual && decide (r.analog < 65536) && decide (r.digital < 65536)

/-- A card's reply has at most 256 bytes (R312). -/
def CardReply.wellFormed (r : CardReply) : Bool := decide (r.data.length ≤ 256)

/-- A fused charter: its rule numbers, and bands whose edges are in order (Table 12 of chapter 3). -/
def Charter.wellFormed (c : Charter) : Bool :=
  decide (c.uhfRule < 256) && decide (c.hfRule < 256) && c.bands.all (fun b => decide (b.low ≤ b.high)) &&
    decide (c.check < 2 ^ 32)

/-- Whether a command's operands are of the ranges that the spec gives them. -/
def Instr.wellFormed (i : Instr) : Bool :=
  match i with
  | .slotBoundary _ pings => decide (pings.length ≤ 8) && pings.all (fun p => decide (p < 65536))
  | .windowEnd _ => true
  | .mainsEdgeCapture _ incF _ => decide (incF < 2 ^ 32)
  | .mainsLost _ => true
  | .calSyncPulseReceived _ width incF _ => decide (width < 2 ^ 32) && decide (incF < 2 ^ 32)
  | .calSyncLost _ => true
  | .calSyncConflict _ width => decide (width < 2 ^ 32)
  | .synthesizerHop _ quad _ _ band cap => decide (quad < 12) && decide (band < 64) && decide (cap < 1024)
  | .rampStart _ quad => decide (quad < 12)
  | .carrierAtSetPower _ quad => decide (quad < 12)
  | .cancellerSettled _ port residual coarse fine taps analog digital dc => decide (port < 48) && residual.all isI16 && decide (coarse.length = residual.length) && decide (fine.length = residual.length) && decide (taps.length = residual.length) && taps.all (fun l => decide (l.length = 4) && l.all isI16) && decide (analog.length = residual.length) && analog.all (fun n => decide (n < 65536)) && decide (digital.length = residual.length) && digital.all (fun n => decide (n < 65536)) && decide (dc.length = residual.length)
  | .cancellerShallow _ port moves readings => decide (port < 48) && moves.all CancMove.wellFormed && decide (readings.length = moves.length) && readings.all CancReading.wellFormed
  | .synthesizerUnlock _ quad => decide (quad < 12)
  | .backgroundCalibration _ quad index port _ band cap => decide (quad < 12) && decide (index < 64) && decide (port < 48) && decide (band < 64) && decide (cap < 1024)
  | .channelMemoryWrite _ => true
  | .powerLoopMeasurement _ quad fwd => decide (quad < 12) && isI16 fwd
  | .feedForwardRefresh _ bank mv => decide (bank < 3) && decide (mv < 65536)
  | .powerShortfall _ quad measured => decide (quad < 12) && isI16 measured
  | .tunerStep _ port bank _ vswr => decide (port < 48) && decide (1 ≤ bank) && decide (bank ≤ 3) && decide (vswr < 65536)
  | .mismatchTrip _ port wave => decide (port < 48) && wave.wellFormed
  | .hardShort _ port gamma => decide (port < 48) && gamma.all (fun g => decide (g < 65536))
  | .paSupplyOutOfWindow _ bank mv => decide (bank < 3) && decide (mv < 65536)
  | .paSupplyBackInWindow _ bank mv => decide (bank < 3) && decide (mv < 65536)
  | .rampAbandoned _ quad => decide (quad < 12)
  | .temperatureSample _ tempA tempB tempC => isI16 tempA && isI16 tempB && isI16 tempC
  | .portProbe _ port vswr _ _ => decide (port < 48) && decide (vswr < 65536)
  | .dwellLimit _ quad => decide (quad < 12)
  | .fusedCharterCheck _ crc => decide (crc < 2 ^ 32)
  | .cxReqRaised _ => true
  | .cxGntChange _ _ => true
  | .grantWaitExpired _ => true
  | .foreignActivity _ => true
  | .noiseSurveyDwell _ quad levels => decide (quad < 12) && decide (levels.length = 4) && levels.all isI16
  | .agcBlock _ port block fwd => decide (port < 48) && decide (block.length = 8) && block.all isSample && fwd.all isSample
  | .isoSelect _ quad => decide (quad < 12)
  | .query _ quad => decide (quad < 12)
  | .queryadjust _ quad => decide (quad < 12)
  | .queryrep _ quad => decide (quad < 12)
  | .isoAck _ quad => decide (quad < 12)
  | .nak _ quad => decide (quad < 12)
  | .reqRn _ quad => decide (quad < 12)
  | .isoRead _ quad => decide (quad < 12)
  | .isoWrite _ quad => decide (quad < 12)
  | .kill _ quad => decide (quad < 12)
  | .lock _ quad => decide (quad < 12)
  | .access _ quad => decide (quad < 12)
  | .blockwrite _ quad => decide (quad < 12)
  | .blockerase _ quad => decide (quad < 12)
  | .blockpermalock _ quad => decide (quad < 12)
  | .untraceable _ quad => decide (quad < 12)
  | .authenticate _ quad challenge => decide (quad < 12) && decide (challenge.length = 10)
  | .hsbProbe _ quad => decide (quad < 12)
  | .hsbLoad _ quad => decide (quad < 12)
  | .hsbGroupack _ quad => decide (quad < 12)
  | .preambleDetected _ quad found => decide (quad < 12) && found.wellFormed
  | .coChannelHoldLimit _ quad => decide (quad < 12)
  | .detectionWithdrawn _ quad inPhase quadrature fwd => decide (quad < 12) && areRails inPhase && areRails quadrature && fwd.all isSample
  | .separationSettled _ quad settled => decide (quad < 12) && settled.wellFormed
  | .replyDecision _ quad air => decide (quad < 12) && air.wellFormed
  | .receiveWindowClose _ quad => decide (quad < 12)
  | .probeAnalysisDone _ quad ports fwd => decide (quad < 12) && arePorts ports && fwd.all isSample
  | .ldpcCodewordDone _ core quads ports fwd => decide (core < 4) && quads.all (fun q => decide (q < 12)) && decide (ports.length = quads.length) && ports.all arePorts && decide (fwd.length = quads.length) && fwd.all (fun l => l.all isSample)
  | .pseudonymResolved _ entry first => decide (entry < 16384) && decide (first < 4096)
  | .authenticationChecked _ entry _ _ => decide (entry < 16384)
  | .provisionalLifetimeExpired _ entry => decide (entry < 16384)
  | .entryAgeOut _ entry => decide (entry < 16384)
  | .passStart _ plan => decide (plan < 64)
  | .passLimitReached _ plan => decide (plan < 64)
  | .resultTaken _ quad => decide (quad < 12)
  | .fifoEntryMoved _ port => decide (port < 48)
  | .capScan _ counts => decide (counts.length = 8) && counts.all (fun x => decide (x < 65536))
  | .channelStuck _ channel => decide (channel < 8)
  | .hfServiceStart _ port => decide (port < 8)
  | .guardTimeExpiry _ port => decide (port < 8)
  | .reqa _ port => decide (port < 8)
  | .wupa _ port => decide (port < 8)
  | .anticollision _ port => decide (port < 8)
  | .selectTypeA _ port => decide (port < 8)
  | .hlta _ port => decide (port < 8)
  | .reqb _ port => decide (port < 8)
  | .wupb _ port => decide (port < 8)
  | .slotMarker _ port => decide (port < 8)
  | .attrib _ port => decide (port < 8)
  | .hltb _ port => decide (port < 8)
  | .rats _ port => decide (port < 8)
  | .pps _ port => decide (port < 8)
  | .iBlock _ port => decide (port < 8)
  | .rAck _ port => decide (port < 8)
  | .rNak _ port => decide (port < 8)
  | .sWtx _ port => decide (port < 8)
  | .sDeselect _ port => decide (port < 8)
  | .inventory _ port => decide (port < 8)
  | .stayQuiet _ port => decide (port < 8)
  | .select15693 _ port => decide (port < 8)
  | .resetToReady _ port => decide (port < 8)
  | .readSingleBlock _ port => decide (port < 8)
  | .readMultipleBlocks _ port => decide (port < 8)
  | .writeSingleBlock _ port => decide (port < 8)
  | .getSystemInformation _ port => decide (port < 8)
  | .cardReply _ port reply => decide (port < 8) && reply.wellFormed
  | .cardReplyTimeout _ port => decide (port < 8)
  | .stepTimeout _ port => decide (port < 8)
  | .hfFieldLoop _ port delivered limit => decide (port < 8) && decide (delivered < 65536) && decide (limit < 65536)
  | .hfPortFault _ port current => decide (port < 8) && decide (current.value < 65536)
  | .hfPortProbe _ port current => decide (port < 8) && decide (current < 65536)
  | .hfRequestedState _ f => f.wellFormed
  | .hfReArm _ f => f.wellFormed
  | .requestedState _ f => f.wellFormed
  | .reArm _ f => f.wellFormed
  | .invalidateChannelMemory _ f => f.wellFormed
  | .forgetView _ f => f.wellFormed
  | .intervalBoundary _ cls => decide (cls < 32)
  | .recordsFormed _ shade => decide (shade < 8)
  | .commitGroup _ => true
  | .commitSupplyRetry _ => true
  | .batchPieceQueued _ shade => decide (shade < 8)
  | .acknowledgeThrough _ f => f.wellFormed
  | .redeliverFrom _ f => f.wellFormed
  | .redeliveryInterval _ shade => decide (shade < 8)
  | .retentionExpired _ shade => decide (shade < 8)
  | .enrol _ f => f.wellFormed
  | .retire _ f => f.wellFormed
  | .resync _ f => f.wellFormed
  | .resyncMarkExpired _ meter => decide (meter < 4096)
  | .read _ f => f.wellFormed
  | .write _ f => f.wellFormed
  | .readBlock _ f => f.wellFormed
  | .txnOpen _ f => f.wellFormed
  | .txnStage _ f => f.wellFormed
  | .txnCommit _ f => f.wellFormed
  | .txnAbort _ f => f.wellFormed
  | .transactionExpired _ txn => decide (txn < 2 ^ 32)
  | .storeAfterBoundaryRetry _ txn => decide (txn < 2 ^ 32)
  | .subscribe _ f => f.wellFormed
  | .event _ shade => decide (shade < 8)
  | .ack _ f => f.wellFormed
  | .redeliveryTimeExpired _ shade => decide (shade < 8)
  | .helloPhase1 _ f => f.wellFormed
  | .helloPhase2 _ f => f.wellFormed
  | .claim _ f => f.wellFormed
  | .reclaim _ f => f.wellFormed
  | .halfOpenTimeout _ session => decide (session < 2 ^ 32)
  | .sessionIdle _ session => decide (session < 2 ^ 32)
  | .sessionLifetime _ session => decide (session < 2 ^ 32)
  | .close _ f => f.wellFormed
  | .endSession _ f => f.wellFormed
  | .shadeOpened _ f => f.wellFormed
  | .rotateOwnerKey _ f => f.wellFormed
  | .rotationSessionsEnd _ shade => decide (shade < 8)
  | .erase _ f => f.wellFormed
  | .forcedErase _ f => f.wellFormed
  | .cancelForcedErase _ f => f.wellFormed
  | .eraseDue _ shade => decide (shade < 8)
  | .trngHealthFailure _ kind => decide (1 ≤ kind) && decide (kind ≤ 3)
  | .trngRetest _ _ => true
  | .arpRequest _ target => decide (target.length = 4)
  | .dhcpv4Message _ kind address server mask router lease => decide (1 ≤ kind) && decide (kind ≤ 8) && decide (address.length = 4) && decide (server.length = 4) && decide (mask.length = 4) && decide (router.length = 4) && decide (lease < 2 ^ 32)
  | .neighbourSolicitation _ target => decide (target.length = 16)
  | .routerAdvertisement _ router lifetime pfx valid => decide (router.length = 16) && decide (lifetime < 65536) && (decide (pfx.length = 0) || decide (pfx.length = 8)) && decide (valid < 2 ^ 32)
  | .echoRequest _ target => isAddress target
  | .addressDuplicate _ family => (decide (family = 4) || decide (family = 6))
  | .addressRetry _ family => (decide (family = 4) || decide (family = 6))
  | .dhcpLeaseExpired _ => true
  | .mdioPoll _ id reg1 reg5 reg10 => decide (id < 2 ^ 32) && decide (reg1 < 65536) && decide (reg5 < 65536) && decide (reg10 < 65536)
  | .plcaStatusChanged _ => true
  | .ethernetEnable _ f => f.wellFormed
  | .spireLinkEnable _ f => f.wellFormed
  | .spireTransferEnd _ edges register => decide (edges < 65536) && decide (register.length = 68)
  | .outboundFrameLoaded _ => true
  | .spireLinkTimeout _ => true
  | .frameTransmitted _ link collisions => decide (1 ≤ link) && decide (link ≤ 2) && decide (collisions < 2 ^ 32)
  | .compareFire _ timer channel => decide (timer < 16) && decide (channel < 2)
  | .capture _ timer channel _ => decide (timer < 16) && decide (channel < 2)
  | .compareArm _ f => f.wellFormed
  | .triggerArm _ f => f.wellFormed
  | .forceOutput _ f => f.wellFormed
  | .prescaler _ timer => decide (timer < 16)
  | .timerReleased _ timer => decide (timer < 16)
  | .timerEventsSuppressed _ timer channel => decide (timer < 16) && decide (channel < 2)
  | .rtcSecond _ => true
  | .secondsRead _ f => f.wellFormed
  | .centuryRead _ f => f.wellFormed
  | .freezeExpired _ session => decide (session < 2 ^ 32)
  | .stagedTimeWrite _ f => f.wellFormed
  | .stagedTimeDiscarded _ session => decide (session < 2 ^ 32)
  | .timeCommit _ f => f.wellFormed
  | .oscillatorStopped _ => true
  | .oscillatorRestart _ => true
  | .trimPeriodEnd _ => true
  | .crystalMeasurement _ ticks => decide (ticks < 2 ^ 32)
  | .vbakMeasurement _ mv => decide (mv < 65536)
  | .powerOffRequest _ f => f.wellFormed
  | .powerOffByPwrOn _ => true
  | .writeLock _ => true
  | .writeLockRelease _ => true
  | .switchOverToVbak _ => true
  | .returnToVsys _ => true
  | .backupDomainSupplyReturn _ vbak => decide (vbak < 65536)
  | .store _ partition page content => decide (partition < 8) && decide (page < 8192) && decide (content.length ≤ 4064)
  | .correctedWord _ page => decide (page < 8192)
  | .uncorrectablePage _ page => decide (page < 8192)
  | .mramScrub _ page => decide (page < 8192)
  | .begin _ f => f.wellFormed
  | .data _ f => f.wellFormed
  | .verify _ f => f.wellFormed
  | .activateTrial _ f => f.wellFormed
  | .activationColdStart _ => true
  | .activateConfirm _ f => f.wellFormed
  | .trialTimeExpired _ => true
  | .compute _ f => f.wellFormed
  | .start _ f => f.wellFormed
  | .abort _ f => f.wellFormed
  | .scanComplete _ session _ => decide (session < 2 ^ 32)
  | .coldBistPhase2Done _ failed duration => decide (failed < 256) && decide (duration < 65536)
  | .startSweep _ f => f.wellFormed
  | .sweepDue _ => true
  | .memorySlice _ failures _ => failures.all (fun x => decide (x.2.1 < 72))
  | .logicSlice _ quad _ => decide (quad < 12)
  | .sweepLate _ => true
  | .correctedMemoryError _ memory addr bit => decide (memory < 4) && decide (addr < 2 ^ 32) && decide (bit < 72)
  | .uncorrectableMemoryFault _ memory addr => decide (memory < 4) && decide (addr < 2 ^ 32)
  | .repairTableRetry _ => true
  | .safeNLow _ => true
  | .safeNCleared _ => true
  | .clear _ f => f.wellFormed
  | .freeze _ f => f.wellFormed
  | .release _ f => f.wellFormed
  | .snapshot _ f => f.wellFormed
  | .countersClear _ f => f.wellFormed
  | .lanternTimeRecord _ => true
  | .vsysHeld _ mv => decide (mv < 65536)
  | .railInRegulation _ => true
  | .railTimeout _ mv => decide (mv < 65536)
  | .internalRelease _ => true
  | .resetRelease _ phase1 duration straps vbak torn lost => decide (phase1 < 65536) && decide (duration < 65536) && decide (straps < 16) && decide (vbak < 65536) && torn.all (fun x => decide (x.1 < 8)) && lost.all (fun x => decide (x.1 < 8))
  | .dictionaryReachable _ => true
  | .rfReady _ => true
  | .vsysFall _ mv => decide (mv < 65536)
  | .powerDownStep _ => true
  | .railCollapse _ rail mv => decide (1 ≤ rail) && decide (rail ≤ 4) && decide (mv < 65536)
  | .minimumOffTime _ => true
  | .resetNLow _ => true
  | .resetNRise _ => true
  | .refclkLost _ => true
  | .refclkReturned _ => true
  | .supervisorTimeout _ => true
  | .hardThermalLimit _ sensor temp => decide (sensor < 4) && isI16 temp
  | .thermalOffReading _ tempA tempB tempC die => isI16 tempA && isI16 tempB && isI16 tempC && isI16 die
  | .vpaOutOfWindow _ mvA mvB mvC => decide (mvA < 65536) && decide (mvB < 65536) && decide (mvC < 65536)
  | .enterFullOperation _ f => f.wellFormed
  | .enterStandby _ f => f.wellFormed
  | .enterDeepStandby _ f => f.wellFormed
  | .wake _ source channel hfReady => decide (1 ≤ source) && decide (source ≤ 5) && decide (channel < 8) && decide (hfReady < 65536)
  | .spreadOffFor _ f => f.wellFormed
  | .spreadRestored _ => true
  | .receiveWindowOpen _ opening => opening.wellFormed
  | .rampDownComplete _ quad => decide (quad < 12)
  | .cxActFalls _ => true
  | .mainsSenseEdgeRejected _ => true
  | .pseudonymWindowComputed _ meter => decide (meter < 4096)
  | .resyncSetComputed _ meter => decide (meter < 4096)
  | .backupDomainSupplyLost _ => true
  | .supplyReturnDuringShutdown _ => true
  | .reServeIntervalExpired _ port => decide (port < 8)
  | .oapFrameDiscarded _ f => f.wellFormed
  | .ethernetFrameDiscarded _ why => decide (why < 6)
  | .addressAcquired _ family => (decide (family = 4) || decide (family = 6))
  | .claimLockExpired _ => true
  | .plcaBeaconReceived _ => true
  | .vsysMeasurement _ mv slope => decide (mv < 65536) && isI16 slope
  | .charterWrittenByStation _ charter => charter.wellFormed

end Sys2Proof
end

