-- ==== Sys2Proof/Safety.lean ====
section
/-! DEFINITION. The terms that statements use: the shape every reachable state keeps, what a command leaves alone, and
what it means that no energy leaves the module. -/

namespace Sys2Proof.Machine

/-! ### The shape of a state -/

/-- Every table has the number of entries the spec gives it: 3 banks, 12 quads, 48 ports, 8 HF ports with 2
transmitters, 8 shades, 64 plans, 16 timers, 8 capacitive channels, 32 meter classes, 128 counters and 256 black box
slots. -/
structure State.Tables (s : State) : Prop where
  banks : s.banks.length = 3
  quads : s.quads.length = 12
  ports : s.ports.length = 48
  hfPorts : s.hfPorts.length = 8
  hfTx : s.hfTx.length = 2
  shades : s.shades.length = 8
  txnStats : s.txnStats.length = 8
  plans : s.plans.length = 64
  timers : s.timers.length = 16
  caps : s.caps.length = 8
  classes : s.classes.length = 32
  journals : s.journals.length = 8
  counters : s.counters.length = 128
  slots : s.box.slots.length = 256

/-- The invariant of the model: its tables have their sizes, the dictionary lists each object once and in order, and
MRAM is in its canonical form. -/
structure State.Inv (s : State) : Prop where
  tables : s.Tables
  dict : NMap.wf s.dict = true
  bootDict : NMap.wf s.bootDict = true
  mram : Memory.wf s.store.mram = true

/-! ### Energy -/

/-- No quad has its carrier on, rising or held (Table 2 of chapter 3). -/
def State.dark (s : State) : Prop := ∀ q, q < 12 → s.carrierOn q = false

/-- No HF port has a service, so no HF field is on (R303). -/
def State.fieldless (s : State) : Prop := ∀ h, h < 8 → (tget s.hfPorts h hfPortAtReset).service = none

/-! ### What a command leaves alone -/

/-- The parts of the state that commands of one kind work on, beside the objects of the dictionary. -/
inductive Area where
  /-- Banks, quads, ports, rounds, coexistence, the HSB and LDPC pools, the challenges sent. -/
  | radio
  /-- The accumulator, its lock and CAL_SYNC. -/
  | belfry
  /-- HF ports, their transmitters and the capacitive channels. -/
  | hf
  /-- The tag table and the plans that run. -/
  | tags
  /-- Meters, classes, journals and commit groups. -/
  | metering
  /-- Timers and the levels of the GPIO inputs. -/
  | timers
  /-- The real-time clock and the backup domain. -/
  | clock
  /-- MRAM, configuration copies and firmware slots, with the values that wait for a boot, those held back to the next slot boundary and the
  change counts. -/
  | store
  /-- Rails, reset, operating mode, safe state, the sweep and the events of the boot. -/
  | power
  /-- The pins. -/
  | pins
  /-- Ethernet, the Spire link, the transmit queue, the turns of the drain order and the requests that wait for an answer. -/
  | links
  /-- Sessions and transactions. -/
  | sessions
  /-- Shades: their keys, queues and subscriptions, and the Dome's own keys, sealed store and random source. -/
  | shades
  /-- The values drawn. -/
  | values
  /-- The fuses. -/
  | fuses
  deriving DecidableEq, Repr

/-- A shade without its queue: what raising an event may change, the counts of what did not enter it, and the credits. -/
def Shade.sansQueue (x : Shade) : Shade :=
  { x with items := [], credits := 0, wasFull := false, overrun := false, dropFlags := 0, dropped := 0, firstDrop := 0, filtered := 0, pieces := 0 }

/-- The state without the objects of the dictionary and without what the passing of time and the raising of an event may
write: the instant, the accumulator's phase, Lantern, the black box, the counters, the notes of rate limits, the shade
queues and their credits with the lines of shared SRAM, and a scan's note that its range changed. -/
def State.bare (s : State) : State :=
  { s with
    now := 0
    belfry := { s.belfry with phase := 0, tick := 0 }
    lantern := { fifo := [], sentTick := 0, dropped := 0, lastTime := s.lantern.lastTime }
    box := boxAtReset
    counters := []
    delivered := []
    shades := s.shades.map Shade.sansQueue
    lines := [], heldLines := [], freeLines := [], nextLine := 0
    sessions := s.sessions.map (fun x => { x with scan := { x.scan with changed := false } })
    dict := [] }

/-- The state with one area blanked. -/
def State.without (s : State) : Area → State
  | .radio => { s with banks := [], quads := [], ports := [], rounds := [], coex := { reqTick := 0, waiting := false },
                       hsbErrors := [], ldpc := [], ldpcQueue := [], ldpcCores := [], challenges := [] }
  | .belfry => { s with belfry := belfryAtReset }
  | .hf => { s with hfPorts := [], hfTx := [], caps := [] }
  | .tags => { s with tags := [], plans := [] }
  | .metering => { s with meters := [], savedMeters := [], olderMeters := [], newerControl := 0, classes := [], journals := [], groups := [], unregistered := [], unresolved := [] }
  | .timers => { s with timers := [] }
  | .clock => { s with rtc := rtcAtReset }
  | .store => { s with store := storeAtReset, bootDict := [], changes := [], heldBack := [], dwellLowered := false }
  | .pins => { s with pins := pinsAtReset }
  | .power => { s with power := powerAtReset, safe := { entryCause := 0, leaving := false },
                       sweep := sweepAtReset, bootEvents := [] }
  | .links => { s with eth := ethAtReset, spire := spireAtReset, txq := [], waitingReplies := [], unknownErrors := [], served := [] }
  | .sessions => { s with sessions := [], txns := [], lateStores := [], txnStats := [], nextTxn := 0, nextOrder := 0, quietDue := [] }
  | .shades => { s with shades := [], bootNonce := [], moduleKey := [], trngKind := 0, trngTick := 0, sealed := [] }
  | .values => { s with freeCount := 0 }
  | .fuses => { s with fuses := { ordering := 0, charterState := 0, charter := charterG1, written := none } }

/-- The state outside some areas: what `State.bare` keeps, without them. -/
def State.outside (s : State) (areas : List Area) : State := areas.foldl State.without s.bare

/-- An object that raising an event or the passing of time may write: Lantern's counts of records sent and dropped, the
Dome's count of lines withdrawn, and the counts and peaks of the shade queues. -/
def logObject (k : Nat) : Bool :=
  decide (k = key 0x1730 4) || decide (k = key 0x1730 5) || decide (k = key 0x1300 11) || decide (key 0x5010 0 ≤ k)

/-- Two states hold the same value of every object but those whose index satisfies `p` and those that raising an event
writes. -/
def State.sameObjects (s s' : State) (p : Nat → Bool) : Prop :=
  ∀ k, p (k / 256) = false → logObject k = false → s'.val k = s.val k

/-- The objects that cutting or ending a quad's carrier writes: its transmitter's, its four receivers', the coexistence lines and the
tag table's counts. -/
def quadObject (q i : Nat) : Bool :=
  decide (i = 0x2200 + q) || (decide (0x2130 + 4 * q ≤ i) && decide (i < 0x2134 + 4 * q)) || decide (i = 0x2300) || decide (i = 0x3101)

/-- The objects of the round plan that a quad works for (`0x3000`+p): the outcome of a pass, whose part it may end. -/
def State.planObject (s : State) (q i : Nat) : Bool := (s.seq q).plan.any (fun p => decide (i = 0x3000 + p))

/-- The objects of a quad's four ports (`0x2100`+n). -/
def portObject (q i : Nat) : Bool := decide (0x2100 + 4 * q ≤ i) && decide (i < 0x2104 + 4 * q)

/-- What a trip of a port leaves: the port faulted with its cause, the cause-cleared flag FALSE, one trip more at `0x2100`+n:0F and the
VSWR at :0D (R103, R104). -/
structure State.portTrips (s s' : State) (p cause vswr : Nat) : Prop where
  cause : s'.nat (0x2100 + p) 3 = cause
  flag : s'.nat (0x2100 + p) 4 = 0
  vswr : s'.nat (0x2100 + p) 13 = vswr
  trips : s'.nat (0x2100 + p) 15 = (s.nat (0x2100 + p) 15 + 1) % 2 ^ 32

/-- Whether channel memory holds a valid canceller block of a port for the entry in use (R143). -/
def State.blockValid (s : State) (q n : Nat) : Bool :=
  ((s.tx q).index.bind (fun i => s.chan q (entryNo i (s.tx q).port))).elim false (fun e => bitOf (byteAt (tget e.blocks (n % 4) []) 22) 0)

/-- The objects that a quad's exchanges and what follows from them write: those of the quad and its ports, of the plan it works for, the
decoders' counts, the tag table's and the engine's counts. -/
def State.seqObject (s : State) (q i : Nat) : Bool :=
  quadObject q i || portObject q i || s.planObject q i || decide (i = 0x2210 + q) || decide (i = 0x2230 + q) || decide (i = 0x2240) ||
    decide (i = 0x3200) || decide (i = 0x3310)

/-- The areas that a quad's exchanges and what follows from them work on. -/
def airAreas : List Area := [.radio, .tags, .pins]

/-- A state as a quad's exchange sees it: under the values that it started with (R46). -/
def State.seen (s : State) (q : Nat) : State := s.overlay (s.seq q).frozen

/-- A quad's exchange keeps no older value of an object, so what it writes there stays (R46). -/
def State.current (s : State) (q k : Nat) : Prop := ∀ e ∈ (s.seq q).frozen, e.1 ≠ k

/-- The exchange in progress has filled a FIFO entry of its port with a descriptor of 32 bytes (R179, R474). -/
def State.describes (s s' : State) (q : Nat) : Prop :=
  ∃ d tail, (s'.port (s.seq q).port).fifo = (s.port (s.seq q).port).fifo ++ [(d, tail)] ∧ d.length = 32

/-- The objects that turning every carrier and field off writes. -/
def airObject (i : Nat) : Bool :=
  (decide (0x2130 ≤ i) && decide (i < 0x2160)) || (decide (0x2200 ≤ i) && decide (i < 0x220C)) || decide (i = 0x2300) ||
    (decide (0x2400 ≤ i) && decide (i < 0x2408)) || decide (i = 0x3101) || (decide (0x3400 ≤ i) && decide (i < 0x3420))

/-- Every other quad than one is as it was. -/
def State.sameOtherQuads (s s' : State) (q : Nat) : Prop := ∀ r, r ≠ q → (s'.tx r) = (s.tx r)

/-- The command of an index of Table 1 of chapter 6 (18 to 20 the HSB commands of chapter 8) at a quad; Authenticate carries the Dome's
challenge. -/
def airCommand (t q : Nat) (challenge : List Byte) : Nat → Option Instr
  | 1 => some (.isoSelect t q)
  | 2 => some (.query t q)
  | 3 => some (.queryadjust t q)
  | 4 => some (.queryrep t q)
  | 5 => some (.isoAck t q)
  | 6 => some (.nak t q)
  | 7 => some (.reqRn t q)
  | 8 => some (.isoRead t q)
  | 9 => some (.isoWrite t q)
  | 10 => some (.kill t q)
  | 11 => some (.lock t q)
  | 12 => some (.access t q)
  | 13 => some (.blockwrite t q)
  | 14 => some (.blockerase t q)
  | 15 => some (.blockpermalock t q)
  | 16 => some (.untraceable t q)
  | 17 => some (.authenticate t q challenge)
  | 18 => some (.hsbProbe t q)
  | 19 => some (.hsbLoad t q)
  | 20 => some (.hsbGroupack t q)
  | _ => none

/-- The command that sends the card frame of an index of Table 4 of chapter 9 (`HfCmd`) on an HF port. -/
def cardCommand (t h : Nat) : Nat → Option Instr
  | 1 => some (.reqa t h)
  | 2 => some (.wupa t h)
  | 3 => some (.anticollision t h)
  | 4 => some (.selectTypeA t h)
  | 5 => some (.hlta t h)
  | 6 => some (.reqb t h)
  | 7 => some (.wupb t h)
  | 8 => some (.slotMarker t h)
  | 9 => some (.attrib t h)
  | 10 => some (.hltb t h)
  | 11 => some (.rats t h)
  | 12 => some (.pps t h)
  | 13 => some (.iBlock t h)
  | 14 => some (.rAck t h)
  | 15 => some (.rNak t h)
  | 16 => some (.sWtx t h)
  | 17 => some (.sDeselect t h)
  | 18 => some (.inventory t h)
  | 19 => some (.stayQuiet t h)
  | 20 => some (.select15693 t h)
  | 21 => some (.resetToReady t h)
  | 22 => some (.readSingleBlock t h)
  | 23 => some (.readMultipleBlocks t h)
  | 24 => some (.writeSingleBlock t h)
  | 25 => some (.getSystemInformation t h)
  | _ => none

/-- Every other HF port than one is as it was. -/
def State.sameOtherHf (s s' : State) (h : Nat) : Prop := ∀ g, g ≠ h → s'.hf g = s.hf g

/-- A state as the frame exchange of an HF port sees it: under the values that it started with (R46). -/
def State.seenHf (s : State) (h : Nat) : State := s.overlay (s.svc h).frozen

/-- The frame exchange of an HF port keeps no older value of an object of that port. -/
def State.currentHf (s : State) (h sub : Nat) : Prop := ∀ e ∈ (s.svc h).frozen, e.1 ≠ key (0x2400 + h) sub

/-- The gates under which a quad sends its next command `d` of a plan and group: it is due, its port is the plan's still, the gates of R42
are open, a FIFO entry is free, the shade has the credits that the command takes, its worst case fits, and the Dome gives the challenge of
an Authenticate (R42, R43, R227, R291, R395, R476, R477). -/
structure State.maySend (s : State) (q : Nat) (d : Due) (p : Nat) (g : Group) : Prop where
  due : s.comesDue q d.cmd = true
  front : (s.seq q).due.head? = some d
  plan : (s.seq q).plan = some p
  group : s.seqGroup q = some g
  port : (s.planPorts p q).contains (s.seq q).port = true
  gate : s.gateOpen q = true
  dome : d.cmd ≠ 17 ∨ s.domeFailed = false
  room : s.fifoRoom (s.seq q).port = true
  credit : (s.takeCredit (s.seq q).shade (if d.opensSlot then s.slotCredits p g
    else if d.cmd = 18 then s.stepCredits p (d.step - 1) - (s.seq q).credits else 0)).1 = true
  worst : s.dueWorst q = 0 ∨ s.workFits q (s.now + s.dueWorst q) = true

/-! ### Requests of a session -/

/-- The frame that a command carries. -/
def frameOf : Instr → Option Frame
  | .hfRequestedState _ f => some f
  | .hfReArm _ f => some f
  | .requestedState _ f => some f
  | .reArm _ f => some f
  | .invalidateChannelMemory _ f => some f
  | .forgetView _ f => some f
  | .acknowledgeThrough _ f => some f
  | .redeliverFrom _ f => some f
  | .enrol _ f => some f
  | .retire _ f => some f
  | .resync _ f => some f
  | .read _ f => some f
  | .write _ f => some f
  | .readBlock _ f => some f
  | .txnOpen _ f => some f
  | .txnStage _ f => some f
  | .txnCommit _ f => some f
  | .txnAbort _ f => some f
  | .subscribe _ f => some f
  | .ack _ f => some f
  | .helloPhase1 _ f => some f
  | .helloPhase2 _ f => some f
  | .claim _ f => some f
  | .reclaim _ f => some f
  | .close _ f => some f
  | .endSession _ f => some f
  | .shadeOpened _ f => some f
  | .rotateOwnerKey _ f => some f
  | .erase _ f => some f
  | .forcedErase _ f => some f
  | .cancelForcedErase _ f => some f
  | .ethernetEnable _ f => some f
  | .spireLinkEnable _ f => some f
  | .compareArm _ f => some f
  | .triggerArm _ f => some f
  | .forceOutput _ f => some f
  | .secondsRead _ f => some f
  | .centuryRead _ f => some f
  | .stagedTimeWrite _ f => some f
  | .timeCommit _ f => some f
  | .powerOffRequest _ f => some f
  | .begin _ f => some f
  | .data _ f => some f
  | .verify _ f => some f
  | .activateTrial _ f => some f
  | .activateConfirm _ f => some f
  | .compute _ f => some f
  | .start _ f => some f
  | .abort _ f => some f
  | .startSweep _ f => some f
  | .clear _ f => some f
  | .freeze _ f => some f
  | .release _ f => some f
  | .snapshot _ f => some f
  | .countersClear _ f => some f
  | .enterFullOperation _ f => some f
  | .enterStandby _ f => some f
  | .enterDeepStandby _ f => some f
  | .spreadOffFor _ f => some f
  | .oapFrameDiscarded _ f => some f
  | _ => none

/-- A request that the Dome passes on: it arrives on its session's link, it is well formed, the session is open, its shade and link are the
frame's, its tag is authentic and its sequence fresh, fewer than 16 requests wait, and the session has sequences left (R384–R387, R409,
R416, R442). -/
structure State.mayAsk (s : State) (f : Frame) (x : Session) : Prop where
  taken : (s.takeFrame f).isSome = true
  framed : wellFramed f = true
  session : s.session? f.session = some x
  link : x.link = f.link
  shade : x.shade = f.shade
  isOpen : x.isOpen = true
  checked : requestCheck f = 0
  authentic : f.authentic = true
  fresh : x.fresh f.seq = true
  more : peak x.hiSeq f.seq < 0xFFFFFFFE
  moreOut : x.txSeq + 1 < 0xFFFFFFFD
  waiting : s.waitingReplies.length < 16

/-- The state in which an accepted request is acted on: its frame taken from its link, its sequence and source recorded. -/
def State.accept (s : State) (f : Frame) (x : Session) : State :=
  ((s.takeFrame f).getD s).modSession x.id (fun y => y.took f.seq f.src s.now s.rtcSec)

/-- Whether the reply of a request finds a place at once (R484). -/
def State.replyRoom (s : State) (x : Session) : Prop :=
  s.place x.link = true ∧ s.waitingReplies.any (fun w => decide (w.link = x.link)) = false

/-- The reply to a request, last in the transmit queue, to the frame's source under the session's next sequence (R384, R408, R444). -/
def State.answers (s s' : State) (f : Frame) (x : Session) (payload : List Byte) : Prop :=
  s'.txq = s.txq ++ [{ link := x.link, dst := f.src, shade := x.shade, session := x.id, op := f.op, reply := true, seq := x.txSeq + 1,
                       key := x.key "HJ48 m2o", payload := payload, src := (s.accept f x).ownAddress x.link f.src }]

/-- What a request leaves alone, beside the areas and objects named: all but the session, the link's frames and the store. -/
def State.requestFrame (s s' : State) (areas : List Area) (objects : Nat → Bool) : Prop :=
  s'.outside (.sessions :: .links :: .store :: areas) = s.outside (.sessions :: .links :: .store :: areas) ∧
  s.sameObjects s' (fun i => i == 0x1200 || i == 0x5000 || i == 0x1600 || objects i)

/-- The writer of a session's request. -/
def writerOf (x : Session) : Writer := { shade := x.shade, session := x.id, link := x.link }

/-- A WRITE of one object that passes every check of Table 9 of chapter 12, with the supply stable (R412). -/
structure State.mayWriteTo (s : State) (f : Frame) (x : Session) (index sub : Nat) (v : Val) : Prop where
  asks : s.mayAsk f x
  op : f.op = 0x02
  atIndex : (takeItem f.payload).1.index = index
  atSub : (takeItem f.payload).1.sub = sub
  item : (s.accept f x).itemCheck x.shade false (takeItem f.payload).1 = (0, { key := objKey x.shade index sub, val := v })
  raw : fieldAt (takeItem f.payload).1.value 0 (takeItem f.payload).1.value.length = v.toInt.toNat
  verdict : (s.accept f x).verdict (writerOf x) [{ key := objKey x.shade index sub, val := v }] = (0, 0xFF)
  verifies : (s.accept f x).verifyFails { key := objKey x.shade index sub, val := v } = false
  supply : s.supplyStable = true

/-- A TXN_COMMIT at once of a staging transaction with one write that passes every check of R422, with the supply stable. -/
structure State.mayCommitOne (s : State) (f : Frame) (x : Session) (tx : Txn) (index sub : Nat) (v : Val) : Prop where
  asks : s.mayAsk f x
  op : f.op = 0x12
  txn : s.staging? x.id (fieldAt f.payload 0 4) = some tx
  mode : byteAt f.payload 4 = 0
  value : fieldAt f.payload 8 4 = 0
  staged : tx.puts = [{ key := key index sub, val := v }]
  shade : tx.shade = x.shade
  notC : isClassC (key index sub) = false
  conflict : s.conflict tx.staged = none
  normal : s.inSafe = false
  verdict : (s.accept f x).verdict (writerOf x) [{ key := key index sub, val := v }] = (0, 0xFF)
  verifies : (s.accept f x).verifyFails { key := key index sub, val := v } = false
  supply : s.supplyStable = true

/-- The instant and the frame of a management command, and the writes that its row names. -/
def manageRow : Instr → Option (Nat × Frame × (State → Nat → Nat → Nat → Bool))
  | .requestedState t f => some (t, f, fun _ => rowsRequestedState)
  | .reArm t f => some (t, f, fun _ => rowsReArm)
  | .hfRequestedState t f => some (t, f, fun _ => rowsHfRequestedState)
  | .hfReArm t f => some (t, f, fun _ => rowsHfReArm)
  | .invalidateChannelMemory t f => some (t, f, fun _ => rowsInvalidateChannelMemory)
  | .forgetView t f => some (t, f, fun _ => rowsForgetView)
  | .acknowledgeThrough t f => some (t, f, fun _ => rowsAcknowledgeThrough)
  | .redeliverFrom t f => some (t, f, fun _ => rowsRedeliverFrom)
  | .enrol t f => some (t, f, fun _ => rowsEnrol)
  | .retire t f => some (t, f, fun _ => rowsRetire)
  | .resync t f => some (t, f, fun _ => rowsResync)
  | .endSession t f => some (t, f, fun _ => rowsEndSession)
  | .shadeOpened t f => some (t, f, fun _ => rowsShadeOpened)
  | .rotateOwnerKey t f => some (t, f, fun _ => rowsRotateOwnerKey)
  | .erase t f => some (t, f, fun _ => rowsErase)
  | .forcedErase t f => some (t, f, fun _ => rowsForcedErase)
  | .cancelForcedErase t f => some (t, f, fun _ => rowsCancelForcedErase)
  | .ethernetEnable t f => some (t, f, fun _ => rowsEthernetEnable)
  | .spireLinkEnable t f => some (t, f, fun _ => rowsSpireLinkEnable)
  | .forceOutput t f => some (t, f, fun _ => rowsForceOutput)
  | .stagedTimeWrite t f => some (t, f, fun _ => rowsStagedTimeWrite)
  | .timeCommit t f => some (t, f, fun _ => rowsTimeCommit)
  | .powerOffRequest t f => some (t, f, fun _ => rowsPowerOffRequest)
  | .begin t f => some (t, f, fun _ => rowsBegin)
  | .data t f => some (t, f, fun _ => rowsData)
  | .verify t f => some (t, f, fun _ => rowsVerify)
  | .activateTrial t f => some (t, f, fun _ => rowsActivateTrial)
  | .activateConfirm t f => some (t, f, fun _ => rowsActivateConfirm)
  | .compute t f => some (t, f, fun _ => rowsCompute)
  | .start t f => some (t, f, fun _ => rowsStart)
  | .abort t f => some (t, f, fun _ => rowsAbort)
  | .startSweep t f => some (t, f, fun _ => rowsStartSweep)
  | .clear t f => some (t, f, fun _ => rowsClear)
  | .freeze t f => some (t, f, fun _ => rowsFreeze)
  | .release t f => some (t, f, fun _ => rowsRelease)
  | .snapshot t f => some (t, f, fun _ => rowsSnapshot)
  | .countersClear t f => some (t, f, fun _ => rowsCountersClear)
  | .enterFullOperation t f => some (t, f, fun _ => rowsEnterFullOperation)
  | .enterStandby t f => some (t, f, fun _ => rowsEnterStandby)
  | .enterDeepStandby t f => some (t, f, fun _ => rowsEnterDeepStandby)
  | .spreadOffFor t f => some (t, f, fun _ => rowsSpreadOffFor)
  | .compareArm t f => some (t, f, fun s => s.armsIn 1)
  | .triggerArm t f => some (t, f, fun s => s.armsIn 3)
  | _ => none

/-- A command that writes one object does, where the write passes its checks, what `WRITE` does with the same frame, and the state that it
leaves has a property; beside the session, the links and the store it changes only the areas and objects named. -/
def State.writeDoes (s : State) (t : Nat) (f : Frame) (x : Session) (c : Instr) (index sub : Nat) (v : Val) (areas : List Area) (objects : Nat → Bool)
    (post : State → Prop) : Prop :=
  (s.at t).mayWriteTo f x index sub v →
    ∃ s', exec c s = .next s' ∧ exec (.write t f) s = .next s' ∧ post s' ∧ s.requestFrame s' areas objects

/-! ### Power, resets and safe state -/

/-- The logic is held in reset under a shutdown trigger, with the reset cause of the next start: no carrier, no field, no dictionary, the
power amplifiers unbiased and SAFE_STAT_N asserted (R583, R602, R608). -/
structure State.held (s : State) (why boot : Nat) : Prop where
  dark : s.dark
  fieldless : s.fieldless
  released : s.power.released = false
  reachable : s.power.reachable = false
  unbiased : s.power.paBias = false
  trigger : s.power.trigger = why
  cause : s.power.cause = boot
  shown : s.nat 0x1102 4 = why
  stat : s.pins.safeStatN = false

/-- The areas that taking the logic into reset changes. -/
def heldAreas : List Area := [.radio, .hf, .tags, .power, .pins]

/-- A state that has entered safe state from one that was not in it, with a cause and a unit: no carrier and no field is on, the
transactions are discarded, the entry is recorded at `0x1110` and the black box is frozen (R429, R580, R581, R587). -/
structure State.entersSafe (s s' : State) (cause at1 : Nat) : Prop where
  inside : s'.inSafe = true
  active : s'.nat 0x1110 2 = s.nat 0x1110 2 ||| 2 ^ cause
  since : s'.nat 0x1110 3 = s.nat 0x1110 2 ||| 2 ^ cause
  cleared : s'.nat 0x1110 4 = 0
  time : s'.nat 0x1110 6 = s.rtcSec
  entries : s'.nat 0x1110 8 = (s.nat 0x1110 8 + 1) % 2 ^ 32
  unit : s'.nat 0x1110 10 = at1
  dark : s'.dark
  fieldless : s'.fieldless
  unbiased : s'.power.paBias = false
  noTxns : s'.txns = []
  stat : s'.pins.safeStatN = false
  frozen : s'.box.frozen = if s.box.frozen = 0 then 1 else s.box.frozen
  sweep : s.sweep.running = true → s'.sweep.suspended = true

/-- The areas that the entry to safe state changes. -/
def safeAreas : List Area := [.radio, .hf, .tags, .power, .pins, .sessions]

/-! ### The index map and the records that only Slate writes -/

/-- Whether an index lies in one of some ranges, ends included (R7). -/
def within (ranges : List (Nat × Nat)) (index : Nat) : Bool := ranges.any (fun r => decide (r.1 ≤ index) && decide (index ≤ r.2))

/-- The rows of Table 4 of chapter 12 that name each of their indices. -/
def tableFourNamed : List (Nat × Nat) :=
  [(0x1000, 0x1000), (0x1008, 0x100A), (0x1018, 0x1018), (0x1300, 0x1300), (0x1310, 0x1317), (0x1320, 0x1327), (0x1400, 0x1400),
   (0x1500, 0x1500), (0x1B00, 0x1B02), (0x1B10, 0x1B10), (0x2000, 0x2001), (0x2010, 0x2013), (0x2020, 0x2023), (0x2030, 0x2030),
   (0x2040, 0x2047), (0x2050, 0x2057), (0x2060, 0x2060), (0x2100, 0x215F), (0x2200, 0x220B), (0x2210, 0x221B), (0x2220, 0x222B),
   (0x2230, 0x223B), (0x2240, 0x2240), (0x2300, 0x2300), (0x2400, 0x2407), (0x2500, 0x2500), (0x3000, 0x303F), (0x3100, 0x3101),
   (0x3110, 0x3117), (0x3200, 0x3202), (0x3300, 0x3310), (0x3400, 0x341F), (0x4000, 0x4000), (0x4010, 0x4031), (0x4100, 0x4100),
   (0x4110, 0x4117)]

/-- The rows of Table 4 that give a range in which their chapter defines the objects. -/
def tableFourRanges : List (Nat × Nat) := [(0x1100, 0x12FF), (0x1600, 0x1AFF), (0x5000, 0x5FFF)]

/-- Records that every shade may read and only Slate may write: Lantern, GPIO and timer settings, the Belfry, transmit protection, quads,
baseband, decoders and coexistence (R55, R113, R125, R192, R508, R593). -/
def slateWritten : List (Nat × Nat) :=
  [(0x1730, 0x1730), (0x1900, 0x1900), (0x1B00, 0x1B02), (0x1B10, 0x1B10), (0x2060, 0x2060), (0x2200, 0x220B), (0x2230, 0x223B),
   (0x2240, 0x2240), (0x2300, 0x2300)]

/-- The one item of a READ that is refused, as its reply holds it (Table 7 of chapter 12). -/
def refusedItem (index sub status : Nat) : List Byte := le 2 index ++ [byte sub, 0#8] ++ le 2 status ++ le 2 0

end Sys2Proof.Machine
end

