-- ==== Sys2Proof/Certificates/Slice0/Obligations.lean ====
section
/-! DEFINITION. The statements about the block that the provers prove: one definition each, grouped by chapter. -/

open Sys2Proof Sys2Proof.Machine

/-! ### The step, the queue and the reset -/

/-- The command at the front of the queue is what a step runs, on the state with the queue's rest; with none waiting the block
idles. That an empty queue idles is the model's choice (log entry 5). -/
def Obligations.StepRunsTheFrontCommand : Prop :=
  (∀ (c : Instr) (rest : List Instr) (s : State), step { s with pending := c :: rest } = exec c { s with pending := rest }) ∧
  (∀ s : State, s.pending = [] → step s = .next s)

/-- No command touches the queue of those that wait: what stands behind it is run next. No command stops the block: every step
from every state answers a next state (R16 names no event that halts the module, and log entry 2 says that a command that is not
due changes nothing but the instant). -/
def Obligations.StepsAnswerAndKeepTheQueue : Prop :=
  (∀ (c : Instr) (s s' : State), exec c s = .next s' → s'.pending = s.pending) ∧
  (∀ s : State, ∃ s', step s = .next s')

/-- At reset the tables have their sizes and the dictionary and MRAM are canonical. -/
def Obligations.ResetKeepsTheShape : Prop := State.reset.Inv

/-- Every step keeps the shape: the 3 banks, 12 quads, 48 ports, 8 HF ports, 8 shades, 64 plans, 16 timers, 128 counters and 256
black box slots stay as many, the dictionary lists each object once, and MRAM lists each byte that is not zero once. -/
def Obligations.EveryStepKeepsTheShape : Prop :=
  ∀ s s' : State, s.Inv → step s = .next s' → s'.Inv

/-- What reset leaves: mains tracker acquiring on nominal free-run, no safe state, no carrier, no HF field, no session, no
transaction, an empty Lantern FIFO and black box. -/
def Obligations.ResetLeavesNothingOn : Prop :=
  State.reset.nat 0x1B00 1 = 0 ∧ State.reset.nat 0x1B00 2 = 1 ∧ State.reset.inSafe = false ∧ State.reset.dark ∧ State.reset.fieldless ∧
  State.reset.sessions = [] ∧ State.reset.txns = [] ∧ State.reset.lantern.fifo = [] ∧ State.reset.box.records = 0

/-! ### The Belfry (chapter 2) -/

/-- Each change that the filter rejects, and each edge that blanking ignores, counts one at `0x1B00:0C`, and nothing else changes,
except in deep standby, which samples no edge (R617).
Every Nth accepted edge is captured: with a capture before it, the frequency is N × 1 s ÷ the interval in 0.01 Hz, and the phase
error is that of the crossing the edge marks (R54). -/
def Obligations.EdgesAreRejectedOrCaptured : Prop :=
  (∀ (s : State) (t : Nat), s.power.mode ≠ 2 → ∃ s', exec (.mainsSenseEdgeRejected t) s = .next s' ∧
    s'.nat 0x1B00 12 = (s.nat 0x1B00 12 + 1) % 2 ^ 32 ∧ s'.now = peak s.now t ∧
    s'.outside [] = s.outside [] ∧ s.sameObjects s' (fun i => i == 0x1B00)) ∧
  (∀ (s : State) (t incF c : Nat) (want : Int),
    s.power.mode ≠ 2 → s.nat 0x1B00 1 ≠ 2 → s.nat 0x1B01 3 ≤ s.belfry.edges + 1 → s.belfry.lastCapture = some c →
    ∃ s', exec (.mainsEdgeCapture t incF want) s = .next s' ∧
      s'.nat 0x1B00 7 = satTo 65535 (12288000000 * s.nat 0x1B01 3 / (peak s.now t - c)) ∧
      s'.int 0x1B00 8 = (s.at t).captureError ∧
      s'.belfry.lastEdge = some (peak s.now t) ∧ s'.belfry.edges = 0 ∧
      s'.outside [.belfry, .timers] = s.outside [.belfry, .timers] ∧ s.sameObjects s' (fun i => i == 0x1B00))

/-- With no accepted edge for N + 2 nominal periods, counted from the last accepted edge or, where there was none, from the reset
release, the tracker is lost, with event 0x1002 and cause 1: the frequency estimate goes, and a module that ran on its own mains runs
free at the nominal rate without a correction, a follower in holdover without one; any other source stays (R60, R78). A follower on
CAL_SYNC that sees no valid pulse for two frame periods runs on its own mains where its tracker is locked and in holdover otherwise,
with event 0x1005 (R78). A leader that sees CAL_SYNC low outside its own pulse stops driving it and runs standalone, with event 0x1007
(R79). At a follower a pulse of 1 µs to 10 µs makes CAL_SYNC its source: one of 4 µs or more sets the cascade frame number to 0 and
makes it valid, a shorter one leaves it (R75, R76); a pulse more than one slot from the follower's own frame boundary moves the frame
and ends every carrier, and no window opens until the next valid pulse (R77); one of another width is counted at `0x1B00:0C` and does
nothing else (R75). Deep standby samples neither input and leaves the tracker as it is (R617). -/
def Obligations.LostSourcesAreReplaced : Prop :=
  (∀ (s : State) (t : Nat), s.power.mode ≠ 2 → s.nat 0x1B00 1 ≠ 2 →
    peak (s.belfry.lastEdge.getD s.power.releaseTick) s.belfry.wakeTick + (s.nat 0x1B01 3 + 2) * s.nominalPeriod ≤ peak s.now t →
    ∃ s', exec (.mainsLost t) s = .next s' ∧ s'.nat 0x1B00 1 = 2 ∧ s'.belfry.estimate = false ∧
      s'.nat 0x1B00 2 = (if s.nat 0x1B00 2 = 0 then (if s.role = 2 then 3 else 1) else s.nat 0x1B00 2) ∧
      (s.nat 0x1B00 2 = 0 → s'.belfry.incC = 0 ∧ s'.belfry.incF = (if s.role = 2 then s.belfry.incF else incOf (s.nat 0x1B01 1))) ∧
      (s.nat 0x1B00 2 ≠ 0 → s'.belfry.incC = s.belfry.incC ∧ s'.belfry.incF = s.belfry.incF) ∧
      (∃ m : State, s' = m.raise 0x1002 ([1, 0] ++ dU 2 (s.nat 0x1B00 7)) m.allJoined) ∧
      s'.outside [.belfry] = s.outside [.belfry] ∧ s.sameObjects s' (fun i => i == 0x1B00)) ∧
  (∀ (s : State) (t : Nat), s.power.mode ≠ 2 → s.role = 2 → s.nat 0x1B00 2 = 2 →
    16 * 2 ^ 48 * 1000 ≤ (peak s.now t - peak s.belfry.lastPulse s.belfry.wakeTick) * s.belfry.rateK →
    ∃ s', exec (.calSyncLost t) s = .next s' ∧ s'.nat 0x1B00 2 = (if s.nat 0x1B00 1 = 1 then 0 else 3) ∧
      s'.belfry.incF = s.belfry.incF ∧ s'.belfry.incC = (if s.nat 0x1B00 1 = 1 then s.belfry.incC else 0) ∧
      (∃ m : State, s' = m.raise 0x1005 [if s.nat 0x1B00 1 = 1 then 0 else 3] m.allJoined) ∧
      s'.outside [.belfry] = s.outside [.belfry] ∧ s.sameObjects s' (fun i => i == 0x1B00)) ∧
  (∀ (s : State) (t width : Nat), s.power.mode ≠ 2 → s.role = 1 → s.belfry.pulseEnd ≤ peak s.now t →
    ∃ s', exec (.calSyncConflict t width) s = .next s' ∧ s'.belfry.conflict = true ∧ s'.role = 0 ∧
      (∃ m : State, s' = m.raise 0x1007 (dU 2 (satTo 0xFFFF width)) m.allJoined) ∧
      s'.outside [.belfry] = s.outside [.belfry] ∧ s.sameObjects s' (fun _ => false)) ∧
  (∀ (s : State) (t width incF : Nat) (want : Int), s.power.mode ≠ 2 → s.role = 2 → s.power.released = true →
    let s0 := s.at t
    (width < 1000 ∨ 10000 < width → ∃ s', exec (.calSyncPulseReceived t width incF want) s = .next s' ∧
      s'.nat 0x1B00 12 = (s.nat 0x1B00 12 + 1) % 2 ^ 32 ∧ s'.outside [] = s.outside [] ∧ s.sameObjects s' (fun i => i == 0x1B00)) ∧
    (1000 ≤ width → width ≤ 10000 → ∃ s', exec (.calSyncPulseReceived t width incF want) s = .next s' ∧
      s'.nat 0x1B00 2 = 2 ∧ s'.belfry.hadCalSync = true ∧ s'.belfry.lastPulse = peak s.now t ∧ s'.belfry.incF = incF ∧
      (4000 ≤ width → s'.nat 0x1B00 10 = 0 ∧ s'.nat 0x1B00 11 = 1) ∧
      (width < 4000 → s'.nat 0x1B00 10 = s.nat 0x1B00 10 ∧ s'.nat 0x1B00 11 = s.nat 0x1B00 11) ∧
      (s.belfry.hadCalSync = false ∨ s0.frameAt (s0.pulseBoundary width) ≤ 2 ^ 44 ∨ 2 ^ 51 - 2 ^ 44 ≤ s0.frameAt (s0.pulseBoundary width) →
        s'.belfry.noWindow = false ∧ s'.outside [.belfry, .timers] = s.outside [.belfry, .timers] ∧
        s.sameObjects s' (fun i => i == 0x1B00)) ∧
      (s.belfry.hadCalSync = true → 2 ^ 44 < s0.frameAt (s0.pulseBoundary width) → s0.frameAt (s0.pulseBoundary width) < 2 ^ 51 - 2 ^ 44 →
        s'.belfry.noWindow = true ∧ s'.dark ∧
        s'.outside [.belfry, .timers, .radio, .tags, .pins] = s.outside [.belfry, .timers, .radio, .tags, .pins] ∧
        s.sameObjects s' (fun i => i == 0x1B00 || airObject i)))) ∧
  (∀ (s : State) (t width incF : Nat) (want : Int), s.power.mode = 2 → exec (.mainsLost t) s = .next (s.at t) ∧
    exec (.calSyncLost t) s = .next (s.at t) ∧ exec (.calSyncConflict t width) s = .next (s.at t) ∧
    exec (.calSyncPulseReceived t width incF want) s = .next (s.at t))

/-- The slot count moves on by one at each boundary that the accumulator reaches, in every state of the module and from every source of the
phase, and with it the cycle count and the place in the frame; no other command repeats a slot or skips one: whatever changes a state or a
source leaves the slot count, and, a pulse of CAL_SYNC apart, the frame as they were (R61). A reset starts the count afresh (R63). -/
def Obligations.SlotsCountOneByOne : Prop :=
  (∀ (s : State) (t : Nat) (pings : List Nat), (s.at t).boundaryDue = true →
    ∃ s', exec (.slotBoundary t pings) s = .next s' ∧ s'.belfry.slots = s.belfry.slots + 1 ∧ s'.cycle = (s.belfry.slots + 1) / 16 % 2 ^ 32 ∧
      s'.frameSlot = (s.frameSlot + 1) % 128) ∧
  (∀ (c : Instr) (s s' : State), exec c s = .next s' → (∀ t pings, c ≠ .slotBoundary t pings) →
    (∀ t phase1 duration straps vbak torn lost, c ≠ .resetRelease t phase1 duration straps vbak torn lost) →
    s'.belfry.slots = s.belfry.slots ∧ s'.cycle = s.cycle ∧
      ((∀ t width incF want, c ≠ .calSyncPulseReceived t width incF want) → s'.frameSlot = s.frameSlot))

/-! ### UHF transmit (chapter 3) -/

/-- A quad with its carrier off hops for the work it has or takes, on the channel that it holds or that R118 gives it: warm where channel
memory holds a valid entry that is not stale, and cold otherwise, which is counted at `0x2200`+q:0A; a cold hop that calibrates writes
the entry, and the second failed cold calibration in succession faults the quad, its four ports showing cause 4, with event 0x2209
(R88, R90). A background calibration that succeeds writes the entry and ends that fault, each port showing the cause it had before;
the second failure in succession faults the quad (R87, R90). Every 600 s the changed entries of channel memory are written to MRAM, so
that none is marked as changed; a supply that does not meet the precondition leaves them for the next period and counts the refusal
(R89, R543). The write of channel memory waits in deep standby (R615, log entry 76). -/
def Obligations.HopsCalibrationsAndChannelMemory : Prop :=
  (∀ (s s1 : State) (t q draw band cap p i : Nat) (calOk : Bool), q < 12 → s.quads.length = 12 → s.carrierOn q = false → (s.tx q).faulted = false →
    s.power.paBias = true → s.inSafe = false →
    (s.at t).hopServes q = false ∨ (s.tx q).hopped = false →
    s1 = (if (s.tx q).index.isSome = true ∧ (s.at t).hopServes q = false then (s.at t).dropHop q else s.at t).assignHop q →
    (s1.seq q).plan = some p → (s1.tx q).hopped = false →
    (s1.tx q).index.or (s1.chooseChannel q (s1.seq q).shade (s1.planModulation p) draw) = some i →
    ∃ s', exec (.synthesizerHop t q draw calOk band cap) s = .next s' ∧
      (s1.coldReason q (entryNo i (s1.seq q).port) = 0 → (s'.tx q).hopped = true ∧ (s'.tx q).index = some i ∧
        s'.nat (0x2200 + q) 1 = 1 ∧ s'.nat (0x2200 + q) 2 = s.channelAt i ∧ s'.nat (0x2200 + q) 10 = s.nat (0x2200 + q) 10) ∧
      (s1.coldReason q (entryNo i (s1.seq q).port) ≠ 0 → s'.nat (0x2200 + q) 10 = (s.nat (0x2200 + q) 10 + 1) % 2 ^ 32 ∧
        (calOk = true → (s'.tx q).hopped = true ∧ (s'.tx q).index = some i ∧ s'.nat (0x2200 + q) 2 = s.channelAt i ∧
          ∃ e, s'.chan q (entryNo i (s1.seq q).port) = some e ∧ e.synthValid = true ∧
          e.vcoBand = band % 64 ∧ e.capCode = cap % 1024 ∧ e.calTemp = (s.bank (q / 4)).temp ∧ e.calTime = s.rtcSec) ∧
        (calOk = false → (s.tx q).coldFails = 0 → (s'.tx q).hopped = false ∧ (s'.tx q).index = some i ∧ (s'.tx q).coldFails = 1 ∧
          (s'.tx q).faulted = false) ∧
        (calOk = false → 1 ≤ (s.tx q).coldFails → (s'.tx q).faulted = true ∧ s'.nat (0x2200 + q) 1 = 5 ∧
          (∀ n ∈ portsOf q, s'.nat (0x2100 + n) 3 = 4) ∧ (∃ m : State, s' = m.raise 0x2209 [q, 1] m.allJoined))) ∧
      s.sameOtherQuads s' q ∧ s'.outside [.radio, .tags] = s.outside [.radio, .tags] ∧
      s.sameObjects s' (fun i => i == 0x2200 + q || portObject q i || s.planObject q i)) ∧
  (∀ (s : State) (t q i port band cap : Nat) (ok : Bool), q < 12 → s.quads.length = 12 → s.carrierOn q = false → (s.tx q).hopped = false →
    (s.tx q).survey = none → (s.at t).sliceDue q = false → i < s.channels.length →
    (s.tx q).faulted = true ∨ s.coldPart q (entryNo i port) ≠ 0 →
    ∃ s', exec (.backgroundCalibration t q i port ok band cap) s = .next s' ∧
      (ok = true → (∃ e, s'.chan q (entryNo i port) = some e ∧ e.synthValid = true ∧ e.vcoBand = band % 64 ∧ e.capCode = cap % 1024 ∧
          e.calTemp = (s.bank (q / 4)).temp ∧ e.calTime = s.rtcSec) ∧
        (s'.tx q).coldFails = 0 ∧ (s'.tx q).faulted = false ∧
        ((s.tx q).faulted = true → ∀ n ∈ portsOf q, s'.nat (0x2100 + n) 3 =
          (if s.nat (0x2100 + n) 3 = 4 then (s.port n).causeBefore else s.nat (0x2100 + n) 3))) ∧
      (ok = false → (s'.tx q).coldFails = (s.tx q).coldFails + 1 ∧
        (1 ≤ (s.tx q).coldFails → (s.tx q).faulted = false → (s'.tx q).faulted = true ∧ s'.nat (0x2200 + q) 1 = 5 ∧
          (∀ n ∈ portsOf q, s'.nat (0x2100 + n) 3 = 4) ∧ (∃ m : State, s' = m.raise 0x2209 [q, 1] m.allJoined))) ∧
      s.sameOtherQuads s' q ∧ s'.outside [.radio] = s.outside [.radio] ∧ s.sameObjects s' (fun i => i == 0x2200 + q || portObject q i)) ∧
  (∀ (s : State) (t : Nat), s.quads.length = 12 → s.power.mode ≠ 2 → s.store.chanTick + sec 600 ≤ peak s.now t → s.dirtyPages ≠ [] →
    ∃ s', exec (.channelMemoryWrite t) s = .next s' ∧
      (s.supplyStable = true → (∀ q, (s'.tx q).dirty = []) ∧
        (∀ j ∈ s.dirtyPages, (s'.page (2432 + j)).isSealed = true ∧ (s'.page (2432 + j)).operation = 1 ∧
          Memory.readAll s'.store.mram (4096 * (2432 + j)) 4080 = fit 4080 (s.chanPage j))) ∧
      (s.supplyStable = false → s'.quads = s.quads ∧ s'.store = { s.store with chanTick := peak s.now t } ∧
        s'.nat 0x1600 5 = (s.nat 0x1600 5 + 1) % 2 ^ 32) ∧
      s'.outside [.radio, .store] = s.outside [.radio, .store] ∧ s.sameObjects s' (fun i => i == 0x1600)) ∧
  (∀ (s : State) (t : Nat), s.power.mode = 2 ∨ peak s.now t < s.store.chanTick + sec 600 → exec (.channelMemoryWrite t) s = .next (s.at t))

/-- At a stagger point, with the bank's supply in its window, no foreign activity that forbids it, the request for the air made in time, the
gates of R42 open (a FIFO entry and the first slot's credits among them) and the work fitting, the ramp starts: the quad's state is
ramping, the transmitting port is the sequencer's, the target power is the smallest limit of R96 and the binding limit its code, and
a dwell on the channel begins (R42, R43, R94–R96, R119, R122). The end of the ramp engages the power loop and starts the four receivers
settling, from a stored block where it is valid and from scratch otherwise, and the commands that open the group fall due; the end of the
ramp-down leaves the carrier off and the receivers idle; each only once the ramp time has passed (R94, R131, R143, R218). -/
def Obligations.RampsStartAndEnd : Prop :=
  (∀ (s : State) (t q p i b : Nat) (g : Group), q < 12 → s.quads.length = 12 →
    let s0 := s.at t
    (s0.tx q).carrier = 0 → (s0.tx q).hopped = true → (s0.tx q).faulted = false → s0.power.paBias = true →
    (s0.bank (q / 4)).inWindow = true → s0.atStagger q = true → s0.actPermits = true → s0.requested = true →
    (s0.seq q).plan = some p → (s0.tx q).index = some i → s0.gateOpen q = true →
    s0.nextGroup p (s0.seq q).port = some g → s0.bandOf (s0.channelAt i) = some b → s0.fifoRoom (s0.seq q).port = true →
    (s0.takeCredit (s0.seq q).shade (s0.slotCredits p g)).1 = true → s0.workFits q (s0.now + s0.riseWorst q p (s0.seq q).port g) = true →
    ∃ s', exec (.rampStart t q) s = .next s' ∧
      (s'.tx q).carrier = 1 ∧ (s'.tx q).rampTick = s0.now ∧ (s'.tx q).port = (s0.seq q).port ∧
      s'.nat (0x2200 + q) 1 = 2 ∧ s'.nat (0x2200 + q) 3 = (s0.seq q).port ∧
      s'.int (0x2200 + q) 4 = s0.inForce.targetPower (s0.seq q).shade (s0.seq q).port b (s0.request p (s0.seq q).port) ∧
      s'.nat (0x2200 + q) 8 = s0.inForce.bindingLimit (s0.seq q).shade (s0.seq q).port b (s0.request p (s0.seq q).port) ∧
      { index := i, start := s0.now, stop := none } ∈ (s'.tx q).dwells ∧
      s.sameOtherQuads s' q ∧ s'.outside [.radio, .tags] = s.outside [.radio, .tags] ∧ s.sameObjects s' (fun i => i == 0x2200 + q)) ∧
  (∀ (s : State) (t q : Nat), q < 12 → (s.tx q).carrier = 1 →
    (s.tx q).rampTick + (s.rampTicks q - (s.tx q).ramped) ≤ peak s.now t →
    ∃ s', exec (.carrierAtSetPower t q) s = .next s' ∧ (s'.tx q).carrier = 2 ∧ (s'.tx q).powerTick = peak s.now t ∧
      (s'.tx q).loopTick = peak s.now t ∧ s'.nat (0x2200 + q) 1 = 3 ∧
      (∀ n ∈ portsOf q, s'.nat (0x2130 + n) 2 = 1 ∧ s'.nat (0x2130 + n) 3 = (if s.blockValid q n then 1 else 2)) ∧
      (∀ p g, (s.seq q).plan = some p → s.nextGroup p (s.seq q).port = some g →
        (s'.seq q).state = 1 ∧ (s'.seq q).due = s.openingDues p (s.seq q).port g ∧ (s'.seq q).earliest = peak s.now t) ∧
      s.sameOtherQuads s' q ∧ s'.outside [.radio] = s.outside [.radio] ∧
      s.sameObjects s' (fun i => i == 0x2200 + q || i == 0x2210 + q || quadObject q i)) ∧
  (∀ (s : State) (t q : Nat), q < 12 → (s.tx q).carrier = 1 →
    peak s.now t < (s.tx q).rampTick + (s.rampTicks q - (s.tx q).ramped) → exec (.carrierAtSetPower t q) s = .next (s.at t)) ∧
  (∀ (s : State) (t q : Nat), q < 12 → (s.tx q).carrier = 4 → (s.tx q).rampTick + s.rampTicks q ≤ peak s.now t →
    ∃ s', exec (.rampDownComplete t q) s = .next s' ∧ s'.carrierOn q = false ∧ (∀ d ∈ (s'.tx q).dwells, d.stop ≠ none) ∧
      s'.nat (0x2200 + q) 1 = (if (s.tx q).faulted then 5 else 0) ∧
      s'.nat (0x2200 + q) 2 = 0xFFFF ∧ s'.nat (0x2200 + q) 3 = 0xFF ∧ (∀ n ∈ portsOf q, s'.nat (0x2130 + n) 2 = 0 ∧ s'.nat (0x2130 + n) 3 = 0) ∧
      s.sameOtherQuads s' q ∧ s'.outside [.radio, .tags, .pins] = s.outside [.radio, .tags, .pins] ∧
      s.sameObjects s' (fun i => quadObject q i || s.planObject q i)) ∧
  (∀ (s : State) (t q : Nat), q < 12 → (s.tx q).carrier = 4 → peak s.now t < (s.tx q).rampTick + s.rampTicks q →
    exec (.rampDownComplete t q) s = .next (s.at t))

/-- A bank's PA supply measured outside 11.0–13.0 V is out of its window and holds every rising ramp of the bank, counted at
`0x2200`+q:0D; measured inside it, 2 µs after the last measurement outside, it is back and resumes the held ramps; a ramp held for 200 µs
is abandoned with its carrier off, event 0x2205 and one more at `0x2200`+q:0E (R105, R106). -/
def Obligations.PaSupplyHoldsRamps : Prop :=
  (∀ (s : State) (t b mv : Nat), b < 3 → s.banks.length = 3 → mv < 11000 ∨ 13000 < mv →
    ∃ s', exec (.paSupplyOutOfWindow t b mv) s = .next s' ∧ (s'.bank b).inWindow = false ∧ (s'.bank b).supply = mv ∧
      (s'.bank b).outTick = peak s.now t ∧
      ((s.bank b).inWindow = true → s'.nat 0x2060 8 = setBit (s.nat 0x2060 8) b false ∧
        (∀ q ∈ quadsOf b, (s.tx q).carrier = 1 → (s'.tx q).carrier = 3 ∧ (s'.tx q).heldTick = peak s.now t ∧ s'.nat (0x2200 + q) 1 = 4 ∧
          s'.nat (0x2200 + q) 13 = (s.nat (0x2200 + q) 13 + 1) % 2 ^ 32)) ∧
      (∀ q, q ∉ quadsOf b ∨ (s.tx q).carrier ≠ 1 ∨ (s.bank b).inWindow = false → s'.tx q = s.tx q) ∧
      s'.outside [.radio] = s.outside [.radio] ∧
      s.sameObjects s' (fun i => i == 0x2060 || (quadsOf b).any (fun q => i == 0x2200 + q))) ∧
  (∀ (s : State) (t b mv : Nat), b < 3 → s.banks.length = 3 → 11000 ≤ mv → mv ≤ 13000 →
    (s.bank b).outTick + us 2 < peak s.now t →
    ∃ s', exec (.paSupplyBackInWindow t b mv) s = .next s' ∧ (s'.bank b).inWindow = true ∧ (s'.bank b).supply = mv ∧
      ((s.bank b).inWindow = false → s'.nat 0x2060 8 = setBit (s.nat 0x2060 8) b true ∧
        (∀ q ∈ quadsOf b, (s.tx q).carrier = 3 → (s'.tx q).carrier = 1 ∧ (s'.tx q).rampTick = peak s.now t ∧ s'.nat (0x2200 + q) 1 = 2)) ∧
      (∀ q, q ∉ quadsOf b ∨ (s.tx q).carrier ≠ 3 ∨ (s.bank b).inWindow = true → s'.tx q = s.tx q) ∧
      s'.outside [.radio] = s.outside [.radio] ∧
      s.sameObjects s' (fun i => i == 0x2060 || (quadsOf b).any (fun q => i == 0x2200 + q))) ∧
  (∀ (s : State) (t b mv : Nat), b < 3 → s.banks.length = 3 → 11000 ≤ mv → mv ≤ 13000 →
    peak s.now t ≤ (s.bank b).outTick + us 2 →
    ∃ s', exec (.paSupplyBackInWindow t b mv) s = .next s' ∧ s'.bank b = { s.bank b with supply := mv } ∧ s'.quads = s.quads ∧
      s'.outside [.radio] = s.outside [.radio] ∧ s.sameObjects s' (fun _ => false)) ∧
  (∀ (s : State) (t q : Nat), q < 12 → (s.tx q).carrier = 3 → (s.tx q).heldTick + us 200 ≤ peak s.now t →
    ∃ s', exec (.rampAbandoned t q) s = .next s' ∧ s'.carrierOn q = false ∧
      s'.nat (0x2200 + q) 14 = (s.nat (0x2200 + q) 14 + 1) % 2 ^ 32 ∧ (∃ m : State, s' = m.raise 0x2205 [q, q / 4] s.allJoined) ∧
      s.sameOtherQuads s' q ∧ s'.outside [.radio, .tags, .pins] = s.outside [.radio, .tags, .pins] ∧ s.sameObjects s' (quadObject q)) ∧
  (∀ (s : State) (t q : Nat), (s.tx q).carrier = 3 → peak s.now t < (s.tx q).heldTick + us 200 → exec (.rampAbandoned t q) s = .next (s.at t))

/-- A synthesizer that loses lock with its carrier on: the carrier goes off, the exchange is abandoned with its reservation and
credits, the next hop on that channel is cold, and event 0x2202 names the quad, its port and the channel (R44, R90). At the dwell
or occupancy end the carrier goes off and the channel enters its re-use off time (R119); before it, nothing happens. -/
def Obligations.UnlockAndDwellEndTheCarrier : Prop :=
  (∀ (s : State) (t q : Nat), q < 12 → s.carrierOn q = true →
    ∃ s', exec (.synthesizerUnlock t q) s = .next s' ∧ s'.carrierOn q = false ∧ (∀ i, (s.tx q).index = some i → i ∈ (s'.tx q).coldNext) ∧
      (s'.seq q).reserved = false ∧ (s'.seq q).credits = 0 ∧ (s'.seq q).inSlot = false ∧ (s'.seq q).state = 0 ∧
      (∃ m : State, s' = m.raise 0x2202 ([q, (s.tx q).port] ++ dU 2 (s.txChannel q)) m.allJoined) ∧
      s.sameOtherQuads s' q ∧ s'.outside [.radio, .tags, .pins] = s.outside [.radio, .tags, .pins] ∧ s.sameObjects s' (quadObject q)) ∧
  (∀ (s : State) (t q i : Nat), q < 12 → (s.tx q).index = some i → s.carrierOn q = true →
    (fits ((s.at t).now + 1) ((s.at t).dwellEnd q i) = false →
      ∃ s', exec (.dwellLimit t q) s = .next s' ∧ s'.carrierOn q = false ∧ (s'.seq q).state = 0 ∧
        (i, peak s.now t + (s.at t).reuseTicks i) ∈ (s'.tx q).reuse ∧ s.sameOtherQuads s' q ∧
        s'.outside [.radio, .tags, .pins] = s.outside [.radio, .tags, .pins] ∧ s.sameObjects s' (fun i => quadObject q i || s.planObject q i)) ∧
    (fits ((s.at t).now + 1) ((s.at t).dwellEnd q i) = true → exec (.dwellLimit t q) s = .next (s.at t)))

/-- VSWR above the trip threshold at the transmitting port, at +10 dBm of forward power or more, faults the port with cause 1; a VSWR of
19.00 or more, which is a reflection magnitude of 0.9, faults it with cause 2 at any power, and so does a measured reflection of that
magnitude; a PA over-current faults it with cause 3: the carrier goes off, the cause-cleared flag is FALSE, the port counts one trip and
event 0x2101 or 0x2102 names it (R103, R104). At or below the threshold the VSWR is only reported (R103). A probe of a faulted port, at a
stagger point of its quad, counts its 50 µs as a dwell of the quad, and what it measures trips the port again under the same tests, or is
reported, and sets the cause-cleared flag, with event 0x2103, where the VSWR is at or below the clear level (R111). -/
def Obligations.PortsFaultAndClear : Prop :=
  (∀ (s : State) (t p vswr : Nat) (fwd : Int), p < 48 → s.transmits p = true →
    (vswr < hardVswr → 1000 ≤ fwd → tripVswr (s.inForce.nat (0x2100 + p) 9) < vswr →
      ∃ s', exec (.mismatchTrip t p { vswr := vswr, fwd := fwd }) s = .next s' ∧ s.portTrips s' p 1 vswr ∧ s'.carrierOn (p / 4) = false ∧
        (∃ m : State, s' = m.raise 0x2101 ([p, s.inForce.nat (0x2100 + p) 9] ++ dU 2 vswr ++ dU 2 (s.txChannel (p / 4))) (s.reachPort p)) ∧
        s.sameOtherQuads s' (p / 4) ∧ s'.outside [.radio, .tags, .pins] = s.outside [.radio, .tags, .pins] ∧
        s.sameObjects s' (fun i => i == 0x2100 + p || quadObject (p / 4) i)) ∧
    (hardVswr ≤ vswr → ∃ s', exec (.mismatchTrip t p { vswr := vswr, fwd := fwd }) s = .next s' ∧ s.portTrips s' p 2 vswr ∧ s'.carrierOn (p / 4) = false ∧
        (∃ m : State, s' = m.raise 0x2102 ([p, 1] ++ dU 2 (s.txChannel (p / 4))) (s.reachPort p)) ∧
        s.sameOtherQuads s' (p / 4) ∧ s'.outside [.radio, .tags, .pins] = s.outside [.radio, .tags, .pins] ∧
        s.sameObjects s' (fun i => i == 0x2100 + p || quadObject (p / 4) i)) ∧
    (vswr < hardVswr → fwd < 1000 → exec (.mismatchTrip t p { vswr := vswr, fwd := fwd }) s = .next (s.at t)) ∧
    (vswr < hardVswr → 1000 ≤ fwd → vswr ≤ tripVswr (s.inForce.nat (0x2100 + p) 9) →
      exec (.mismatchTrip t p { vswr := vswr, fwd := fwd }) s = .next ((s.at t).set (0x2100 + p) 13 vswr))) ∧
  (∀ (s : State) (t p : Nat) (gamma : Option Nat), p < 48 → s.transmits p = true →
    ((∀ g, gamma = some g → 900 ≤ g) → ∃ s', exec (.hardShort t p gamma) s = .next s' ∧
      s.portTrips s' p (if gamma = none then 3 else 2) (s.nat (0x2100 + p) 13) ∧ s'.carrierOn (p / 4) = false ∧
      (∃ m : State, s' = m.raise 0x2102 ([p, if gamma = none then 2 else 1] ++ dU 2 (s.txChannel (p / 4))) (s.reachPort p)) ∧
      s.sameOtherQuads s' (p / 4) ∧ s'.outside [.radio, .tags, .pins] = s.outside [.radio, .tags, .pins] ∧
      s.sameObjects s' (fun i => i == 0x2100 + p || quadObject (p / 4) i)) ∧
    (∀ g, gamma = some g → g < 900 → exec (.hardShort t p gamma) s = .next (s.at t))) ∧
  (∀ (s : State) (t p vswr draw i : Nat) (excess : Bool), p < 48 → s.quads.length = 12 →
    let s0 := s.at t
    s0.actual p = 3 → 1 ≤ s0.nat (0x2100 + p) 3 → s0.nat (0x2100 + p) 3 ≤ 3 →
    (s0.port p).probeTick + sec (s0.nat (0x2100 + p) 14) ≤ s0.now →
    s0.carrierOn (p / 4) = false → (s0.tx (p / 4)).faulted = false → s0.power.paBias = true → s0.inWindow (p / 4) = true →
    s0.guardPassed (p / 4) = true → s0.atStagger (p / 4) = true → s0.granted = true → s0.requested = true → s0.actPermits = true →
    (s0.bank (p / 4 / 4)).inWindow = true →
    s0.chooseFrom (p / 4) (s0.inForce.probeSet p) draw = some i → fits (s0.now + us 50) (s0.windowEnd (p / 4)) = true →
    fits (s0.now + us 50) (s0.dwellEnd (p / 4) i) = true →
    ∃ s', exec (.portProbe t p vswr excess draw) s = .next s' ∧
      (excess = true ∨ hardVswr ≤ vswr → s.portTrips s' p (if excess then 3 else 2) vswr ∧
        (∃ m : State, s' = m.raise 0x2102 ([p, if excess then 2 else 1] ++ dU 2 (s.channelAt i)) (s.reachPort p))) ∧
      (excess = false → vswr < hardVswr → tripVswr (s.inForce.nat (0x2100 + p) 9) < vswr → s.portTrips s' p 1 vswr ∧
        (∃ m : State, s' = m.raise 0x2101 ([p, s.inForce.nat (0x2100 + p) 9] ++ dU 2 vswr ++ dU 2 (s.channelAt i)) (s.reachPort p))) ∧
      (excess = false → vswr < hardVswr → vswr ≤ tripVswr (s.inForce.nat (0x2100 + p) 9) →
        s'.nat (0x2100 + p) 13 = vswr ∧ s'.nat (0x2100 + p) 3 = s.nat (0x2100 + p) 3 ∧ s'.nat (0x2100 + p) 15 = s.nat (0x2100 + p) 15 ∧
        s'.nat (0x2100 + p) 4 = (if vswr ≤ clearVswr (s.inForce.nat (0x2100 + p) 9) then 1 else s.nat (0x2100 + p) 4) ∧
        (vswr ≤ clearVswr (s.inForce.nat (0x2100 + p) 9) →
          ∃ m : State, s' = m.raise 0x2103 ([p, s.nat (0x2100 + p) 3] ++ dU 2 vswr) (s.reachPort p))) ∧
      { index := i, start := s0.now, stop := some (s0.now + us 50) } ∈ (s'.tx (p / 4)).dwells ∧ s'.carrierOn (p / 4) = false ∧
      s.sameOtherQuads s' (p / 4) ∧ s'.outside [.radio] = s.outside [.radio] ∧ s.sameObjects s' (fun i => i == 0x2100 + p || i == 0x2200 + p / 4))

/-- On an unmodulated carrier, once in 2 µs, the power loop moves the drive by the error, at most 0.25 dB and never beyond its maximum, and
reports the forward power (R99, R101). Every 100 µs the feed-forward compensation takes the bank's temperature and its supply (R99). At
maximum drive a shortfall of more than 0.5 dB that has lasted 20 µs is counted, with event 0x2208 once a minute (R101). An adaptive tuner
on an unmodulated carrier steps one bank by one code every 20 µs at most; a step beyond the end of its range leaves the code, is counted
and is pinned, the 64th in succession with event 0x2105; a fixed tuner does not step (R102). -/
def Obligations.PowerLoopsStep : Prop :=
  (∀ (s : State) (t q : Nat) (fwd : Int), q < 12 → s.quads.length = 12 → (s.at t).unmodulated q = true →
    ((s.tx q).loopTick + us 2 ≤ peak s.now t →
      ∃ s', exec (.powerLoopMeasurement t q fwd) s = .next s' ∧ s'.int (0x2200 + q) 5 = fwd ∧
        (s'.tx q).drive = (if Config.maxDrive < (s.tx q).drive + clampTo 25 (s.int (0x2200 + q) 4 - fwd) then Config.maxDrive
          else (s.tx q).drive + clampTo 25 (s.int (0x2200 + q) 4 - fwd)) ∧ (s'.tx q).loopTick = peak s.now t ∧
        s.sameOtherQuads s' q ∧ s'.outside [.radio] = s.outside [.radio] ∧ s.sameObjects s' (fun i => i == 0x2200 + q)) ∧
    (peak s.now t < (s.tx q).loopTick + us 2 → exec (.powerLoopMeasurement t q fwd) s = .next (s.at t))) ∧
  (∀ (s : State) (t b mv : Nat), b < 3 → s.banks.length = 3 →
    ((s.bank b).ffTick + us 100 ≤ peak s.now t →
      ∃ s', exec (.feedForwardRefresh t b mv) s = .next s' ∧ (s'.bank b).ffTemp = (s.bank b).temp ∧ (s'.bank b).ffSupply = mv ∧
        (s'.bank b).supply = mv ∧ (s'.bank b).ffTick = peak s.now t ∧
        ((s.bank b).inWindow = true → 11000 ≤ mv → mv ≤ 13000 → s'.quads = s.quads ∧ s.sameObjects s' (fun _ => false)) ∧
        s'.outside [.radio] = s.outside [.radio] ∧ s.sameObjects s' (fun i => i == 0x2060 || (quadsOf b).any (fun q => i == 0x2200 + q))) ∧
    (peak s.now t < (s.bank b).ffTick + us 100 → exec (.feedForwardRefresh t b mv) s = .next (s.at t))) ∧
  (∀ (s : State) (t q since : Nat) (measured : Int), q < 12 → (s.tx q).carrier = 2 → (s.tx q).short = some (since, false) →
    since + us 20 < peak s.now t → measured < s.int (0x2200 + q) 4 - 50 →
    ∃ s', exec (.powerShortfall t q measured) s = .next s' ∧ s'.nat (0x2200 + q) 12 = (s.nat (0x2200 + q) 12 + 1) % 2 ^ 32 ∧
      (s'.tx q).short = some (since, true) ∧
      (∃ m : State, s' = m.raise 0x2208 ([q] ++ dI 2 (s.int (0x2200 + q) 4) ++ dI 2 measured) s.allJoined (perMinute q)) ∧
      s.sameOtherQuads s' q ∧ s'.outside [.radio] = s.outside [.radio] ∧ s.sameObjects s' (fun i => i == 0x2200 + q)) ∧
  (∀ (s : State) (t p bank vswr : Nat) (up : Bool), p < 48 → s.ports.length = 48 → 1 ≤ bank → bank ≤ 3 → s.nat (0x2100 + p) 11 < 2 ^ 18 →
    (s.nat (0x2100 + p) 10 = 0 → (s.at t).unmodulated (p / 4) = true → (s.seq (p / 4)).state ≤ 2 → (s.at t).rxState p = 2 →
      (s.port p).tunerTick + us 20 ≤ peak s.now t →
      ∃ s', exec (.tunerStep t p bank up vswr) s = .next s' ∧
        (∀ b, 1 ≤ b → b ≤ 3 → tunerCode (s'.nat (0x2100 + p) 11) b =
          (if b ≠ bank then tunerCode (s.nat (0x2100 + p) 11) b
           else if up then (if tunerCode (s.nat (0x2100 + p) 11) bank = 63 then 63 else tunerCode (s.nat (0x2100 + p) 11) bank + 1)
           else tunerCode (s.nat (0x2100 + p) 11) bank - 1)) ∧
        (let atEnd := (up = true ∧ tunerCode (s.nat (0x2100 + p) 11) bank = 63) ∨ (up = false ∧ tunerCode (s.nat (0x2100 + p) 11) bank = 0)
         (atEnd → (s'.port p).tunerPinned = (s.port p).tunerPinned + 1 ∧ s'.nat (0x2100 + p) 16 = (s.nat (0x2100 + p) 16 + 1) % 2 ^ 32 ∧
           ((s.port p).tunerPinned = 63 → ∃ m : State, s' = m.raise 0x2105 ([p, bank, tunerCode (s.nat (0x2100 + p) 11) bank] ++ dU 2 vswr)
             (s.reachPort p))) ∧
         (¬atEnd → (s'.port p).tunerPinned = 0 ∧ s'.nat (0x2100 + p) 16 = s.nat (0x2100 + p) 16)) ∧
        (s'.port p).tunerTick = peak s.now t ∧ s.sameOtherQuads s' (p / 4) ∧
        s'.outside [.radio] = s.outside [.radio] ∧ s.sameObjects s' (fun i => i == 0x2100 + p)) ∧
    (s.nat (0x2100 + p) 10 ≠ 0 → exec (.tunerStep t p bank up vswr) s = .next (s.at t)))

/-- A sample of the bank temperatures is reported; a bank above the derating temperature is derated; 125.0 °C on any bank puts the
module into safe state with cause 3 and the first such bank as its unit, unless that cause is active already; below 115.0 °C on all the
cause clears (R98, R580). At the cold start and every 60 s, a fused charter whose CRC-32 does not match sets charter state 2 and puts the
module into safe state with cause 4; one that matches changes nothing but that the check has been made (R120, R580). A charter that the
programming station writes waits for the next boot (R121). -/
def Obligations.TemperaturesAndCharterAreChecked : Prop :=
  (∀ (s : State) (t : Nat) (a b c : Int), s.banks.length = 3 →
    ∃ s', exec (.temperatureSample t a b c) s = .next s' ∧
      (∀ x, s'.live x 0x2060 5 = some (.num a) ∧ s'.live x 0x2060 6 = some (.num b) ∧ s'.live x 0x2060 7 = some (.num c)) ∧
      ((s'.bank 0).derating = true ↔ s.int 0x2060 1 < a) ∧ ((s'.bank 1).derating = true ↔ s.int 0x2060 1 < b) ∧
      ((s'.bank 2).derating = true ↔ s.int 0x2060 1 < c) ∧
      (1250 ≤ a ∨ 1250 ≤ b ∨ 1250 ≤ c → bitOf (s.nat 0x1110 2) 3 = false → s.inSafe = false →
        s.entersSafe s' 3 (if 1250 ≤ a then 0 else if 1250 ≤ b then 1 else 2) ∧ s'.outside safeAreas = s.outside safeAreas ∧
        s.sameObjects s' (fun i => airObject i || i == 0x1110)) ∧
      (a < 1250 ∧ b < 1250 ∧ c < 1250 ∨ bitOf (s.nat 0x1110 2) 3 = true → s'.quads = s.quads ∧ s'.outside [.radio] = s.outside [.radio] ∧
        s.sameObjects s' (fun i => i == 0x1110)) ∧
      (a < 1150 → b < 1150 → c < 1150 → bitOf (s'.nat 0x1110 2) 3 = false)) ∧
  (∀ (s : State) (t crc : Nat), s.power.charterChecked = false ∨ s.power.charterTick + sec 60 ≤ peak s.now t →
    (s.fuses.charterState ≠ 0 → crc ≠ s.fuses.charter.check → s.inSafe = false →
      ∃ s', exec (.fusedCharterCheck t crc) s = .next s' ∧ s'.fuses.charterState = 2 ∧ s.entersSafe s' 4 0xFF ∧
        s'.outside (.fuses :: safeAreas) = s.outside (.fuses :: safeAreas) ∧ s.sameObjects s' (fun i => airObject i || i == 0x1110)) ∧
    (s.fuses.charterState = 0 ∨ crc = s.fuses.charter.check → exec (.fusedCharterCheck t crc) s =
      .next { s.at t with power := { s.power with charterChecked := true, charterTick := peak s.now t } })) ∧
  (∀ (s : State) (t : Nat) (ch : Charter), s.fuses.ordering = 2 → s.fuses.charterState = 0 → s.fuses.written = none → charterFits ch = true →
    ∃ s', exec (.charterWrittenByStation t ch) s = .next s' ∧ s'.fuses = { s.fuses with written := some ch } ∧
      s'.outside [.fuses] = s.outside [.fuses] ∧ s.sameObjects s' (fun _ => false))

/-- Coexistence: with it enabled, outside safe state and reset, CX_REQ rises for a window and waits for a grant that does not stand; CX_GNT
follows its line, and its fall while a carrier is on counts one: under action 1 every carrier goes off at once,
under action 0 after the exchange in progress, a rising or held ramp at once (R122, R123). A grant that does not come within the wait limit
drops CX_REQ, counts one and raises event 0x2302 (R123). CX_ACT rising under
action 1 counts one and raises event 0x2303, and under action 2 counts one and turns every carrier off; under action 0 only its level is
shown (R124); falling, it frees the line. -/
def Obligations.CoexistenceLines : Prop :=
  (∀ (s : State) (t : Nat), s.flag 0x2300 1 = true → s.inSafe = false → s.pins.cxReq = false → s.power.released = true →
    s.power.resetLow = false → s.power.refclkLost = false →
    ∃ s', exec (.cxReqRaised t) s = .next s' ∧ s'.pins = { s.pins with cxReq := true } ∧ bitOf (s'.nat 0x2300 6) 0 = true ∧
      s'.coex.reqTick = peak s.now t ∧ s'.coex.waiting = !s.pins.cxGnt ∧
      s'.outside [.radio, .pins] = s.outside [.radio, .pins] ∧ s.sameObjects s' (fun i => i == 0x2300)) ∧
  (∀ (s : State) (t : Nat) (level : Bool), level = true ∨ s.pins.cxGnt = false ∨ s.flag 0x2300 1 = false ∨ s.emitting = 0 →
    ∃ s', exec (.cxGntChange t level) s = .next s' ∧ s'.pins = { s.pins with cxGnt := level } ∧ bitOf (s'.nat 0x2300 6) 1 = level ∧
      (level = true → s'.coex.waiting = false) ∧
      s'.quads = s.quads ∧ s'.outside [.radio, .pins] = s.outside [.radio, .pins] ∧ s.sameObjects s' (fun i => i == 0x2300)) ∧
  (∀ (s : State) (t : Nat), s.quads.length = 12 → s.pins.cxGnt = true → s.flag 0x2300 1 = true → s.emitting ≠ 0 →
    ∃ s', exec (.cxGntChange t false) s = .next s' ∧ s'.pins.cxGnt = false ∧ s'.nat 0x2300 8 = (s.nat 0x2300 8 + 1) % 2 ^ 32 ∧
      (s.nat 0x2300 4 = 1 → s'.dark) ∧
      (s.nat 0x2300 4 ≠ 1 → ∀ q, q < 12 →
        ((s.tx q).carrier = 1 ∨ (s.tx q).carrier = 3 → s'.carrierOn q = false) ∧
        ((s.tx q).carrier = 2 → (s.seq q).state < 2 → (s'.tx q).carrier = 4) ∧
        ((s.tx q).carrier = 2 → 2 ≤ (s.seq q).state → (s'.tx q).carrier = 2 ∧ (s'.seq q).offNow = true)) ∧
      s'.outside [.radio, .tags, .pins] = s.outside [.radio, .tags, .pins] ∧ s.sameObjects s' airObject) ∧
  (∀ (s : State) (t : Nat), s.flag 0x2300 1 = true → s.pins.cxReq = true → s.coex.waiting = true → s.pins.cxGnt = false →
    s.coex.reqTick + ms (s.nat 0x2300 3) ≤ peak s.now t →
    ∃ s', exec (.grantWaitExpired t) s = .next s' ∧ s'.pins = { s.pins with cxReq := false } ∧ s'.nat 0x2300 7 = (s.nat 0x2300 7 + 1) % 2 ^ 32 ∧
      (∃ m : State, s' = m.raise 0x2302 (dU 2 (s.nat 0x2300 3)) m.allJoined) ∧
      (∀ q, s'.tx q = s.tx q) ∧ s'.outside [.radio, .pins] = s.outside [.radio, .pins] ∧ s.sameObjects s' (fun i => i == 0x2300)) ∧
  (∀ (s : State) (t : Nat), s.pins.cxAct = false →
    (s.nat 0x2300 5 = 0 → ∃ s', exec (.foreignActivity t) s = .next s' ∧ s'.pins = { s.pins with cxAct := true } ∧
      bitOf (s'.nat 0x2300 6) 2 = true ∧ s'.nat 0x2300 9 = s.nat 0x2300 9 ∧ s'.outside [.pins] = s.outside [.pins] ∧
      s.sameObjects s' (fun i => i == 0x2300)) ∧
    (s.nat 0x2300 5 = 1 → ∃ s', exec (.foreignActivity t) s = .next s' ∧ s'.pins = { s.pins with cxAct := true } ∧
      bitOf (s'.nat 0x2300 6) 2 = true ∧ s'.nat 0x2300 9 = (s.nat 0x2300 9 + 1) % 2 ^ 32 ∧
      (∃ m : State, s' = m.raise 0x2303 ([1] ++ dU 2 s.emitting) m.allJoined) ∧ s'.outside [.pins] = s.outside [.pins] ∧
      s.sameObjects s' (fun i => i == 0x2300)) ∧
    (s.nat 0x2300 5 = 2 → ∃ s', exec (.foreignActivity t) s = .next s' ∧ s'.pins.cxAct = true ∧ s'.dark ∧
      bitOf (s'.nat 0x2300 6) 2 = true ∧ s'.nat 0x2300 9 = (s.nat 0x2300 9 + 1) % 2 ^ 32 ∧
      s'.outside [.radio, .tags, .pins] = s.outside [.radio, .tags, .pins] ∧ s.sameObjects s' airObject)) ∧
  (∀ (s : State) (t : Nat), ∃ s', exec (.cxActFalls t) s = .next s' ∧ s'.pins = { s.pins with cxAct := false } ∧ bitOf (s'.nat 0x2300 6) 2 = false ∧
      s'.quads = s.quads ∧ s'.outside [.pins] = s.outside [.pins] ∧ s.sameObjects s' (fun i => i == 0x2300))

/-! ### UHF receive and the air protocols (chapters 4–6 and 8) -/

/-- An iteration of a port's canceller, while it settles or tracks on a carrier at power: each component moves within 12 bits, one that
stays at an end counts one at `0x2130`+p:0C, and residual and depths are the iteration's (R131, R136, R142). The port is settled when its
residual has changed by less than 0.5 dB over four iterations at or below the target; it is shallow, and counted at `0x2210`+q:09, when it
has converged above the target, when it was settled and rises above it, or when 150 µs have passed since the carrier reached power; either
way it tracks (R139, R140). A block of samples under the AGC moves the gain by a step between −12 and +6 dB within the range of the LNA
mode, and a fixed gain stays (R146, R150); a clipped block during a reply counts one (R130). Both reports of a canceller do the same. -/
def Obligations.CancellersSettleAndGainMoves : Prop :=
  (∀ (s : State) (t p : Nat) (i : CancIter) (c : Instr), p < 48 → s.ports.length = 48 →
    c = .cancellerSettled t p [i.residual] [(i.coarseI, i.coarseQ)] [(i.fineI, i.fineQ)] [i.taps] [i.analog] [i.digital] [(i.dcI, i.dcQ)] ∨
      c = .cancellerShallow t p [i.toCancMove] [i.toCancReading] →
    (s.tx (p / 4)).carrier = 2 → ((s.at t).rxState p = 1 ∨ (s.at t).rxState p = 2) → 1 ≤ s.nat (0x2130 + p) 3 → s.nat (0x2130 + p) 3 ≤ 3 →
    let moves := [i.coarseI, i.coarseQ, i.fineI, i.fineQ]
    ∃ s', exec c s = .next s' ∧
      (s'.port p).residual = i.residual ∧ (s'.port p).analog = i.analog ∧ (s'.port p).digital = i.digital ∧ (s'.port p).taps = i.taps ∧
      (s'.port p).vector = List.zipWith (fun v m => bounded (-2048) 2047 (v + m)) (s.port p).vector moves ∧
      (s'.port p).recent = (i.residual :: (s.port p).recent).take 5 ∧
      (pinnedStage (s.port p).vector moves = 0 → (s'.port p).cancPinned = 0 ∧ s'.nat (0x2130 + p) 12 = s.nat (0x2130 + p) 12) ∧
      (pinnedStage (s.port p).vector moves ≠ 0 → (s'.port p).cancPinned = (s.port p).cancPinned + 1 ∧
        s'.nat (0x2130 + p) 12 = (s.nat (0x2130 + p) 12 + 1) % 2 ^ 32) ∧
      (let late := (s.tx (p / 4)).powerTick + us 150 ≤ peak s.now t
       let good := i.residual ≤ s.int (0x2210 + p / 4) 1
       let conv := (s'.port p).converged = true
       (conv ∧ good → s'.nat (0x2130 + p) 3 = 3 ∧ s'.nat (0x2130 + p) 2 ≠ 1 ∧ s'.nat (0x2210 + p / 4) 9 = s.nat (0x2210 + p / 4) 9) ∧
       ((¬good ∧ (conv ∨ s.nat (0x2130 + p) 3 = 3)) ∨ (¬conv ∧ late ∧ s.nat (0x2130 + p) 3 ≤ 2) → s'.nat (0x2130 + p) 3 = 4 ∧
         s'.nat (0x2130 + p) 2 ≠ 1 ∧ s'.nat (0x2210 + p / 4) 9 = (s.nat (0x2210 + p / 4) 9 + 1) % 2 ^ 32 ∧ (s'.port p).shallowRaised = true) ∧
       (¬conv → (good ∨ s.nat (0x2130 + p) 3 ≤ 2) → (¬late ∨ s.nat (0x2130 + p) 3 = 3) →
         s'.nat (0x2130 + p) 3 = s.nat (0x2130 + p) 3 ∧ s'.nat (0x2130 + p) 2 = s.nat (0x2130 + p) 2 ∧
         s'.nat (0x2210 + p / 4) 9 = s.nat (0x2210 + p / 4) 9)) ∧
      s'.quads = s.quads ∧ s'.outside [.radio] = s.outside [.radio] ∧ s.sameObjects s' (fun k => k == 0x2130 + p || k == 0x2210 + p / 4)) ∧
  (∀ (s : State) (t p : Nat) (residual : List Int) (coarse fine dc : List (Int × Int)) (taps : List (List Int)) (analog digital : List Nat)
      (moves : List CancMove) (readings : List CancReading) (c : Instr),
    c = .cancellerSettled t p residual coarse fine taps analog digital dc ∨ c = .cancellerShallow t p moves readings →
    ∃ s', exec c s = .next s' ∧ s'.quads = s.quads ∧ s'.outside [.radio] = s.outside [.radio] ∧
      s.sameObjects s' (fun k => k == 0x2130 + p || k == 0x2210 + p / 4)) ∧
  (∀ (s : State) (t p : Nat) (block fwd : List Cx), p < 48 → s.ports.length = 48 → 2 ≤ (s.seq (p / 4)).state →
    s.current (p / 4) (key (0x2130 + p) 2) → s.current (p / 4) (key (0x2130 + p) 8) → s.current (p / 4) (key (0x2130 + p) 11) →
    let s0 := (s.at t).seen (p / 4)
    let want : Int := s.nat (0x2130 + p) 8 + agcStep (s0.nat (0x2210 + p / 4) 2) (blockPeak block)
    ∃ s', exec (.agcBlock t p block fwd) s = .next s' ∧
      (s.nat (0x2130 + p) 2 = 4 → s0.fixedGain (p / 4) = false → s'.int (0x2130 + p) 8 =
        (if (s0.gMax p : Int) < want then (s0.gMax p : Int) else if want < s0.gMin p then (s0.gMin p : Int) else want)) ∧
      (s.nat (0x2130 + p) 2 ≠ 4 ∨ s0.fixedGain (p / 4) = true → s'.nat (0x2130 + p) 8 = s.nat (0x2130 + p) 8) ∧
      (s.nat (0x2130 + p) 2 = 5 → blockClips block = true → (s'.port p).clippedAt.isSome = true ∧
        s'.nat (0x2130 + p) 11 = (s.nat (0x2130 + p) 11 + 1) % 2 ^ 32) ∧
      (s.nat (0x2130 + p) 2 ≠ 5 ∨ blockClips block = false → (s'.port p).clippedAt = (s.port p).clippedAt ∧
        s'.nat (0x2130 + p) 11 = s.nat (0x2130 + p) 11) ∧
      s'.quads = s.quads ∧ s'.outside [.radio] = s.outside [.radio] ∧ s.sameObjects s' (fun k => k == 0x2130 + p)) ∧
  (∀ target pk : Nat, -12 ≤ agcStep target pk ∧ agcStep target pk ≤ 6 ∧ (8192 ^ 200 ≤ 10 * pk ^ 200 → agcStep target pk = -12))

/-- A dwell of a noise survey begins in a quiet slot that includes the quad, where it ends before the quiet run does and neither a logic
slice nor a background calibration of the quad is due: its receivers survey at the next list index that the mask permits, in the high LNA
mode at a fixed gain. When the dwell time is over, the levels of the four ports stand in the result of that index; the last index
completes the sweep, which is counted (R152–R154). A core of the decoder pool that finishes a codeword counts it, and once more where
a check fails, and passes it on to its frame where that is still being received (R190). -/
def Obligations.SurveyDwellsAndCodewordsAreCounted : Prop :=
  (∀ (s : State) (t q i : Nat) (levels : List Int), q < 12 → s.quads.length = 12 → (s.tx q).survey = none →
     let s0 := s.at t
     s0.flag (0x2210 + q) 4 = true → s0.power.mode = 0 → s0.carrierOn q = false → s0.sliceFits (some q) (us (s0.nat (0x2210 + q) 5)) = true →
     s0.sliceDue q = false → s0.calibrationDue q = false → (s0.surveyList q).find? (fun i => decide ((s0.tx q).surveyNext ≤ i)) = some i →
     ∃ s', exec (.noiseSurveyDwell t q levels) s = .next s' ∧ (s'.tx q).survey = some (i, s0.now) ∧
       (∀ n ∈ portsOf q, s'.nat (0x2130 + n) 2 = 6 ∧ s'.nat (0x2130 + n) 7 = 1 ∧ s'.nat (0x2130 + n) 8 = 50) ∧
       s.sameOtherQuads s' q ∧ s'.outside [.radio] = s.outside [.radio] ∧ s.sameObjects s' (quadObject q)) ∧
  (∀ (s : State) (t q i start : Nat) (levels : List Int), q < 12 → s.quads.length = 12 → (s.tx q).survey = some (i, start) → i < 63 →
     start + us (s.nat (0x2210 + q) 5) ≤ peak s.now t →
     ∃ s', exec (.noiseSurveyDwell t q levels) s = .next s' ∧
       (∀ n, n < 4 → s'.nat (0x2220 + q) (i + 1) / 256 ^ n % 256 = surveyByte (tget levels n (-12800))) ∧
       ((s.surveyList q).any (fun j => decide (i < j)) = false →
         s'.nat (0x2210 + q) 7 = (s.nat (0x2210 + q) 7 + 1) % 2 ^ 32 ∧ s'.nat (0x2220 + q) 65 = s.rtcSec ∧ (s'.tx q).surveyNext = 0) ∧
       ((s.surveyList q).any (fun j => decide (i < j)) = true →
         s'.nat (0x2210 + q) 7 = s.nat (0x2210 + q) 7 ∧ (s'.tx q).surveyNext = i + 1) ∧
       s.sameOtherQuads s' q ∧ s'.outside [.radio] = s.outside [.radio] ∧
       s.sameObjects s' (fun k => quadObject q k || k == 0x2210 + q || k == 0x2220 + q)) ∧
  (∀ (s : State) (t core : Nat) (w : Codeword) (quads : List Nat) (ports : List (List (List Cx))) (fwd : List (List Cx)), core < 4 → s.ldpcCores.length = 4 → s.quads.length = 12 →
     (∀ f ∈ quads, 2 ≤ (s.seq f).state) → (∀ q k, s.current q (key 0x2240 k)) → tget s.ldpcCores core none = some w → w.quad < 12 →
     let r := ldpcDecode w.code (s.nat 0x2240 1) (s.flag 0x2240 2) w.values
     ∃ s', exec (.ldpcCodewordDone t core quads ports fwd) s = .next s' ∧
       s'.nat 0x2240 3 = (s.nat 0x2240 3 + 1) % 2 ^ 32 ∧
       s'.nat 0x2240 4 = (if satisfied w.code r.2 then s.nat 0x2240 4 else (s.nat 0x2240 4 + 1) % 2 ^ 32) ∧
       s'.ldpc = (r.1 :: s.ldpc).take 4096 ∧
       ((s.seq w.quad).state = 4 → (s.seq w.quad).cmd.cmd = 19 → (s.seq w.quad).exchange = w.exchange →
         (s'.seq w.quad).hsb.codewords = (s.seq w.quad).hsb.codewords + 1 ∧
         (s'.seq w.quad).hsb.failedWords = (s.seq w.quad).hsb.failedWords + (if satisfied w.code r.2 then 0 else 1) ∧
         (s'.seq w.quad).hsb.decoded = (s.seq w.quad).hsb.decoded ++ [(w.place, r.2.take (infoBits w.code))]) ∧
       (∀ q, s'.tx q = s.tx q) ∧ s'.outside [.radio] = s.outside [.radio] ∧ s.sameObjects s' (fun k => k == 0x2240)) ∧
  (∀ (s : State) (t core : Nat) (quads : List Nat) (ports : List (List (List Cx))) (fwd : List (List Cx)), (∀ f ∈ quads, 2 ≤ (s.seq f).state) →
     ∃ s', exec (.ldpcCodewordDone t core quads ports fwd) s = .next s' ∧ (∀ q, s'.tx q = s.tx q) ∧ s'.outside [.radio] = s.outside [.radio] ∧
       s.sameObjects s' (fun k => k == 0x2240))

/-- A command that draws a reply, where it is the quad's next and the gates let it pass: the sequencer sends it, its exchange
number is one more, the rest of its commands wait, an entry of the port's FIFO is reserved, and the receivers of the quad are
blanked (R42, R131, R179, R474); an HSB command ends on a sample instant (R262); a command that opens a slot has taken the slot's credits
(R477). It holds for Query, QueryAdjust, QueryRep, ACK, Req_RN, Read, Write, Kill, Lock, Access, BlockWrite, BlockErase, BlockPermalock,
Untraceable, Authenticate with a challenge that was never sent (R215), HSB_Probe, HSB_Load and HSB_GroupACK. A Select, where it is the
quad's next and the gates let it pass, is sent and leads at once to the next command, since it draws no reply, and so does a Mark's Select
(argument 255), which ends its step; a NAK is sent, is counted, and ends the slot; the descriptor of each fills a FIFO entry (R179, R206,
R210). Where a command is not the quad's next or its time has not come, nothing happens. -/
def Obligations.CommandsAreSent : Prop :=
  (∀ (s : State) (t q p : Nat) (ch : List Byte) (d : Due) (g : Group) (c : Instr), q < 12 → s.quads.length = 12 →
    airCommand t q ch d.cmd = some c → d.silent = false → (s.at t).maySend q d p g →
    (d.cmd = 17 → s.challenges.contains (fit 10 ch) = false) →
    ∃ s', exec c s = .next s' ∧ (s'.seq q).state = 2 ∧ (s'.seq q).cmd = d ∧
      (s'.seq q).cmdStart = peak s.now t + (s.at t).dueShift q d ∧
      (d.cmd ≠ 17 → (s'.seq q).cmdEnd = (s'.seq q).cmdStart + (s.at t).dueTicks q d) ∧ (18 ≤ d.cmd → (s'.seq q).cmdEnd % 12 = 0) ∧
      (s'.seq q).exchange = ((s.seq q).exchange + 1) % 65536 ∧ (s'.seq q).due = (s.seq q).due.tail ∧ (s'.seq q).reserved = true ∧
      (d.opensSlot = true → (s'.seq q).inSlot = true ∧ (s'.seq q).credits = (s.at t).slotCredits p g) ∧
      (d.cmd = 17 → (s'.seq q).challenge = fit 10 ch ∧ s'.challenges = s.challenges ++ [fit 10 ch]) ∧
      (d.cmd = 18 → s'.nat 0x3200 9 = (s.nat 0x3200 9 + 1) % 2 ^ 32) ∧ (d.cmd = 20 → s'.nat 0x3200 14 = (s.nat 0x3200 14 + 1) % 2 ^ 32) ∧
      (∀ n ∈ portsOf q, s'.nat (0x2130 + n) 2 = 3) ∧ s.sameOtherQuads s' q ∧ s'.outside [.radio] = s.outside [.radio] ∧
      s.sameObjects s' (fun k => quadObject q k || portObject q k || k == 0x3200)) ∧
  ((∀ (s : State) (t q p : Nat) (d : Due) (g : Group), q < 12 → s.quads.length = 12 → s.ports.length = 48 → (s.seq q).port < 48 →
    d.cmd = 1 → d.arg ≠ 255 → (s.at t).maySend q d p g →
    ∃ s', exec (.isoSelect t q) s = .next s' ∧ (s'.seq q).state = 1 ∧ (s'.seq q).cmd = d ∧
      (s'.seq q).exchange = ((s.seq q).exchange + 1) % 65536 ∧ (s'.seq q).due = (s.seq q).due.tail ∧ s.describes s' q ∧
      (∀ n ∈ portsOf q, s'.nat (0x2130 + n) 2 = 3) ∧ s.sameOtherQuads s' q ∧ s'.outside [.radio] = s.outside [.radio] ∧
      s.sameObjects s' (fun k => quadObject q k || portObject q k)) ∧
  (∀ (s : State) (t q p : Nat) (d : Due) (g : Group), q < 12 → s.quads.length = 12 → s.ports.length = 48 → (s.seq q).port < 48 →
    d.cmd = 1 → d.arg = 255 → (s.at t).maySend q d p g →
    ∃ s', exec (.isoSelect t q) s = .next s' ∧ (s'.seq q).exchange = ((s.seq q).exchange + 1) % 65536 ∧ s.describes s' q ∧
      s.sameOtherQuads s' q ∧ s'.outside airAreas = s.outside airAreas ∧ s.sameObjects s' (s.seqObject q)) ∧
  (∀ (s : State) (t q p : Nat) (d : Due) (g : Group), q < 12 → s.quads.length = 12 → s.ports.length = 48 → (s.seq q).port < 48 →
    d.cmd = 6 → (s.at t).maySend q d p g →
    ∃ s', exec (.nak t q) s = .next s' ∧ s'.nat 0x3310 10 = (s.nat 0x3310 10 + 1) % 2 ^ 32 ∧ s.describes s' q ∧
      (s'.seq q).exchange = ((s.seq q).exchange + 1) % 65536 ∧ (s'.seq q).inSlot = false ∧
      s.sameOtherQuads s' q ∧ s'.outside airAreas = s.outside airAreas ∧ s.sameObjects s' (s.seqObject q))) ∧
  (∀ (s : State) (t q k : Nat) (ch : List Byte) (c : Instr), airCommand t q ch k = some c → (s.at t).comesDue q k = false →
    ∃ s', exec c s = .next s' ∧ (k ≠ 17 → s' = s.at t) ∧ (∀ r, s'.tx r = s.tx r) ∧
      s'.outside [.radio] = s.outside [.radio] ∧ s.sameObjects s' (fun _ => false))

/-- Once the window's time has come the receivers listen, and a port that is excluded is counted (R131, R141, R201). A preamble in the
reply's span whose metric reaches the detection threshold, with no co-channel command over it, makes a detection that freezes the gains
and fixes the signature (R148, R162, R163); one outside the span that falls in a co-channel quad's is rejected and counted (R185). A
detection is withdrawn within 16 bits on violations, or after 8 bits on a weak SNR, and the search goes on (R164); separation, where it is
on, settles on the streams that the residual shows (R172). A co-channel hold ends at the hold limit (R246). The exchange's own values are
those it started with (R46). -/
def Obligations.ReceiveWindowsAndDetections : Prop :=
  (∀ (s : State) (t q : Nat) (pre : List (List Cx)), q < 12 → s.quads.length = 12 → s.ports.length = 48 → (s.seq q).state = 2 →
    let s0 := (s.at t).seen q
    (s.seq q).cmdEnd + s0.windowOpens q ≤ s0.now →
    ∃ s', exec (.receiveWindowOpen t { quad := q, pre := pre }) s = .next s' ∧ (s'.seq q).state = 3 ∧
      (∀ n ∈ portsOf q, s.current q (key (0x2130 + n) 2) → s'.nat (0x2130 + n) 2 = 4) ∧
      (∀ n ∈ portsOf q, (s'.port n).excluded = s0.excludes n) ∧
      (∀ n ∈ portsOf q, s.current q (key (0x2130 + n) 14) →
        s'.nat (0x2130 + n) 14 = (if s0.excludes n then (s.nat (0x2130 + n) 14 + 1) % 2 ^ 32 else s.nat (0x2130 + n) 14)) ∧
      s.sameOtherQuads s' q ∧ s'.outside [.radio] = s.outside [.radio] ∧ s.sameObjects s' (fun k => quadObject q k || k == 0x2210 + q)) ∧
  (∀ (s : State) (t q start heard : Nat) (hyps : List Hypothesis) (noise : List Nat) (h : Hypothesis), q < 12 → s.quads.length = 12 →
    (s.seq q).state = 3 →
    let s0 := (s.at t).seen q
    s0.allExcluded q = false → s0.now ≤ (s.seq q).cmdEnd + s0.windowCloses q + ns 111 →
    s0.preambleOverlapped q ((s.seq q).cmdEnd + start) = false → s0.bestHypothesis q (s0.noiseAt q noise heard) hyps = some h →
    s0.inSpan q ((s.seq q).cmdEnd + start) = true →
    ∃ s', exec (.preambleDetected t q { start := start, hyps := hyps, noise := noise, heard := heard }) s = .next s' ∧ (s'.seq q).state = 4 ∧ (s'.seq q).detectStart = start ∧
      (s'.seq q).reception.signature = h.corr ∧ (s'.seq q).reception.noise = s0.noiseAt q noise heard ∧
      (∀ n ∈ portsOf q, s.current q (key (0x2130 + n) 2) → s'.nat (0x2130 + n) 2 = 5) ∧
      (∀ n ∈ portsOf q, s.current q (key (0x2130 + n) 8) → s.current q (key (0x2130 + n) 9) → s'.nat (0x2130 + n) 9 = s.nat (0x2130 + n) 8) ∧
      (s.current q (key (0x2230 + q) 8) → s'.nat (0x2230 + q) 8 = (s.nat (0x2230 + q) 8 + 1) % 2 ^ 32) ∧
      s.sameOtherQuads s' q ∧ s'.outside [.radio] = s.outside [.radio] ∧ s.sameObjects s' (fun k => quadObject q k || k == 0x2230 + q)) ∧
  (∀ (s : State) (t q r start heard : Nat) (hyps : List Hypothesis) (noise : List Nat), q < 12 → s.quads.length = 12 →
    (s.seq q).state = 3 → (s.seq q).cmd.cmd < 18 →
    let s0 := (s.at t).seen q
    s0.allExcluded q = false → s0.now ≤ (s.seq q).cmdEnd + s0.windowCloses q + ns 111 →
    s0.preambleOverlapped q ((s.seq q).cmdEnd + start) = false → (s0.bestHypothesis q (s0.noiseAt q noise heard) hyps).isSome = true →
    s0.inSpan q ((s.seq q).cmdEnd + start) = false → s0.foreign q ((s.seq q).cmdEnd + start) = some r →
    ∃ s', exec (.preambleDetected t q { start := start, hyps := hyps, noise := noise, heard := heard }) s = .next s' ∧ s'.quads = s.quads ∧ s'.ports = s.ports ∧
      (s.current q (key (0x2230 + q) 13) → s'.nat (0x2230 + q) 13 = (s.nat (0x2230 + q) 13 + 1) % 2 ^ 32) ∧
      s'.outside [] = s.outside [] ∧ s.sameObjects s' (fun k => k == 0x2230 + q)) ∧
  (∀ (s : State) (t q : Nat) (inPhase quadrature : List (List Int)) (fwd : List Cx) (y : Stream), q < 12 → s.quads.length = 12 → (s.seq q).state = 4 →
    let s0 := (s.at t).seen q
    s0.primarySoFar q { ports := fromRails inPhase quadrature, fwd := fwd } = some y → y.bits.length ≤ 16 →
    (s0.nat (0x2230 + q) 2 ≤ y.violations ∨ (8 ≤ y.bits.length ∧ y.snr < 25 * (s0.nat (0x2230 + q) 1 : Int) - 300)) →
    ∃ s', exec (.detectionWithdrawn t q inPhase quadrature fwd) s = .next s' ∧ (s'.seq q).state = 3 ∧ (s'.seq q).withdrawn = true ∧
      (∀ r, r < 12 → ∀ h ∈ (s'.seq r).holds, h.1 ≠ q) ∧
      (s.current q (key (0x2230 + q) 9) → s'.nat (0x2230 + q) 9 = (s.nat (0x2230 + q) 9 + 1) % 2 ^ 32) ∧
      (∀ n ∈ portsOf q, s.current q (key (0x2130 + n) 2) → s'.nat (0x2130 + n) 2 = 4) ∧
      s.sameOtherQuads s' q ∧ s'.outside [.radio] = s.outside [.radio] ∧ s.sameObjects s' (fun k => quadObject q k || k == 0x2230 + q)) ∧
  (∀ (s : State) (t q : Nat) (air : Air) (est : List StreamEst), q < 12 → s.quads.length = 12 → (s.seq q).state = 4 →
    let s0 := (s.at t).seen q
    let k := 1 + s0.residualCount q (s0.decodeStream q (s0.replyPorts q air) [(s.seq q).reception.signature] 0 6).outputs (s0.nat (0x2230 + q) 4)
    (s.seq q).cmd.cmd ≠ 18 → (s.seq q).cmd.cmd ≠ 19 → s0.nat (0x2230 + q) 3 = 1 →
    ∃ s', exec (.separationSettled t q { air := air, est := est }) s = .next s' ∧ (s'.seq q).state = 4 ∧ (s'.seq q).reception.k = k ∧
      (s'.seq q).reception.est = (if k = 2 ∨ k = 3 then est.take k else []) ∧
      s.sameOtherQuads s' q ∧ s'.outside [.radio] = s.outside [.radio] ∧ s.sameObjects s' (fun _ => false)) ∧
  (∀ (s : State) (t r q since : Nat), r < 12 → s.quads.length = 12 → (s.seq r).offNow = false → (q, since) ∈ (s.seq r).holds →
    since + us (((s.at t).seen r).nat 0x3101 4) ≤ peak s.now t →
    ∃ s', exec (.coChannelHoldLimit t r) s = .next s' ∧ (∀ h ∈ (s'.seq r).holds, h.1 ≠ q ∧ h ∈ (s.seq r).holds) ∧
      (∀ n, s'.tx n = s.tx n) ∧ s'.outside [.radio] = s.outside [.radio] ∧ s.sameObjects s' (fun k => k == 0x3101))

/-- A decision, a probe analysis and a window that closes with no detection end the exchange: where it held a reservation, its descriptor of
32 bytes fills the reserved entry of the port's FIFO, once, and the reservation is gone, but for one that a further reply slot of a
GroupACK takes (R170, R179, R201, R288, R474); the holds that its detection began are over (R246). -/
def Obligations.ExchangesEndWithADescriptor : Prop :=
  (∀ (s : State) (t q : Nat) (air : Air), q < 12 → s.quads.length = 12 → s.ports.length = 48 → (s.seq q).port < 48 →
    (s.seq q).state = 4 → (s.seq q).cmd.cmd ≠ 18 → (s.seq q).reserved = true →
    ((s.seq q).cmd.cmd = 19 → isLong (s.seq q).hsb.words = true → s.frameWordCount q ≤ (s.seq q).hsb.decoded.length) →
    ∃ s', exec (.replyDecision t q air) s = .next s' ∧ s.describes s' q ∧
      ((s.seq q).cmd.cmd ≠ 20 ∨ (s.seq q).listed ≤ (s.seq q).slot → (s'.seq q).reserved = false) ∧
      (∀ n, n < 12 → ∀ h ∈ (s'.seq n).holds, h.1 ≠ q) ∧
      s.sameOtherQuads s' q ∧ s'.outside airAreas = s.outside airAreas ∧ s.sameObjects s' (s.seqObject q)) ∧
  (∀ (s : State) (t q : Nat), q < 12 → s.quads.length = 12 → s.ports.length = 48 → (s.seq q).port < 48 →
    ((s.seq q).state = 2 ∨ (s.seq q).state = 3) → (s.seq q).reserved = true →
    (s.seq q).cmdEnd + ((s.at t).seen q).windowCloses q ≤ peak s.now t →
    ∃ s', exec (.receiveWindowClose t q) s = .next s' ∧ s.describes s' q ∧
      ((s.seq q).cmd.cmd ≠ 20 ∨ (s.seq q).listed ≤ (s.seq q).slot → (s'.seq q).reserved = false) ∧
      s.sameOtherQuads s' q ∧ s'.outside airAreas = s.outside airAreas ∧ s.sameObjects s' (s.seqObject q)) ∧
  (∀ (s : State) (t q : Nat) (ports : List (List Cx)) (fwd : List Cx), q < 12 → s.quads.length = 12 → s.ports.length = 48 → (s.seq q).port < 48 →
    (s.seq q).state = 4 → (s.seq q).cmd.cmd = 18 → (s.seq q).reserved = true →
    ∃ s', exec (.probeAnalysisDone t q ports fwd) s = .next s' ∧ s.describes s' q ∧
      (s'.seq q).reserved = false ∧ (∀ n, n < 12 → ∀ h ∈ (s'.seq n).holds, h.1 ≠ q) ∧
      s.sameOtherQuads s' q ∧ s'.outside airAreas = s.outside airAreas ∧ s.sameObjects s' (s.seqObject q))

/-! ### The tag table and passes (chapters 7 and 14) -/

/-- A pass of an enabled plan that falls due starts and counts one at `0x3000`+p:2B; while the previous pass runs it waits with event
0x3004; a pass whose limit runs out ends with event 0x3003, outcome 2, and a quad in a slot of it leaves it after that slot (R230, R232). -/
def Obligations.PassesStartAndEnd : Prop :=
  (∀ (s : State) (t p d : Nat), p < 64 → s.plans.length = 64 → (s.plan p).due = some d → d ≤ peak s.now t → s.planObj p 2 = 1 →
    (s.plan p).running = false →
    ∃ s', exec (.passStart t p) s = .next s' ∧ s'.planObj p 43 = (s.planObj p 43 + 1) % 2 ^ 32 ∧ (s'.plan p).started = peak s.now t ∧
      (∀ q, s'.tx q = s.tx q) ∧ s'.outside [.radio, .tags] = s.outside [.radio, .tags] ∧
      s.sameObjects s' (fun i => i == 0x3000 + p || i == 0x3310)) ∧
  (∀ (s : State) (t p d : Nat), p < 64 → s.plans.length = 64 → (s.plan p).due = some d → d ≤ peak s.now t → s.planObj p 2 = 1 →
    (s.plan p).running = true → (s.plan p).overrun = false → (s.planObj p 9 ≠ 0 ∨ s.isBoundaryPlan p = true) →
    ∃ s', exec (.passStart t p) s = .next s' ∧ (s'.plan p).overrun = true ∧ (s'.plan p).running = true ∧
      (∃ m : State, s' = m.raise 0x3004 ([p] ++ dU 4 (s.planObj p 43)) (withSlate (s.planOwner p))) ∧
      s'.outside [.tags] = s.outside [.tags] ∧ s.sameObjects s' (fun _ => false)) ∧
  (∀ (s : State) (t p : Nat), p < 64 → s.plans.length = 64 → (s.plan p).running = true →
    (s.plan p).started + ms (s.planObj p 10) ≤ peak s.now t →
    let took := (peak s.now t - (s.plan p).started) / 122880
    ∃ s', exec (.passLimitReached t p) s = .next s' ∧ (s'.plan p).running = false ∧ s'.planObj p 45 = took ∧
      (∃ m : State, s' = m.raise 0x3003 ([p, 2] ++ dU 2 (satTo 65535 (s.plan p).confirmed) ++ dU 2 (satTo 65535 (took / 100)))
        (withSlate (s.planOwner p))) ∧
      (∀ q, q < 12 → (s'.seq q).plan = some p → (s'.seq q).offAfter = true) ∧
      s'.outside [.radio, .tags] = s.outside [.radio, .tags] ∧ s.sameObjects s' (fun i => i == 0x3000 + p))

/-- In its turn of the drain order, the head of a port's FIFO moves to its quad's result queue with the 16 bytes of its result, or is
released where it has none; the inventory engine takes results in order and counts them (R474, R475, R483); out of its turn a unit waits. A
provisional entry whose lifetime is over is cancelled with event 0x3002, and a confirmed entry that has aged out is freed: it leaves the
table. The cancellation counts one at `0x3101:0A` (R239, R243). Lifetimes and ages wait in deep standby (R615, log entry 76). -/
def Obligations.EntriesMoveAndLeave : Prop :=
  ((∀ (s : State) (t p : Nat) (d tail : List Byte) (r : List (List Byte × List Byte)), s.quads.length = 12 → p < 48 →
    (s.at t).stageTurn 4 = some p → (s.port p).fifo = (d, tail) :: r →
    ∃ s', exec (.fifoEntryMoved t p) s = .next s' ∧ (s'.port p).fifo = r ∧
      (tail = [] → s'.quads = s.quads) ∧
      (tail ≠ [] → (s'.quad (p / 4)).results = (s.quad (p / 4)).results ++ [d ++ tail] ∧ (s'.quad (p / 4)).results.length ≤ 256) ∧
      (∀ q, s'.tx q = s.tx q ∧ s'.seq q = s.seq q) ∧
      s'.outside [.radio, .links] = s.outside [.radio, .links] ∧ s.sameObjects s' (fun _ => false)) ∧
  (∀ (s : State) (t q : Nat) (x : List Byte) (r : List (List Byte)), (s.at t).stageTurn 3 = some q → (s.quad q).results = x :: r →
    ∃ s', exec (.resultTaken t q) s = .next s' ∧ (s'.quad q).results = r ∧ s'.nat 0x5000 8 = (s.nat 0x5000 8 + 1) % 2 ^ 32 ∧
      (∀ n, s'.tx n = s.tx n ∧ s'.seq n = s.seq n) ∧
      s'.outside [.radio, .links] = s.outside [.radio, .links] ∧ s.sameObjects s' (fun i => i == 0x5000)) ∧
  (∀ (s : State) (t n : Nat), ((s.at t).stageTurn 4 ≠ some n → exec (.fifoEntryMoved t n) s = .next (s.at t)) ∧
    ((s.at t).stageTurn 3 ≠ some n → exec (.resultTaken t n) s = .next (s.at t)))) ∧
  ((∀ (s : State) (t n : Nat) (e : TagEntry), s.tag n = some e → e.confirmed = false → e.born + ms (s.nat 0x3101 3) ≤ peak s.now t → s.power.mode ≠ 2 →
    ∃ s', exec (.provisionalLifetimeExpired t n) s = .next s' ∧ s'.tag n = none ∧ s'.nat 0x3101 10 = (s.nat 0x3101 10 + 1) % 2 ^ 32 ∧
      (∃ m : State, s' = m.raise 0x3002 ([e.quad, 4, e.plan, b01 e.merged.isSome] ++ dU 2 n) (withSlate (s.planOwner e.plan)) (perMinute e.quad)) ∧
      s'.outside [.tags] = s.outside [.tags] ∧ s.sameObjects s' (fun i => i == 0x3101)) ∧
  (∀ (s : State) (t n : Nat) (e : TagEntry), s.tag n = some e → e.confirmed = true → e.lastSeen + s.nat 0x3101 1 ≤ s.rtc.total → s.power.mode ≠ 2 →
    ∃ s', exec (.entryAgeOut t n) s = .next s' ∧ s'.tag n = none ∧ (∀ k, k ≠ n → (∀ x, s.tag k = some x → x.merged ≠ some n) → s'.tag k = s.tag k) ∧
      s'.outside [.tags] = s.outside [.tags] ∧ s.sameObjects s' (fun _ => false)) ∧
  (∀ (s : State) (t n : Nat), s.power.mode = 2 → exec (.provisionalLifetimeExpired t n) s = .next (s.at t) ∧
    exec (.entryAgeOut t n) s = .next (s.at t)))

/-- A provisional meter entry whose pseudonym an enrolled meter of its class shows within its window is resolved to it and the counter
matched, and a match in the set of a resync mark clears the mark (R335, R337, R339); an entry that no meter shows is cancelled with cause 2
and counted at `0x4000:0F` (R337). A TAM reply that the Dome accepts moves the meter's counter on, makes its next window due 50 ms later and
confirms the entry; one it does not accept cancels the entry with cause 3 (R37, R216, R239, R338). A meter whose window is due takes the new
one from its next counter; the 4,096 pseudonyms of a resync mark are ready once computed; a mark clears by itself after 24 h (R338, R339).
Windows and marks wait in deep standby (R615, log entry 76). -/
def Obligations.MeterReadsAreResolvedAndChecked : Prop :=
  (∀ (s : State) (t n m k first : Nat) (old : Bool) (e : TagEntry) (x : Meter), s.tag n = some e → e.confirmed = false → e.resolved = false →
    e.meter = true → s.resolution first e = some (m, k, old) → s.meter m = some x →
    (e.words = 6 ∧ byteAt e.epc 0 = 0xB6 ∧ x.cls = byteAt e.epc 1 ∧ s.clsObj x.cls 1 = s.planOwner e.plan ∧
      pseudonymOf x.key x.cls k = slice e.epc 2 10 ∧ (old = true → s.inWindowOf x k = true) ∧
      (old = false → x.marked ≠ none ∧ x.next ≤ k ∧ k < x.next + 4096)) ∧
    ∃ s', exec (.pseudonymResolved t n first) s = .next s' ∧
      s'.tag n = some { e with resolved := true, identity := m, owner := s.clsObj x.cls 1, counter := k, resync := !old } ∧
      (old = false → s'.meter m = some { x with marked := none, setReady := false }) ∧ (old = true → s'.meters = s.meters) ∧
      s'.outside [.tags, .metering] = s.outside [.tags, .metering] ∧ s.sameObjects s' (fun _ => false)) ∧
  (∀ (s : State) (t n first : Nat) (e : TagEntry), s.tag n = some e → e.confirmed = false → e.resolved = false → e.meter = true →
    s.resolution first e = none →
    ∃ s', exec (.pseudonymResolved t n first) s = .next s' ∧ s'.tag n = none ∧ s'.nat 0x4000 15 = (s.nat 0x4000 15 + 1) % 2 ^ 32 ∧
      (∃ m : State, s' = m.raise 0x3002 ([e.quad, 2, e.plan, b01 e.merged.isSome] ++ dU 2 n) (withSlate (s.planOwner e.plan)) (perMinute e.quad)) ∧
      s'.meters = s.meters ∧ s'.outside [.tags, .metering] = s.outside [.tags, .metering] ∧ s.sameObjects s' (fun i => i == 0x4000 || i == 0x3101)) ∧
  (∀ (s : State) (t n : Nat) (e : TagEntry) (x : Meter) (custom : List Byte), s.tag n = some e → e.confirmed = false → e.resolved = true →
    e.reply ≠ [] → s.meter e.identity = some x →
    ∃ s' x', exec (.authenticationChecked t n true custom) s = .next s' ∧ s'.meter e.identity = some x' ∧ x'.cLast = some e.counter ∧
      x'.winDue = some (peak s.now t + ms 50) ∧ x'.accepted = x.accepted + 1 ∧ (∀ e', s'.tag n = some e' → e'.confirmed = true) ∧
      (∀ k, k ≠ e.identity → s'.meter k = s.meter k) ∧
      s'.outside [.tags, .metering] = s.outside [.tags, .metering] ∧ s.sameObjects s' (fun i => i == 0x4000 || i == 0x3101)) ∧
  (∀ (s : State) (t n : Nat) (e : TagEntry) (custom : List Byte), s.tag n = some e → e.confirmed = false → e.resolved = true → e.reply ≠ [] →
    ∃ s', exec (.authenticationChecked t n false custom) s = .next s' ∧ s'.tag n = none ∧ s'.meters = s.meters ∧
      (∃ m : State, s' = m.raise 0x3002 ([e.quad, 3, e.plan, b01 e.merged.isSome] ++ dU 2 n) (withSlate (s.planOwner e.plan)) (perMinute e.quad)) ∧
      s'.outside [.tags] = s.outside [.tags] ∧ s.sameObjects s' (fun i => i == 0x3101)) ∧
  (∀ (s : State) (t m : Nat) (x : Meter), s.meter m = some x → x.winDue ≠ none → s.power.mode ≠ 2 →
    ∃ s', exec (.pseudonymWindowComputed t m) s = .next s' ∧ s'.meter m = some { x with winFrom := x.next, winDue := none } ∧
      (∀ k, k ≠ m → s'.meter k = s.meter k) ∧ s'.outside [.metering] = s.outside [.metering] ∧ s.sameObjects s' (fun _ => false)) ∧
  (∀ (s : State) (t m : Nat) (x : Meter), s.meter m = some x → x.marked ≠ none → s.power.mode ≠ 2 →
    ∃ s', exec (.resyncSetComputed t m) s = .next s' ∧ s'.meter m = some { x with setReady := true } ∧
      (∀ k, k ≠ m → s'.meter k = s.meter k) ∧ s'.outside [.metering] = s.outside [.metering] ∧ s.sameObjects s' (fun _ => false)) ∧
  (∀ (s : State) (t m since : Nat) (x : Meter), s.meter m = some x → x.marked = some since → since + sec 86400 ≤ peak s.now t → s.power.mode ≠ 2 →
    ∃ s', exec (.resyncMarkExpired t m) s = .next s' ∧ s'.meter m = some { x with marked := none, setReady := false } ∧
      (∀ k, k ≠ m → s'.meter k = s.meter k) ∧ s'.outside [.metering] = s.outside [.metering] ∧ s.sameObjects s' (fun _ => false)) ∧
  (∀ (s : State) (t m : Nat), s.power.mode = 2 → exec (.pseudonymWindowComputed t m) s = .next (s.at t) ∧
    exec (.resyncSetComputed t m) s = .next (s.at t) ∧ exec (.resyncMarkExpired t m) s = .next (s.at t))

/-! ### Slot boundaries and windows (chapter 2) -/

/-- A slot boundary that the accumulator has reached moves the slot count on by one; after it no carrier stands on a port that is
requested dark or in a slot that is not of its window's kind, shade and quads, and no HF service on a port whose requested state is 0 (R63,
R66, R67, R109, R301). One that the accumulator has not reached changes nothing but the instant (log entry 2). At the end of the usable part
of a window, and where windows are shut, the carrier of a quad between exchanges begins to ramp down, and that of a quad in an exchange is
marked to go off after it; a quad whose window goes on keeps its transmitter and sequencer (R43, R66, R69). -/
def Obligations.SlotBoundariesAndWindowEnds : Prop :=
  ((∀ (s : State) (t : Nat) (pings : List Nat), (s.at t).boundaryDue = true →
    ∃ s', exec (.slotBoundary t pings) s = .next s' ∧ s'.belfry.slots = s.belfry.slots + 1 ∧ s'.belfry.slotTick = peak s.now t ∧
      (∀ q, q < 12 → s'.carrierOn q = true → s'.enabled (s'.tx q).port = true ∧ entryHas s'.entryNow q = true ∧
        (entryKind s'.entryNow = 1 ∨ entryKind s'.entryNow = 2) ∧ entryShade s'.entryNow = (s'.seq q).shade) ∧
      (∀ h, h < 8 → s'.nat (0x2400 + h) 1 = 0 → (s'.hf h).service = none) ∧ s'.fuses = s.fuses) ∧
  (∀ (s : State) (t : Nat) (pings : List Nat), (s.at t).boundaryDue = false → exec (.slotBoundary t pings) s = .next (s.at t))) ∧
  (∀ (s : State) (t q : Nat), q < 12 → s.quads.length = 12 → (s.tx q).carrier = 2 →
    (s.at t).inWindow q = false ∨ (∃ e, (s.at t).windowEnd q = some e ∧ e ≤ peak s.now t) →
    ∃ s', exec (.windowEnd t) s = .next s' ∧
      ((s.seq q).state ≤ 1 → (s'.tx q).carrier = 4 ∧ (s'.tx q).rampTick = peak (peak s.now t) (s.seq q).cmdEnd ∧ (s'.seq q).due = []) ∧
      (1 < (s.seq q).state → (s'.tx q).carrier = 2 ∧ (s'.seq q).offNow = true ∧ (s'.seq q).state = (s.seq q).state) ∧
      (∀ r, (s.tx r).carrier ≠ 2 ∨ ((s.at t).inWindow r = true ∧ ∀ e, (s.at t).windowEnd r = some e → peak s.now t < e) →
        (s'.tx r) = (s.tx r) ∧ (s'.seq r) = (s.seq r)) ∧
      s'.outside [.radio, .tags, .timers] = s.outside [.radio, .tags, .timers] ∧ s.sameObjects s' (fun i => i == 0x3101))

/-! ### HF card ports and capacitive channels (chapter 9) -/

/-- A detection's request takes the lower-numbered free transmitter where no other has waited longer: the service is in its guard
time and `0x2400`+h:0F names the transmitter (R295, R296). With both transmitters busy it takes that of a poll, which is counted at
`0x2400`+g:13: at once where the poll is in no frame exchange, and otherwise after that exchange, at the latest 2 ms after the detection
(R33, R296). After the guard time the first frame of the activation is due: REQA, REQB or Inventory by the protocol (R307, R328). Requests
wait in deep standby (R615, log entry 76). -/
def Obligations.ServicesStart : Prop :=
  ((∀ (s : State) (t h since x : Nat), h < 8 → s.hfPorts.length = 8 → s.hfTx.length = 2 → (s.hf h).request = some (since, false) →
    (s.hf h).service = none → s.txOf h = none → s.mayField h = true → s.power.rfPending = false → s.power.mode ≠ 2 → s.power.modeDue ≠ some 2 →
    s.freeTx = some x → s.firstInLine h since false = true → s.cardPlans h false (s.hf h).pollShade ≠ [] →
    ∃ s' v, exec (.hfServiceStart t h) s = .next s' ∧ (s'.hf h).service = some v ∧ v.tx = x ∧ v.phase = 1 ∧ v.poll = false ∧
      v.onTick = peak s.now t + us 20 ∧ (s'.hf h).request = none ∧ s'.txOf h = some x ∧ s'.nat (0x2400 + h) 15 = x ∧ s.sameOtherHf s' h ∧
      s'.outside [.hf] = s.outside [.hf] ∧ s.sameObjects s' (fun i => i == 0x2400 + h)) ∧
  (∀ (s : State) (t h g since : Nat), h < 8 → g < 8 → g ≠ h → s.hfPorts.length = 8 → s.hfTx.length = 2 → (s.hf h).request = some (since, false) →
    (s.hf h).service = none → s.mayField h = true → s.power.rfPending = false → s.power.mode ≠ 2 → s.power.modeDue ≠ some 2 →
    s.freeTx = none → s.firstInLine h since false = true → s.pollOn = some g → (s.svc g).phase ≠ 4 → s.cardPlans h false (s.hf h).pollShade ≠ [] →
    ∃ s', exec (.hfServiceStart t h) s = .next s' ∧ s'.nat (0x2400 + g) 19 = (s.nat (0x2400 + g) 19 + 1) % 2 ^ 32 ∧
      ((s.svc g).waiting = false ∨ since + ms 2 ≤ peak s.now t → ∃ v, (s'.hf g).service = none ∧ (s'.hf h).service = some v ∧ v.phase = 1 ∧
        v.poll = false ∧ (s'.hf h).request = none ∧ s'.nat (0x2400 + g) 15 = 0xFF ∧ s'.nat (0x2400 + h) 15 = v.tx) ∧
      ((s.svc g).waiting = true → peak s.now t < since + ms 2 → (s'.svc g).phase = 4 ∧ (s'.svc g).endBy = since + ms 2 ∧ (s'.svc g).due = [] ∧
        s'.hf h = s.hf h) ∧
      (∀ f, f ≠ g → f ≠ h → s'.hf f = s.hf f) ∧ s'.outside [.hf] = s.outside [.hf] ∧
      s.sameObjects s' (fun i => i == 0x2400 + g || i == 0x2400 + h)) ∧
  (∀ (s : State) (t h : Nat), s.power.mode = 2 → exec (.hfServiceStart t h) s = .next (s.at t))) ∧
  (∀ (s : State) (t h : Nat) (v : HfService), h < 8 → s.hfPorts.length = 8 → (s.hf h).service = some v → v.phase = 1 → v.again = false →
    (s.at t).pollOver h = false → v.onTick + us (s.nat (0x2400 + h) 8) ≤ peak s.now t →
    ∃ s' w, exec (.guardTimeExpiry t h) s = .next s' ∧ (s'.hf h).service = some w ∧ w.phase = 2 ∧
      w.due.map HfCmd.code = [if v.proto = 1 then 1 else if v.proto = 2 then 6 else 18] ∧ s.sameOtherHf s' h ∧
      s'.outside [.hf] = s.outside [.hf] ∧ s.sameObjects s' (fun _ => false))

/-- A card frame that a service has due, on a port that may emit: the frame is sent, its reply awaited from the end of its duration, and the
frames behind it stand. HLTA draws no reply: sent as the last frame of a service it ends it and turns the field off; Stay quiet ends its
step (R301, R306, R314). It holds for the 25 frames of Table 4. On a port that management forbids the service is cut instead (R301), and a
poll whose window is over ends (R67). Where the frame is not due, nothing happens. -/
def Obligations.CardFramesAreSent : Prop :=
  (∀ (s : State) (t h code : Nat) (c : Instr), h < 8 → s.hfPorts.length = 8 → cardCommand t h code = some c → code ≠ 5 → code ≠ 19 →
    (s.at t).cardDue h code = true → s.hfForbidden h = false → (s.at t).pollOver h = false →
    ∃ s' v, exec c s = .next s' ∧ (s'.hf h).service = some v ∧ v.sent.code = code ∧ v.waiting = true ∧ v.sentTick = peak s.now t ∧
      v.sentEnd = peak s.now t + s.hfDuration h v.sent ∧ v.due = (s.svc h).due.tail ∧ v.lastBit = s.lastBit h v.sent ∧ s.sameOtherHf s' h ∧
      s'.outside [.hf] = s.outside [.hf] ∧ s.sameObjects s' (fun _ => false)) ∧
  (∀ (s : State) (t h : Nat), h < 8 → s.hfPorts.length = 8 → (s.at t).cardDue h 5 = true → s.hfForbidden h = false → (s.at t).pollOver h = false →
    ∃ s', exec (.hlta t h) s = .next s' ∧
      ((s.svc h).phase = 3 → (s.svc h).due.length = 1 → (s'.hf h).service = none ∧ s'.txOf h = none ∧ s'.nat (0x2400 + h) 15 = 0xFF) ∧
      ((s.svc h).phase ≠ 3 ∨ (s.svc h).due.length ≠ 1 → (s'.svc h).sent.code = 5 ∧ (s'.svc h).waiting = false ∧ (s'.svc h).due = (s.svc h).due.tail) ∧
      s.sameOtherHf s' h ∧ s'.outside [.hf] = s.outside [.hf] ∧ s.sameObjects s' (fun i => i == 0x2400 + h)) ∧
  (∀ (s : State) (t h p : Nat), h < 8 → s.hfPorts.length = 8 → (s.at t).cardDue h 19 = true → s.hfForbidden h = false →
    (s.at t).pollOver h = false → (s.svc h).plan = some p → byteAt (s.cardStep p ((s.svc h).step + 1)) 0 = 1 →
    ∃ s' v, exec (.stayQuiet t h) s = .next s' ∧ (s'.hf h).service = some v ∧ v.plan = some p ∧ v.step = (s.svc h).step + 1 ∧
      v.due.map HfCmd.code = [13] ∧ s.sameOtherHf s' h ∧ s'.outside [.hf] = s.outside [.hf] ∧ s.sameObjects s' (fun _ => false)) ∧
  (∀ (s : State) (t h code : Nat) (c : Instr), h < 8 → s.hfPorts.length = 8 → cardCommand t h code = some c → (s.at t).cardDue h code = true →
    s.hfForbidden h = true ∨ (s.at t).pollOver h = true →
    ∃ s', exec c s = .next s' ∧ (s'.hf h).service = none ∧ s'.txOf h = none ∧ s'.nat (0x2400 + h) 15 = 0xFF ∧ s.sameOtherHf s' h ∧
      s'.outside [.hf] = s.outside [.hf] ∧ s.sameObjects s' (fun i => i == 0x2400 + h)) ∧
  (∀ (s : State) (t h code : Nat) (c : Instr), cardCommand t h code = some c → (s.at t).cardDue h code = false → exec c s = .next (s.at t))

/-- A reply to a Type A frame that is no relay suspect, on a port that may emit: an ATQA starts the anticollision at cascade level
1; a UID part with a collision at a bit is asked for again with that bit 1; one whose BCC is right is selected; a SAK with the
cascade bit leads to the next level (R307, R308). A relay suspect is counted, and under action 1 ends the service (R310). Without
a reply: a detection that no card answers turns the field off; a block is repeated with R(NAK), at most twice, and the service
goes on (R306, R319). A poll that a detection has pre-empted ends with the exchange in progress, at the latest at its limit (R33, R296). A
plan past its time limit ends (R313). The exchange's own values are those it started with (R46). -/
def Obligations.CardRepliesAndTimeouts : Prop :=
  ((∀ (s : State) (t h : Nat) (r : CardReply) (v : HfService), h < 8 → s.hfPorts.length = 8 → (s.hf h).service = some v → v.waiting = true → v.phase = 2 →
    v.proto = 1 → r.framing = false →
    let s0 := (s.at t).seenHf h
    s0.hfForbidden h = false → s0.suspect h r.fdt = false →
    ((v.sent.code = 1 ∨ v.sent.code = 2) → r.data.length = 2 →
      ∃ s' w, exec (.cardReply t h r) s = .next s' ∧ (s'.hf h).service = some w ∧ w.waiting = false ∧ w.card.atqa = r.data ∧ w.card.level = 1 ∧
        w.card.known = [] ∧ w.due = { code := 3, arg := 0 } :: v.due ∧ s.sameOtherHf s' h ∧ s'.outside [.hf] = s.outside [.hf] ∧
        s.sameObjects s' (fun _ => false)) ∧
    (∀ p, v.sent.code = 3 → r.data.length = 5 → r.collision = some p → v.card.known.length ≤ p → p < 32 →
      ∃ s' w, exec (.cardReply t h r) s = .next s' ∧ (s'.hf h).service = some w ∧ w.card.known = (airBits r.data).take p ++ [true] ∧ w.card.more = true ∧
        w.due = { code := 3, arg := 0 } :: v.due ∧ s.sameOtherHf s' h ∧ s'.outside [.hf] = s.outside [.hf] ∧ s.sameObjects s' (fun _ => false)) ∧
    (v.sent.code = 3 → r.data.length = 5 → r.collision = none → bccOf r.data = 0#8 →
      ∃ s' w, exec (.cardReply t h r) s = .next s' ∧ (s'.hf h).service = some w ∧ w.card.known = airBits (r.data.take 4) ∧
        w.due = { code := 4, arg := 0 } :: v.due ∧ s.sameOtherHf s' h ∧ s'.outside [.hf] = s.outside [.hf] ∧ s.sameObjects s' (fun _ => false)) ∧
    (∀ b, v.sent.code = 4 → r.collision = none → r.data = withCrcA [b] → b.toNat.testBit 2 = true → v.card.level < 3 →
      ∃ s' w, exec (.cardReply t h r) s = .next s' ∧ (s'.hf h).service = some w ∧ w.card.level = v.card.level + 1 ∧
        w.card.uid = v.card.uid ++ (bytesLsb 4 v.card.known).tail ∧ w.card.known = [] ∧ w.due = { code := 3, arg := 0 } :: v.due ∧
        s.sameOtherHf s' h ∧ s'.outside [.hf] = s.outside [.hf] ∧ s.sameObjects s' (fun _ => false))) ∧
  (∀ (s : State) (t h : Nat) (r : CardReply) (v : HfService), h < 8 → s.hfPorts.length = 8 → (s.hf h).service = some v → v.waiting = true →
    v.proto ≠ 3 ∨ (4320 ≤ r.fdt ∧ r.fdt ≤ 4384) →
    let s0 := (s.at t).seenHf h
    (s0.suspect h r.fdt = true → s0.nat (0x2400 + h) 12 = 1 → s.currentHf h 15 → s.currentHf h 18 →
      ∃ s', exec (.cardReply t h r) s = .next s' ∧ (s'.hf h).service = none ∧ s'.nat (0x2400 + h) 18 = (s.nat (0x2400 + h) 18 + 1) % 2 ^ 32 ∧
        s'.nat (0x2400 + h) 15 = 0xFF ∧ s.sameOtherHf s' h ∧ s'.outside [.hf] = s.outside [.hf] ∧ s.sameObjects s' (fun i => i == 0x2400 + h)) ∧
    (v.phase = 4 → ∃ s', exec (.cardReply t h r) s = .next s' ∧ (s'.hf h).service = none ∧ s.sameOtherHf s' h ∧
      s'.outside [.hf] = s.outside [.hf] ∧ s.sameObjects s' (fun i => i == 0x2400 + h)))) ∧
  ((∀ (s : State) (t h : Nat) (v : HfService), h < 8 → s.hfPorts.length = 8 → (s.hf h).service = some v → v.waiting = true → v.phase = 2 →
    ((s.at t).seenHf h).hfForbidden h = false → v.sentEnd + cycles v.waitCycles ≤ peak s.now t →
    (v.sent.code = 1 → v.protos = [] → v.again = false → s.currentHf h 15 →
      ∃ s', exec (.cardReplyTimeout t h) s = .next s' ∧ (s'.hf h).service = none ∧ s'.txOf h = none ∧ s'.nat (0x2400 + h) 15 = 0xFF ∧
        s.sameOtherHf s' h ∧ s'.outside [.hf] = s.outside [.hf] ∧ s.sameObjects s' (fun i => i == 0x2400 + h)) ∧
    (v.sent.code = 13 → v.retries < 2 →
      ∃ s' w, exec (.cardReplyTimeout t h) s = .next s' ∧ (s'.hf h).service = some w ∧ w.waiting = false ∧ w.retries = v.retries + 1 ∧
        w.due = { code := 15, arg := 0 } :: v.due ∧ s.sameOtherHf s' h ∧ s'.outside [.hf] = s.outside [.hf] ∧ s.sameObjects s' (fun _ => false))) ∧
  (∀ (s : State) (t h : Nat) (v : HfService), h < 8 → s.hfPorts.length = 8 → (s.hf h).service = some v → v.waiting = true → v.phase = 4 →
    v.endBy ≤ peak s.now t →
    ∃ s', exec (.cardReplyTimeout t h) s = .next s' ∧ (s'.hf h).service = none ∧ s.sameOtherHf s' h ∧ s'.outside [.hf] = s.outside [.hf] ∧
      s.sameObjects s' (fun i => i == 0x2400 + h)) ∧
  (∀ (s : State) (t h p : Nat) (v : HfService), h < 8 → s.hfPorts.length = 8 → (s.hf h).service = some v → v.plan = some p →
    v.planTick + ms (((s.at t).seenHf h).cardObj p 11) ≤ peak s.now t →
    ∃ s', exec (.stepTimeout t h) s = .next s' ∧ (s'.svc h).plan = none ∧ (s'.svc h).waiting = false ∧ s.sameOtherHf s' h ∧
      s'.outside [.hf] = s.outside [.hf] ∧ s.sameObjects s' (fun i => i == 0x2400 + h)))

/-- Outside card frames, once in 10 µs, the field loop reports the power delivered and asks the driver for what it lacks, within its bound (R298). A
driver current above 1.5 or below 0.4 times the matched value for 5 µs faults a port whose field is on and ends its service; a probe
that reads between 0.6 and 1.3 times clears the cause; a card still present after the re-serve interval is served again (R299, R302,
R319). -/
def Obligations.HfPortsFaultAndRecover : Prop :=
  (∀ (s : State) (t h mw limit : Nat) (v : HfService), h < 8 → s.hfPorts.length = 8 → (s.hf h).service = some v →
    ((s.at t).frameNow h = false → v.onTick ≤ peak s.now t → v.loopTick + us 10 ≤ peak s.now t →
      let want := v.drive + s.fieldPower h - mw
      ∃ s' w, exec (.hfFieldLoop t h mw limit) s = .next s' ∧ s'.nat (0x2400 + h) 16 = mw ∧ (s'.hf h).service = some w ∧ w.loopTick = peak s.now t ∧
        (want ≤ s.fieldBound limit → w.drive = want ∧ (s'.hf h).pinned = 0) ∧
        (s.fieldBound limit < want → w.drive = s.fieldBound limit ∧ (s'.hf h).pinned = (s.hf h).pinned + 1) ∧
        s.sameOtherHf s' h ∧ s'.outside [.hf] = s.outside [.hf] ∧ s.sameObjects s' (fun i => i == 0x2400 + h)) ∧
    ((s.at t).frameNow h = true ∨ peak s.now t < v.onTick ∨ peak s.now t < v.loopTick + us 10 →
      exec (.hfFieldLoop t h mw limit) s = .next (s.at t))) ∧
  (∀ (s : State) (t h i since : Nat), h < 8 → s.hfPorts.length = 8 → (s.txOf h).isSome = true → (s.hf h).service.isSome = true →
    ((15000 < i ∨ i < 4000) → peak since (s.svc h).onTick + us 5 ≤ peak s.now t →
      ∃ s', exec (.hfPortFault t h { value := i, since := since }) s = .next s' ∧ s'.nat (0x2400 + h) 3 = (if 15000 < i then 1 else 2) ∧ s'.nat (0x2400 + h) 4 = 0 ∧
        (s'.hf h).service = none ∧ s'.txOf h = none ∧ (s'.hf h).probeTick = peak s.now t ∧
        (∃ m : State, s' = m.raise 0x4001 ([h, if 15000 < i then 1 else 2] ++ dU 2 (satTo 65535 i)) (s.reachHf h) (perMinute h)) ∧
        s.sameOtherHf s' h ∧ s'.outside [.hf] = s.outside [.hf] ∧ s.sameObjects s' (fun i => i == 0x2400 + h)) ∧
    ((4000 ≤ i ∧ i ≤ 15000) ∨ peak s.now t < peak since (s.svc h).onTick + us 5 → exec (.hfPortFault t h { value := i, since := since }) s = .next (s.at t))) ∧
  (∀ (s : State) (t h i : Nat), h < 8 → s.hfPorts.length = 8 → s.hfActual h = 3 → s.freeTx.isSome = true →
    (s.hf h).probeTick + sec (s.nat (0x2400 + h) 14) ≤ peak s.now t →
    ∃ s', exec (.hfPortProbe t h i) s = .next s' ∧ (s'.hf h).probeTick = peak s.now t ∧ s'.nat (0x2400 + h) 3 = s.nat (0x2400 + h) 3 ∧
      s'.nat (0x2400 + h) 4 = (if 6000 ≤ i ∧ i ≤ 13000 then 1 else s.nat (0x2400 + h) 4) ∧
      (6000 ≤ i → i ≤ 13000 → ∃ m : State, s' = m.raise 0x4002 [h, s.nat (0x2400 + h) 3] (s.reachHf h) (perMinute h)) ∧
      s.sameOtherHf s' h ∧ s'.outside [.hf] = s.outside [.hf] ∧ s.sameObjects s' (fun i => i == 0x2400 + h)) ∧
  (∀ (s : State) (t h : Nat), h < 8 → s.hfPorts.length = 8 → (s.hf h).isPresent = true → (s.hf h).service = none → (s.hf h).request = none →
    s.mayField h = true → s.nat (0x2400 + h) 9 ≠ 0 → (s.hf h).servedTick + sec (s.nat (0x2400 + h) 9) ≤ peak s.now t →
    ∃ s', exec (.reServeIntervalExpired t h) s = .next s' ∧ (s'.hf h).request = some (peak s.now t, false) ∧ (s'.hf h).servedTick = peak s.now t ∧
      s.sameOtherHf s' h ∧ s'.outside [.hf] = s.outside [.hf] ∧ s.sameObjects s' (fun _ => false))

/-- A scan of an enabled capacitive channel whose scan period is over, and that exceeds its threshold for the set number of scans, is a
detection: its bit of `0x2500:19` is set and `0x2500:1B` counts it. A channel that no service has answered for the stuck time is
re-baselined to its last count, with event 0x4102 (R323–R326). -/
def Obligations.CapacitiveDetections : Prop :=
  (∀ (s : State) (t n : Nat) (counts : List Nat), n < 8 → s.caps.length = 8 → s.nat 0x2500 1 = 2 ^ n → s.nat 0x2500 26 = 0 → s.nat 0x2500 25 = 0 →
    (s.cap n).scanTick + s.scanPeriod ≤ peak s.now t →
    4 ≤ (s.cap n).scans → (s.cap n).high < 15 → (s.cap n).low < 15 → counts.getD n 0 < 65536 →
    (s.cap n).baseline / 65536 + s.nat 0x2500 (8 + n) ≤ counts.getD n 0 → s.nat 0x2500 4 ≤ (s.cap n).above + 1 →
    ∃ s', exec (.capScan t counts) s = .next s' ∧ s'.nat 0x2500 25 = 2 ^ n ∧ s'.nat 0x2500 27 = (s.nat 0x2500 27 + 1) % 2 ^ 32 ∧
      (s'.cap n).detectTick = peak s.now t ∧ (s'.cap n).last = counts.getD n 0 ∧ (∀ m, m ≠ n → s'.cap m = s.cap m ∧ s'.hf m = s.hf m) ∧
      s'.outside [.hf] = s.outside [.hf] ∧ s.sameObjects s' (fun i => i == 0x2500)) ∧
  (∀ (s : State) (t : Nat) (counts : List Nat), (∀ n, n < 8 → (s.at t).scans n = false) → exec (.capScan t counts) s = .next (s.at t)) ∧
  (∀ (s : State) (t n : Nat), n < 8 → s.caps.length = 8 → (s.nat 0x2500 25).testBit n = true →
    (s.cap n).detectTick + sec (s.nat 0x2500 7) ≤ peak s.now t → (s.hf n).servedTick < (s.cap n).detectTick ∨ (s.hf n).servedTick = 0 →
    ∃ s', exec (.channelStuck t n) s = .next s' ∧ (s'.cap n).baseline = 65536 * (s.cap n).last ∧ (s'.cap n).detectTick = peak s.now t ∧
      (∃ m : State, s' = m.raise 0x4102 ([n] ++ dU 2 (s.cap n).last ++ dU 2 (s.nat 0x2500 (8 + n))) s.allJoined (perMinute n)) ∧
      (∀ m, m ≠ n → s'.cap m = s.cap m) ∧ s'.hfPorts = s.hfPorts ∧ s'.outside [.hf] = s.outside [.hf] ∧ s.sameObjects s' (fun _ => false))

/-! ### Metering: boundaries, records, the journal and its delivery (chapter 10) -/

/-- When the RTC reaches the next boundary of a class with meters, outside deep standby and with the records of the one before formed, the
class notes the boundary and the cycle count, and its boundary plan starts a pass (R334, R342, R343). When the capture spans of a shade's
classes have ended and its journal has room, which acknowledged batches make where they can (R355), one record of each meter that is not
retiring is formed, in a group of chained batches that waits for its commit, and the boundaries are done; without room they are deferred,
counted at `0x4000:10` and `0x4110`+s:0B, and form no group (R342, R346, R347, R356); with no meter to record they are done without a group.
-/
def Obligations.BoundariesFormRecords : Prop :=
  (∀ (s : State) (t c : Nat), c < 32 → s.classes.length = 32 → s.plans.length = 64 → s.metersOf c ≠ [] → s.clsInterval c ≠ 0 →
    (s.clsRun c).begun = none → s.power.mode ≠ 2 →
    let b := ((s.clsRun c).seen / s.clsInterval c + 1) * s.clsInterval c
    b ≤ s.rtcSec →
    ∃ s', exec (.intervalBoundary t c) s = .next s' ∧ s'.clsRun c = { seen := b, begun := some (b, s.cycle) } ∧
      (s.clsObj c 13 < 64 → s.rtcSec < b + s.clsInterval c → (s'.plan (s.clsObj c 13)).due = some (peak s.now t)) ∧
      (∀ d, d ≠ c → s'.clsRun d = s.clsRun d) ∧ s'.meters = s.meters ∧
      s'.outside [.metering, .tags] = s.outside [.metering, .tags] ∧ s.sameObjects s' (fun _ => false)) ∧
  ((∀ (s : State) (t sh : Nat), sh < 8 → s.journals.length = 8 → s.classes.length = 32 → s.power.mode ≠ 2 → s.domeFailed = false → s.classesDue sh ≠ [] →
    let ds := (s.classesDue sh).flatMap (fun e => (s.metersOf e.1).filterMap (fun p =>
      if p.2.retiring then none else some (s.intervalDraft p.1 p.2 e.2.1 e.2.2)))
    let m := s.makeRoom sh (s.slotsFor sh ds) (sumOf (s.journals.map (fun j => j.batches.length)))
    ds ≠ [] → m.hasRoom sh (s.slotsFor sh ds) = true →
    ∃ s' g, exec (.recordsFormed t sh) s = .next s' ∧ s'.groups = s.groups ++ [g] ∧ g.shade = sh ∧
      g.boundary = (s.classesDue sh).head?.map (fun e => e.2.1) ∧ g.retire = [] ∧ g.waited = false ∧
      sumOf (g.batches.map Batch.n) = (s.withStart sh ds).length ∧ (∀ b ∈ g.batches, b.n ≤ 256 ∧ b.acked = none) ∧
      (s'.journal sh).work = g.chain ∧ g.chain.nextRecord = (s.journal sh).work.nextRecord + (s.withStart sh ds).length ∧
      (s'.journal sh).batches = (m.journal sh).batches ∧ (s.hasRoom sh (s.slotsFor sh ds) = true → m = s) ∧ s'.classesDue sh = [] ∧
      s'.outside [.metering, .values] = s.outside [.metering, .values] ∧ s.sameObjects s' (fun _ => false)) ∧
  (∀ (s : State) (t sh : Nat), sh < 8 → s.classes.length = 32 → s.power.mode ≠ 2 → s.domeFailed = false → s.classesDue sh ≠ [] →
    (∀ e ∈ s.classesDue sh, ∀ p ∈ s.metersOf e.1, p.2.retiring = true) →
    (s.makeRoom sh (s.slotsFor sh []) (sumOf (s.journals.map (fun j => j.batches.length)))).hasRoom sh (s.slotsFor sh []) = true →
    ∃ s', exec (.recordsFormed t sh) s = .next s' ∧ s'.groups = s.groups ∧ s'.classesDue sh = [] ∧
      s'.outside [.metering] = s.outside [.metering] ∧ s.sameObjects s' (fun _ => false)) ∧
  (∀ (s : State) (t sh : Nat), sh < 8 → s.journals.length = 8 → s.classes.length = 32 → s.power.mode ≠ 2 → s.domeFailed = false → s.classesDue sh ≠ [] →
    let ds := (s.classesDue sh).flatMap (fun e => (s.metersOf e.1).filterMap (fun p =>
      if p.2.retiring then none else some (s.intervalDraft p.1 p.2 e.2.1 e.2.2)))
    (s.makeRoom sh (s.slotsFor sh ds) (sumOf (s.journals.map (fun j => j.batches.length)))).hasRoom sh (s.slotsFor sh ds) = false →
    ∃ s', exec (.recordsFormed t sh) s = .next s' ∧ s'.groups = s.groups ∧ s'.classesDue sh = [] ∧
      s'.nat 0x4000 16 = (s.nat 0x4000 16 + 1) % 2 ^ 32 ∧ s'.nat (0x4110 + sh) 11 = (s.nat (0x4110 + sh) 11 + 1) % 2 ^ 32 ∧
      s'.outside [.metering] = s.outside [.metering] ∧ s.sameObjects s' (fun i => i == 0x4000 || i == 0x4110 + sh)))

/-- A group that waits is committed while the supply is stable: its batches join the shade's journal, its retired meters are freed, and
`0x4100:06` counts it. With the supply not stable it waits for 10 ms, is counted once at `0x4100:08`, and is tried again; only a group that
has waited is tried by the supply's retry (R350, R351, R359, R543). -/
def Obligations.GroupsAreCommitted : Prop :=
  (∀ (s : State) (t : Nat) (g : CommitGroup) (r : List CommitGroup), s.groups = g :: r → g.nextTick ≤ peak s.now t → g.shade < 8 → s.journals.length = 8 →
    s.supplyStable = true →
    ∃ s', exec (.commitGroup t) s = .next s' ∧ s'.groups = r ∧ (s'.journal g.shade).batches = (s.journal g.shade).batches ++ g.batches ∧
      (s'.journal g.shade).committed = g.chain ∧ s'.meters = s.meters.filter (fun e => !g.retire.contains e.1) ∧
      s'.nat 0x4100 6 = (s.nat 0x4100 6 + 1) % 2 ^ 32 ∧ s'.nat 0x1600 4 = (s.nat 0x1600 4 + 1) % 2 ^ 32 ∧
      s'.store.mram = s.store.mram ∧
      s'.outside [.metering, .store] = s.outside [.metering, .store] ∧ s.sameObjects s' (fun i => i == 0x4100 || i == 0x1600) ∧
      (g.waited = true → exec (.commitSupplyRetry t) s = .next s')) ∧
  (∀ (s : State) (t : Nat) (g : CommitGroup) (r : List CommitGroup), s.groups = g :: r → g.nextTick ≤ peak s.now t → s.supplyStable = false →
    ∃ s', exec (.commitGroup t) s = .next s' ∧ s'.groups = { g with waited := true, nextTick := peak s.now t + ms 10 } :: r ∧
      s'.journals = s.journals ∧ s'.meters = s.meters ∧ s'.nat 0x1600 5 = (s.nat 0x1600 5 + 1) % 2 ^ 32 ∧
      s'.nat 0x4100 8 = (if g.waited then s.nat 0x4100 8 else (s.nat 0x4100 8 + 1) % 2 ^ 32) ∧
      s'.outside [.metering] = s.outside [.metering] ∧ s.sameObjects s' (fun i => i == 0x4100 || i == 0x1600) ∧
      (g.waited = true → exec (.commitSupplyRetry t) s = .next s')) ∧
  (∀ (s : State) (t : Nat), s.groups.head?.any (fun g => g.waited) = false → exec (.commitSupplyRetry t) s = .next (s.at t))

/-- While a joined shade's queue has room for it, the next piece of its oldest undelivered batch enters as a report, and delivery
moves on to the next piece or batch (R352, R479). When the redelivery interval has passed since the oldest unacknowledged batch
was last delivered, delivery starts again at it, with every batch delivered before marked as redelivered; acknowledged batches are
freed once their retention time is over, and unacknowledged ones never (R354, R355).
Deliveries wait in deep standby (R615, log entry 76). -/
def Obligations.BatchesAreDelivered : Prop :=
  (∀ (s : State) (t sh : Nat) (b : Batch), sh < 8 → s.shades.length = 8 → s.journals.length = 8 → s.joined sh = true → s.pieceRoom sh = true →
    (s.journal sh).batches.find? (fun b => decide ((s.journal sh).nextOut ≤ b.seq)) = some b → s.power.mode ≠ 2 →
    let i := if b.seq = (s.journal sh).nextOut then (s.journal sh).piece else 0
    ∃ s' x, exec (.batchPieceQueued t sh) s = .next s' ∧ x ∈ (s'.shade sh).items ∧ x.cls = 2 ∧ x.number = none ∧
      x.content = pieceReport b i (decide (b.seq < (s.journal sh).again)) ∧ (s'.shade sh).pieces = (s.shade sh).pieces + 1 ∧
      (if 1152 * (i + 1) < b.bytes.length then (s'.journal sh).nextOut = b.seq ∧ (s'.journal sh).piece = i + 1
       else (s'.journal sh).nextOut = b.seq + 1 ∧ (s'.journal sh).piece = 0 ∧ (s'.journal sh).delivered = peak (s.journal sh).delivered (b.seq + 1)) ∧
      (s'.journal sh).batches = (s.journal sh).batches ∧ s'.outside [.metering] = s.outside [.metering] ∧ s.sameObjects s' (fun _ => false)) ∧
  ((∀ (s : State) (t sh : Nat), sh < 8 → s.journals.length = 8 → (s.journal sh).oldest < (s.journal sh).delivered →
    (s.journal sh).lastOut + sec (s.nat 0x4100 5) ≤ peak s.now t → s.power.mode ≠ 2 →
    ∃ s', exec (.redeliveryInterval t sh) s = .next s' ∧ s'.journal sh = { s.journal sh with
        nextOut := (s.journal sh).oldest, piece := 0, again := (s.journal sh).delivered, lastOut := peak s.now t } ∧
      (∀ r, r ≠ sh → s'.journal r = s.journal r) ∧ s'.outside [.metering] = s.outside [.metering] ∧ s.sameObjects s' (fun _ => false)) ∧
  (∀ (s : State) (t sh : Nat), sh < 8 → s.journals.length = 8 → s.power.mode ≠ 2 →
    ∃ s', exec (.retentionExpired t sh) s = .next s' ∧
      (∀ b ∈ (s.journal sh).batches, b.acked = none → b ∈ (s'.journal sh).batches) ∧
      (∀ b ∈ (s'.journal sh).batches, b ∈ (s.journal sh).batches ∧ ∀ a, b.acked = some a → s.rtcSec < a + s.nat 0x4100 4) ∧
      (∀ r, r ≠ sh → s'.journal r = s.journal r) ∧ s'.outside [.metering] = s.outside [.metering] ∧ s.sameObjects s' (fun _ => false)) ∧
  (∀ (s : State) (t sh : Nat), s.power.mode = 2 → exec (.batchPieceQueued t sh) s = .next (s.at t) ∧
    exec (.redeliveryInterval t sh) s = .next (s.at t) ∧ exec (.retentionExpired t sh) s = .next (s.at t)))

/-! ### OAP requests (chapters 12 and 13) -/

/-- No frame whose tag is not authentic changes anything outside the Dome's own record of sessions and the links' queues and counters,
whatever request it carries (a HELLO of phase 1, which is in clear, apart); a frame that fails R442 is counted and has no other effect
(R384, R387, R442). -/
def Obligations.OnlyAuthenticFramesAct : Prop :=
  (∀ (s s' : State) (c : Instr) (f : Frame), frameOf c = some f → (∀ t, c ≠ .helloPhase1 t f) → f.authentic = false → exec c s = .next s' →
    s'.outside [.sessions, .links, .shades] = s.outside [.sessions, .links, .shades] ∧
      s.sameObjects s' (fun i => i == 0x1200 || i == 0x1300 || i == 0x1800 || i == 0x5000)) ∧
  (∀ (s : State) (t : Nat) (f : Frame), s.hears f = true → f.link = 1 → wellFramed f = false →
    ∃ s', exec (.oapFrameDiscarded t f) s = .next s' ∧ s'.nat 0x1200 9 = (s.nat 0x1200 9 + 1) % 2 ^ 32 ∧
      s'.nat 0x1200 7 = (s.nat 0x1200 7 + 1) % 2 ^ 32 ∧ s'.outside [] = s.outside [] ∧ s.sameObjects s' (fun i => i == 0x1200))

/-- A READ is answered with its items, each read of one state, or with 0x0105 where they exceed 1,400 bytes; a READ_BLOCK with its status and
block. Neither changes anything else (R410, R411, R413). A read of the clock's seconds freezes the session's view of the clock, and a read
of its century ends the freeze (R520). -/
def Obligations.ReadsAreAnswered : Prop :=
  (∀ (s : State) (t : Nat) (f : Frame) (x : Session), (s.at t).mayAsk f x → s.replyRoom x → f.op = 0x01 →
    let r := ((s.at t).accept f x).readItems x.id (byteAt f.payload 0) (f.payload.drop 4)
    ∃ s', exec (.read t f) s = .next s' ∧ s.answers s' f x (if 1392 < r.1.length then replyHead f.seq 0x0105 else replyHead f.seq 0 ++ r.1) ∧
      s'.outside [.sessions, .links, .values] = s.outside [.sessions, .links, .values] ∧ s.sameObjects s' (fun i => i == 0x1200 || i == 0x5000)) ∧
  (∀ (s : State) (t : Nat) (f : Frame) (x : Session), (s.at t).mayAsk f x → s.replyRoom x → f.op = 0x03 →
    let a := (s.at t).accept f x
    ∃ s' y, a.session? x.id = some y ∧ exec (.readBlock t f) s = .next s' ∧
      s.answers s' f x (replyHead f.seq (a.readBlock y f.payload).1 ++ (a.readBlock y f.payload).2.1) ∧
      s'.outside [.sessions, .links, .values] = s.outside [.sessions, .links, .values] ∧ s.sameObjects s' (fun i => i == 0x1200 || i == 0x5000)) ∧
  (∀ (s : State) (t sub : Nat) (f : Frame) (x : Session), (s.at t).mayAsk f x → f.op = 0x01 → s.power.recovery = false →
    byteAt f.payload 0 = 1 → fieldAt f.payload 4 2 = 0x1A00 → byteAt f.payload 6 = sub → byteAt f.payload 7 = 0 → (sub = 1 ∨ sub = 8) →
    ∃ s' y, exec (if sub = 1 then .secondsRead t f else .centuryRead t f) s = .next s' ∧ exec (.read t f) s = .next s' ∧
      s'.session? x.id = some y ∧ y.shadow = (if sub = 1 then some (peak s.now t, s.rtc.total) else none) ∧ s'.rtc = s.rtc ∧
      s'.outside [.sessions, .links, .values] = s.outside [.sessions, .links, .values] ∧ s.sameObjects s' (fun i => i == 0x1200 || i == 0x5000))

/-- A WRITE that a check of Table 9 refuses is answered with that check's status and changes no object. One that passes them, of an object not
of class C, takes effect before its reply: a stored object holds the value sent, and the reply names the slot count, or all ones for class B. A
WRITE of an object of class C is always refused: every object of class C is RWT, so a transaction alone writes it (R70, R402, R412, Tables 2 and 9).
The objects of shades and host links, whose writes may end the session, are those of ShadeAndLinkWrites. -/
def Obligations.WritesTakeEffectOrAreRefused : Prop :=
  (∀ (s : State) (t st : Nat) (f : Frame) (x : Session), (s.at t).mayAsk f x → s.replyRoom x → f.op = 0x02 → st ≠ 0 →
    (((s.at t).accept f x).itemCheck x.shade false (takeItem f.payload).1).1 = st →
    ∃ s', exec (.write t f) s = .next s' ∧ s.answers s' f x (replyHead f.seq st) ∧ s'.outside [.sessions, .links] = s.outside [.sessions, .links] ∧
      s.sameObjects s' (fun i => i == 0x1200 || i == 0x5000 || i == 0x1A02)) ∧
  (∀ (s : State) (t i j : Nat) (f : Frame) (x : Session) (v : Val), (s.at t).mayWriteTo f x i j v → s.replyRoom x → i < 0x10000 → i / 256 ≠ 0x12 →
    i / 256 ≠ 0x13 → clsOf (objKey x.shade i j) ≠ .c →
    ∃ s', exec (.write t f) s = .next s' ∧ (isStored (objKey x.shade i j) = true → s'.val (objKey x.shade i j) = v) ∧
      s.answers s' f x (replyHead f.seq 0 ++
        (if clsOf (objKey x.shade i j) = .b then le 8 0xFFFFFFFFFFFFFFFF else le 8 s.belfry.slots) ++ zeros 4)) ∧
  (∀ (s : State) (t : Nat) (f : Frame) (x : Session), (s.at t).mayAsk f x → s.replyRoom x → f.op = 0x02 →
    clsOf (objKey x.shade (takeItem f.payload).1.index (takeItem f.payload).1.sub) = .c →
    ∃ s' st, exec (.write t f) s = .next s' ∧ st ≠ 0 ∧ s.answers s' f x (replyHead f.seq st) ∧ s'.txns = s.txns ∧ s'.nextTxn = s.nextTxn ∧
      s'.outside [.sessions, .links] = s.outside [.sessions, .links] ∧ s.sameObjects s' (fun i => i == 0x1200 || i == 0x5000 || i == 0x1A02))

/-- TXN_OPEN gives a session that stages nothing the next number where a place is free, and is refused with 0x0401 otherwise; TXN_STAGE adds
writes that pass their checks; TXN_COMMIT of a later boundary makes a transaction wait for it, and one whose objects have changed meanwhile
is refused with 0x0201 and discarded; TXN_ABORT discards it, one that waits only while its boundary cannot come within 200 µs; 10 s without
a request expire it (R417–R424, R426). A store that was refused at a boundary is tried again (R428). -/
def Obligations.TransactionsStageCommitAndEnd : Prop :=
  (∀ (s : State) (t : Nat) (f : Frame) (x : Session), (s.at t).mayAsk f x → s.replyRoom x → f.op = 0x10 → s.inSafe = false →
    (s.txns.any (fun y => decide (y.session = x.id) && !y.waiting) = false → s.placeFor x.shade = true →
      ∃ s' y, exec (.txnOpen t f) s = .next s' ∧ s'.txns = s.txns ++ [y] ∧ y.num = s.nextTxn ∧ y.session = x.id ∧ y.shade = x.shade ∧
        y.waiting = false ∧ y.staged = [] ∧ y.lastTick = peak s.now t ∧ s'.nextTxn = s.nextTxn % 0xFFFFFFFF + 1 ∧
        s.answers s' f x (replyHead f.seq 0 ++ le 4 s.nextTxn ++ le 2 64 ++ le 2 4096) ∧
        s'.outside [.sessions, .links] = s.outside [.sessions, .links] ∧ s.sameObjects s' (fun i => i == 0x1200 || i == 0x5000)) ∧
    ((s.txns.any (fun y => decide (y.session = x.id) && !y.waiting) = true ∨ s.placeFor x.shade = false) →
      ∃ s', exec (.txnOpen t f) s = .next s' ∧ s'.txns = s.txns ∧ s.answers s' f x (replyHead f.seq 0x0401) ∧
        s'.outside [.sessions, .links] = s.outside [.sessions, .links] ∧ s.sameObjects s' (fun i => i == 0x1200 || i == 0x5000))) ∧
  (∀ (s : State) (t : Nat) (f : Frame) (x : Session) (y : Txn) (l : List Staged), (s.at t).mayAsk f x → s.replyRoom x → f.op = 0x11 → s.inSafe = false →
    s.staging? x.id (fieldAt f.payload 0 4) = some y →
    ((s.at t).accept f x).stageItems x.shade 1 (takeItems (byteAt f.payload 4) (f.payload.drop 8)) y.staged = ((0, 0xFF), l) →
    l.length ≤ 64 → sumOf (l.map Staged.size) ≤ 4096 →
    ∃ s', exec (.txnStage t f) s = .next s' ∧ s'.staging? x.id y.num = some { y with staged := l, lastTick := peak s.now t } ∧
      s.answers s' f x (replyHead f.seq 0 ++ stageBody 0xFF l) ∧ s'.outside [.sessions, .links] = s.outside [.sessions, .links] ∧
      s.sameObjects s' (fun i => i == 0x1200 || i == 0x5000)) ∧
  (∀ (s : State) (t : Nat) (b : Boundary) (f : Frame) (x : Session) (y : Txn), (s.at t).mayAsk f x → s.replyRoom x → f.op = 0x12 → s.inSafe = false →
    s.staging? x.id (fieldAt f.payload 0 4) = some y → s.conflict y.staged = none →
    ((s.at t).accept f x).boundaryOf (byteAt f.payload 4) (fieldAt f.payload 8 4) (y.staged.any (fun e => isClassC e.key)) = some (some b) →
    ((s.at t).accept f x).judge (writerOf x) y.puts = ((0, 0xFF), (s.at t).accept f x) → s.supplyStable = true →
    ∃ s', exec (.txnCommit t f) s = .next s' ∧
      (∃ z ∈ s'.txns, z.num = y.num ∧ z.waiting = true ∧ z.boundary = b ∧ z.accepted = s.nextOrder ∧ z.staged = y.staged) ∧
      s.answers s' f x (replyHead f.seq 0 ++ le 8 ((s.at t).boundarySlot b) ++ [0xFF#8, 0#8, 0#8, 0#8]) ∧
      s'.outside [.sessions, .links] = s.outside [.sessions, .links] ∧ s.sameObjects s' (fun i => i == 0x1200 || i == 0x5000)) ∧
  (∀ (s : State) (t n : Nat) (f : Frame) (x : Session) (y : Txn), (s.at t).mayAsk f x → s.replyRoom x → f.op = 0x12 → s.inSafe = false →
    s.staging? x.id (fieldAt f.payload 0 4) = some y → s.conflict y.staged = some (0x0201, n) → y.shade < 8 → s.txnStats.length = 8 →
    ∃ s', exec (.txnCommit t f) s = .next s' ∧ (∀ z ∈ s'.txns, z.num ≠ y.num) ∧
      (tget s'.txnStats y.shade { commits := 0, conflicts := 0, expiries := 0, dropped := 0 }).conflicts =
        ((tget s.txnStats y.shade { commits := 0, conflicts := 0, expiries := 0, dropped := 0 }).conflicts + 1) % 2 ^ 32 ∧
      s.answers s' f x (replyHead f.seq 0x0201 ++ le 8 0 ++ [byte n, 0#8, 0#8, 0#8]) ∧
      s'.outside [.sessions, .links, .clock] = s.outside [.sessions, .links, .clock] ∧ s.sameObjects s' (fun i => i == 0x1200 || i == 0x5000)) ∧
  (∀ (s : State) (t : Nat) (f : Frame) (x : Session) (y : Txn), (s.at t).mayAsk f x → s.replyRoom x → f.op = 0x13 →
    s.staging? x.id (fieldAt f.payload 0 4) = some y → (∀ z ∈ s.txns, z.num = y.num → z = y) →
    ∃ s', exec (.txnAbort t f) s = .next s' ∧ s'.txns = s.txns.filter (fun z => decide (z.num ≠ y.num)) ∧ s.answers s' f x (replyHead f.seq 0) ∧
      s'.outside [.sessions, .links] = s.outside [.sessions, .links] ∧ s.sameObjects s' (fun i => i == 0x1200 || i == 0x5000)) ∧
  (∀ (s : State) (t : Nat) (f : Frame) (x : Session) (y : Txn), (s.at t).mayAsk f x → s.replyRoom x → f.op = 0x13 →
    s.txns.find? (fun z => decide (z.num = fieldAt f.payload 0 4) && decide (z.session = x.id)) = some y → y.waiting = true →
    let ahead := (s.at t).earliestBoundary ((s.at t).boundaryAhead y.boundary)
    ∃ s', exec (.txnAbort t f) s = .next s' ∧
      (peak s.now t + us 200 < ahead → s'.txns = s.txns.filter (fun z => decide (z.num ≠ y.num)) ∧ s.answers s' f x (replyHead f.seq 0)) ∧
      (ahead ≤ peak s.now t + us 200 → s'.txns = s.txns ∧ s.answers s' f x (replyHead f.seq 0x0401)) ∧
      s'.outside [.sessions, .links] = s.outside [.sessions, .links] ∧ s.sameObjects s' (fun i => i == 0x1200 || i == 0x5000)) ∧
  (∀ (s : State) (t : Nat) (y : Txn), s.txns.find? (fun z => decide (z.num = y.num)) = some y → y.waiting = false → y.lastTick + sec 10 ≤ peak s.now t →
    ∃ s', exec (.transactionExpired t y.num) s = .next s' ∧ s'.txns = s.txns.filter (fun z => decide (z.num ≠ y.num)) ∧
      (∃ m : State, s' = m.raise 0x0403 (dU 4 y.num ++ [1]) [y.shade]) ∧ s'.outside [.sessions] = s.outside [.sessions] ∧
      s.sameObjects s' (fun _ => false)) ∧
  (∀ (s : State) (t n : Nat) (l : LateStore), s.lateStores.find? (fun y => decide (y.num = n) && decide (y.nextTick ≤ peak s.now t)) = some l →
    (s.supplyStable = true →
      ∃ s', exec (.storeAfterBoundaryRetry t n) s = .next s' ∧ s'.lateStores = s.lateStores.filter (fun y => decide (y ≠ l)) ∧
        s'.outside [.sessions, .store] = s.outside [.sessions, .store] ∧ s.sameObjects s' (fun i => i == 0x1600)) ∧
    (s.supplyStable = false →
      ∃ s', exec (.storeAfterBoundaryRetry t n) s = .next s' ∧
        s'.lateStores = s.lateStores.map (fun y => if y = l then { y with nextTick := peak s.now t + ms 10 } else y) ∧
        s'.nat 0x1600 5 = (s.nat 0x1600 5 + 1) % 2 ^ 32 ∧ s'.outside [.sessions] = s.outside [.sessions] ∧
        s.sameObjects s' (fun i => i == 0x1600)))

/-- SUBSCRIBE sets a shade's mask and, with its flag 2, the session that delivers, to which all that was delivered and not acknowledged goes
again; an EVENT frame, which leaves in the shade's turn of the drain order (R483), gives new items the next numbers; an ACK frees what it
covers; items unacknowledged for the redelivery time go again (R434–R437, R482). -/
def Obligations.ItemsAreDeliveredAndAcknowledged : Prop :=
  (∀ (s : State) (t : Nat) (f : Frame) (x : Session), (s.at t).mayAsk f x → s.replyRoom x → f.op = 0x20 → x.shade < 8 → s.shades.length = 8 →
    fieldAt f.payload 4 32 &&& eventClasses = fieldAt f.payload 4 32 →
    ∃ s', exec (.subscribe t f) s = .next s' ∧ (s'.shade x.shade).classMask = fieldAt f.payload 4 32 ∧
      (s'.shade x.shade).subFlags = byteAt f.payload 0 % 4 ∧
      (bitOf (byteAt f.payload 0) 2 = true → (s'.shade x.shade).delivery = x.id ∧
        ∀ i ∈ (s'.shade x.shade).items, i.number.isSome = true → i.again = true) ∧
      (bitOf (byteAt f.payload 0) 2 = false → (s'.shade x.shade).delivery = (s.shade x.shade).delivery ∧
        (s'.shade x.shade).items = (s.shade x.shade).items) ∧
      (∀ r, r ≠ x.shade → s'.shade r = s.shade r) ∧ s.answers s' f x (replyHead f.seq 0 ++ le 4 (s.shade x.shade).nextNumber) ∧
      s'.outside [.sessions, .links, .shades] = s.outside [.sessions, .links, .shades] ∧
      s.sameObjects s' (fun i => i == 0x1200 || i == 0x5000)) ∧
  (∀ (s : State) (t sh : Nat) (y : Session) (i : QItem), sh < 8 → s.shades.length = 8 → s.session? (s.shade sh).delivery = some y → y.shade = sh →
    y.isOpen = true → y.txSeq + 1 < 0xFFFFFFFD → (s.at t).stageTurn 2 = some sh → (s.shade sh).oldestAgain = none → (s.shade sh).items = [i] →
    ∃ s' o, exec (.event t sh) s = .next s' ∧ (s'.shade sh).items = [{ i with number := some (s.shade sh).nextNumber, sentTick := peak s.now t }] ∧
      (s'.shade sh).nextNumber = ((s.shade sh).nextNumber + 1) % 2 ^ 32 ∧ s'.txq = s.txq ++ [o] ∧ o.op = 0x21 ∧ o.reply = false ∧ o.session = y.id ∧
      o.payload = eventPayload (s.shade sh).nextNumber [{ i with number := some (s.shade sh).nextNumber, sentTick := peak s.now t }] ∧
      s'.outside [.sessions, .links, .shades] = s.outside [.sessions, .links, .shades] ∧ s.sameObjects s' (fun i => i == 0x5000)) ∧
  (∀ (s : State) (t n : Nat) (f : Frame) (x : Session), (s.at t).mayAsk f x → f.op = 0x22 → x.shade < 8 → s.shades.length = 8 →
    fieldAt f.payload 0 4 = n → n < (s.shade x.shade).nextNumber → (s.shade x.shade).nextNumber < 2 ^ 31 →
    (∀ i ∈ (s.shade x.shade).items, ∀ k, i.number = some k → k < 2 ^ 31) →
    ∃ s', exec (.ack t f) s = .next s' ∧ (∀ i ∈ (s'.shade x.shade).items, ∀ k, i.number = some k → n < k) ∧
      (∀ i ∈ (s.shade x.shade).items, (∀ k, i.number = some k → n < k) → i.cls ≠ 3 → i ∈ (s'.shade x.shade).items) ∧
      s'.outside [.sessions, .links, .shades] = s.outside [.sessions, .links, .shades] ∧ s.sameObjects s' (fun i => i == 0x1200)) ∧
  (∀ (s : State) (t sh : Nat), (s.at t).stageTurn 2 ≠ some sh → exec (.event t sh) s = .next (s.at t)) ∧
  (∀ (s : State) (t sh : Nat), sh < 8 → s.shades.length = 8 → (∀ y, s.session? (s.shade sh).delivery = some y → y.txSeq + 1 < 0xFFFFFFFD) →
    (s.shade sh).items.any (fun i => i.number.isSome && !i.again && decide (i.sentTick + ms (s.nat 0x1500 (16 * sh + 7)) ≤ peak s.now t)) = true →
    ∃ s', exec (.redeliveryTimeExpired t sh) s = .next s' ∧
      (∀ i ∈ (s'.shade sh).items, i.number.isSome = true → i.again = false → peak s.now t ≤ i.sentTick + ms (s.nat 0x1500 (16 * sh + 7))) ∧
      (s'.shade sh).items.length = (s.shade sh).items.length ∧ (∀ r, r ≠ sh → s'.shade r = s.shade r) ∧
      s'.outside [.sessions, .links, .shades] = s.outside [.sessions, .links, .shades] ∧ s.sameObjects s' (fun i => i == 0x5000))

/-- The dictionary has an object at each index that Table 4 names and at no index outside Table 4, and a READ or a WRITE of an index that Table 4
does not list is answered with 0x0101 (R406). The routing filters of a shade are its own: another shade's READ and WRITE, Slate's included, are
answered with 0x0103 (R252). The records of `slateWritten` every shade may read and only Slate may write, and a write by any other shade is
answered with 0x0104 (R55, R113, R125, R192, R508, R593). No refusal changes an object beyond the counts of frames. A module in recovery mode or
in safe state answers otherwise where R554 and R429 say so. -/
def Obligations.ObjectsAreGuarded : Prop :=
  (∀ i, (within tableFourNamed i = true → indexExists i = true) ∧
    (indexExists i = true → within tableFourNamed i = true ∨ within tableFourRanges i = true)) ∧
  (∀ (s : State) (t i j : Nat) (f : Frame) (x : Session), (s.at t).mayAsk f x → s.replyRoom x → f.op = 0x01 → i < 65536 → j < 256 →
    f.payload = [1#8, 0#8, 0#8, 0#8] ++ le 2 i ++ [byte j, 0#8] →
    (within tableFourNamed i = false → within tableFourRanges i = false →
      ∃ s', exec (.read t f) s = .next s' ∧ s.answers s' f x (replyHead f.seq 0 ++ refusedItem i j 0x0101) ∧
        s'.outside [.sessions, .links, .values] = s.outside [.sessions, .links, .values] ∧ s.sameObjects s' (fun i => i == 0x1200 || i == 0x5000)) ∧
    (s.power.recovery = false → 0x3110 ≤ i → i < 0x3118 → i ≠ 0x3110 + x.shade →
      ∃ s', exec (.read t f) s = .next s' ∧ s.answers s' f x (replyHead f.seq 0 ++ refusedItem i j 0x0103) ∧
        s'.outside [.sessions, .links, .values] = s.outside [.sessions, .links, .values] ∧ s.sameObjects s' (fun i => i == 0x1200 || i == 0x5000))) ∧
  (∀ (s : State) (t i j : Nat) (f : Frame) (x : Session), (s.at t).mayAsk f x → s.replyRoom x → f.op = 0x02 →
    (takeItem f.payload).1.index = i → (takeItem f.payload).1.sub = j →
    (within tableFourNamed i = false → within tableFourRanges i = false →
      ∃ s', exec (.write t f) s = .next s' ∧ s.answers s' f x (replyHead f.seq 0x0101) ∧ s'.outside [.sessions, .links] = s.outside [.sessions, .links] ∧
        s.sameObjects s' (fun i => i == 0x1200 || i == 0x5000 || i == 0x1A02)) ∧
    (s.power.recovery = false → 0x3110 ≤ i → i < 0x3118 → i ≠ 0x3110 + x.shade →
      ∃ s', exec (.write t f) s = .next s' ∧ s.answers s' f x (replyHead f.seq 0x0103) ∧ s'.outside [.sessions, .links] = s.outside [.sessions, .links] ∧
        s.sameObjects s' (fun i => i == 0x1200 || i == 0x5000 || i == 0x1A02)) ∧
    (s.power.recovery = false → s.inSafe = false → within slateWritten i = true → subExists i j = true → x.shade ≠ 0 → x.shade < 8 →
      ∃ s', exec (.write t f) s = .next s' ∧ s.answers s' f x (replyHead f.seq 0x0104) ∧ s'.outside [.sessions, .links] = s.outside [.sessions, .links] ∧
        s.sameObjects s' (fun i => i == 0x1200 || i == 0x5000 || i == 0x1A02))) ∧
  (∀ (s : State) (i j sh : Nat) (w : Bool), s.power.recovery = false → sh < 8 → subExists i j = true →
    (i = 0x3110 + sh → s.addressCheck sh i j w = 0 ∧ s.mayWrite sh i j = true) ∧
    (within slateWritten i = true → s.addressCheck sh i j w = 0 ∧ s.mayWrite sh i j = decide (sh = 0)))

/-! ### Management: what one written object makes the module do (Table 3 of chapter 12) -/

/-- A management command is the request of chapter 12 that writes its object: on a WRITE, or the TXN_COMMIT of a transaction, that names the
object it does what that request does, and any other frame is not its own (the model's reading of the table's rows: log entry 33). -/
def Obligations.ManagementCommandsAreWrites : Prop :=
  ∀ (c : Instr) (t : Nat) (f : Frame) (p : State → Nat → Nat → Nat → Bool) (s : State), manageRow c = some (t, f, p) →
    ((s.at t).writesTo f (p (s.at t)) = true → f.op = 0x02 → exec c s = exec (.write t f) s) ∧
    ((s.at t).writesTo f (p (s.at t)) = true → f.op ≠ 0x02 → exec c s = exec (.txnCommit t f) s) ∧
    ((s.at t).writesTo f (p (s.at t)) = false → exec c s = .next (s.at t))

/-- Writes of port, quad, view and metering objects: a requested state is in effect at once when it enables and stands in its object when it
disables; a re-arm clears the fault, which a faulted quad shows until its own ends; Invalidate empties a quad's channel memory; Forget takes
the shade's view (R108–R110, R253, R301, R302, R664). An acknowledgement covers every batch up to its sequence; delivery starts again where
it is asked to; a meter is enrolled with its class, key and counter, retired, or marked for resync (R339, R353, R354, R359). -/
def Obligations.PortAndMeterWrites : Prop :=
  (∀ (s : State) (t p n : Nat) (f : Frame) (x : Session), p < 48 → s.ports.length = 48 →
    s.writeDoes t f x (.requestedState t f) (0x2100 + p) 1 (.num n) [.radio] (fun i => i == 0x2100 + p) (fun s' =>
      s'.nat (0x2100 + p) 1 = n ∧ (s'.port p).enabled = (decide (n = 1) || (s.port p).enabled) ∧ (∀ r, r ≠ p → s'.port r = s.port r))) ∧
  (∀ (s : State) (t p : Nat) (f : Frame) (x : Session), p < 48 →
    s.writeDoes t f x (.reArm t f) (0x2100 + p) 5 (.num 1) [.radio] (fun i => i == 0x2100 + p) (fun s' =>
      s'.nat (0x2100 + p) 3 = (if s.nat (0x2100 + p) 3 = 4 then 4 else 0) ∧ s'.nat (0x2100 + p) 4 = 0 ∧
      (s.nat (0x2100 + p) 3 = 4 → s.ports.length = 48 → (s'.port p).causeBefore = 0) ∧ (∀ r, r ≠ p → s'.port r = s.port r))) ∧
  (∀ (s : State) (t h n : Nat) (f : Frame) (x : Session), h < 8 → s.hfPorts.length = 8 →
    s.writeDoes t f x (.hfRequestedState t f) (0x2400 + h) 1 (.num n) [.hf] (fun i => i == 0x2400 + h) (fun s' =>
      s'.nat (0x2400 + h) 1 = n ∧ (s'.hf h).enabled = (decide (n = 1) || (s.hf h).enabled) ∧ s.sameOtherHf s' h)) ∧
  (∀ (s : State) (t h : Nat) (f : Frame) (x : Session), h < 8 →
    s.writeDoes t f x (.hfReArm t f) (0x2400 + h) 5 (.num 1) [] (fun i => i == 0x2400 + h) (fun s' =>
      s'.nat (0x2400 + h) 3 = 0 ∧ s'.nat (0x2400 + h) 4 = 0)) ∧
  (∀ (s : State) (t q : Nat) (f : Frame) (x : Session), q < 12 → s.quads.length = 12 →
    s.writeDoes t f x (.invalidateChannelMemory t f) (0x2200 + q) 16 (.num 1) [.radio] (fun _ => false) (fun s' =>
      (s'.quad q).mem = [] ∧ (∀ r, r ≠ q → s'.quad r = s.quad r))) ∧
  (∀ (s : State) (t : Nat) (f : Frame) (x : Session),
    s.writeDoes t f x (.forgetView t f) 0x3100 4 (.num 1) [.tags] (fun _ => false) (fun s' =>
      (∀ n e, s'.tag n = some e → bitOf e.routed x.shade = false) ∧ s'.tags.map Prod.fst = s.tags.map Prod.fst)) ∧
  (∀ (s : State) (t h b : Nat) (f : Frame) (x : Session), h < 8 → s.journals.length = 8 →
    s.writeDoes t f x (.acknowledgeThrough t f) (0x4110 + h) 4 (.num b) [.metering] (fun _ => false) (fun s' =>
      (∀ y ∈ (s'.journal h).batches, y.seq ≤ b → y.acked ≠ none) ∧ (s'.journal h).batches.length = (s.journal h).batches.length)) ∧
  (∀ (s : State) (t h b : Nat) (f : Frame) (x : Session), h < 8 → s.journals.length = 8 →
    s.writeDoes t f x (.redeliverFrom t f) (0x4110 + h) 5 (.num b) [.metering] (fun _ => false) (fun s' =>
      s'.journal h = { s.journal h with nextOut := b, piece := 0, again := (s.journal h).delivered, lastOut := peak s.now t })) ∧
  (∀ (s : State) (t : Nat) (f : Frame) (x : Session) (b : List Byte),
    s.writeDoes t f x (.enrol t f) 0x4031 1 (.oct b) [.metering, .values, .tags, .shades] (fun _ => false) (fun s' =>
      ∃ n b' k, s'.meter (fieldAt b 0 2) = some { enrolled b with lastSeq := n, lastBoundary := b', lastFlags := k })) ∧
  (∀ (s : State) (t m : Nat) (f : Frame) (x : Session) (y : Meter), s.meter m = some y →
    s.writeDoes t f x (.retire t f) 0x4031 2 (.num m) [.metering, .values, .shades] (fun _ => false) (fun s' =>
      ∃ n b' k, s'.meter m = some { y with retiring := true, lastSeq := n, lastBoundary := b', lastFlags := k })) ∧
  (∀ (s : State) (t m : Nat) (f : Frame) (x : Session) (y : Meter), s.meter m = some y →
    s.writeDoes t f x (.resync t f) 0x4031 3 (.num m) [.metering] (fun _ => false) (fun s' =>
      s'.meter m = some { y with marked := some (peak s.now t), setReady := false }))

/-- Writes of shade and link objects: a shade ends another of its sessions; the commit of an owner key opens a shade with a key of its own
and starts its chain; a rotation replaces the key and ends the shade's sessions 1 s later; an erase leaves the shade unallocated without a
session, its queue empty; a forced erase closes it for 72 h and can be cancelled; a link that is switched off is down (R374–R377, R380,
R398, R457, R471). -/
def Obligations.ShadeAndLinkWrites : Prop :=
  (∀ (s : State) (t h sid : Nat) (f : Frame) (x : Session), h < 8 →
    s.writeDoes t f x (.endSession t f) (0x1320 + h) 5 (.num sid) [.shades] (fun i => i == 0x1800) (fun s' => s'.session? sid = none)) ∧
  (∀ (s : State) (t h : Nat) (f : Frame) (x : Session) (y : Txn) (b : List Byte), 0 < h → h < 8 → (s.at t).mayCommitOne f x y (0x1310 + h) 3 (.oct b) →
    ∃ s', exec (.shadeOpened t f) s = .next s' ∧ s'.shadeState h = 1 ∧ s'.val (key (0x1310 + h) 3) = .oct b ∧
      s'.nat (0x1310 + h) 12 = (s.nat (0x1310 + h) 12 + 1) % 2 ^ 32 ∧ s'.nat (0x1310 + h) 13 = s.rtcSec ∧
      (∀ z ∈ s'.txns, z.num ≠ y.num) ∧ s.requestFrame s' [.shades, .metering, .values] (fun i => i == 0x1310 + h)) ∧
  (∀ (s : State) (t h : Nat) (f : Frame) (x : Session) (b : List Byte), h < 8 →
    s.writeDoes t f x (.rotateOwnerKey t f) (0x1310 + h) 4 (.oct b) [.shades] (fun i => i == 0x1310 + h) (fun s' =>
      s'.val (key (0x1310 + h) 3) = .oct (b.take 33) ∧
      (∀ y ∈ s'.sessions, y.shade = h → y.isOpen = true → y.endDue = some (peak s.now t + sec 1, 5)))) ∧
  (∀ (s : State) (t h : Nat) (f : Frame) (x : Session), 0 < h → h < 8 → s.shades.length = 8 → (s.at t).mayWriteTo f x (0x1310 + h) 14 (.num 1) →
    ∃ s', exec (.erase t f) s = .next s' ∧ exec (.write t f) s = .next s' ∧ s'.shadeState h = 0 ∧ (∀ y ∈ s'.sessions, y.shade ≠ h) ∧
      (∀ y ∈ s'.txns, y.shade ≠ h) ∧ (s'.shade h).items = [] ∧ (s'.shade h).storageKey = [] ∧ h ∈ s'.quietDue ∧
      (∀ r, r < 8 → r ≠ h → s'.shadeState r = s.shadeState r) ∧ s'.outside [.radio, .hf, .tags, .metering, .timers, .store, .pins, .links, .sessions, .shades, .values] =
        s.outside [.radio, .hf, .tags, .metering, .timers, .store, .pins, .links, .sessions, .shades, .values]) ∧
  (∀ (s : State) (t h : Nat) (f : Frame) (x : Session), 0 < h → h < 8 →
    s.writeDoes t f x (.forcedErase t f) (0x1310 + h) 14 (.num 2) [.shades] (fun i => i == 0x1310 + h) (fun s' =>
      s'.shadeState h = 3 ∧ s'.nat (0x1310 + h) 15 = (s.rtcSec + 259200) % 2 ^ 32)) ∧
  (∀ (s : State) (t h : Nat) (f : Frame) (x : Session), 0 < h → h < 8 →
    s.writeDoes t f x (.cancelForcedErase t f) (0x1310 + h) 14 (.num 3) [.shades] (fun i => i == 0x1310 + h) (fun s' =>
      s'.shadeState h = (s.shade h).before ∧ s'.nat (0x1310 + h) 15 = 0)) ∧
  (∀ (s : State) (t : Nat) (f : Frame) (x : Session), s.ethInterface ≠ 0 →
    s.writeDoes t f x (.ethernetEnable t f) 0x1200 5 (.num 0) [] (fun i => i == 0x1201 || i == 0x1203) (fun s' =>
      s'.nat 0x1200 5 = 0 ∧ s'.linkUp 1 = false ∧ s'.ip4 = zeros 4 ∧ s'.ip6 = zeros 16 ∧ s'.eth.mdioStarted = false)) ∧
  (∀ (s : State) (t : Nat) (f : Frame) (x : Session), s.ethInterface = 1 → s.linkUp 1 = false → s.eth.mdioStarted = false →
    s.writeDoes t f x (.ethernetEnable t f) 0x1200 5 (.num 1) [] (fun i => i == 0x1201 || i == 0x1203) (fun s' =>
      s'.nat 0x1200 5 = 1 ∧ s'.linkUp 1 = true ∧ s'.nat 0x1200 4 = 10)) ∧
  (∀ (s : State) (t n : Nat) (f : Frame) (x : Session),
    s.writeDoes t f x (.spireLinkEnable t f) 0x1210 1 (.num n) [] (fun i => i == 0x1210) (fun s' =>
      s'.nat 0x1210 1 = n ∧ (n = 0 → s'.linkUp 2 = false ∧ s'.spire.restart = true) ∧ (n ≠ 0 → s'.linkUp 2 = s.linkUp 2)))

/-- Writes of timer, clock and power objects: a compare is armed at its count, a triggered one at its offset behind its master, an output is forced
(R495, R496, R499); a time field is staged and the write of the seconds lands the whole time (R522–R524); power-off is due after its seconds
or withdrawn (R531); the module enters an operating mode at once when it is full operation, else at the next slot boundary (R614), and
loses its clock spread for some minutes (R620). -/
def Obligations.TimerClockAndPowerWrites : Prop :=
  (∀ (s : State) (t n c w : Nat) (f : Frame) (x : Session), 4 ≤ n → n < 16 → c < 2 → s.timers.length = 16 → modeOf (s.chanConfig n c) = 1 → w < 2 ^ 32 →
    s.writeDoes t f x (.compareArm t f) (0x1910 + n) (6 + 4 * c) (.num w) [.timers] (fun _ => false) (fun s' =>
      ((s'.timer n).ch c).state = 1 ∧ ((s'.timer n).ch c).compare = w ∧ ((s'.timer n).ch c).armTick = peak s.now t ∧
      (s'.timer n).ch (1 - c) = (s.timer n).ch (1 - c) ∧ (∀ m, m ≠ n → s'.timer m = s.timer m))) ∧
  (∀ (s : State) (t n c w : Nat) (f : Frame) (x : Session), 4 ≤ n → n < 16 → c < 2 → s.timers.length = 16 → modeOf (s.chanConfig n c) = 3 → w < 2 ^ 31 →
    s.writeDoes t f x (.triggerArm t f) (0x1910 + n) (6 + 4 * c) (.num w) [.timers] (fun _ => false) (fun s' =>
      ((s'.timer n).ch c).state = 2 ∧ ((s'.timer n).ch c).offset = w ∧ (s'.timer n).ch (1 - c) = (s.timer n).ch (1 - c) ∧
      (∀ m, m ≠ n → s'.timer m = s.timer m))) ∧
  (∀ (s : State) (t n w : Nat) (f : Frame) (x : Session), 4 ≤ n → n < 16 → s.timers.length = 16 →
    s.writeDoes t f x (.forceOutput t f) (0x1910 + n) 13 (.num w) [.timers] (fun _ => false) (fun s' =>
      (s'.timer n) = { s.timer n with output := decide (w ≠ 0) } ∧ (∀ m, m ≠ n → s'.timer m = s.timer m))) ∧
  (∀ (s : State) (t j w : Nat) (f : Frame) (x : Session), 2 ≤ j → j ≤ 8 →
    s.writeDoes t f x (.stagedTimeWrite t f) 0x1A00 j (.num w) [] (fun _ => false) (fun s' =>
      ∃ y, s'.session? x.id = some y ∧ NMap.get? y.staged j = some w ∧ y.stagedTick = peak s.now t)) ∧
  (∀ (s : State) (t w new : Nat) (f : Frame) (x : Session), newTime s.rtc.total x.staged w = some new →
    s.writeDoes t f x (.timeCommit t f) 0x1A00 1 (.num w) [.clock, .metering] (fun i => i == 0x1A02) (fun s' =>
      s'.rtc.total = new ∧ s'.rtc.prescale = 0 ∧ s'.nat 0x1A02 1 = 0 ∧ (∃ y, s'.session? x.id = some y ∧ y.staged = [] ∧ y.shadow = none))) ∧
  (∀ (s : State) (t w : Nat) (f : Frame) (x : Session),
    s.writeDoes t f x (.powerOffRequest t f) 0x1A20 2 (.num w) [.clock] (fun i => i == 0x1A20) (fun s' =>
      s'.rtc = { s.rtc with offDue := if w = 0 then none else some (s.rtc.total + w) } ∧
      s'.nat 0x1A20 3 = (if w = 0 then 0 else (s.rtcSec + w) % 2 ^ 32))) ∧
  (∀ (s : State) (t : Nat) (f : Frame) (x : Session), s.power.mode ≠ 0 →
    s.writeDoes t f x (.enterFullOperation t f) 0x1101 1 (.num 0) [.power, .radio] (fun i => i == 0x1100) (fun s' =>
      s'.power.mode = 0 ∧ s'.power.modeDue = none ∧ s'.nat 0x1100 1 = 0)) ∧
  (∀ (s : State) (t : Nat) (f : Frame) (x : Session), s.power.mode ≠ 1 →
    s.writeDoes t f x (.enterStandby t f) 0x1101 1 (.num 1) [.power] (fun _ => false) (fun s' =>
      s'.power = { s.power with modeDue := some 1 })) ∧
  (∀ (s : State) (t : Nat) (f : Frame) (x : Session), s.power.mode ≠ 2 →
    s.writeDoes t f x (.enterDeepStandby t f) 0x1101 1 (.num 2) [.power] (fun _ => false) (fun s' =>
      s'.power = { s.power with modeDue := some 2 })) ∧
  (∀ (s : State) (t w : Nat) (f : Frame) (x : Session), w ≠ 0 →
    s.writeDoes t f x (.spreadOffFor t f) 0x1104 3 (.num w) [.power] (fun i => i == 0x1104) (fun s' =>
      s'.power = { s.power with spreadEnd := some (peak s.now t + sec (60 * w)) } ∧ s'.nat 0x1104 2 = 0))

/-- Writes of firmware, engine, self-test and trace objects: an image is begun, its blocks are stored in the slot that does not run, it is
verified, set on trial and confirmed (R550, R551, R553); bits are computed over and a scan starts, waits its turn or is aborted (R560, R563,
R565); a sweep starts (R578); safe state is left (R580); the black box is frozen and released (R587); the counters are copied and cleared
(R590). -/
def Obligations.FirmwareEngineAndTestWrites : Prop :=
  (∀ (s : State) (t len : Nat) (f : Frame) (x : Session),
    s.writeDoes t f x (.begin t f) 0x1620 1 (.num len) [] (fun i => i == 0x1620) (fun s' =>
      (s'.store.slot s.store.target).state = 1 ∧ s'.store.loadLength = len ∧ s'.nat 0x1620 2 = 0 ∧ s'.store.running = s.store.running)) ∧
  (∀ (s : State) (t : Nat) (f : Frame) (x : Session) (b : List Byte),
    s.writeDoes t f x (.data t f) 0x1620 3 (.oct b) [] (fun i => i == 0x1620) (fun s' =>
      Memory.readAll s'.store.mram (4096 * slotBase s.store.target + fieldAt b 0 4) (slice b 4 1024).length = slice b 4 1024 ∧
      (∀ a, a < 4096 * slotBase s.store.target + fieldAt b 0 4 ∨ 4096 * slotBase s.store.target + fieldAt b 0 4 + (slice b 4 1024).length ≤ a →
        Memory.read s'.store.mram a = Memory.read s.store.mram a) ∧
      s'.nat 0x1620 2 = (if fieldAt b 0 4 = s.nat 0x1620 2 then fieldAt b 0 4 + 1024 else s.nat 0x1620 2))) ∧
  (∀ (s : State) (t : Nat) (f : Frame) (x : Session),
    s.writeDoes t f x (.verify t f) 0x1620 4 (.num 1) [] (fun i => i == 0x1620) (fun s' =>
      (s'.store.slot s.store.target).state = 2 ∧ (s'.store.slot s.store.target).verifies = true ∧ s'.nat 0x1620 8 = 0)) ∧
  (∀ (s : State) (t : Nat) (f : Frame) (x : Session),
    s.writeDoes t f x (.activateTrial t f) 0x1620 5 (.num 1) [] (fun _ => false) (fun s' =>
      (s'.store.slot s.store.target).state = 3 ∧ (s'.store.slot s.store.target).sequence = (s.store.slot (1 - s.store.target)).sequence + 1 ∧
      s'.store.coldStartDue = some (peak s.now t + ms 100))) ∧
  (∀ (s : State) (t : Nat) (f : Frame) (x : Session),
    s.writeDoes t f x (.activateConfirm t f) 0x1620 5 (.num 2) [] (fun _ => false) (fun s' =>
      (s'.store.slot s.store.running).state = 4 ∧ s.store.minSecurity ≤ s'.store.minSecurity)) ∧
  (∀ (s : State) (t : Nat) (f : Frame) (x : Session) (b : List Byte),
    s.writeDoes t f x (.compute t f) 0x1801 1 (.oct b) [] (fun _ => false) (fun s' =>
      ∃ y, s'.session? x.id = some y ∧ y.check.algorithm = byteAt b 0 ∧
        y.check.register = crcShown (crcAlg (byteAt b 0)) (crcRun (crcAlg (byteAt b 0))
          (if bitOf (byteAt b 1) 0 then crcShown (crcAlg (byteAt b 0)) x.check.register else (crcAlg (byteAt b 0)).preset)
          ((crcBits (crcAlg (byteAt b 0)) (b.drop 8)).take (fieldAt b 2 2))) ∧
        y.check.value = y.check.register ^^^ (crcAlg (byteAt b 0)).final ∧
        y.check.residue = decide (y.check.register = (crcAlg (byteAt b 0)).residue))) ∧
  (∀ (s : State) (t : Nat) (f : Frame) (x : Session) (b : List Byte),
    (s.scanning = none → s.scansQueued = [] →
      s.writeDoes t f x (.start t f) 0x1810 1 (.oct b) [.values] (fun _ => false) (fun s' =>
        ∃ y, s'.session? x.id = some y ∧ y.scan.state = 2 ∧ y.scan.region = byteAt b 0 ∧ y.scan.algorithm = byteAt b 1 ∧
          y.scan.offset = fieldAt b 4 4 ∧ y.scan.length = fieldAt b 8 4)) ∧
    (∀ z, s.scanning = some z → z.id ≠ x.id →
      s.writeDoes t f x (.start t f) 0x1810 1 (.oct b) [.values] (fun _ => false) (fun s' =>
        ∃ y, s'.session? x.id = some y ∧ y.scan.state = 1))) ∧
  (∀ (s : State) (t : Nat) (f : Frame) (x : Session), (x.scan.state = 1 ∨ x.scan.state = 2) →
    s.writeDoes t f x (.abort t f) 0x1810 2 (.num 1) [.values] (fun i => i == 0x1800) (fun s' =>
      (∃ y, s'.session? x.id = some y ∧ y.scan.state = 5 ∧ y.scan.error = 2) ∧ s'.nat 0x1800 3 = (s.nat 0x1800 3 + 1) % 2 ^ 32)) ∧
  (∀ (s : State) (t : Nat) (f : Frame) (x : Session),
    s.writeDoes t f x (.startSweep t f) 0x1700 3 (.num 1) [.power] (fun _ => false) (fun s' =>
      s'.sweep.running = true ∧ s'.sweep.startTick = peak s.now t ∧ s'.sweep.memDone = 0 ∧ s'.sweep.failures = 0 ∧ s'.power = s.power)) ∧
  (∀ (s : State) (t : Nat) (f : Frame) (x : Session), s.inSafe = true →
    s.writeDoes t f x (.clear t f) 0x1110 5 (.num 1) [.power, .pins] (fun i => i == 0x1110) (fun s' =>
      s'.inSafe = false ∧ s'.safe.leaving = true)) ∧
  (∀ (s : State) (t : Nat) (f : Frame) (x : Session), s.box.frozen = 0 →
    s.writeDoes t f x (.freeze t f) 0x1710 4 (.num 1) [] (fun _ => false) (fun s' => s'.box.frozen = 2 ∧ s'.box.frozenAt = s.rtcSec)) ∧
  (∀ (s : State) (t : Nat) (f : Frame) (x : Session), s.box.frozen ≠ 0 →
    s.writeDoes t f x (.release t f) 0x1710 5 (.num 1) [] (fun _ => false) (fun s' => s'.box.frozen = 0 ∧ s'.box.notKept = 0)) ∧
  (∀ (s : State) (t : Nat) (f : Frame) (x : Session),
    s.writeDoes t f x (.snapshot t f) 0x1750 1 (.num 1) [] (fun i => i == 0x1750 || i == 0x1752) (fun s' =>
      s'.nat 0x1750 3 = s.rtcSec ∧ s'.nat 0x1750 4 = s.cycle ∧ (∀ n, n < 128 → s'.nat 0x1752 (n + 1) = tget s.counters n 0))) ∧
  (∀ (s : State) (t : Nat) (f : Frame) (x : Session), s.replyRoom x →
    (∀ h, h < 8 → (s.shade h).wasFull = s.isFull h ∧ ((s.shade h).dropped = 0 ∨ s.isFull h = true)) →
    s.writeDoes t f x (.countersClear t f) 0x1750 2 (.num 1) [] (fun _ => false) (fun s' => s'.counters = s.counters.map (fun _ => 0)))

/-! ### The Dome and sessions (chapter 11) -/

/-- A HELLO of phase 1 that every check lets pass makes a half-open session under a fresh identifier and draws HELLO_REPLY in clear; the owner's
phase 2 opens it, and the first session of an opened shade joins it (R365, R381–R383, R386, R443). -/
def Obligations.HandshakesOpenSessions : Prop :=
  (∀ (s : State) (t : Nat) (f : Frame), (s.takeFrame f).isSome = true → wellFramed f = true → f.op = 0x30 → bitOf f.flags 1 = false →
    bitOf f.flags 0 = false → f.payload.length = 72 → byteAt f.payload 0 = 1 → byteAt f.payload 1 ≤ 2 → Config.onCurve (slice f.payload 36 33) = true →
    s.modeAllowed f.shade (byteAt f.payload 1) = true → (byteAt f.payload 1 = 0 ∨ s.claimLocked = false) → s.sessionRoom f.shade = true →
    s.nat 0x1300 1 ≠ 1 → s.place f.link = true → s.waitingReplies.any (fun w => decide (w.link = f.link)) = false →
    ∃ s' y o, exec (.helloPhase1 t f) s = .next s' ∧ s'.sessions = s.sessions ++ [y] ∧ y.id ≠ 0 ∧ (∀ z ∈ s.sessions, z.id ≠ y.id) ∧ y.isOpen = false ∧
      y.shade = f.shade ∧ y.mode = byteAt f.payload 1 ∧ y.link = f.link ∧ y.peer = f.src ∧ y.startTick = peak s.now t ∧ y.hiSeq = 0 ∧
      s'.txq = s.txq ++ [o] ∧ o.op = 0x31 ∧ o.session = y.id ∧ o.dst = f.src ∧ o.key = [] ∧ o.seq = 0 ∧
      s'.outside [.sessions, .links, .values] = s.outside [.sessions, .links, .values] ∧ s.sameObjects s' (fun i => i == 0x1200 || i == 0x5000)) ∧
  (∀ (s : State) (t : Nat) (f : Frame) (x : Session), (s.takeFrame f).isSome = true → wellFramed f = true → f.op = 0x30 → bitOf f.flags 1 = true →
    bitOf f.flags 0 = false → f.authentic = true → s.session? f.session = some x → x.isOpen = false → x.link = f.link → x.shade = f.shade → x.mode = 0 →
    x.fresh f.seq = true → f.seq ≠ 0xFFFFFFFF → f.payload.length = 68 → byteAt f.payload 0 = 2 → s.modeAllowed x.shade 0 = true →
    Config.onCurve (s.bytes (0x1310 + x.shade) 3 33) = true →
    Config.verify (s.bytes (0x1310 + x.shade) 3 33) (ascii "HJ48 owner" ++ x.th1) (slice f.payload 4 64) = true →
    (s.sessions.filter (fun z => z.isOpen)).length < 16 → s.replyRoom x →
    ∃ s' y o, exec (.helloPhase2 t f) s = .next s' ∧ s'.session? x.id = some y ∧ y.isOpen = true ∧ y.startTick = peak s.now t ∧ y.openedSec = s.rtcSec ∧
      y.keys = x.keys ∧ y.txSeq = x.txSeq + 1 ∧ s'.txq = s.txq ++ [o] ∧ o.op = 0x31 ∧ o.seq = x.txSeq + 1 ∧ o.key = x.key "HJ48 hs m2o" ∧ o.dst = f.src ∧
      s'.shadeState x.shade = (if 0 < x.shade ∧ s.shadeState x.shade = 1 then 2 else s.shadeState x.shade) ∧
      (∃ m : State, s' = m.raise 0x0309 ([x.shade] ++ dU 4 x.id ++ [x.link]) [x.shade]) ∧
      s'.outside [.sessions, .links, .metering, .shades, .store] = s.outside [.sessions, .links, .metering, .shades, .store] ∧
      s.sameObjects s' (fun i => i == 0x1200 || i == 0x5000 || i == 0x1600 || i == 0x1310 + x.shade))

/-- A claim with the module's claim key and the owner's signature makes Slate claimed by the key it carries, and a reclaim replaces the key;
each clears the count of failures and opens its session. A claim whose proof fails is counted, from the fifth in a row with a lock, opens
nothing, and leaves Slate as it was. A claim is no command of a session in reclaim mode, nor a reclaim of one in claim mode (R371–R373). -/
def Obligations.ClaimsNeedTheClaimKey : Prop :=
  ∀ (s : State) (t : Nat) (f : Frame) (x : Session), (s.takeFrame f).isSome = true → wellFramed f = true → f.op = 0x30 → bitOf f.flags 1 = true →
    bitOf f.flags 0 = false → f.authentic = true → s.session? f.session = some x → x.isOpen = false → x.link = f.link → x.shade = f.shade →
    (x.mode = 1 ∨ x.mode = 2) → x.fresh f.seq = true → f.seq ≠ 0xFFFFFFFF → f.payload.length = 136 → byteAt f.payload 0 = 2 →
    s.modeAllowed x.shade x.mode = true → s.claimLocked = false →
    let c := if x.mode = 1 then Instr.claim t f else Instr.reclaim t f
    let other := if x.mode = 1 then Instr.reclaim t f else Instr.claim t f
    exec other s = .next (s.at t) ∧
    (slice f.payload 104 32 = Config.hmacSha256 Config.claimKey (ascii "HJ48 claim" ++ x.th1) → Config.onCurve (slice f.payload 68 33) = true →
      Config.verify (slice f.payload 68 33) (ascii "HJ48 owner" ++ x.th1) (slice f.payload 4 64) = true →
      (s.sessions.filter (fun z => z.isOpen)).length < 16 →
      ∃ s' y, exec c s = .next s' ∧ exec (.helloPhase2 t f) s = .next s' ∧ s'.session? x.id = some y ∧ y.isOpen = true ∧
        s'.val (key 0x1310 3) = .oct (slice f.payload 68 33) ∧ s'.nat 0x1300 6 = 0 ∧ s'.nat 0x1300 7 = 0 ∧ s'.shadeState 0 = 2 ∧
        s'.outside [.sessions, .links, .metering, .shades, .store, .values] = s.outside [.sessions, .links, .metering, .shades, .store, .values] ∧
        s.sameObjects s' (fun i => i == 0x1200 || i == 0x5000 || i == 0x1600 || i == 0x1300 || i == 0x1310)) ∧
    (slice f.payload 104 32 ≠ Config.hmacSha256 Config.claimKey (ascii "HJ48 claim" ++ x.th1) →
      ∃ s', exec c s = .next s' ∧ exec (.helloPhase2 t f) s = .next s' ∧ s'.session? x.id = none ∧
        s'.nat 0x1300 6 = satTo 255 (s.nat 0x1300 6 + 1) ∧ s'.val (key 0x1310 3) = s.val (key 0x1310 3) ∧ s'.shadeState 0 = s.shadeState 0 ∧
        s'.nat 0x1300 7 = (if satTo 255 (s.nat 0x1300 6 + 1) < 5 then s.nat 0x1300 7
          else (s.rtcSec + satTo 86400 (600 * 2 ^ (satTo 255 (s.nat 0x1300 6 + 1) - 5))) % 2 ^ 32) ∧
        s'.nat 0x1300 9 = (s.nat 0x1300 9 + 1) % 2 ^ 32 ∧
        s'.outside [.sessions, .links, .shades] = s.outside [.sessions, .links, .shades] ∧
        s.sameObjects s' (fun i => i == 0x1200 || i == 0x5000 || i == 0x1600 || i == 0x1300 || i == 0x1800))

/-- A half-open session is discarded 5 s after its reply; an open session ends with reason 2 when idle, 3 at the end of its lifetime, 1 on its
owner's CLOSE and 5 after a rotation, with event 0x030A (R380, R383, R386, R388).
The limits of sessions wait in deep standby (R615, log entry 76). -/
def Obligations.SessionsEnd : Prop :=
  (∀ (s : State) (t sid : Nat) (x : Session), s.session? sid = some x → x.isOpen = false → x.startTick + sec 5 ≤ peak s.now t → s.power.mode ≠ 2 →
    ∃ s', exec (.halfOpenTimeout t sid) s = .next s' ∧ s'.session? sid = none ∧ (∀ z, z ≠ sid → (s.session? z = none → s'.session? z = none)) ∧
      s'.outside [.sessions, .links, .shades] = s.outside [.sessions, .links, .shades] ∧ s.sameObjects s' (fun i => i == 0x1800 || i == 0x5000)) ∧
  (∀ (s : State) (t sid : Nat),
    ((s.power.mode = 2 ∨ ∀ x, s.session? sid = some x → x.isOpen = true ∨ peak s.now t < x.startTick + sec 5) →
      exec (.halfOpenTimeout t sid) s = .next (s.at t)) ∧
    ((s.power.mode = 2 ∨ ∀ x, s.session? sid = some x → x.isOpen = false ∨ peak s.now t < x.lastTick + sec (s.nat 0x1300 5)) →
      exec (.sessionIdle t sid) s = .next (s.at t)) ∧
    ((s.power.mode = 2 ∨ ∀ x, s.session? sid = some x → x.isOpen = false ∨ peak s.now t < x.startTick + sec 86400) →
      exec (.sessionLifetime t sid) s = .next (s.at t))) ∧
  (∀ (s : State) (t sid : Nat) (x : Session), s.session? sid = some x → x.isOpen = true → s.power.mode ≠ 2 →
    (x.lastTick + sec (s.nat 0x1300 5) ≤ peak s.now t →
      ∃ s', exec (.sessionIdle t sid) s = .next s' ∧ s'.session? sid = none ∧ (∃ m : State, s' = m.raise 0x030A ([x.shade] ++ dU 4 sid ++ [2]) [x.shade]) ∧
        (s.replyRoom x → ∃ o ∈ s'.txq, o.op = 0x3F ∧ o.session = x.id ∧ o.payload = [2#8]) ∧
        s'.outside [.sessions, .links, .shades] = s.outside [.sessions, .links, .shades] ∧ s.sameObjects s' (fun i => i == 0x1800 || i == 0x5000)) ∧
    (x.startTick + sec 86400 ≤ peak s.now t →
      ∃ s', exec (.sessionLifetime t sid) s = .next s' ∧ s'.session? sid = none ∧ (∃ m : State, s' = m.raise 0x030A ([x.shade] ++ dU 4 sid ++ [3]) [x.shade]) ∧
        s'.outside [.sessions, .links, .shades] = s.outside [.sessions, .links, .shades] ∧ s.sameObjects s' (fun i => i == 0x1800 || i == 0x5000))) ∧
  (∀ (s : State) (t : Nat) (f : Frame) (x : Session), (s.at t).mayAsk f x → f.op = 0x3F →
    ∃ s', exec (.close t f) s = .next s' ∧ s'.session? x.id = none ∧ (∃ m : State, s' = m.raise 0x030A ([x.shade] ++ dU 4 x.id ++ [1]) [x.shade]) ∧
      s'.outside [.sessions, .links, .shades] = s.outside [.sessions, .links, .shades] ∧
      s.sameObjects s' (fun i => i == 0x1200 || i == 0x1800 || i == 0x5000)) ∧
  (∀ (s : State) (t h d r : Nat) (x : Session), s.session? x.id = some x → x.shade = h → x.isOpen = true → x.endDue = some (d, r) → d ≤ peak s.now t → s.power.mode ≠ 2 →
    ∃ s', exec (.rotationSessionsEnd t h) s = .next s' ∧ s'.session? x.id = none ∧
      (s.openOf h = [x] → ∃ m : State, s' = m.raise 0x030A ([h] ++ dU 4 x.id ++ [r]) [h]) ∧
      s'.outside [.sessions, .links, .shades] = s.outside [.sessions, .links, .shades] ∧ s.sameObjects s' (fun i => i == 0x1800 || i == 0x5000)) ∧
  (∀ (s : State) (t h : Nat), (s.power.mode = 2 ∨ ∀ x ∈ s.openOf h, ∀ e, x.endDue = some e → peak s.now t < e.1) →
    exec (.rotationSessionsEnd t h) s = .next (s.at t))

/-- A closing shade is erased when its time has come; the lock of claims ends; a failed test of the random source sets Dome state 1, and a
retest that passes ends it, and forms the groups of records that waited for it (R372, R376, R395).
Erases and retests wait in deep standby (R615, log entry 76). -/
def Obligations.DomeTimesAndRandomSource : Prop :=
  (∀ (s : State) (t h : Nat), 0 < h → h < 8 → s.shades.length = 8 → s.shadeState h = 3 → s.nat (0x1310 + h) 15 ≠ 0 → s.nat (0x1310 + h) 15 ≤ s.rtcSec → s.power.mode ≠ 2 →
    ∃ s', exec (.eraseDue t h) s = .next s' ∧ s'.shadeState h = 0 ∧ (∀ y ∈ s'.sessions, y.shade ≠ h) ∧ (∀ y ∈ s'.txns, y.shade ≠ h) ∧
      (s'.shade h).items = [] ∧ (s'.shade h).storageKey = [] ∧ h ∈ s'.quietDue ∧ (∀ r, r < 8 → r ≠ h → s'.shadeState r = s.shadeState r) ∧
      s'.outside [.radio, .hf, .tags, .metering, .timers, .store, .pins, .links, .sessions, .shades, .values] =
        s.outside [.radio, .hf, .tags, .metering, .timers, .store, .pins, .links, .sessions, .shades, .values]) ∧
  (∀ (s : State) (t h : Nat), (h = 0 ∨ 8 ≤ h ∨ s.shadeState h ≠ 3 ∨ s.nat (0x1310 + h) 15 = 0 ∨ s.rtcSec < s.nat (0x1310 + h) 15 ∨ s.power.mode = 2) →
    exec (.eraseDue t h) s = .next (s.at t)) ∧
  (∀ (s : State) (t : Nat), (s.nat 0x1300 7 = 0 ∨ s.rtcSec < s.nat 0x1300 7) → exec (.claimLockExpired t) s = .next (s.at t)) ∧
  (∀ (s : State) (t : Nat) (ok : Bool), (s.nat 0x1300 1 ≠ 1 ∨ peak s.now t < s.trngTick + sec 1 ∨ s.power.mode = 2) →
    exec (.trngRetest t ok) s = .next (s.at t)) ∧
  (∀ (s : State) (t : Nat), s.nat 0x1300 7 ≠ 0 → s.nat 0x1300 7 ≤ s.rtcSec →
    ∃ s', exec (.claimLockExpired t) s = .next s' ∧ s'.nat 0x1300 7 = 0 ∧ s'.nat 0x1300 6 = s.nat 0x1300 6 ∧ s'.outside [] = s.outside [] ∧
      s.sameObjects s' (fun i => i == 0x1300)) ∧
  (∀ (s : State) (t kind : Nat),
    ∃ s', exec (.trngHealthFailure t kind) s = .next s' ∧ s'.nat 0x1300 1 = (if s.nat 0x1300 1 = 0 then 1 else s.nat 0x1300 1) ∧
      s'.nat 0x1300 10 = (s.nat 0x1300 10 + 1) % 2 ^ 32 ∧ s'.trngTick = peak s.now t ∧ (∃ m : State, s' = m.raise 0x030D [kind, 0] [0]) ∧
      s'.outside [.shades] = s.outside [.shades] ∧ s.sameObjects s' (fun i => i == 0x1300)) ∧
  (∀ (s : State) (t : Nat), s.nat 0x1300 1 = 1 → s.trngTick + sec 1 ≤ peak s.now t → s.power.mode ≠ 2 →
    (∃ s', exec (.trngRetest t true) s = .next s' ∧ s'.nat 0x1300 1 = 0 ∧ (∃ m : State, s' = (m.raise 0x030D [s.trngKind, 1] [0]).formWaiting) ∧
      s'.unregistered = [] ∧ s'.outside [.metering, .values] = s.outside [.metering, .values] ∧ s.sameObjects s' (fun i => i == 0x1300)) ∧
    (∃ s', exec (.trngRetest t false) s = .next s' ∧ s'.nat 0x1300 1 = 1 ∧ s'.trngTick = peak s.now t ∧
      s'.outside [.shades] = s.outside [.shades] ∧ s.sameObjects s' (fun _ => false)))

/-! ### Host links (chapter 13) -/

/-- While the link is up, a request for an address held is answered (ARP, neighbour solicitation, echo while it is enabled and at most
100 in a second), one for another address is not, and each frame is counted; a frame that the module discards is counted by what is wrong
with it. While the link is down no frame arrives (R452–R454). -/
def Obligations.EthernetAnswersForItsAddresses : Prop :=
  (∀ (s : State) (t : Nat) (a : List Byte), s.linkUp 1 = true →
    (∃ s', exec (.arpRequest t a) s = .next s' ∧ s'.eth.sent = (if a = s.ip4 ∧ a ≠ zeros 4 then [(1, a)] else []) ∧
      s'.nat 0x1200 7 = (s.nat 0x1200 7 + 1) % 2 ^ 32 ∧
      s'.nat 0x1200 8 = (if a = s.ip4 ∧ a ≠ zeros 4 then (s.nat 0x1200 8 + 1) % 2 ^ 32 else s.nat 0x1200 8) ∧
      s'.outside [.links] = s.outside [.links] ∧ s.sameObjects s' (fun i => i == 0x1200)) ∧
    (∃ s', exec (.neighbourSolicitation t a) s = .next s' ∧
      s'.eth.sent = (if a = linkLocal ∨ (a = s.ip6 ∧ a ≠ zeros 16) then [(6, a)] else []) ∧ s'.nat 0x1200 7 = (s.nat 0x1200 7 + 1) % 2 ^ 32 ∧
      s'.outside [.links] = s.outside [.links] ∧ s.sameObjects s' (fun i => i == 0x1200)) ∧
    (s.flag 0x1200 6 = true → s.holds a = true → (s.eth.echoes.filter (fun e => decide (peak s.now t < e + sec 1))).length < 100 →
      ∃ s', exec (.echoRequest t a) s = .next s' ∧ s'.eth.sent = [(10, a)] ∧ s'.nat 0x1200 8 = (s.nat 0x1200 8 + 1) % 2 ^ 32 ∧
        s'.outside [.links] = s.outside [.links] ∧ s.sameObjects s' (fun i => i == 0x1200)) ∧
    ((s.flag 0x1200 6 = false ∨ s.holds a = false ∨ 100 ≤ (s.eth.echoes.filter (fun e => decide (peak s.now t < e + sec 1))).length) →
      ∃ s', exec (.echoRequest t a) s = .next s' ∧ s'.eth.sent = [] ∧ s'.nat 0x1200 8 = s.nat 0x1200 8 ∧
        s'.outside [.links] = s.outside [.links] ∧ s.sameObjects s' (fun i => i == 0x1200))) ∧
  (∀ (s : State) (t why : Nat), s.linkUp 1 = true →
    ∃ s', exec (.ethernetFrameDiscarded t why) s = .next s' ∧ s'.nat 0x1200 9 = (s.nat 0x1200 9 + 1) % 2 ^ 32 ∧
      s'.nat 0x1200 10 = (if why = 2 then (s.nat 0x1200 10 + 1) % 2 ^ 32 else s.nat 0x1200 10) ∧ s'.eth.sent = [] ∧
      s'.outside [.links] = s.outside [.links] ∧ s.sameObjects s' (fun i => i == 0x1200)) ∧
  (∀ (s : State) (t why : Nat) (a : List Byte) (c : Instr), s.linkUp 1 = false →
    c ∈ [Instr.arpRequest t a, .neighbourSolicitation t a, .echoRequest t a, .ethernetFrameDiscarded t why] → exec c s = .next (s.at t).ethQuiet)

/-- An offer is requested and an acknowledged address probed, or its lease extended; an address that its probe finds free is in use with event
0x0203, one that is a duplicate is withdrawn with event 0x0204 and tried again after 10 s; a lease that runs out or is refused takes its
address; a router's prefix forms an address (R453, R455). -/
def Obligations.AddressesComeAndGo : Prop :=
  (∀ (s : State) (t lease : Nat) (a server mask router : List Byte), s.linkUp 1 = true → s.nat 0x1203 1 = 1 →
    (s.eth.dhcpState = 1 →
      ∃ s', exec (.dhcpv4Message t 2 a server mask router lease) s = .next s' ∧ s'.eth.dhcpState = 2 ∧ s'.eth.dhcpServer = server ∧
        s'.eth.sent = [(5, a)] ∧ s'.outside [.links] = s.outside [.links] ∧ s.sameObjects s' (fun i => i == 0x1200)) ∧
    ((s.eth.dhcpState = 2 ∨ s.eth.dhcpState = 3) → s.eth.dhcpServer = server →
      ∃ s', exec (.dhcpv4Message t 5 s.ip4 server mask router lease) s = .next s' ∧ s'.eth.leaseEnd = some (peak s.now t + sec lease) ∧
        s'.ip4 = s.ip4 ∧ s'.eth.sent = [] ∧ s'.outside [.links] = s.outside [.links] ∧ s.sameObjects s' (fun i => i == 0x1200)) ∧
    ((s.eth.dhcpState = 2 ∨ s.eth.dhcpState = 3) → s.eth.dhcpServer = server →
      ∃ s', exec (.dhcpv4Message t 6 a server mask router lease) s = .next s' ∧ s'.ip4 = zeros 4 ∧ s'.eth.leaseEnd = none ∧
        s'.eth.dhcpState = 1 ∧ s'.eth.sent = [(4, [])] ∧ s'.outside [.links] = s.outside [.links] ∧
        s.sameObjects s' (fun i => i == 0x1200 || i == 0x1203)) ∧
    ((s.eth.dhcpState = 2 ∨ s.eth.dhcpState = 3) → s.eth.dhcpServer = server → a ≠ s.ip4 →
      ∃ s', exec (.dhcpv4Message t 5 a server mask router lease) s = .next s' ∧ s'.eth.tentative4 = fit 4 a ∧ s'.eth.tentative4Source = 2 ∧
        s'.eth.leaseEnd = some (peak s.now t + sec lease) ∧ s'.ip4 = zeros 4 ∧ s'.outside [.links] = s.outside [.links] ∧
        s.sameObjects s' (fun i => i == 0x1200 || i == 0x1203))) ∧
  (∀ (s : State) (t life valid : Nat) (r p : List Byte), s.linkUp 1 = true → s.nat 0x1203 7 = 1 → life ≠ 0 → r.length = 16 → p ≠ [] → valid ≠ 0 →
    s.ip6 = zeros 16 → s.eth.tentative6 = [] → s.eth.retry6 = none →
    ∃ s', exec (.routerAdvertisement t r life p valid) s = .next s' ∧ s'.bytes 0x1203 12 16 = r ∧ s'.eth.tentative6 = fit 8 p ++ interfaceId ∧
      s'.eth.tentative6Source = 3 ∧ s'.outside [.links] = s.outside [.links] ∧ s.sameObjects s' (fun i => i == 0x1200 || i == 0x1203)) ∧
  (∀ (s : State) (t : Nat), s.linkUp 1 = true →
    (s.eth.tentative4 ≠ [] →
      ∃ s', exec (.addressAcquired t 4) s = .next s' ∧ s'.ip4 = fit 4 s.eth.tentative4 ∧ s'.eth.tentative4 = [] ∧
        s'.eth.source4 = s.eth.tentative4Source ∧ s'.eth.sent = [(3, s.eth.tentative4)] ∧
        (∃ m : State, s' = m.raise 0x0203 ([4, s.eth.tentative4Source] ++ s.eth.tentative4.map (·.toNat)) m.allJoined) ∧ s'.outside [.links] = s.outside [.links] ∧
        s.sameObjects s' (fun i => i == 0x1200 || i == 0x1203)) ∧
    (s.eth.tentative6 ≠ [] →
      ∃ s', exec (.addressAcquired t 6) s = .next s' ∧ s'.ip6 = fit 16 s.eth.tentative6 ∧ s'.eth.tentative6 = [] ∧
        s'.outside [.links] = s.outside [.links] ∧ s.sameObjects s' (fun i => i == 0x1200 || i == 0x1203)) ∧
    (∀ d, s.eth.retry6 = some d → d ≤ peak s.now t → s.ip6 = zeros 16 → s.nat 0x1203 7 = 1 →
      ∃ s', exec (.addressRetry t 6) s = .next s' ∧ s'.eth.retry6 = none ∧ s'.eth.sent = [(8, [])] ∧
        s'.outside [.links] = s.outside [.links] ∧ s.sameObjects s' (fun i => i == 0x1200)) ∧
    (∀ d, s.eth.retry4 = some d → d ≤ peak s.now t → s.ip4 = zeros 4 → s.nat 0x1203 1 = 1 →
      ∃ s', exec (.addressRetry t 4) s = .next s' ∧ s'.eth.retry4 = none ∧ s'.eth.dhcpState = 1 ∧ s'.eth.sent = [(4, [])] ∧
        s'.outside [.links] = s.outside [.links] ∧ s.sameObjects s' (fun i => i == 0x1200))) ∧
  (∀ (s : State) (t : Nat), (s.eth.tentative4 ≠ [] ∨ s.ip4 ≠ zeros 4) →
    ∃ s', exec (.addressDuplicate t 4) s = .next s' ∧ s'.ip4 = zeros 4 ∧ s'.eth.tentative4 = [] ∧ s'.eth.retry4 = some (peak s.now t + sec 10) ∧
      (∃ m : State, s' = m.raise 0x0204 [4, 2] m.allJoined) ∧ s'.outside [.links] = s.outside [.links] ∧ s.sameObjects s' (fun i => i == 0x1203)) ∧
  (∀ (s : State) (t : Nat), (s.eth.tentative6 ≠ [] ∨ s.ip6 ≠ zeros 16) →
    ∃ s', exec (.addressDuplicate t 6) s = .next s' ∧ s'.ip6 = zeros 16 ∧ s'.eth.tentative6 = [] ∧ s'.eth.retry6 = some (peak s.now t + sec 10) ∧
      (∃ m : State, s' = m.raise 0x0204 [6, 2] m.allJoined) ∧ s'.outside [.links] = s.outside [.links] ∧ s.sameObjects s' (fun i => i == 0x1203)) ∧
  (∀ (s : State) (t lease life valid kind : Nat) (a b c d : List Byte) (i : Instr), s.linkUp 1 = false →
    i ∈ [Instr.dhcpv4Message t kind a b c d lease, .routerAdvertisement t a life b valid, .addressAcquired t kind, .addressRetry t kind] →
    exec i s = .next (s.at t).ethQuiet) ∧
  (∀ (s : State) (t d : Nat), s.eth.leaseEnd = some d → d ≤ peak s.now t → s.eth.source4 = 2 → s.ip4 ≠ zeros 4 →
    ∃ s', exec (.dhcpLeaseExpired t) s = .next s' ∧ s'.ip4 = zeros 4 ∧ s'.eth.leaseEnd = none ∧ s'.outside [.links] = s.outside [.links] ∧
      s.sameObjects s' (fun i => i == 0x1200 || i == 0x1203))

/-- The first MDIO poll starts the external PHY, a later one that reads its link bit with a common speed brings the link up, and one that does
not takes it down; a follower's PLCA status follows the BEACON (R448, R450). A frame of the transmit queue leaves on its link, oldest
first (R445, R483). -/
def Obligations.PhysAreFollowedAndFramesLeave : Prop :=
  (∀ (s : State) (t id r1 r5 r10 : Nat), s.ethRuns = true → s.ethInterface = 2 → s.eth.nextPoll ≤ peak s.now t →
    (s.eth.mdioStarted = false →
      ∃ s', exec (.mdioPoll t id r1 r5 r10) s = .next s' ∧ s'.eth.mdioStarted = true ∧ s'.nat 0x1202 6 = id % 2 ^ 32 ∧
        s'.eth.nextPoll = peak s.now t + ms (s.nat 0x1202 7) ∧ s'.outside [.links] = s.outside [.links] ∧ s.sameObjects s' (fun i => i == 0x1202)) ∧
    (s.eth.mdioStarted = true → r1.testBit 2 = true → s.linkUp 1 = false → s.eth.unsupported = false → s.resolveSpeed r5 r10 ≠ 0 →
      ∃ s', exec (.mdioPoll t id r1 r5 r10) s = .next s' ∧ s'.linkUp 1 = true ∧ s'.nat 0x1200 4 = s.resolveSpeed r5 r10 ∧
        s'.outside [.links] = s.outside [.links] ∧ s.sameObjects s' (fun i => i == 0x1200)) ∧
    (s.eth.mdioStarted = true → r1.testBit 2 = false → s.linkUp 1 = true →
      ∃ s', exec (.mdioPoll t id r1 r5 r10) s = .next s' ∧ s'.linkUp 1 = false ∧ s'.nat 0x1200 11 = (s.nat 0x1200 11 + 1) % 2 ^ 32 ∧
        (∀ o ∈ s'.txq, o.link = 1 → o.op = 0x3F) ∧ s'.outside [.links] = s.outside [.links] ∧
        s.sameObjects s' (fun i => i == 0x1200 || i == 0x5000))) ∧
  (∀ (s : State) (t id r1 r5 r10 : Nat), (s.ethRuns = false ∨ s.ethInterface ≠ 2 ∨ peak s.now t < s.eth.nextPoll) →
    exec (.mdioPoll t id r1 r5 r10) s = .next (s.at t).ethQuiet) ∧
  (∀ (s : State) (t : Nat),
    (s.nat 0x1201 8 ≠ 2 → exec (.plcaStatusChanged t) s = .next (s.at t).ethQuiet) ∧
    (s.nat 0x1201 8 ≠ 1 → exec (.plcaBeaconReceived t) s = .next (s.at t).ethQuiet)) ∧
  (∀ (s : State) (t link n : Nat), (s.linkUp link = false ∨ s.power.reachable = false ∨ (∀ o ∈ s.txq, o.link ≠ link) ∨ (link = 2 ∧ s.spire.toSend ≠ [])) →
    exec (.frameTransmitted t link n) s = .next (s.at t).ethQuiet) ∧
  (∀ (s : State) (t : Nat), s.nat 0x1201 8 = 2 →
    ∃ s', exec (.plcaStatusChanged t) s = .next s' ∧ s'.nat 0x1201 8 = 1 ∧ s'.nat 0x1201 10 = (s.nat 0x1201 10 + 1) % 2 ^ 32 ∧
      (∃ m : State, s' = m.raise 0x0207 [1, s.nat 0x1201 2] m.allJoined) ∧ s'.outside [.links] = s.outside [.links] ∧
      s.sameObjects s' (fun i => i == 0x1201)) ∧
  (∀ (s : State) (t : Nat), s.nat 0x1201 8 = 1 →
    ∃ s', exec (.plcaBeaconReceived t) s = .next s' ∧ s'.nat 0x1201 8 = 2 ∧ s'.nat 0x1201 10 = s.nat 0x1201 10 ∧
      s'.outside [.links] = s.outside [.links] ∧ s.sameObjects s' (fun i => i == 0x1201)) ∧
  (∀ (s : State) (t collisions : Nat) (o : OutFrame) (r : List OutFrame), s.linkUp 1 = true → s.power.reachable = true → s.txq = o :: r → o.link = 1 →
    s.waitingReplies = [] →
    ∃ s', exec (.frameTransmitted t 1 collisions) s = .next s' ∧ s'.txq = r ∧ s'.nat 0x1200 8 = (s.nat 0x1200 8 + 1) % 2 ^ 32 ∧
      s'.nat 0x1201 9 = (s.nat 0x1201 9 + collisions) % 2 ^ 32 ∧ s'.outside [.links] = s.outside [.links] ∧
      s.sameObjects s' (fun i => i == 0x1200 || i == 0x1201)) ∧
  (∀ (s : State) (t : Nat) (o : OutFrame) (r : List OutFrame), s.linkUp 2 = true → s.power.reachable = true → s.txq = o :: r → o.link = 2 →
    s.waitingReplies = [] → s.spire.toSend = [] →
    ∃ s', exec (.frameTransmitted t 2 0) s = .next s' ∧ s'.txq = r ∧ s'.spire.toSend = fragments o.bytes ∧
      s'.outside [.links] = s.outside [.links] ∧ s.sameObjects s' (fun _ => false))

/-- A transfer whose clock edges fill the register with a valid frame brings the link up and takes its fragment when it is the next and Ready was
promised; one that is no whole frame, or not valid, is counted as an error, and one of the busy pattern alone as such (R460, R461, R465, R466,
R467). An empty register
is loaded with the next outbound frame, in restart one with Echo 0b11 (R461, R469). After the link timeout the link is down (R471). -/
def Obligations.SpireTransfersAndTimeouts : Prop :=
  (∀ (s : State) (t : Nat) (b : List Byte) (x : SpireIn), s.power.mode ≠ 2 → s.spireRuns = true → s.spire.loaded = true → spireRead b = some x →
    x.echo ≠ 3 → x.frag ≠ [] → x.seq = (s.spire.lastIn + 1) % 3 → s.spire.promised = true →
    ∃ s', exec (.spireTransferEnd t 544 b) s = .next s' ∧ s'.linkUp 2 = true ∧ s'.nat 0x1210 4 = (s.nat 0x1210 4 + 1) % 2 ^ 32 ∧
      s'.nat 0x1210 5 = (s.nat 0x1210 5 + 1) % 2 ^ 32 ∧ s'.spire.lastIn = x.seq ∧ s'.spire.lastValid = peak s.now t ∧
      s'.spire.peerReady = x.ready ∧ s'.spire.outReg = busyPattern ∧ s'.spire.loaded = false ∧
      (x.first = true → x.last = true → s'.spire.inbox = s.spire.inbox ++ [x.frag]) ∧
      (x.first = true → x.last = false → s'.spire.partialIn = x.frag ∧ s'.spire.assembling = true ∧ s'.spire.inbox = s.spire.inbox) ∧
      (x.first = false → x.last = true → s.spire.assembling = true →
        s'.spire.inbox = s.spire.inbox ++ [s.spire.partialIn ++ x.frag] ∧ s'.spire.assembling = false) ∧
      (x.first = false → x.last = false → s.spire.assembling = true →
        s'.spire.partialIn = s.spire.partialIn ++ x.frag ∧ s'.spire.assembling = true ∧ s'.spire.inbox = s.spire.inbox) ∧
      s'.outside [.links] = s.outside [.links] ∧ s.sameObjects s' (fun i => i == 0x1200 || i == 0x1210)) ∧
  (∀ (s : State) (t edges : Nat) (b : List Byte), s.power.mode ≠ 2 → s.spireRuns = true → s.spire.loaded = true →
    ((edges = 0 ∨ edges % 544 ≠ 0) →
      ∃ s', exec (.spireTransferEnd t edges b) s = .next s' ∧ s'.nat 0x1210 7 = (s.nat 0x1210 7 + 1) % 2 ^ 32 ∧ s'.linkUp 2 = s.linkUp 2 ∧
        s'.spire.inbox = s.spire.inbox ∧ s'.spire.outReg = busyPattern ∧ s'.outside [.links] = s.outside [.links] ∧
        s.sameObjects s' (fun i => i == 0x1210)) ∧
    (edges ≠ 0 → edges % 544 = 0 → spireRead b = none →
      ∃ s', exec (.spireTransferEnd t edges b) s = .next s' ∧ s'.nat 0x1210 6 = (s.nat 0x1210 6 + 1) % 2 ^ 32 ∧ s'.linkUp 2 = s.linkUp 2 ∧
        s'.spire.inbox = s.spire.inbox ∧ s'.spire.outReg = busyPattern ∧ s'.outside [.links] = s.outside [.links] ∧
        s.sameObjects s' (fun i => i == 0x1210))) ∧
  (∀ (s : State) (t edges : Nat) (b : List Byte), s.power.mode ≠ 2 → (s.spireRuns = false ∨ s.spire.loaded = false) →
    ∃ s', exec (.spireTransferEnd t edges b) s = .next s' ∧ s'.nat 0x1210 8 = (s.nat 0x1210 8 + 1) % 2 ^ 32 ∧ s'.linkUp 2 = s.linkUp 2 ∧
      s'.spire.inbox = s.spire.inbox ∧ s'.spire.outReg = busyPattern ∧ s'.spire.loaded = false ∧ s'.outside [.links] = s.outside [.links] ∧
      s.sameObjects s' (fun i => i == 0x1210)) ∧
  (∀ (s : State) (t edges : Nat) (b : List Byte), s.power.mode = 2 → exec (.spireTransferEnd t edges b) s = .next (s.at t)) ∧
  (∀ (s : State) (t : Nat),
    ((s.spireRuns = false ∨ s.spire.loaded = true) → exec (.outboundFrameLoaded t) s = .next (s.at t)) ∧
    ((s.linkUp 2 = false ∨ peak s.now t < s.spire.lastValid + ms (s.nat 0x1210 2)) → exec (.spireLinkTimeout t) s = .next (s.at t))) ∧
  (∀ (s : State) (t : Nat), s.spireRuns = true → s.spire.loaded = false →
    ∃ s', exec (.outboundFrameLoaded t) s = .next s' ∧ s'.spire.loaded = true ∧ s'.spire.outReg.length = 68 ∧ byteAt s'.spire.outReg 0 = 0x5A ∧
      (s.spire.restart = true → byteAt s'.spire.outReg 1 / 64 = 3 ∧ byteAt s'.spire.outReg 2 = 0) ∧
      s'.spire.inbox = s.spire.inbox ∧ s'.outside [.links] = s.outside [.links] ∧ s.sameObjects s' (fun i => i == 0x1210)) ∧
  (∀ (s : State) (t : Nat), s.linkUp 2 = true → s.spire.lastValid + ms (s.nat 0x1210 2) ≤ peak s.now t →
    ∃ s', exec (.spireLinkTimeout t) s = .next s' ∧ s'.linkUp 2 = false ∧ s'.spire.restart = true ∧ s'.spire.unconfirmed = [] ∧
      (∀ o ∈ s'.txq, o.link = 2 → o.op = 0x3F) ∧ s'.outside [.links] = s.outside [.links] ∧
      s.sameObjects s' (fun i => i == 0x1210 || i == 0x5000))

/-! ### Timers (chapter 15) -/

/-- An armed channel whose compare the count has reached fires: it is disarmed, or waits for its master again; its fires are counted; its
action applies to the output, save channel 0's where channel 1 fires at the same edge; every other channel that waits for it is armed at
its offset after the next edge, and no other channel changes; where its configuration asks, event 0x1202 is raised, limited to 10 a second
(R494–R496, R499, R500, R509). An input edge that a capture channel passes latches the count and the input's level (R498). A new
prescaler takes effect without a step of the count, and the first tick of the new rate comes 2^p bus ticks after the next edge (R490).
A timer whose grant has gone returns to its defaults with its output low, its count running on, and event 0x1201, cause 1 (R493). The
events of a channel that its limit held back are summed in event 0x1204 once a minute (R509). -/
def Obligations.TimersFireCaptureAndFollowGrants : Prop :=
  (∀ (s : State) (t n c : Nat), n < 16 → c < 2 → s.timers.length = 16 → (s.timer n).due c (peak s.now t) = true →
    (modeOf (s.chanConfig n c) = 3 → masterOf (s.chanConfig n c) ≠ (n, c)) →
    ∃ s', exec (.compareFire t n c) s = .next s' ∧
      ((s'.timer n).ch c).state = (if modeOf (s.chanConfig n c) = 3 then 2 else 0) ∧ ((s'.timer n).ch c).action = none ∧
      ((s'.timer n).ch c).fires = (((s.timer n).ch c).fires + 1) % 2 ^ 30 ∧
      (s'.timer n).output = applyAction
        (if c = 0 ∧ ((s.timer n).due 1 (peak s.now t) = true ∨ (s.timer n).fired1 = some (peak s.now t)) then 0
          else ((s.timer n).ch c).action.getD (actionOf (s.chanConfig n c))) (s.timer n).output ∧
      (∀ m d, m < 16 → d < 2 → (m, d) ≠ (n, c) → s.takesMaster m d n c = true →
        ((s'.timer m).ch d).state = 1 ∧ ((s'.timer m).ch d).armTick = peak s.now t + 1 ∧
        ((s'.timer m).ch d).compare = ((s.timer m).count (peak s.now t + 1) + ((s.timer m).ch d).offset) % 2 ^ 32) ∧
      (∀ m d, d < 2 → (m, d) ≠ (n, c) → s.takesMaster m d n c = false → (s'.timer m).ch d = (s.timer m).ch d) ∧
      (bitOf (s.chanConfig n c) 5 = true → ∃ m : State, s' = m.raise 0x1202 ([n, c] ++ dU 4 ((s.timer n).ch c).compare) (s.timerReach n)
        (some { n := 10, period := sec 1, unit := 2 * n + c })) ∧
      s'.outside [.timers] = s.outside [.timers] ∧ s.sameObjects s' (fun i => i == 0x1900)) ∧
  (∀ (s : State) (t n c : Nat),
    ((s.timer n).due c (peak s.now t) = false → exec (.compareFire t n c) s = .next (s.at t)) ∧
    ((s.timer n).p = s.nat (0x1910 + n) 2 → exec (.prescaler t n) s = .next (s.at t)) ∧
    ((n < 4 ∨ s.granteeOf n = (s.timer n).holder) → exec (.timerReleased t n) s = .next (s.at t)) ∧
    ((((s.timer n).ch c).suppressed = 0 ∨ peak s.now t < ((s.timer n).ch c).summed + sec 60) →
      exec (.timerEventsSuppressed t n c) s = .next (s.at t))) ∧
  (∀ (s : State) (t n c : Nat) (rising : Bool),
    (modeOf (s.chanConfig n c) ≠ 2 ∨ s.mayCapture n (s.chanConfig n c) = false ∨ passesEdge (s.chanConfig n c) rising = false) →
    exec (.capture t n c rising) s = .next (s.at t)) ∧
  (∀ (s : State) (t n c : Nat) (rising : Bool), n < 16 → c < 2 → s.timers.length = 16 → modeOf (s.chanConfig n c) = 2 →
    s.mayCapture n (s.chanConfig n c) = true → passesEdge (s.chanConfig n c) rising = true →
    ∃ s', exec (.capture t n c rising) s = .next s' ∧ ((s'.timer n).ch c).capture = (s.timer n).count (peak s.now t) ∧
      ((s'.timer n).ch c).fires = (((s.timer n).ch c).fires + 1) % 2 ^ 30 ∧
      (∀ m d, m < 16 → d < 2 → s.takesMaster m d n c = true → ((s'.timer m).ch d).state = 1 ∧
        ((s'.timer m).ch d).compare = ((s.timer m).count (peak s.now t + 1) + ((s.timer m).ch d).offset) % 2 ^ 32) ∧
      (∀ m d, d < 2 → (m, d) ≠ (n, c) → s.takesMaster m d n c = false → (s'.timer m).ch d = (s.timer m).ch d) ∧
      (∀ m, (s'.timer m).output = (s.timer m).output) ∧
      (bitOf (s.chanConfig n c) 5 = true → ∃ m : State, s' = m.raise 0x1203 ([n, c] ++ dU 4 ((s.timer n).count (peak s.now t))) (s.timerReach n)
        (some { n := 10, period := sec 1, unit := 2 * n + c })) ∧
      s'.outside [.timers] = s.outside [.timers] ∧ s.sameObjects s' (fun i => i == 0x1900)) ∧
  (∀ (s : State) (t n : Nat), n < 16 → s.timers.length = 16 → (s.timer n).p ≠ s.nat (0x1910 + n) 2 →
    ∃ s', exec (.prescaler t n) s = .next s' ∧ (s'.timer n).p = s.nat (0x1910 + n) 2 ∧
      (s'.timer n).count (peak s.now t) = (s.timer n).count (peak s.now t) ∧
      ((s.timer n).slow = none →
        (s'.timer n).count (peak s.now t + 2 ^ s.nat (0x1910 + n) 2) = (s.timer n).count (peak s.now t) ∧
        (s'.timer n).count (peak s.now t + 1 + 2 ^ s.nat (0x1910 + n) 2) = ((s.timer n).count (peak s.now t) + 1) % 2 ^ 32) ∧
      (∀ m, m ≠ n → s'.timer m = s.timer m) ∧ s'.outside [.timers] = s.outside [.timers] ∧ s.sameObjects s' (fun _ => false)) ∧
  (∀ (s : State) (t n h : Nat), 4 ≤ n → n < 16 → s.timers.length = 16 → (s.timer n).holder = h → h < 8 → s.granteeOf n ≠ h →
    ∃ s', exec (.timerReleased t n) s = .next s' ∧ (s'.timer n).ch0 = chanAtReset ∧ (s'.timer n).ch1 = chanAtReset ∧
      (s'.timer n).output = false ∧ (s'.timer n).holder = s.granteeOf n ∧
      (∀ sub, sub ∈ [2, 5, 9] → s'.val (key (0x1910 + n) sub) = objDefault (key (0x1910 + n) sub)) ∧
      (s'.timer n).count (peak s.now t) = (s.timer n).count (peak s.now t) ∧ (∀ m, m ≠ n → s'.timer m = s.timer m) ∧
      (∃ m : State, s' = (m.raise 0x1201 [n, h, 1] (withSlate h)).modTimer n (fun x => { x with holder := s.granteeOf n })) ∧
      s'.outside [.timers, .store] = s.outside [.timers, .store] ∧ s.sameObjects s' (fun i => i == 0x1910 + n)) ∧
  (∀ (s : State) (t n : Nat), 4 ≤ n → n < 16 → s.timers.length = 16 → 8 ≤ (s.timer n).holder → s.granteeOf n ≠ (s.timer n).holder →
    ∃ s', exec (.timerReleased t n) s = .next s' ∧ s'.timer n = { s.timer n with holder := s.granteeOf n } ∧ (∀ m, m ≠ n → s'.timer m = s.timer m) ∧
      s'.outside [.timers] = s.outside [.timers] ∧ s.sameObjects s' (fun _ => false)) ∧
  (∀ (s : State) (t n c : Nat), n < 16 → c < 2 → s.timers.length = 16 → 0 < ((s.timer n).ch c).suppressed →
    ((s.timer n).ch c).summed + sec 60 ≤ peak s.now t →
    ∃ s', exec (.timerEventsSuppressed t n c) s = .next s' ∧ ((s'.timer n).ch c).suppressed = 0 ∧
      ((s'.timer n).ch c).summed = peak s.now t ∧
      (∃ m : State, s' = m.raise 0x1204 ([n, c] ++ dU 4 (satTo 0xFFFFFFFF ((s.timer n).ch c).suppressed)) (s.timerReach n)) ∧
      s'.outside [.timers] = s.outside [.timers] ∧ s.sameObjects s' (fun _ => false))

/-! ### The real-time clock and the backup domain (chapter 16) -/

/-- While the oscillator runs and the domain is supplied, a second moves the count on by one, its prescaler and its place in the trim
period with it; the calendar wraps after 400 years with event 0x1107 (R517, R526). An alarm that matches then sets its fired flag and time,
drives PWR_ON high where its actions say so, waits for the next boot where VSYS is absent, and clears its own enable unless its actions keep
it; the other alarm is as it was (R529, R530). A stopped oscillator holds the fields and the prescaler, and its restart counts on from
them, sets the flag with cause 1 and, with VSYS present, raises event 0x1103 (R525). -/
def Obligations.SecondsAreCountedAndAlarmsFire : Prop :=
  (∀ (s : State) (t : Nat), s.rtc.running = true → s.rtc.domainUp = true →
    (∀ a, a < 2 → s.flag (alarmIndex a) 1 = false ∨ s.alarmMatches a ((s.rtc.total + 1) % centuriesSec) = false) →
    ∃ s', exec (.rtcSecond t) s = .next s' ∧ s'.rtc = { s.rtc with
        total := (s.rtc.total + 1) % centuriesSec, prescale := 0, k := (s.rtc.k + 1) % 32, lastSecondTick := peak s.now t,
        periodEnded := s.rtc.periodEnded || decide (s.rtc.k % 32 = 31) } ∧
      (s.rtc.total + 1 = centuriesSec → ∃ m : State, s' = m.raise 0x1107 [1] m.allJoined) ∧
      s'.outside [.clock] = s.outside [.clock] ∧ s.sameObjects s' (fun _ => false)) ∧
  (∀ (s : State) (t a : Nat), a < 2 → s.rtc.running = true → s.rtc.domainUp = true → s.flag (alarmIndex a) 1 = true →
    s.alarmMatches a ((s.rtc.total + 1) % centuriesSec) = true →
    ∃ s', exec (.rtcSecond t) s = .next s' ∧ s'.rtc.total = (s.rtc.total + 1) % centuriesSec ∧ s'.flag (alarmIndex a) 10 = true ∧
      s'.nat (alarmIndex a) 11 = (s.rtc.total + 1) % centuriesSec % 2 ^ 32 ∧ s'.flag (alarmIndex a) 1 = bitOf (s.nat (alarmIndex a) 9) 3 ∧
      (bitOf (s.nat (alarmIndex a) 9) 2 = true → s'.pins.pwrOn = true ∧ s'.flag 0x1A20 1 = true) ∧
      s'.outside [.clock, .pins, .store] = s.outside [.clock, .pins, .store] ∧
      s.sameObjects s' (fun i => i == alarmIndex 0 || i == alarmIndex 1 || i == 0x1A20)) ∧
  (∀ (s : State) (t : Nat),
    ((s.rtc.running = false ∨ s.rtc.domainUp = false) → exec (.rtcSecond t) s = .next (s.at t)) ∧
    (s.rtc.running = false → exec (.oscillatorStopped t) s = .next (s.at t)) ∧
    (s.rtc.running = true → exec (.oscillatorRestart t) s = .next (s.at t))) ∧
  (∀ (s : State) (t a b : Nat), a < 2 → b < 2 → b ≠ a → s.rtc.running = true → s.rtc.domainUp = true → s.rtc.total + 1 ≠ centuriesSec →
    s.flag (alarmIndex a) 1 = true → s.alarmMatches a (s.rtc.total + 1) = true →
    (s.flag (alarmIndex b) 1 = false ∨ s.alarmMatches b (s.rtc.total + 1) = false) →
    ∃ s', exec (.rtcSecond t) s = .next s' ∧ s'.rtc.total = s.rtc.total + 1 ∧
      s'.flag (alarmIndex a) 10 = true ∧ s'.nat (alarmIndex a) 11 = (s.rtc.total + 1) % 2 ^ 32 ∧
      s'.flag (alarmIndex a) 1 = bitOf (s.nat (alarmIndex a) 9) 3 ∧ s'.pins.pwrOn = (s.pins.pwrOn || bitOf (s.nat (alarmIndex a) 9) 2) ∧
      (bitOf (s.nat (alarmIndex a) 9) 2 = true → s'.flag 0x1A20 1 = true) ∧
      s'.rtc.lateAlarms = s.rtc.lateAlarms ++
        (if bitOf (s.nat (alarmIndex a) 9) 0 = true ∧ s.vsysPresent = false then [(a, (s.rtc.total + 1) % 2 ^ 32)] else []) ∧
      s'.outside [.clock, .pins, .store] = s.outside [.clock, .pins, .store] ∧
      s.sameObjects s' (fun i => i == alarmIndex a || i == 0x1A20)) ∧
  (∀ (s : State) (t : Nat), s.rtc.running = true →
    ∃ s', exec (.oscillatorStopped t) s = .next s' ∧
      s'.rtc = { s.rtc with running := false, stoppedAt := peak s.now t, prescale := (s.at t).fraction } ∧
      exec (.rtcSecond t) s' = .next (s'.at t) ∧
      s'.outside [.clock] = s.outside [.clock] ∧ s.sameObjects s' (fun _ => false)) ∧
  (∀ (s : State) (t : Nat), s.rtc.running = false →
    ∃ s', exec (.oscillatorRestart t) s = .next s' ∧ s'.rtc = { s.rtc with running := true, lastSecondTick := peak s.now t } ∧
      s'.flag 0x1A02 1 = true ∧ s'.nat 0x1A02 2 = 1 ∧
      (s.vsysPresent = true → ∃ m : State, s' = m.raise 0x1103
        (dU 2 (satTo 65535 ((peak s.now t - s.rtc.stoppedAt) / 122880)) ++ dU 4 s.rtcSec) [0]) ∧
      s'.outside [.clock] = s.outside [.clock] ∧ s.sameObjects s' (fun i => i == 0x1A02))

/-- A trim period that ends with auto-trim enabled moves the trim one unit toward the value wanted, held to −512 to 511; each step that the
bounds hold is counted, and the 64th in a row raises event 0x1108 (R528; the rounding is log entry 89). With auto-trim off nothing moves. A
full measurement of the crystal gives its error in 0.01 ppm (R527). VBAK, measured every 60 s, below its threshold raises event 0x1106 once
until a measurement lies above it (R513). At the off time PWR_ON goes low with event 0x1109 (R531). VSYS through 4.4 V locks host-side
writes of the domain, and the lock goes once the dictionary is reachable again (R533). The domain's moves to VBAK and back are stamped
(R511, R535). A domain without supply loses its state, and a minimum off time is no longer counted (R607); the next supply starts it at its
defaults, the flag set with cause 2, the black box empty and PWR_ON high (R511, R512). A session's freeze ends 250 ms after it started, and
its staged time 10 s after the last staged write (R520, R522). -/
def Obligations.TheBackupDomainTrimsMeasuresAndSwitches : Prop :=
  (∀ (s : State) (t : Nat), s.rtc.periodEnded = false → exec (.trimPeriodEnd t) s = .next (s.at t)) ∧
  (∀ (s : State) (t : Nat), s.rtc.periodEnded = true → (s.flag 0x1A03 2 = false ∨ s.vsysPresent = false) →
    ∃ s', exec (.trimPeriodEnd t) s = .next s' ∧ s'.rtc = { s.rtc with periodEnded := false } ∧ s'.outside [.clock] = s.outside [.clock] ∧
      s.sameObjects s' (fun _ => false)) ∧
  (∀ (s : State) (t : Nat) (want clamped now next : Int), s.rtc.periodEnded = true → s.flag 0x1A03 2 = true → s.vsysPresent = true →
    want = - ((2 * s.int 0x1A03 3 * 2 ^ 20 + 10 ^ 8).fdiv (2 * 10 ^ 8)) → clamped = max (-512) (min 511 want) → now = s.int 0x1A03 1 →
    next = (if now < clamped then now + 1 else if clamped < now then now - 1 else now) →
    ∃ s', exec (.trimPeriodEnd t) s = .next s' ∧ s'.int 0x1A03 1 = next ∧
      s'.rtc = { s.rtc with periodEnded := false, pinned := if want = clamped then 0 else s.rtc.pinned + 1 } ∧
      s'.nat 0x1A03 5 = (if want = clamped then s.nat 0x1A03 5 else (s.nat 0x1A03 5 + 1) % 2 ^ 32) ∧
      (want ≠ clamped → s.rtc.pinned + 1 = 64 → ∃ m : State, s' = m.raise 0x1108 (dI 2 next ++ dI 4 (s.int 0x1A03 3)) [0]) ∧
      s'.outside [.clock, .store] = s.outside [.clock, .store] ∧ s.sameObjects s' (fun i => i == 0x1A03)) ∧
  (∀ (s : State) (t ticks : Nat), s.vsysPresent = true → s.power.refclkLost = false → s.rtc.running = true → 0 < ticks →
    ∃ s', exec (.crystalMeasurement t ticks) s = .next s' ∧
      s'.int 0x1A03 3 = ((3932160000 - (ticks : Int)) * 10 ^ 8).fdiv ticks ∧ s'.flag 0x1A03 4 = true ∧
      s'.outside [] = s.outside [] ∧ s.sameObjects s' (fun i => i == 0x1A03)) ∧
  (∀ (s : State) (t ticks : Nat), (s.vsysPresent = false ∨ s.power.refclkLost = true ∨ s.rtc.running = false) →
    exec (.crystalMeasurement t ticks) s = .next (s.at t)) ∧
  (∀ (s : State) (t mv : Nat), (s.vsysPresent = false ∨ peak s.now t < s.rtc.vbakDue) → exec (.vbakMeasurement t mv) s = .next (s.at t)) ∧
  (∀ (s : State) (t : Nat),
    ((∀ due, s.rtc.offDue = some due → s.rtc.total < due) → exec (.powerOffByPwrOn t) s = .next (s.at t)) ∧
    (s.power.reachable = false → exec (.writeLockRelease t) s = .next (s.at t)) ∧
    ((s.rtc.onVbak = true ∨ s.rtc.domainUp = false) → exec (.switchOverToVbak t) s = .next (s.at t)) ∧
    (s.rtc.onVbak = false → exec (.returnToVsys t) s = .next (s.at t)) ∧
    (∀ vbak, s.rtc.domainUp = true → exec (.backupDomainSupplyReturn t vbak) s = .next (s.at t))) ∧
  (∀ (s : State) (t mv : Nat), s.vsysPresent = true → s.rtc.vbakDue ≤ peak s.now t →
    ∃ s', exec (.vbakMeasurement t mv) s = .next s' ∧ s'.nat 0x1A02 8 = mv ∧ s'.rtc.vbakDue = peak s.now t + sec 60 ∧
      (mv < s.nat 0x1A02 9 → s'.rtc.vbakLowRaised = true) ∧ (s.nat 0x1A02 9 < mv → s'.rtc.vbakLowRaised = false) ∧
      (mv < s.nat 0x1A02 9 → s.rtc.vbakLowRaised = false →
        ∃ m : State, s' = { m.raise 0x1106 (dU 2 mv ++ dU 2 (s.nat 0x1A02 9)) [0] with rtc := s'.rtc }) ∧
      s'.outside [.clock] = s.outside [.clock] ∧ s.sameObjects s' (fun i => i == 0x1A02)) ∧
  (∀ (s : State) (t due : Nat), s.rtc.offDue = some due → due ≤ s.rtc.total →
    ∃ s', exec (.powerOffByPwrOn t) s = .next s' ∧ s'.pins.pwrOn = false ∧ s'.rtc.offDue = none ∧ s'.flag 0x1A20 1 = false ∧
      s'.nat 0x1A20 3 = 0 ∧ s'.nat 0x1A20 4 = (s.nat 0x1A20 4 + 1) % 2 ^ 32 ∧
      (∃ m : State, s' = m.raise 0x1109 (dU 4 s.rtcSec ++ [m.restoringAlarm]) m.allJoined) ∧
      s'.outside [.clock, .pins] = s.outside [.clock, .pins] ∧ s.sameObjects s' (fun i => i == 0x1A20)) ∧
  (∀ (s : State) (t : Nat), ∃ s', exec (.writeLock t) s = .next s' ∧ s'.rtc.locked = true ∧ s'.flag 0x1A02 10 = true ∧
    s'.outside [.clock, .power] = s.outside [.clock, .power] ∧ s.sameObjects s' (fun i => i == 0x1A02)) ∧
  (∀ (s : State) (t : Nat), s.power.reachable = true →
    ∃ s', exec (.writeLockRelease t) s = .next s' ∧ s'.rtc.locked = false ∧ s'.flag 0x1A02 10 = false ∧
      s'.outside [.clock, .power] = s.outside [.clock, .power] ∧ s.sameObjects s' (fun i => i == 0x1A02)) ∧
  (∀ (s : State) (t : Nat), s.rtc.onVbak = false → s.rtc.domainUp = true →
    ∃ s', exec (.switchOverToVbak t) s = .next s' ∧ s'.rtc = { s.rtc with onVbak := true, unreported := true } ∧
      s'.nat 0x1A02 4 = s.rtcSec ∧ s'.nat 0x1A02 3 = (if s.nat 0x1A02 3 = 0 then s.rtcSec else s.nat 0x1A02 3) ∧
      s'.nat 0x1A02 6 = (s.nat 0x1A02 6 + 1) % 2 ^ 32 ∧ s'.power.stage = (if s.power.stage = 4 then 0 else s.power.stage) ∧
      s'.outside [.clock, .power] = s.outside [.clock, .power] ∧ s.sameObjects s' (fun i => i == 0x1A02)) ∧
  (∀ (s : State) (t : Nat), s.rtc.onVbak = true →
    ∃ s', exec (.returnToVsys t) s = .next s' ∧ s'.rtc = { s.rtc with onVbak := false } ∧ s'.nat 0x1A02 5 = s.rtcSec ∧
      s'.nat 0x1A02 7 = (s.rtcSec + 2 ^ 32 - s.nat 0x1A02 4) % 2 ^ 32 ∧
      s'.outside [.clock, .power] = s.outside [.clock, .power] ∧ s.sameObjects s' (fun i => i == 0x1A02)) ∧
  (∀ (s : State) (t : Nat), ∃ s', exec (.backupDomainSupplyLost t) s = .next s' ∧
    s'.rtc.domainUp = false ∧ s'.rtc.running = false ∧ s'.rtc.offDue = none ∧
    s'.power = { s.power with offBroken := s.power.offBroken || decide (peak s.now t < s.power.offUntil) } ∧
    s'.outside [.clock, .power] = s.outside [.clock, .power] ∧ s.sameObjects s' (fun _ => false)) ∧
  (∀ (s : State) (t vbak : Nat), s.rtc.domainUp = false →
    ∃ s', exec (.backupDomainSupplyReturn t vbak) s = .next s' ∧
      s'.rtc = { rtcAtReset with onVbak := s.rtc.onVbak, lastSecondTick := peak s.now t } ∧ s'.rtc.domainUp = true ∧
      s'.rtc.running = true ∧ s'.flag 0x1A02 1 = true ∧ s'.nat 0x1A02 2 = 2 ∧ s'.nat 0x1A02 8 = vbak ∧
      (∀ k, k ∈ domainKeys → k ≠ key 0x1A02 8 → s'.val k = objDefault k) ∧ s'.box = boxAtReset ∧ s'.pins.pwrOn = true ∧
      s'.outside [.clock, .pins] = s.outside [.clock, .pins] ∧
      s.sameObjects s' (fun i => i == 0x1A02 || i == 0x1A20 || i == 0x1A10 || i == 0x1A11 || i == 0x1102 || i == 0x1104)) ∧
  (∀ (s : State) (t sid start total : Nat) (x : Session), s.session? sid = some x → x.shadow = some (start, total) →
    ∃ s' y, exec (.freezeExpired t sid) s = .next s' ∧ s'.session? sid = some y ∧
      y.shadow = (if start + ms 250 ≤ peak s.now t then none else some (start, total)) ∧
      s'.outside [.sessions] = s.outside [.sessions] ∧ s.sameObjects s' (fun _ => false)) ∧
  (∀ (s : State) (t sid : Nat) (x : Session), s.session? sid = some x →
    ∃ s' y, exec (.stagedTimeDiscarded t sid) s = .next s' ∧ s'.session? sid = some y ∧
      y.staged = (if x.stagedTick + sec 10 ≤ peak s.now t then [] else x.staged) ∧
      s'.outside [.sessions] = s.outside [.sessions] ∧ s.sameObjects s' (fun _ => false))

/-! ### MRAM, firmware times and scans (chapters 17 and 18) -/

/-- With the supply stable, a configuration store writes the whole content into the copy of the lower generation under the next generation,
each item of a shade sealed under its configuration key and a nonce of the item and the generation (R379; log entry 113), and the next boot
takes it; a page store seals its page with its trailer and its write count one higher, and no byte of another page changes (R538, R547,
R548). With the supply not stable nothing is stored: the refusal is counted, with event 0x0501 at most once a minute (R543). A corrected
word is counted and written back; an uncorrectable one takes its page, with the image or copy that it belongs to, with event 0x0505; a
sealed page is read in idle time every 7 days, and counted (R540, R541). A measurement of VSYS is shown as it is (R543). 100 ms after
Activate 1 and at the end of an unconfirmed trial the module goes down for a cold start, the trial slot failed (R551, R553). A scan that
ends is done with its check value over its bytes, which is open where they changed under it, or failed on an uncorrectable word (R564,
R565). Reads in idle time wait in deep standby (R615, log entry 76). -/
def Obligations.StoresPagesAndScans : Prop :=
  (∀ (s : State) (t page : Nat) (content : List Byte), (s.at t).supplyStable = true →
    ∃ s', exec (.store t 2 page content) s = .next s' ∧ s'.generation = s.generation + 1 ∧
      (∃ c, s'.store.bootCopy = some (s'.store.copyInUse, c) ∧ c.content = (s.at t).configContent ∧
        c.seals = (s.at t).sealsOf (s.generation + 1) (s.at t).configContent) ∧
      (s.store.copyB.order < s.store.copyA.order → s'.store.copyA = s.store.copyA) ∧
      (s.store.copyA.order ≤ s.store.copyB.order → s'.store.copyB = s.store.copyB) ∧
      s'.store.mram = s.store.mram ∧ s'.nat 0x1600 4 = (s.nat 0x1600 4 + 1) % 2 ^ 32 ∧
      s'.outside [.store] = s.outside [.store] ∧ s.sameObjects s' (fun i => i == 0x1600)) ∧
  (∀ (s : State) (t partition page op : Nat) (content : List Byte), (s.at t).supplyStable = true → partition ≠ 2 →
    partitionOf (partitionBase partition + page) = partition → op = (if partition = 5 then 3 else 1) →
    ∃ s' w, exec (.store t partition page content) s = .next s' ∧
      w = satTo 0xFFFFFFFF ((s.page (partitionBase partition + page)).writes + 1) ∧
      (s'.page (partitionBase partition + page)).isSealed = true ∧ (s'.page (partitionBase partition + page)).operation = op ∧
      (s'.page (partitionBase partition + page)).writes = w ∧
      Memory.readAll s'.store.mram (4096 * (partitionBase partition + page)) 4096 = pageBytes op partition w content ∧
      (∀ a, a < 4096 * (partitionBase partition + page) ∨ 4096 * (partitionBase partition + page + 1) ≤ a →
        Memory.read s'.store.mram a = Memory.read s.store.mram a) ∧
      s'.nat 0x1600 4 = (s.nat 0x1600 4 + 1) % 2 ^ 32 ∧
      s'.outside [.store] = s.outside [.store] ∧ s.sameObjects s' (fun i => i == 0x1600)) ∧
  (∀ (s : State) (t partition page : Nat) (content : List Byte), (s.at t).supplyStable = false →
    ∃ s' m, exec (.store t partition page content) s = .next s' ∧
      s' = State.raise m 0x0501 (dU 2 s.power.vsys ++ dI 2 s.power.slope ++ [partition]) [0] (perMinute 0) ∧
      s'.nat 0x1600 5 = (s.nat 0x1600 5 + 1) % 2 ^ 32 ∧ s'.outside [] = s.outside [] ∧ s.sameObjects s' (fun i => i == 0x1600)) ∧
  (∀ (s : State) (t page : Nat), ∃ s', exec (.correctedWord t page) s = .next s' ∧ s'.nat 0x1600 7 = (s.nat 0x1600 7 + 1) % 2 ^ 32 ∧
    s'.nat 0x1600 4 = (if (s.at t).supplyStable = true then (s.nat 0x1600 4 + 1) % 2 ^ 32 else s.nat 0x1600 4) ∧
    s'.nat 0x1600 5 = (if (s.at t).supplyStable = true then s.nat 0x1600 5 else (s.nat 0x1600 5 + 1) % 2 ^ 32) ∧
    s'.store.correctedHour =
      (if (s.at t).mayDeliver 0x0504 (some { n := 1, period := sec 3600, unit := 0 }) = true then 0 else s.store.correctedHour + 1) ∧
    s'.outside [.store] = s.outside [.store] ∧ s.sameObjects s' (fun i => i == 0x1600)) ∧
  (∀ (s : State) (t page : Nat), ∃ s' m, exec (.uncorrectablePage t page) s = .next s' ∧ (s'.page page).isSealed = false ∧
    s'.nat 0x1600 8 = (s.nat 0x1600 8 + 1) % 2 ^ 32 ∧
    s' = State.raise m 0x0505 ([partitionOf page] ++ dU 2 (page - partitionBase (partitionOf page))) [0] ∧
    (partitionOf page = 0 → s'.store.slotA.verifies = false) ∧ (partitionOf page = 1 → s'.store.slotB.verifies = false) ∧
    (partitionOf page = 2 → page < 2176 → s'.store.copyA.valid = false) ∧ (partitionOf page = 2 → 2176 ≤ page → s'.store.copyB.valid = false) ∧
    (∀ p, p ≠ page → s'.page p = s.page p) ∧ s'.store.mram = s.store.mram ∧
    s'.outside [.store, .power] = s.outside [.store, .power] ∧ s.sameObjects s' (fun i => i == 0x1600)) ∧
  (∀ (s : State) (t page : Nat), 2048 ≤ page → page < 8192 → (s.page page).isSealed = true → (s.page page).readDue ≤ peak s.now t →
    s.power.mode ≠ 2 →
    ∃ s', exec (.mramScrub t page) s = .next s' ∧ s'.nat 0x1600 12 = (s.nat 0x1600 12 + 1) % 2 ^ 32 ∧
      s'.page page = { s.page page with readDue := peak s.now t + sec 604800 } ∧ (∀ p, p ≠ page → s'.page p = s.page p) ∧
      s'.store.mram = s.store.mram ∧ s'.outside [.store] = s.outside [.store] ∧ s.sameObjects s' (fun i => i == 0x1600)) ∧
  (∀ (s : State) (t page : Nat),
    (page < 2048 ∨ 8192 ≤ page ∨ (s.page page).isSealed = false ∨ peak s.now t < (s.page page).readDue ∨ s.power.mode = 2) →
    exec (.mramScrub t page) s = .next (s.at t)) ∧
  (∀ (s : State) (t : Nat),
    ((∀ due, s.store.coldStartDue = some due → peak s.now t < due) → exec (.activationColdStart t) s = .next (s.at t)) ∧
    ((s.power.reachable = false ∨ s.store.inTrial = false ∨ peak s.now t < s.store.trialStart + sec (s.nat 0x1620 7)) →
      exec (.trialTimeExpired t) s = .next (s.at t)) ∧
    (∀ sid e, (∀ x, s.session? sid = some x → x.scan.state ≠ 2) → exec (.scanComplete t sid e) s = .next (s.at t))) ∧
  (∀ (s : State) (t mv : Nat) (slope : Int), ∃ s', exec (.vsysMeasurement t mv slope) s = .next s' ∧
    s'.power.vsys = mv ∧ s'.power.slope = slope ∧
    (∀ x, s'.live x 0x1600 2 = some (.num mv) ∧ s'.live x 0x1600 3 = some (.num slope) ∧ s'.live x 0x1100 3 = some (.num mv)) ∧
    s'.outside [.power] = s.outside [.power] ∧ s.sameObjects s' (fun _ => false)) ∧
  (∀ (s : State) (t due : Nat), s.store.coldStartDue = some due → due ≤ peak s.now t → s.power.stage = 2 →
    ∃ s', exec (.activationColdStart t) s = .next s' ∧ s'.held 6 3 ∧ s'.power.stage = 3 ∧ s'.power.step = 3 ∧
      s'.store = { s.store with coldStartDue := none, gateShut := true } ∧
      s'.outside (.store :: heldAreas) = s.outside (.store :: heldAreas) ∧ s.sameObjects s' (fun i => airObject i || i == 0x1102)) ∧
  (∀ (s : State) (t : Nat), s.power.reachable = true → s.store.inTrial = true → s.power.stage = 2 →
    s.store.trialStart + sec (s.nat 0x1620 7) ≤ peak s.now t →
    ∃ s', exec (.trialTimeExpired t) s = .next s' ∧ s'.held 6 3 ∧ s'.power.stage = 3 ∧ (s'.store.slot s.store.running).state = 5 ∧
      s'.store.slot (1 - s.store.running) = s.store.slot (1 - s.store.running) ∧ s'.store.lastBoot = 4 ∧
      s'.outside (.store :: heldAreas) = s.outside (.store :: heldAreas) ∧
      s.sameObjects s' (fun i => airObject i || i == 0x1102 || i == 0x1600)) ∧
  (∀ (s : State) (t sid : Nat) (x : Session), s.session? sid = some x → x.scan.state = 2 →
    (∃ s' y, exec (.scanComplete t sid none) s = .next s' ∧ s'.session? sid = some y ∧ y.scan.state = 3 ∧ y.scan.done = x.scan.length ∧
      (x.scan.changed = false → y.scan.result = crcBytes x.scan.algorithm (s.scanBytes x.scan)) ∧
      s'.nat 0x1800 1 = (s.nat 0x1800 1 + 1) % 2 ^ 32 ∧
      s'.outside [.sessions, .values] = s.outside [.sessions, .values] ∧ s.sameObjects s' (fun i => i == 0x1800)) ∧
    (∀ off, ∃ s' y, exec (.scanComplete t sid (some off)) s = .next s' ∧ s'.session? sid = some y ∧ y.scan.state = 4 ∧ y.scan.error = 1 ∧
      y.scan.errorOffset = off ∧ s'.nat 0x1800 3 = (s.nat 0x1800 3 + 1) % 2 ^ 32 ∧
      s'.outside [.sessions] = s.outside [.sessions] ∧ s.sameObjects s' (fun i => i == 0x1800)))

/-! ### Self-test, safe state and Lantern (chapter 19) -/

/-- The second BIST phase shows its outcome with event 0x0601, and a failing partition puts the module in safe state (R569). A sweep starts
when its period has passed (R578). A slice of memory that fits a quiet run is done, the slice at the front first; the last one completes
the sweep with event 0x0604 (R571, R572, R577, R578). A failing row goes to the next good spare of its bank and to the failure log, newest
first; with no spare left, or a word that cannot be corrected at the save, the module enters safe state (R571–R573). A logic slice that
holds its signature is done, and one that does not puts the module in safe state (R576). A sweep not complete in 24 h raises event 0x0605
(R578). A corrected error brings its slice to the front with event 0x0609 at most once a minute, and an uncorrectable one puts the module in
safe state (R572). A refused store of the repair table is tried again every 10 ms into the copy of the lower generation (R574).
The sweep waits in deep standby (R615, log entry 76). -/
def Obligations.SelfTestFindsRepairsAndStops : Prop :=
  (∀ (s : State) (t duration : Nat), s.power.reachable = true → s.power.phase2Done = false →
    ∃ s', exec (.coldBistPhase2Done t 0 duration) s = .next s' ∧ s'.power.phase2Done = true ∧ s'.power.phase2Passed = true ∧
      s'.nat 0x1700 11 = 0 ∧ (∃ m : State, s' = m.raise 0x0601 ([2, 0] ++ dU 2 duration) m.allJoined) ∧
      s'.outside [.power] = s.outside [.power] ∧ s.sameObjects s' (fun i => i == 0x1700)) ∧
  (∀ (s : State) (t failed duration : Nat), s.power.reachable = true → s.power.phase2Done = false → failed ≠ 0 → s.inSafe = false →
    ∃ s', exec (.coldBistPhase2Done t failed duration) s = .next s' ∧ s.entersSafe s' 1 failed ∧ s'.power.phase2Passed = false ∧
      s'.nat 0x1700 11 = failed ∧ s'.outside safeAreas = s.outside safeAreas ∧
      s.sameObjects s' (fun i => airObject i || i == 0x1110 || i == 0x1700)) ∧
  (∀ (s : State) (t failed duration : Nat), (s.power.reachable = false ∨ s.power.phase2Done = true) →
    exec (.coldBistPhase2Done t failed duration) s = .next (s.at t)) ∧
  (∀ (s : State) (t : Nat),
    ((s.flag 0x1700 1 = false ∨ s.sweep.running = true ∨ s.inSafe = true ∨ s.power.mode = 2 ∨
      (s.sweep.everStarted = true ∧ peak s.now t < s.sweep.startTick + sec (3600 * s.nat 0x1700 2))) → exec (.sweepDue t) s = .next (s.at t)) ∧
    ((s.sweep.running = false ∨ s.sweep.late = true ∨ peak s.now t < s.sweep.startTick + sec 86400 ∨ s.power.mode = 2) →
      exec (.sweepLate t) s = .next (s.at t)) ∧
    ((∀ due, s.sweep.retryTick = some due → peak s.now t < due) → exec (.repairTableRetry t) s = .next (s.at t)) ∧
    (∀ failures e, ((s.at t).sweeping = false ∨ (s.at t).sliceFits none (us 400) = false) →
      exec (.memorySlice t failures e) s = .next (s.at t)) ∧
    (∀ q ok, ((s.at t).sweeping = false ∨ 32 ≤ tget s.sweep.logicDone q 32 ∨ s.carrierOn q = true ∨ (s.tx q).survey.isSome = true ∨
      s.power.mode ≠ 0 ∨ (s.at t).sliceFits (some q) (us 1000) = false) → exec (.logicSlice t q ok) s = .next (s.at t))) ∧
  (∀ (s : State) (t : Nat), s.flag 0x1700 1 = true → s.sweep.running = false → s.inSafe = false → s.power.mode ≠ 2 →
    (s.sweep.everStarted = false ∨ s.sweep.startTick + sec (3600 * s.nat 0x1700 2) ≤ peak s.now t) →
    ∃ s', exec (.sweepDue t) s = .next s' ∧ s'.sweep.running = true ∧ s'.sweep.suspended = false ∧ s'.sweep.startTick = peak s.now t ∧
      s'.sweep.nextMem = 0 ∧ s'.sweep.memDone = 0 ∧ s'.sweep.logicDone = List.replicate 12 0 ∧ s'.sweep.repairs = s.sweep.repairs ∧
      s'.outside [.power] = s.outside [.power] ∧ s.sameObjects s' (fun _ => false)) ∧
  (∀ (s : State) (t : Nat), (s.at t).sweeping = true → (s.at t).sliceFits none (us 400) = true →
    (s.sweep.front = [] → s.sweep.nextMem < 6016 → s.sweep.memDone + 1 < 6016 →
      ∃ s', exec (.memorySlice t [] none) s = .next s' ∧
        s'.sweep = { s.sweep with nextMem := s.sweep.nextMem + 1, memDone := s.sweep.memDone + 1 } ∧
        s'.outside [.power] = s.outside [.power] ∧ s.sameObjects s' (fun _ => false)) ∧
    (∀ x r, s.sweep.front = x :: r → x < 6016 → s.sweep.memDone < 6016 →
      ∃ s', exec (.memorySlice t [] none) s = .next s' ∧ s'.sweep = { s.sweep with front := r } ∧
        s'.outside [.power] = s.outside [.power] ∧ s.sameObjects s' (fun _ => false)) ∧
    (s.sweep.front = [] → s.sweep.nextMem < 6016 → 6016 ≤ s.sweep.memDone + 1 → (∀ n, n ∈ s.sweep.logicDone → 32 ≤ n) →
      ∃ s', exec (.memorySlice t [] none) s = .next s' ∧ s'.sweep.running = false ∧ s'.nat 0x1700 9 = s.rtcSec ∧
        s'.nat 0x1700 10 = (peak s.now t - s.sweep.startTick) / 122880000 ∧
        (∃ m : State, s' = m.raise 0x0604 (dU 4 ((peak s.now t - s.sweep.startTick) / 122880000) ++ dU 2 (satTo 65535 s.sweep.failures)) m.allJoined) ∧
        s'.outside [.power] = s.outside [.power] ∧ s.sameObjects s' (fun i => i == 0x1700)) ∧
    (∀ addr bit element bad b, s.sweep.front = [] → s.sweep.nextMem < 6016 → s.sweep.memDone + 1 < 6016 → b = bankOf (memoryOf s.sweep.nextMem) addr →
      (s.sparesGone (memoryOf s.sweep.nextMem) b + bad < sparesIn (memoryOf s.sweep.nextMem) →
        ∃ s', exec (.memorySlice t [(addr, bit, element, bad)] none) s = .next s' ∧
          (memoryOf s.sweep.nextMem, b, addr / 1024 % rowsIn (memoryOf s.sweep.nextMem), s.sparesGone (memoryOf s.sweep.nextMem) b + bad) ∈ s'.sweep.repairs ∧
          s'.sparesGone (memoryOf s.sweep.nextMem) b = s.sparesGone (memoryOf s.sweep.nextMem) b + bad + 1 ∧ s'.inSafe = false ∧
          s'.bytes 0x1720 1 16 = [byte (memoryOf s.sweep.nextMem), 1#8] ++ le 4 addr ++ [byte bit, byte element] ++ le 4 s.rtcSec ++
            le 2 (s.sparesGone (memoryOf s.sweep.nextMem) b + bad) ++ zeros 2 ∧
          (∀ j, 1 ≤ j → j < 16 → s'.bytes 0x1720 (j + 1) 16 = s.bytes 0x1720 j 16) ∧ s'.nat 0x1700 12 = (s.nat 0x1700 12 + 1) % 2 ^ 32 ∧
          s'.outside [.power, .store] = s.outside [.power, .store] ∧ s.sameObjects s' (fun i => i == 0x1700 || i == 0x1720 || i == 0x1600)) ∧
      (sparesIn (memoryOf s.sweep.nextMem) ≤ s.sparesGone (memoryOf s.sweep.nextMem) b + bad →
        ∃ s', exec (.memorySlice t [(addr, bit, element, bad)] none) s = .next s' ∧ s.entersSafe s' 2 0xFF ∧
          s'.bytes 0x1720 1 16 = [byte (memoryOf s.sweep.nextMem), 2#8] ++ le 4 addr ++ [byte bit, byte element] ++ le 4 s.rtcSec ++
            le 2 0xFFFF ++ zeros 2 ∧
          s'.outside safeAreas = s.outside safeAreas ∧
          s.sameObjects s' (fun i => airObject i || i == 0x1110 || i == 0x1700 || i == 0x1720))) ∧
    (∀ failures addr, s.sweep.front = [] → s.sweep.nextMem < 6016 → s.sweep.memDone + 1 < 6016 →
      ∃ s', exec (.memorySlice t failures (some addr)) s = .next s' ∧ s.entersSafe s' 2 0xFF ∧
        s'.bytes 0x1720 1 16 = [byte (memoryOf s.sweep.nextMem), 4#8] ++ le 4 addr ++ [0xFF#8, 0#8] ++ le 4 s.rtcSec ++ le 2 0xFFFF ++ zeros 2 ∧
        s'.outside safeAreas = s.outside safeAreas ∧
        s.sameObjects s' (fun i => airObject i || i == 0x1110 || i == 0x1700 || i == 0x1720))) ∧
  (∀ (s : State) (t q : Nat), (s.at t).sweeping = true → q < 12 → s.sweep.logicDone.length = 12 → tget s.sweep.logicDone q 32 < 32 → s.carrierOn q = false →
    (s.tx q).survey = none → s.power.mode = 0 → (s.at t).sliceFits (some q) (us 1000) = true → s.sweep.memDone < 6016 →
    (∃ s', exec (.logicSlice t q true) s = .next s' ∧ s'.sweep = { s.sweep with logicDone := tmod s.sweep.logicDone q (· + 1) } ∧
      s'.outside [.power] = s.outside [.power] ∧ s.sameObjects s' (fun _ => false)) ∧
    (∃ s', exec (.logicSlice t q false) s = .next s' ∧ s.entersSafe s' 1 5 ∧ s'.outside safeAreas = s.outside safeAreas ∧
      s.sameObjects s' (fun i => airObject i || i == 0x1110))) ∧
  (∀ (s : State) (t : Nat), s.sweep.running = true → s.sweep.late = false → s.sweep.startTick + sec 86400 ≤ peak s.now t → s.power.mode ≠ 2 →
    ∃ s', exec (.sweepLate t) s = .next s' ∧ s'.sweep = { s.sweep with late := true } ∧
      (∃ m : State, s' = m.raise 0x0605 (dU 2 (6016 - s.sweep.memDone) ++ [satTo 255 (384 - sumOf s.sweep.logicDone)]) m.allJoined) ∧
      s'.outside [.power] = s.outside [.power] ∧ s.sameObjects s' (fun _ => false)) ∧
  (∀ (s : State) (t m addr bit : Nat),
    ∃ s', exec (.correctedMemoryError t m addr bit) s = .next s' ∧ slicesBefore m + addr / 4096 ∈ s'.sweep.front ∧
      (∀ x, x ∈ s.sweep.front → x ∈ s'.sweep.front) ∧ s'.nat 0x1700 18 = (s.nat 0x1700 18 + 1) % 2 ^ 32 ∧
      (∃ r : State, s' = r.raise 0x0609 ([m] ++ dU 4 addr ++ [bit]) r.allJoined (perMinute 0)) ∧
      s'.outside [.power] = s.outside [.power] ∧ s.sameObjects s' (fun i => i == 0x1700)) ∧
  (∀ (s : State) (t m addr : Nat), s.inSafe = false →
    ∃ s', exec (.uncorrectableMemoryFault t m addr) s = .next s' ∧ s.entersSafe s' 2 0xFF ∧ s'.nat 0x1700 12 = (s.nat 0x1700 12 + 1) % 2 ^ 32 ∧
      s'.bytes 0x1720 1 16 = [byte m, 3#8] ++ le 4 addr ++ [0xFF#8, 0#8] ++ le 4 s.rtcSec ++ le 2 0xFFFF ++ zeros 2 ∧
      s'.outside safeAreas = s.outside safeAreas ∧ s.sameObjects s' (fun i => airObject i || i == 0x1110 || i == 0x1700 || i == 0x1720)) ∧
  (∀ (s : State) (t due : Nat), s.sweep.retryTick = some due → due ≤ peak s.now t →
    ((s.at t).supplyStable = true →
      ∃ s', exec (.repairTableRetry t) s = .next s' ∧ s'.sweep.retryTick = none ∧ s'.sweep.repairs = s.sweep.repairs ∧
        (s.sweep.order true < s.sweep.order false → s'.sweep.genB = peak s.sweep.genA s.sweep.genB + 1 ∧ s'.sweep.validB = true ∧ s'.nat 0x1700 13 = 1) ∧
        (s.sweep.order false ≤ s.sweep.order true → s'.sweep.genA = peak s.sweep.genA s.sweep.genB + 1 ∧ s'.sweep.validA = true ∧ s'.nat 0x1700 13 = 0) ∧
        s'.outside [.power, .store] = s.outside [.power, .store] ∧ s.sameObjects s' (fun i => i == 0x1600 || i == 0x1700)) ∧
    ((s.at t).supplyStable = false →
      ∃ s', exec (.repairTableRetry t) s = .next s' ∧ s'.sweep = { s.sweep with retryTick := some (peak s.now t + ms 10) } ∧
        s'.nat 0x1600 5 = (s.nat 0x1600 5 + 1) % 2 ^ 32 ∧
        s'.outside [.power] = s.outside [.power] ∧ s.sameObjects s' (fun i => i == 0x1600)))

/-- SAFE_N low puts the module in safe state with cause 0, or adds that cause to those of a module that is in it; high for 10 ms, it clears
its cause and nothing else (R580, R581). Lantern's time record carries the upper half of the bus tick count and the slot count (R591, Table
13). -/
def Obligations.SafeNAndLanternTime : Prop :=
  (∀ (s : State) (t : Nat), s.inSafe = false →
    ∃ s', exec (.safeNLow t) s = .next s' ∧ s.entersSafe s' 0 0xFF ∧ s'.pins.safeN = false ∧
      s'.outside safeAreas = s.outside safeAreas ∧ s.sameObjects s' (fun i => airObject i || i == 0x1110)) ∧
  (∀ (s : State) (t : Nat), s.inSafe = true →
    ∃ s', exec (.safeNLow t) s = .next s' ∧ s'.inSafe = true ∧ s'.nat 0x1110 2 = s.nat 0x1110 2 ||| 1 ∧
      s'.nat 0x1110 3 = s.nat 0x1110 3 ||| 1 ∧ s'.pins = { s.pins with safeN := false } ∧
      s'.outside [.power, .pins] = s.outside [.power, .pins] ∧ s.sameObjects s' (fun i => i == 0x1110)) ∧
  (∀ (s : State) (t : Nat), bitOf (s.nat 0x1110 2) 0 = true →
    ∃ s', exec (.safeNCleared t) s = .next s' ∧ s'.inSafe = s.inSafe ∧ s'.nat 0x1110 2 = setBit (s.nat 0x1110 2) 0 false ∧
      s'.nat 0x1110 4 = s.nat 0x1110 4 ||| 1 ∧ s'.pins = { s.pins with safeN := true } ∧
      s'.outside [.power, .pins] = s.outside [.power, .pins] ∧ s.sameObjects s' (fun i => i == 0x1110)) ∧
  (∀ (s : State) (t : Nat), bitOf (s.nat 0x1110 2) 0 = false →
    ∃ s', exec (.safeNCleared t) s = .next s' ∧ s'.pins = { s.pins with safeN := true } ∧ s'.outside [.pins] = s.outside [.pins] ∧
      s.sameObjects s' (fun _ => false)) ∧
  (∀ (s : State) (t : Nat), (s.flag 0x1730 1 = false ∨ s.power.mode = 2) →
    exec (.lanternTimeRecord t) s = .next { s.at t with lantern := { (s.at t).lantern with lastTime := peak s.now t } }) ∧
  (∀ (s : State) (t : Nat), s.flag 0x1730 1 = true → s.power.mode ≠ 2 → s.lantern.dropped = 0 → (s.at t).lantern.fifo.length < 256 →
    ∃ s', exec (.lanternTimeRecord t) s = .next s' ∧ s'.lantern.lastTime = peak s.now t ∧
      s'.lantern.fifo = (s.at t).lantern.fifo ++
        [(s.at t).lanternRecord 1 (dU 4 ((peak s.now t - s.power.releaseTick) / 2 ^ 32) ++ dU 4 s.belfry.slots)] ∧
      ({ s' with lantern := s.lantern } : State).outside [] = s.outside [] ∧ s.sameObjects s' (fun _ => false))

/-! ### Power, resets and modes (chapter 20) -/

/-- With VSYS held and the off time and the thermal hold past, a power-up enables the 0.8 V rail; an off time that was broken off counts
from the return of VSYS; each rail in regulation enables the next, and 1.0 ms after the last the internal release ends the power-up (R598,
R607). A release while RESET_N or the reference holds the logic does nothing; otherwise it counts and names its cause, every session,
transaction, carrier and field is gone, MRAM, but for the trailers of the firmware slots and pages found torn, and the clock are as they
were, each kept object of the chosen configuration copy that its shade's key opens is in effect, and SAFE_N low puts the module in safe
state (R379, R388, R405, R430, R548, R552, R580, R599, R609); a phase 1 failure holds the module there with the black box frozen (R567,
R568, R587). Then the dictionary is reachable, with the time it took (R600), and RF becomes ready once BIST phase 2 and the charter check
have passed, with event 0x0102 (R600, R601). A wake source that is armed ends deep standby in the wake mode, with the source and the time
recorded, no timer's count stepping; SAFE_N also puts the module in safe state (R507, R616). The spread of the fabric clock returns at its
time with event 0x0108 (R620). -/
def Obligations.PowerUpReleaseAndRfReady : Prop :=
  (∀ (s : State) (t mv : Nat), s.power.stage = 0 → s.power.offUntil ≤ peak s.now t → s.power.thermalOff = false →
    (s.power.offBroken = false → ∃ s', exec (.vsysHeld t mv) s = .next s' ∧ s'.power.stage = 1 ∧ s'.power.step = 1 ∧ s'.power.rails = 0 ∧ s'.power.vsys = mv ∧
      s'.power.attempts = s.power.attempts + 1 ∧ s'.power.cause = (if s.rtc.lostPending = true then 1 else s.power.cause) ∧
      s'.nat 0x1102 6 = satTo 0xFFFFFFFF ((peak s.now t - s.power.offSince) / 122880) ∧
      s'.outside [.power] = s.outside [.power] ∧ s.sameObjects s' (fun i => i == 0x1102)) ∧
    (s.power.vsysHeld = true → ∃ s', exec (.minimumOffTime t) s = .next s' ∧ s'.power.stage = 1 ∧ s'.power.step = 1 ∧ s'.power.rails = 0 ∧
      s'.power.attempts = s.power.attempts + 1 ∧ s'.outside [.power] = s.outside [.power] ∧ s.sameObjects s' (fun i => i == 0x1102))) ∧
  (∀ (s : State) (t mv : Nat),
    (s.power.stage ≠ 0 ∨ s.power.offBroken = true ∨ peak s.now t < s.power.offUntil ∨ s.power.thermalOff = true) →
    ∃ s', exec (.vsysHeld t mv) s = .next s' ∧ s'.power = { s.power with
        vsys := mv, slope := 0, vsysHeld := true, offBroken := false
        offUntil := if s.power.offBroken then peak s.now t + ms 19 else s.power.offUntil
        cause := if s.rtc.lostPending ∧ s.power.stage = 0 then 1 else s.power.cause } ∧
      s'.outside [.power] = s.outside [.power] ∧ s.sameObjects s' (fun _ => false)) ∧
  (∀ (s : State) (t : Nat), (s.power.stage ≠ 0 ∨ s.power.vsysHeld = false ∨ peak s.now t < s.power.offUntil ∨ s.power.thermalOff = true) →
    exec (.minimumOffTime t) s = .next (s.at t)) ∧
  (∀ (s : State) (t : Nat),
    ((s.power.stage ≠ 1 ∨ 4 < s.power.step) → exec (.railInRegulation t) s = .next (s.at t)) ∧
    ((s.power.stage ≠ 1 ∨ s.power.step ≠ 5) → exec (.internalRelease t) s = .next (s.at t)) ∧
    ((s.power.released = false ∨ s.power.reachable = true ∨ s.power.phase1Failed ≠ 0) → exec (.dictionaryReachable t) s = .next (s.at t)) ∧
    ((s.power.reachable = false ∨ s.power.mode ≠ 0 ∨ s.power.phase2Passed = false ∨ s.power.phase2Done = false ∨ s.power.charterChecked = false ∨
      s.fuses.charterState = 2 ∨ s.inSafe = true ∨ s.power.recovery = true ∨ s.flag 0x1100 2 = true) → exec (.rfReady t) s = .next (s.at t)) ∧
    (∀ source channel hfReady, (s.power.mode ≠ 2 ∨ s.wakes source = false) → exec (.wake t source channel hfReady) s = .next (s.at t)) ∧
    (s.power.spreadEnd = none → exec (.spreadRestored t) s = .next (s.at t))) ∧
  (∀ (s : State) (t : Nat), s.power.stage = 1 → 1 ≤ s.power.step →
    (s.power.step ≤ 4 → ∃ s', exec (.railInRegulation t) s = .next s' ∧
      s'.power = { s.power with rails := setBit s.power.rails (s.power.step - 1) true, step := s.power.step + 1 } ∧
      s'.outside [.power] = s.outside [.power] ∧ s.sameObjects s' (fun _ => false)) ∧
    (s.power.step = 5 → ∃ s', exec (.internalRelease t) s = .next s' ∧
      s'.power = { s.power with stage := 2, step := 0, internalRelease := true, released := false } ∧
      s'.outside [.power] = s.outside [.power] ∧ s.sameObjects s' (fun _ => false))) ∧
  (∀ (s : State) (t duration straps vbak phase1 : Nat) (torn lost : List (Nat × Nat)),
    (s.power.stage ≠ 2 ∨ s.power.internalRelease = false ∨ s.power.resetLow = true ∨ s.power.refclkLost = true ∨ s.power.released = true) →
    exec (.resetRelease t phase1 duration straps vbak torn lost) s = .next (s.at t)) ∧
  (∀ (s : State) (t duration straps vbak phase1 : Nat) (torn lost : List (Nat × Nat)), s.power.stage = 2 → s.power.internalRelease = true →
    s.power.released = false → s.power.resetLow = false → s.power.refclkLost = false →
    (∃ s', exec (.resetRelease t 0 duration straps vbak torn lost) s = .next s' ∧ s'.power.released = true ∧ s'.power.reachable = false ∧
      s'.power.rfPending = true ∧ s'.dark ∧ s'.fieldless ∧ s'.sessions = [] ∧ s'.txns = [] ∧ s'.belfry.slots = 0 ∧
      s'.nat 0x1102 1 = s.power.cause ∧ s'.nat 0x1102 2 = (s.nat 0x1102 2 + 1) % 2 ^ 32 ∧ s'.nat 0x1102 3 = s.rtcSec ∧
      s'.pins.straps = straps ∧ s'.rtc.total = s.rtc.total ∧ s'.inSafe = !s.pins.safeN ∧
      (torn = [] → ∀ a, a / 4194304 ≤ 1 ∧ 1023 ≤ a / 4096 % 1024 ∨ Memory.read s'.store.mram a = Memory.read s.store.mram a) ∧
      (torn = [] → lost = [] → s.pins.safeN = true → ∀ i c k v, s.store.bootCopy = some (i, c) → NMap.wf c.content = true →
        NMap.get? c.content k = some v → isKept k = true → s.opens c k = true → s'.val k = v)) ∧
    (phase1 ≠ 0 →
      ∃ s', exec (.resetRelease t phase1 duration straps vbak torn lost) s = .next s' ∧ s'.power.released = true ∧
        s'.power.phase1Failed = phase1 ∧ s'.dark ∧ s'.fieldless ∧ s'.sessions = [] ∧
        s'.box.frozen = (if s.box.frozen = 0 then 3 else s.box.frozen) ∧ (∀ u, exec (.dictionaryReachable u) s' = .next (s'.at u)))) ∧
  (∀ (s : State) (t : Nat), s.power.released = true → s.power.reachable = false → s.power.phase1Failed = 0 →
    ∃ s', exec (.dictionaryReachable t) s = .next s' ∧ s'.power.reachable = true ∧ s'.power.reachTick = peak s.now t ∧ s'.power.attempts = 0 ∧
      s'.bootEvents = [] ∧ s'.store.trialStart = peak s.now t ∧
      s'.nat 0x1100 10 = satTo 0xFFFF ((peak s.now t - s.power.releaseTick) * 10 / 122880) ∧
      s'.outside [.power, .store, .links, .shades] = s.outside [.power, .store, .links, .shades] ∧
      s.sameObjects s' (fun i => i == 0x1100 || i == 0x1200 || i == 0x1201)) ∧
  (∀ (s : State) (t : Nat), s.power.reachable = true → s.power.mode = 0 → s.power.phase2Passed = true → s.power.phase2Done = true →
    s.power.charterChecked = true → s.fuses.charterState ≠ 2 → s.inSafe = false → s.power.recovery = false → s.flag 0x1100 2 = false →
    s.power.phase1Failed = 0 → s.power.resetLow = false → s.power.refclkLost = false →
    ∃ s', exec (.rfReady t) s = .next s' ∧ s'.flag 0x1100 2 = true ∧ s'.power.paBias = true ∧ s'.power.rfPending = false ∧
      s'.pins = { s.pins with safeStatN := true } ∧ s'.nat 0x1100 11 = satTo 0xFFFF ((peak s.now t - s.power.releaseTick) / 122880) ∧
      (∃ (m : State) (banks : Nat), s' = m.raise 0x0102 (dU 2 (satTo 0xFFFF ((peak s.now t - s.power.releaseTick) / 122880)) ++ [banks]) m.allJoined) ∧
      s'.outside [.power, .pins] = s.outside [.power, .pins] ∧ s.sameObjects s' (fun i => i == 0x1100)) ∧
  (∀ (s : State) (t source channel hfReady : Nat), s.power.mode = 2 → s.wakes source = true →
    (source ≠ 5 → ∃ s', exec (.wake t source channel hfReady) s = .next s' ∧ s'.power.mode = s.nat 0x1101 2 ∧ s'.nat 0x1100 1 = s.nat 0x1101 2 ∧
      s'.nat 0x1101 4 = source ∧ s'.nat 0x1101 5 = (peak s.now t - s.power.deepSince) / 122880000 ∧
      (∀ n, (s'.timer n).count (peak s.now t) = (s.timer n).count (peak s.now t)) ∧ s'.inSafe = s.inSafe ∧
      s'.belfry.wakeTick = peak s.now t ∧ s'.belfry.lastCapture = none ∧
      s'.outside [.timers, .power, .links, .radio, .belfry] = s.outside [.timers, .power, .links, .radio, .belfry] ∧
      s.sameObjects s' (fun i => i == 0x1100 || i == 0x1101 || i == 0x1900 || i == 0x1200 || i == 0x1201)) ∧
    (source = 5 → s.inSafe = false → ∃ s', exec (.wake t source channel hfReady) s = .next s' ∧ s'.power.mode = s.nat 0x1101 2 ∧
      s'.nat 0x1101 4 = 5 ∧ s.entersSafe s' 0 0xFF ∧ s'.pins.safeN = false ∧
      s'.outside (.timers :: .links :: .belfry :: safeAreas) = s.outside (.timers :: .links :: .belfry :: safeAreas) ∧
      s.sameObjects s' (fun i => airObject i || i == 0x1100 || i == 0x1101 || i == 0x1110 || i == 0x1900 || i == 0x1200 || i == 0x1201))) ∧
  (∀ (s : State) (t due : Nat), s.power.spreadEnd = some due →
    (due ≤ peak s.now t → ∃ s', exec (.spreadRestored t) s = .next s' ∧ s'.power = { s.power with spreadEnd := none } ∧
      s'.flag 0x1104 2 = true ∧ (∃ m : State, s' = m.raise 0x0108 [2] m.allJoined) ∧
      s'.outside [.power] = s.outside [.power] ∧ s.sameObjects s' (fun i => i == 0x1104)) ∧
    (peak s.now t < due → exec (.spreadRestored t) s = .next (s.at t)))

/-- VSYS below 4.5 V, the supervisor and the hard thermal limit begin an orderly power-down from a running module: the logic is held, the
write gate is shut and the rails go down from 3.3 V (R602, R603, R611, R612). A rail that leaves regulation, or is not up in its time,
abandons the order and is recorded (R598, R604). Each step takes a rail off, and the last ends the shutdown with the minimum off time, or,
after three collapses without a reset release, with no further try (R603, R605, R607). VSYS that returns before the end is recorded for
the next boot (R606). RESET_N low and the loss of the reference hold a running module's logic, with the rails left up, until RESET_N
rises and the reference has run again (R608, R610). After a hard thermal shutdown every sensor below 100.0 °C permits a power-up
(R612). A PA supply below 11.0 V raises event 0x0105 at most once a minute, and one outside 11.0–13.0 V holds the rising ramps of its bank
(R105, R106, R596). -/
def Obligations.PowerDownCollapseAndHolds : Prop :=
  (∀ (s : State) (t mv : Nat),
    (s.power.stage = 1 ∨ s.power.stage = 2 → ∃ s', exec (.vsysFall t mv) s = .next s' ∧ s'.held 1 4 ∧ s'.power.stage = 3 ∧ s'.power.step = 3 ∧
      s'.power.vsys = mv ∧ s'.power.vsysHeld = false ∧ s'.power.internalRelease = false ∧ s'.store = { s.store with gateShut := true } ∧
      s'.outside (.store :: heldAreas) = s.outside (.store :: heldAreas) ∧ s.sameObjects s' (fun i => airObject i || i == 0x1102)) ∧
    (s.power.stage ≠ 1 → s.power.stage ≠ 2 → ∃ s', exec (.vsysFall t mv) s = .next s' ∧
      s'.power = { s.power with vsys := mv, vsysHeld := false } ∧ s'.outside [.power] = s.outside [.power] ∧ s.sameObjects s' (fun _ => false))) ∧
  (∀ (s : State) (t rail mv : Nat),
    (s.power.stage ≠ 1 → s.power.stage ≠ 2 → s.power.stage ≠ 3 → exec (.railCollapse t rail mv) s = .next (s.at t)) ∧
    ((s.power.stage ≠ 1 ∨ 4 < s.power.step) → exec (.railTimeout t mv) s = .next (s.at t))) ∧
  (∀ (s : State) (t rail mv : Nat), s.power.stage = 1 ∨ s.power.stage = 2 ∨ s.power.stage = 3 →
    (∃ s', exec (.railCollapse t rail mv) s = .next s' ∧ s'.held 2 5 ∧ s'.power.stage = 5 ∧ s'.power.collapses = s.power.collapses + 1 ∧
      s'.nat 0x1102 5 = 256 * rail + s.power.stage ∧ s'.store = { s.store with gateShut := true } ∧
      s'.outside (.store :: heldAreas) = s.outside (.store :: heldAreas) ∧ s.sameObjects s' (fun i => airObject i || i == 0x1102)) ∧
    (s.power.stage = 1 → s.power.step ≤ 4 → ∃ s', exec (.railTimeout t mv) s = .next s' ∧ s'.held 2 5 ∧ s'.power.stage = 5 ∧
      s'.power.collapses = s.power.collapses + 1 ∧ s'.nat 0x1102 5 = 256 * s.power.step + 1 ∧
      s'.outside (.store :: heldAreas) = s.outside (.store :: heldAreas) ∧ s.sameObjects s' (fun i => airObject i || i == 0x1102))) ∧
  (∀ (s : State) (t : Nat),
    (s.power.stage = 3 → s.power.step ≠ 6 → ∃ s', exec (.powerDownStep t) s = .next s' ∧
      s'.power = { s.power with rails := setBit s.power.rails (6 - s.power.step) false, step := s.power.step + 1 } ∧
      s'.outside [.power] = s.outside [.power] ∧ s.sameObjects s' (fun _ => false)) ∧
    ((s.power.stage ≠ 3 ∧ s.power.stage ≠ 5) → exec (.powerDownStep t) s = .next (s.at t)) ∧
    ((s.power.stage ≠ 3 ∧ s.power.stage ≠ 5) ∨ s.power.returnStep ≠ none → exec (.supplyReturnDuringShutdown t) s = .next (s.at t)) ∧
    (s.power.stage = 3 ∧ s.power.step = 6 ∨ s.power.stage = 5 → ∃ s', exec (.powerDownStep t) s = .next s' ∧
      s'.power.stage = (if 3 ≤ s.power.collapses then 4 else 0) ∧ s'.power.rails = 0 ∧ s'.power.shutdownEnd = peak s.now t ∧
      s'.power.offUntil = peak s.now t + ms 20 ∧ s'.outside [.power] = s.outside [.power] ∧ s.sameObjects s' (fun _ => false)) ∧
    (s.power.stage = 3 ∨ s.power.stage = 5 → s.power.returnStep = none →
      ∃ s', exec (.supplyReturnDuringShutdown t) s = .next s' ∧ s'.power.returnStep = some s.power.step ∧ s'.power.stage = s.power.stage ∧
        s'.bootEvents = s.bootEvents ++ [{ code := 0x010C, detail := [s.power.step] ++ dU 2 s.power.lowestVsys }] ∧
        s'.outside [.power] = s.outside [.power] ∧ s.sameObjects s' (fun _ => false))) ∧
  (∀ (s : State) (t : Nat), s.power.stage = 2 →
    (∃ s', exec (.resetNLow t) s = .next s' ∧ s'.held 3 2 ∧ s'.power.resetLow = true ∧ s'.power.stage = 2 ∧ s'.power.rails = s.power.rails ∧
      s'.outside heldAreas = s.outside heldAreas ∧ s.sameObjects s' (fun i => airObject i || i == 0x1102)) ∧
    (s.power.refclkLost = false → ∃ s', exec (.refclkLost t) s = .next s' ∧ s'.held 4 6 ∧ s'.power.refclkLost = true ∧
      s'.power.refclkLostAt = peak s.now t ∧ s'.power.stage = 2 ∧ s'.flag 0x1104 1 = false ∧ s'.nat 0x1104 5 = (s.nat 0x1104 5 + 1) % 2 ^ 32 ∧
      s'.outside heldAreas = s.outside heldAreas ∧ s.sameObjects s' (fun i => airObject i || i == 0x1102 || i == 0x1104)) ∧
    (s.power.reachable = true → ∃ s', exec (.supervisorTimeout t) s = .next s' ∧ s'.held 6 7 ∧ s'.power.stage = 3 ∧ s'.power.step = 3 ∧
      ({ code := 0x010A, detail := [1] } : BootEvent) ∈ s'.bootEvents ∧
      s'.outside (.store :: heldAreas) = s.outside (.store :: heldAreas) ∧ s.sameObjects s' (fun i => airObject i || i == 0x1102))) ∧
  (∀ (s : State) (t : Nat),
    (s.power.stage ≠ 2 → ∃ s', exec (.resetNLow t) s = .next s' ∧ s'.power = { s.power with resetLow := true } ∧
      s'.outside [.power] = s.outside [.power] ∧ s.sameObjects s' (fun _ => false)) ∧
    (s.power.stage ≠ 2 → s.power.refclkLost = false → ∃ s', exec (.refclkLost t) s = .next s' ∧
      s'.power = { s.power with refclkLost := true, refclkLostAt := peak s.now t } ∧ s'.flag 0x1104 1 = false ∧
      s'.nat 0x1104 5 = (s.nat 0x1104 5 + 1) % 2 ^ 32 ∧ s'.outside [.power] = s.outside [.power] ∧ s.sameObjects s' (fun i => i == 0x1104)) ∧
    (s.power.refclkLost = true → exec (.refclkLost t) s = .next (s.at t)) ∧
    (s.power.refclkLost = false → exec (.refclkReturned t) s = .next (s.at t)) ∧
    (s.power.reachable = false → exec (.supervisorTimeout t) s = .next (s.at t)) ∧
    (∀ sensor (temp : Int), (s.power.stage ≠ 1 ∧ s.power.stage ≠ 2) ∨ temp < 1400 → exec (.hardThermalLimit t sensor temp) s = .next (s.at t)) ∧
    (∀ (a b c die : Int), (s.power.stage ≠ 0 ∨ s.power.thermalOff = false) → exec (.thermalOffReading t a b c die) s = .next (s.at t))) ∧
  (∀ (s : State) (t : Nat), ∃ s', exec (.resetNRise t) s = .next s' ∧ s'.power = { s.power with resetLow := false } ∧
    s'.outside [.power] = s.outside [.power] ∧ s.sameObjects s' (fun _ => false)) ∧
  (∀ (s : State) (t loss : Nat), s.power.refclkLost = true →
    loss = satTo 0xFFFFFFFF ((peak s.now t - s.power.refclkLostAt - ms 10) * 25 / 3072 + 1) →
    ∃ s', exec (.refclkReturned t) s = .next s' ∧ s'.power = { s.power with refclkLost := false, refclkLoss := loss } ∧ s'.flag 0x1104 1 = true ∧
      s'.bootEvents = s.bootEvents ++ [{ code := 0x0109, detail := dU 4 loss }] ∧
      s'.outside [.power] = s.outside [.power] ∧ s.sameObjects s' (fun i => i == 0x1104)) ∧
  (∀ (s : State) (t sensor : Nat) (temp : Int), s.power.stage = 1 ∨ s.power.stage = 2 → 1400 ≤ temp →
    ∃ s', exec (.hardThermalLimit t sensor temp) s = .next s' ∧ s'.held 5 8 ∧ s'.power.stage = 3 ∧ s'.power.thermalOff = true ∧
      s'.power.thermalSensor = sensor ∧ s'.power.thermalTemp = temp ∧
      s'.outside (.store :: heldAreas) = s.outside (.store :: heldAreas) ∧ s.sameObjects s' (fun i => airObject i || i == 0x1102)) ∧
  (∀ (s : State) (t : Nat) (a b c die : Int), s.power.stage = 0 → s.power.thermalOff = true →
    (a < 1000 → b < 1000 → c < 1000 → die < 1000 → ∃ s', exec (.thermalOffReading t a b c die) s = .next s' ∧ s'.power.thermalOff = false ∧
      s'.power.stage = (if s.power.vsysHeld = true ∧ s.power.offUntil ≤ peak s.now t then 1 else 0) ∧
      s'.outside [.power] = s.outside [.power] ∧ s.sameObjects s' (fun i => i == 0x1102)) ∧
    (1000 ≤ a ∨ 1000 ≤ b ∨ 1000 ≤ c ∨ 1000 ≤ die → exec (.thermalOffReading t a b c die) s = .next (s.at t))) ∧
  (∀ (s : State) (t a b c : Nat) (mv : Nat → Nat), s.banks.length = 3 → s.quads.length = 12 →
    mv = (fun i => if i = 0 then a else if i = 1 then b else c) → ∃ s', exec (.vpaOutOfWindow t a b c) s = .next s' ∧
    (∀ x, s'.live x 0x1100 4 = some (.num a) ∧ s'.live x 0x1100 5 = some (.num b) ∧ s'.live x 0x1100 6 = some (.num c)) ∧
    (a < 11000 ∨ b < 11000 ∨ c < 11000 → ∃ m : State, s' = m.raise 0x0105
      ([b01 (a < 11000) + 2 * b01 (b < 11000) + 4 * b01 (c < 11000)] ++ dU 2 (min 65535 (min a (min b c)))) m.allJoined (perMinute 0)) ∧
    (∀ i, i < 3 → (mv i < 11000 ∨ 13000 < mv i) → (s'.bank i).inWindow = false ∧ (s'.bank i).outTick = peak s.now t) ∧
    (∀ q, q < 12 → (s.bank (q / 4)).inWindow = true → (mv (q / 4) < 11000 ∨ 13000 < mv (q / 4)) → (s.tx q).carrier = 1 → (s'.tx q).carrier = 3) ∧
    (∀ q, q < 12 → ((s.bank (q / 4)).inWindow = true ↔ (11000 ≤ mv (q / 4) ∧ mv (q / 4) ≤ 13000)) → s'.quad q = s.quad q) ∧
    s'.outside [.radio] = s.outside [.radio] ∧
    s.sameObjects s' (fun i => i == 0x2060 || (decide (0x2200 ≤ i) && decide (i < 0x220C))))
end

