-- ==== Sys2Proof/Laws/Maps.lean ====
section
/-! SUPPORT. What the plain-data containers do: sparse maps, tables, MRAM bytes. -/

namespace Sys2Proof

/-! ### Sparse maps -/

@[simp] theorem NMap.get?_erase_same {α : Type} (m : NMap α) (k : Nat) : NMap.get? (NMap.erase m k) k = none := by
  induction m with
  | nil => rfl
  | cons e r ih =>
    obtain ⟨a, v⟩ := e
    by_cases h : a = k <;> simp [NMap.erase, NMap.get?, h, ih]

theorem NMap.get?_erase_ne {α : Type} (m : NMap α) {k j : Nat} (h : j ≠ k) :
    NMap.get? (NMap.erase m k) j = NMap.get? m j := by
  induction m with
  | nil => rfl
  | cons e r ih =>
    obtain ⟨a, v⟩ := e
    by_cases h1 : a = k
    · have : a ≠ j := fun h2 => h (h2 ▸ h1)
      simp [NMap.erase, NMap.get?, h1, ih]
      intro h3; exact absurd h3.symm h
    · by_cases h2 : a = j <;> simp [NMap.erase, NMap.get?, h1, h2, ih]
      all_goals (subst h2; simp [NMap.get?, h1])

theorem NMap.get?_ins_same {α : Type} (m : NMap α) (k : Nat) (v : α) (h : NMap.get? m k = none) :
    NMap.get? (NMap.ins m k v) k = some v := by
  induction m with
  | nil => simp [NMap.ins, NMap.get?]
  | cons e r ih =>
    obtain ⟨a, w⟩ := e
    by_cases h1 : k < a
    · simp [NMap.ins, NMap.get?, h1]
    · have h2 : a ≠ k := by
        intro h2; simp [NMap.get?, h2] at h
      have h3 : NMap.get? r k = none := by simpa [NMap.get?, h2] using h
      simp [NMap.ins, NMap.get?, h1, h2, ih h3]

theorem NMap.get?_ins_ne {α : Type} (m : NMap α) {k j : Nat} (v : α) (h : j ≠ k) :
    NMap.get? (NMap.ins m k v) j = NMap.get? m j := by
  induction m with
  | nil => simp [NMap.ins, NMap.get?, h.symm]
  | cons e r ih =>
    obtain ⟨a, w⟩ := e
    by_cases h1 : k < a <;> simp [NMap.ins, NMap.get?, h1, h.symm, ih]

@[simp] theorem NMap.get?_put_same {α : Type} (m : NMap α) (k : Nat) (v : α) : NMap.get? (NMap.put m k v) k = some v :=
  NMap.get?_ins_same _ _ _ (NMap.get?_erase_same m k)

theorem NMap.get?_put_ne {α : Type} (m : NMap α) {k j : Nat} (v : α) (h : j ≠ k) :
    NMap.get? (NMap.put m k v) j = NMap.get? m j := by
  rw [NMap.put, NMap.get?_ins_ne _ _ h, NMap.get?_erase_ne _ h]

theorem NMap.get?_upd {α : Type} (m : NMap α) (k j : Nat) (f : α → α) :
    NMap.get? (NMap.upd m k f) j = if j = k then (NMap.get? m k).map f else NMap.get? m j := by
  induction m with
  | nil => simp [NMap.upd, NMap.get?]
  | cons e r ih =>
    obtain ⟨a, v⟩ := e
    by_cases h1 : a = k
    · by_cases h2 : j = k
      · simp [NMap.upd, NMap.get?, h1, h2]
      · have h3 : a ≠ j := fun h3 => h2 (h3.symm.trans h1)
        have h4 : k ≠ j := fun h4 => h2 h4.symm
        simp [NMap.upd, NMap.get?, h1, h2, h4, ih]
    · by_cases h2 : j = k
      · subst h2; simpa [NMap.upd, NMap.get?, h1] using ih
      · by_cases h3 : a = j <;> simp [NMap.upd, NMap.get?, h1, h2, h3, ih]

theorem NMap.wfFrom_weaken {α : Type} (m : NMap α) {b c : Nat} (h : c ≤ b) (w : NMap.wfFrom b m = true) :
    NMap.wfFrom c m = true := by
  cases m with
  | nil => rfl
  | cons e r =>
    simp [NMap.wfFrom] at w ⊢
    exact ⟨by omega, w.2⟩

theorem NMap.wfFrom_erase {α : Type} (m : NMap α) (k b : Nat) (w : NMap.wfFrom b m = true) :
    NMap.wfFrom b (NMap.erase m k) = true := by
  induction m generalizing b with
  | nil => rfl
  | cons e r ih =>
    simp only [NMap.wfFrom, Bool.and_eq_true, decide_eq_true_eq] at w
    by_cases h : e.1 = k
    · simp only [NMap.erase, h, if_true]
      exact ih b (NMap.wfFrom_weaken r (by omega) w.2)
    · simp only [NMap.erase, h, if_false, NMap.wfFrom, Bool.and_eq_true, decide_eq_true_eq]
      exact ⟨w.1, ih _ w.2⟩

/-- An erased map has no pair at the key. -/
theorem NMap.erase_absent {α : Type} (m : NMap α) (k : Nat) : ∀ e ∈ NMap.erase m k, e.1 ≠ k := by
  induction m with
  | nil => simp [NMap.erase]
  | cons e r ih =>
    by_cases h : e.1 = k
    · simp only [NMap.erase, h, if_true]; exact ih
    · simp only [NMap.erase, h, if_false, List.mem_cons]
      rintro x (rfl | hx)
      · exact h
      · exact ih x hx

theorem NMap.wfFrom_ins {α : Type} (m : NMap α) (k : Nat) (v : α) (b : Nat) (hb : b ≤ k)
    (ha : ∀ e ∈ m, e.1 ≠ k) (w : NMap.wfFrom b m = true) : NMap.wfFrom b (NMap.ins m k v) = true := by
  induction m generalizing b with
  | nil => simp [NMap.ins, NMap.wfFrom, hb]
  | cons e r ih =>
    simp only [NMap.wfFrom, Bool.and_eq_true, decide_eq_true_eq] at w
    by_cases h : k < e.1
    · simp only [NMap.ins, h, if_true, NMap.wfFrom, Bool.and_eq_true, decide_eq_true_eq]
      exact ⟨hb, by omega, w.2⟩
    · have hk : e.1 ≠ k := ha e (by simp)
      simp only [NMap.ins, h, if_false, NMap.wfFrom, Bool.and_eq_true, decide_eq_true_eq]
      exact ⟨w.1, ih (e.1 + 1) (by omega) (fun x hx => ha x (by simp [hx])) w.2⟩

/-- Putting a value keeps the canonical form. -/
theorem NMap.wf_put {α : Type} (m : NMap α) (k : Nat) (v : α) (w : NMap.wf m = true) : NMap.wf (NMap.put m k v) = true :=
  NMap.wfFrom_ins _ k v 0 (Nat.zero_le k) (NMap.erase_absent m k) (NMap.wfFrom_erase m k 0 w)

/-- Erasing a key keeps the canonical form. -/
theorem NMap.wf_erase {α : Type} (m : NMap α) (k : Nat) (w : NMap.wf m = true) : NMap.wf (NMap.erase m k) = true :=
  NMap.wfFrom_erase m k 0 w

/-! ### Tables -/

@[simp] theorem tmod_length {α : Type} (l : List α) (i : Nat) (f : α → α) : (tmod l i f).length = l.length := by
  induction l generalizing i with
  | nil => rfl
  | cons x r ih => cases i <;> simp [tmod, ih]

theorem tget_tmod_same {α : Type} (l : List α) (i : Nat) (f : α → α) (d : α) (h : i < l.length) :
    tget (tmod l i f) i d = f (tget l i d) := by
  induction l generalizing i with
  | nil => simp at h
  | cons x r ih =>
    cases i with
    | zero => simp [tmod, tget]
    | succ i =>
      have := ih i (by simpa using h)
      simpa [tmod, tget] using this

theorem tget_tmod_ne {α : Type} (l : List α) {i j : Nat} (f : α → α) (d : α) (h : j ≠ i) :
    tget (tmod l i f) j d = tget l j d := by
  induction l generalizing i j with
  | nil => rfl
  | cons x r ih =>
    cases i with
    | zero =>
      cases j with
      | zero => exact absurd rfl h
      | succ j => simp [tmod, tget]
    | succ i =>
      cases j with
      | zero => simp [tmod, tget]
      | succ j =>
        have := ih (i := i) (j := j) (by omega)
        simpa [tmod, tget] using this

/-! ### Bytes of MRAM -/

namespace Machine

/-- Reading the byte just written gives it. -/
theorem Memory.read_write_same (m : List Host.Cell) (a : Nat) (b : Byte) : Memory.read (Memory.write m a b) a = b := by
  unfold Memory.write Memory.read
  split
  · simp_all
  · simp

/-- A write leaves every other byte alone. -/
theorem Memory.read_write_ne (m : List Host.Cell) {a c : Nat} (b : Byte) (h : c ≠ a) :
    Memory.read (Memory.write m a b) c = Memory.read m c := by
  unfold Memory.write Memory.read
  split
  · rw [NMap.get?_erase_ne _ h]
  · rw [NMap.get?_put_ne _ _ h]

/-- The pairs of an erased map are pairs of the map. -/
theorem erase_subset {α : Type} (m : NMap α) (k : Nat) : ∀ e ∈ NMap.erase m k, e ∈ m := by
  induction m with
  | nil => simp [NMap.erase]
  | cons e r ih =>
    intro x hx
    by_cases h : e.1 = k
    · simp only [NMap.erase, h, if_true] at hx
      exact List.mem_cons_of_mem _ (ih x hx)
    · simp only [NMap.erase, h, if_false, List.mem_cons] at hx
      rcases hx with rfl | hx
      · simp
      · exact List.mem_cons_of_mem _ (ih x hx)

/-- The pairs of a map after an insertion. -/
theorem ins_mem {α : Type} (m : NMap α) (k : Nat) (v : α) : ∀ e ∈ NMap.ins m k v, e = (k, v) ∨ e ∈ m := by
  induction m with
  | nil => simp [NMap.ins]
  | cons e r ih =>
    intro x hx
    by_cases h : k < e.1
    · simp only [NMap.ins, h, if_true, List.mem_cons] at hx
      rcases hx with rfl | rfl | hx <;> simp_all
    · simp only [NMap.ins, h, if_false, List.mem_cons] at hx
      rcases hx with rfl | hx
      · simp
      · rcases ih x hx with h1 | h1 <;> simp_all

/-- Writing a byte keeps the canonical form of memory. -/
theorem Memory.wf_write (m : List Host.Cell) (a : Nat) (b : Byte) (w : Memory.wf m = true) :
    Memory.wf (Memory.write m a b) = true := by
  simp only [Memory.wf, Bool.and_eq_true, List.all_eq_true, decide_eq_true_eq] at w ⊢
  unfold Memory.write
  split
  · exact ⟨NMap.wf_erase m a w.1, fun x hx => w.2 x (erase_subset m a x hx)⟩
  · rename_i hb
    refine ⟨NMap.wf_put m a b w.1, fun x hx => ?_⟩
    rcases ins_mem _ a b x hx with rfl | h
    · exact hb
    · exact w.2 x (erase_subset m a x h)

/-- Writing a run of bytes keeps the canonical form of memory. -/
theorem Memory.wf_writeAll (l : List Byte) (m : List Host.Cell) (a : Nat) (w : Memory.wf m = true) :
    Memory.wf (Memory.writeAll m a l) = true := by
  induction l generalizing m a with
  | nil => exact w
  | cons b r ih => exact ih _ _ (Memory.wf_write m a b w)

/-- A run of bytes leaves the bytes outside it alone. -/
theorem Memory.read_writeAll_outside (l : List Byte) (m : List Host.Cell) {a c : Nat} (h : c < a ∨ a + l.length ≤ c) :
    Memory.read (Memory.writeAll m a l) c = Memory.read m c := by
  induction l generalizing m a with
  | nil => rfl
  | cons b r ih =>
    simp only [List.length_cons] at h
    simp only [Memory.writeAll]
    rw [ih (m := Memory.write m a b) (a := a + 1) (by omega), Memory.read_write_ne _ _ (by omega)]

/-- A byte inside a run reads as the run has it. -/
theorem Memory.read_writeAll_inside (l : List Byte) (m : List Host.Cell) (a i : Nat) (h : i < l.length) :
    Memory.read (Memory.writeAll m a l) (a + i) = l.getD i 0#8 := by
  induction l generalizing m a i with
  | nil => simp at h
  | cons b r ih =>
    simp only [Memory.writeAll]
    cases i with
    | zero =>
      rw [Memory.read_writeAll_outside r _ (by omega)]
      simpa using Memory.read_write_same m a b
    | succ i =>
      have h2 := ih (Memory.write m a b) (a + 1) i (by simpa using h)
      have h3 : a + (i + 1) = a + 1 + i := by omega
      rw [h3, h2]; simp

end Machine

end Sys2Proof
end

