-- ==== Sys2Proof/Laws/State.lean ====
section
/-! SUPPORT. What each named update of the state leaves and what it writes: one lemma for each field and update. -/

namespace Sys2Proof.Machine

/-! ### `State.set` -/

@[simp] theorem State.set_now (s : State) (i j : Nat) (v : Int) : (s.set i j v).now = s.now := rfl
@[simp] theorem State.set_pending (s : State) (i j : Nat) (v : Int) : (s.set i j v).pending = s.pending := rfl
@[simp] theorem State.set_freeCount (s : State) (i j : Nat) (v : Int) : (s.set i j v).freeCount = s.freeCount := rfl
@[simp] theorem State.set_dict (s : State) (i j : Nat) (v : Int) : (s.set i j v).dict = NMap.put s.dict (key i j) (.num v) := rfl
@[simp] theorem State.set_bootDict (s : State) (i j : Nat) (v : Int) : (s.set i j v).bootDict = s.bootDict := rfl
@[simp] theorem State.set_heldBack (s : State) (i j : Nat) (v : Int) : (s.set i j v).heldBack = s.heldBack := rfl
@[simp] theorem State.set_dwellLowered (s : State) (i j : Nat) (v : Int) : (s.set i j v).dwellLowered = s.dwellLowered := rfl
@[simp] theorem State.set_changes (s : State) (i j : Nat) (v : Int) : (s.set i j v).changes = s.changes := rfl
@[simp] theorem State.set_delivered (s : State) (i j : Nat) (v : Int) : (s.set i j v).delivered = s.delivered := rfl
@[simp] theorem State.set_fuses (s : State) (i j : Nat) (v : Int) : (s.set i j v).fuses = s.fuses := rfl
@[simp] theorem State.set_shades (s : State) (i j : Nat) (v : Int) : (s.set i j v).shades = s.shades := rfl
@[simp] theorem State.set_sessions (s : State) (i j : Nat) (v : Int) : (s.set i j v).sessions = s.sessions := rfl
@[simp] theorem State.set_txns (s : State) (i j : Nat) (v : Int) : (s.set i j v).txns = s.txns := rfl
@[simp] theorem State.set_lateStores (s : State) (i j : Nat) (v : Int) : (s.set i j v).lateStores = s.lateStores := rfl
@[simp] theorem State.set_txnStats (s : State) (i j : Nat) (v : Int) : (s.set i j v).txnStats = s.txnStats := rfl
@[simp] theorem State.set_quietDue (s : State) (i j : Nat) (v : Int) : (s.set i j v).quietDue = s.quietDue := rfl
@[simp] theorem State.set_nextTxn (s : State) (i j : Nat) (v : Int) : (s.set i j v).nextTxn = s.nextTxn := rfl
@[simp] theorem State.set_nextOrder (s : State) (i j : Nat) (v : Int) : (s.set i j v).nextOrder = s.nextOrder := rfl
@[simp] theorem State.set_txq (s : State) (i j : Nat) (v : Int) : (s.set i j v).txq = s.txq := rfl
@[simp] theorem State.set_waitingReplies (s : State) (i j : Nat) (v : Int) : (s.set i j v).waitingReplies = s.waitingReplies := rfl
@[simp] theorem State.set_unknownErrors (s : State) (i j : Nat) (v : Int) : (s.set i j v).unknownErrors = s.unknownErrors := rfl
@[simp] theorem State.set_lines (s : State) (i j : Nat) (v : Int) : (s.set i j v).lines = s.lines := rfl
@[simp] theorem State.set_heldLines (s : State) (i j : Nat) (v : Int) : (s.set i j v).heldLines = s.heldLines := rfl
@[simp] theorem State.set_challenges (s : State) (i j : Nat) (v : Int) : (s.set i j v).challenges = s.challenges := rfl
@[simp] theorem State.set_freeLines (s : State) (i j : Nat) (v : Int) : (s.set i j v).freeLines = s.freeLines := rfl
@[simp] theorem State.set_nextLine (s : State) (i j : Nat) (v : Int) : (s.set i j v).nextLine = s.nextLine := rfl
@[simp] theorem State.set_bootNonce (s : State) (i j : Nat) (v : Int) : (s.set i j v).bootNonce = s.bootNonce := rfl
@[simp] theorem State.set_moduleKey (s : State) (i j : Nat) (v : Int) : (s.set i j v).moduleKey = s.moduleKey := rfl
@[simp] theorem State.set_trngKind (s : State) (i j : Nat) (v : Int) : (s.set i j v).trngKind = s.trngKind := rfl
@[simp] theorem State.set_trngTick (s : State) (i j : Nat) (v : Int) : (s.set i j v).trngTick = s.trngTick := rfl
@[simp] theorem State.set_eth (s : State) (i j : Nat) (v : Int) : (s.set i j v).eth = s.eth := rfl
@[simp] theorem State.set_spire (s : State) (i j : Nat) (v : Int) : (s.set i j v).spire = s.spire := rfl
@[simp] theorem State.set_power (s : State) (i j : Nat) (v : Int) : (s.set i j v).power = s.power := rfl
@[simp] theorem State.set_pins (s : State) (i j : Nat) (v : Int) : (s.set i j v).pins = s.pins := rfl
@[simp] theorem State.set_safe (s : State) (i j : Nat) (v : Int) : (s.set i j v).safe = s.safe := rfl
@[simp] theorem State.set_box (s : State) (i j : Nat) (v : Int) : (s.set i j v).box = s.box := rfl
@[simp] theorem State.set_counters (s : State) (i j : Nat) (v : Int) : (s.set i j v).counters = s.counters := rfl
@[simp] theorem State.set_lantern (s : State) (i j : Nat) (v : Int) : (s.set i j v).lantern = s.lantern := rfl
@[simp] theorem State.set_sweep (s : State) (i j : Nat) (v : Int) : (s.set i j v).sweep = s.sweep := rfl
@[simp] theorem State.set_store (s : State) (i j : Nat) (v : Int) : (s.set i j v).store = s.store := rfl
@[simp] theorem State.set_rtc (s : State) (i j : Nat) (v : Int) : (s.set i j v).rtc = s.rtc := rfl
@[simp] theorem State.set_belfry (s : State) (i j : Nat) (v : Int) : (s.set i j v).belfry = s.belfry := rfl
@[simp] theorem State.set_bootEvents (s : State) (i j : Nat) (v : Int) : (s.set i j v).bootEvents = s.bootEvents := rfl
@[simp] theorem State.set_banks (s : State) (i j : Nat) (v : Int) : (s.set i j v).banks = s.banks := rfl
@[simp] theorem State.set_quads (s : State) (i j : Nat) (v : Int) : (s.set i j v).quads = s.quads := rfl
@[simp] theorem State.set_ports (s : State) (i j : Nat) (v : Int) : (s.set i j v).ports = s.ports := rfl
@[simp] theorem State.set_rounds (s : State) (i j : Nat) (v : Int) : (s.set i j v).rounds = s.rounds := rfl
@[simp] theorem State.set_plans (s : State) (i j : Nat) (v : Int) : (s.set i j v).plans = s.plans := rfl
@[simp] theorem State.set_tags (s : State) (i j : Nat) (v : Int) : (s.set i j v).tags = s.tags := rfl
@[simp] theorem State.set_coex (s : State) (i j : Nat) (v : Int) : (s.set i j v).coex = s.coex := rfl
@[simp] theorem State.set_hsbErrors (s : State) (i j : Nat) (v : Int) : (s.set i j v).hsbErrors = s.hsbErrors := rfl
@[simp] theorem State.set_ldpc (s : State) (i j : Nat) (v : Int) : (s.set i j v).ldpc = s.ldpc := rfl
@[simp] theorem State.set_ldpcQueue (s : State) (i j : Nat) (v : Int) : (s.set i j v).ldpcQueue = s.ldpcQueue := rfl
@[simp] theorem State.set_ldpcCores (s : State) (i j : Nat) (v : Int) : (s.set i j v).ldpcCores = s.ldpcCores := rfl
@[simp] theorem State.set_timers (s : State) (i j : Nat) (v : Int) : (s.set i j v).timers = s.timers := rfl
@[simp] theorem State.set_hfPorts (s : State) (i j : Nat) (v : Int) : (s.set i j v).hfPorts = s.hfPorts := rfl
@[simp] theorem State.set_hfTx (s : State) (i j : Nat) (v : Int) : (s.set i j v).hfTx = s.hfTx := rfl
@[simp] theorem State.set_caps (s : State) (i j : Nat) (v : Int) : (s.set i j v).caps = s.caps := rfl
@[simp] theorem State.set_meters (s : State) (i j : Nat) (v : Int) : (s.set i j v).meters = s.meters := rfl
@[simp] theorem State.set_savedMeters (s : State) (i j : Nat) (v : Int) : (s.set i j v).savedMeters = s.savedMeters := rfl
@[simp] theorem State.set_olderMeters (s : State) (i j : Nat) (v : Int) : (s.set i j v).olderMeters = s.olderMeters := rfl
@[simp] theorem State.set_newerControl (s : State) (i j : Nat) (v : Int) : (s.set i j v).newerControl = s.newerControl := rfl
@[simp] theorem State.set_classes (s : State) (i j : Nat) (v : Int) : (s.set i j v).classes = s.classes := rfl
@[simp] theorem State.set_journals (s : State) (i j : Nat) (v : Int) : (s.set i j v).journals = s.journals := rfl
@[simp] theorem State.set_groups (s : State) (i j : Nat) (v : Int) : (s.set i j v).groups = s.groups := rfl
@[simp] theorem State.set_served (s : State) (i j : Nat) (v : Int) : (s.set i j v).served = s.served := rfl
@[simp] theorem State.set_unregistered (s : State) (i j : Nat) (v : Int) : (s.set i j v).unregistered = s.unregistered := rfl
@[simp] theorem State.set_sealed (s : State) (i j : Nat) (v : Int) : (s.set i j v).sealed = s.sealed := rfl
@[simp] theorem State.set_unresolved (s : State) (i j : Nat) (v : Int) : (s.set i j v).unresolved = s.unresolved := rfl

/-! ### `State.setBytes` -/

@[simp] theorem State.setBytes_now (s : State) (i j : Nat) (v : List Byte) : (s.setBytes i j v).now = s.now := rfl
@[simp] theorem State.setBytes_pending (s : State) (i j : Nat) (v : List Byte) : (s.setBytes i j v).pending = s.pending := rfl
@[simp] theorem State.setBytes_freeCount (s : State) (i j : Nat) (v : List Byte) : (s.setBytes i j v).freeCount = s.freeCount := rfl
@[simp] theorem State.setBytes_dict (s : State) (i j : Nat) (v : List Byte) : (s.setBytes i j v).dict = NMap.put s.dict (key i j) (.oct v) := rfl
@[simp] theorem State.setBytes_bootDict (s : State) (i j : Nat) (v : List Byte) : (s.setBytes i j v).bootDict = s.bootDict := rfl
@[simp] theorem State.setBytes_heldBack (s : State) (i j : Nat) (v : List Byte) : (s.setBytes i j v).heldBack = s.heldBack := rfl
@[simp] theorem State.setBytes_dwellLowered (s : State) (i j : Nat) (v : List Byte) : (s.setBytes i j v).dwellLowered = s.dwellLowered := rfl
@[simp] theorem State.setBytes_changes (s : State) (i j : Nat) (v : List Byte) : (s.setBytes i j v).changes = s.changes := rfl
@[simp] theorem State.setBytes_delivered (s : State) (i j : Nat) (v : List Byte) : (s.setBytes i j v).delivered = s.delivered := rfl
@[simp] theorem State.setBytes_fuses (s : State) (i j : Nat) (v : List Byte) : (s.setBytes i j v).fuses = s.fuses := rfl
@[simp] theorem State.setBytes_shades (s : State) (i j : Nat) (v : List Byte) : (s.setBytes i j v).shades = s.shades := rfl
@[simp] theorem State.setBytes_sessions (s : State) (i j : Nat) (v : List Byte) : (s.setBytes i j v).sessions = s.sessions := rfl
@[simp] theorem State.setBytes_txns (s : State) (i j : Nat) (v : List Byte) : (s.setBytes i j v).txns = s.txns := rfl
@[simp] theorem State.setBytes_lateStores (s : State) (i j : Nat) (v : List Byte) : (s.setBytes i j v).lateStores = s.lateStores := rfl
@[simp] theorem State.setBytes_txnStats (s : State) (i j : Nat) (v : List Byte) : (s.setBytes i j v).txnStats = s.txnStats := rfl
@[simp] theorem State.setBytes_quietDue (s : State) (i j : Nat) (v : List Byte) : (s.setBytes i j v).quietDue = s.quietDue := rfl
@[simp] theorem State.setBytes_nextTxn (s : State) (i j : Nat) (v : List Byte) : (s.setBytes i j v).nextTxn = s.nextTxn := rfl
@[simp] theorem State.setBytes_nextOrder (s : State) (i j : Nat) (v : List Byte) : (s.setBytes i j v).nextOrder = s.nextOrder := rfl
@[simp] theorem State.setBytes_txq (s : State) (i j : Nat) (v : List Byte) : (s.setBytes i j v).txq = s.txq := rfl
@[simp] theorem State.setBytes_waitingReplies (s : State) (i j : Nat) (v : List Byte) : (s.setBytes i j v).waitingReplies = s.waitingReplies := rfl
@[simp] theorem State.setBytes_unknownErrors (s : State) (i j : Nat) (v : List Byte) : (s.setBytes i j v).unknownErrors = s.unknownErrors := rfl
@[simp] theorem State.setBytes_lines (s : State) (i j : Nat) (v : List Byte) : (s.setBytes i j v).lines = s.lines := rfl
@[simp] theorem State.setBytes_heldLines (s : State) (i j : Nat) (v : List Byte) : (s.setBytes i j v).heldLines = s.heldLines := rfl
@[simp] theorem State.setBytes_challenges (s : State) (i j : Nat) (v : List Byte) : (s.setBytes i j v).challenges = s.challenges := rfl
@[simp] theorem State.setBytes_freeLines (s : State) (i j : Nat) (v : List Byte) : (s.setBytes i j v).freeLines = s.freeLines := rfl
@[simp] theorem State.setBytes_nextLine (s : State) (i j : Nat) (v : List Byte) : (s.setBytes i j v).nextLine = s.nextLine := rfl
@[simp] theorem State.setBytes_bootNonce (s : State) (i j : Nat) (v : List Byte) : (s.setBytes i j v).bootNonce = s.bootNonce := rfl
@[simp] theorem State.setBytes_moduleKey (s : State) (i j : Nat) (v : List Byte) : (s.setBytes i j v).moduleKey = s.moduleKey := rfl
@[simp] theorem State.setBytes_trngKind (s : State) (i j : Nat) (v : List Byte) : (s.setBytes i j v).trngKind = s.trngKind := rfl
@[simp] theorem State.setBytes_trngTick (s : State) (i j : Nat) (v : List Byte) : (s.setBytes i j v).trngTick = s.trngTick := rfl
@[simp] theorem State.setBytes_eth (s : State) (i j : Nat) (v : List Byte) : (s.setBytes i j v).eth = s.eth := rfl
@[simp] theorem State.setBytes_spire (s : State) (i j : Nat) (v : List Byte) : (s.setBytes i j v).spire = s.spire := rfl
@[simp] theorem State.setBytes_power (s : State) (i j : Nat) (v : List Byte) : (s.setBytes i j v).power = s.power := rfl
@[simp] theorem State.setBytes_pins (s : State) (i j : Nat) (v : List Byte) : (s.setBytes i j v).pins = s.pins := rfl
@[simp] theorem State.setBytes_safe (s : State) (i j : Nat) (v : List Byte) : (s.setBytes i j v).safe = s.safe := rfl
@[simp] theorem State.setBytes_box (s : State) (i j : Nat) (v : List Byte) : (s.setBytes i j v).box = s.box := rfl
@[simp] theorem State.setBytes_counters (s : State) (i j : Nat) (v : List Byte) : (s.setBytes i j v).counters = s.counters := rfl
@[simp] theorem State.setBytes_lantern (s : State) (i j : Nat) (v : List Byte) : (s.setBytes i j v).lantern = s.lantern := rfl
@[simp] theorem State.setBytes_sweep (s : State) (i j : Nat) (v : List Byte) : (s.setBytes i j v).sweep = s.sweep := rfl
@[simp] theorem State.setBytes_store (s : State) (i j : Nat) (v : List Byte) : (s.setBytes i j v).store = s.store := rfl
@[simp] theorem State.setBytes_rtc (s : State) (i j : Nat) (v : List Byte) : (s.setBytes i j v).rtc = s.rtc := rfl
@[simp] theorem State.setBytes_belfry (s : State) (i j : Nat) (v : List Byte) : (s.setBytes i j v).belfry = s.belfry := rfl
@[simp] theorem State.setBytes_bootEvents (s : State) (i j : Nat) (v : List Byte) : (s.setBytes i j v).bootEvents = s.bootEvents := rfl
@[simp] theorem State.setBytes_banks (s : State) (i j : Nat) (v : List Byte) : (s.setBytes i j v).banks = s.banks := rfl
@[simp] theorem State.setBytes_quads (s : State) (i j : Nat) (v : List Byte) : (s.setBytes i j v).quads = s.quads := rfl
@[simp] theorem State.setBytes_ports (s : State) (i j : Nat) (v : List Byte) : (s.setBytes i j v).ports = s.ports := rfl
@[simp] theorem State.setBytes_rounds (s : State) (i j : Nat) (v : List Byte) : (s.setBytes i j v).rounds = s.rounds := rfl
@[simp] theorem State.setBytes_plans (s : State) (i j : Nat) (v : List Byte) : (s.setBytes i j v).plans = s.plans := rfl
@[simp] theorem State.setBytes_tags (s : State) (i j : Nat) (v : List Byte) : (s.setBytes i j v).tags = s.tags := rfl
@[simp] theorem State.setBytes_coex (s : State) (i j : Nat) (v : List Byte) : (s.setBytes i j v).coex = s.coex := rfl
@[simp] theorem State.setBytes_hsbErrors (s : State) (i j : Nat) (v : List Byte) : (s.setBytes i j v).hsbErrors = s.hsbErrors := rfl
@[simp] theorem State.setBytes_ldpc (s : State) (i j : Nat) (v : List Byte) : (s.setBytes i j v).ldpc = s.ldpc := rfl
@[simp] theorem State.setBytes_ldpcQueue (s : State) (i j : Nat) (v : List Byte) : (s.setBytes i j v).ldpcQueue = s.ldpcQueue := rfl
@[simp] theorem State.setBytes_ldpcCores (s : State) (i j : Nat) (v : List Byte) : (s.setBytes i j v).ldpcCores = s.ldpcCores := rfl
@[simp] theorem State.setBytes_timers (s : State) (i j : Nat) (v : List Byte) : (s.setBytes i j v).timers = s.timers := rfl
@[simp] theorem State.setBytes_hfPorts (s : State) (i j : Nat) (v : List Byte) : (s.setBytes i j v).hfPorts = s.hfPorts := rfl
@[simp] theorem State.setBytes_hfTx (s : State) (i j : Nat) (v : List Byte) : (s.setBytes i j v).hfTx = s.hfTx := rfl
@[simp] theorem State.setBytes_caps (s : State) (i j : Nat) (v : List Byte) : (s.setBytes i j v).caps = s.caps := rfl
@[simp] theorem State.setBytes_meters (s : State) (i j : Nat) (v : List Byte) : (s.setBytes i j v).meters = s.meters := rfl
@[simp] theorem State.setBytes_savedMeters (s : State) (i j : Nat) (v : List Byte) : (s.setBytes i j v).savedMeters = s.savedMeters := rfl
@[simp] theorem State.setBytes_olderMeters (s : State) (i j : Nat) (v : List Byte) : (s.setBytes i j v).olderMeters = s.olderMeters := rfl
@[simp] theorem State.setBytes_newerControl (s : State) (i j : Nat) (v : List Byte) : (s.setBytes i j v).newerControl = s.newerControl := rfl
@[simp] theorem State.setBytes_classes (s : State) (i j : Nat) (v : List Byte) : (s.setBytes i j v).classes = s.classes := rfl
@[simp] theorem State.setBytes_journals (s : State) (i j : Nat) (v : List Byte) : (s.setBytes i j v).journals = s.journals := rfl
@[simp] theorem State.setBytes_groups (s : State) (i j : Nat) (v : List Byte) : (s.setBytes i j v).groups = s.groups := rfl
@[simp] theorem State.setBytes_served (s : State) (i j : Nat) (v : List Byte) : (s.setBytes i j v).served = s.served := rfl
@[simp] theorem State.setBytes_unregistered (s : State) (i j : Nat) (v : List Byte) : (s.setBytes i j v).unregistered = s.unregistered := rfl
@[simp] theorem State.setBytes_sealed (s : State) (i j : Nat) (v : List Byte) : (s.setBytes i j v).sealed = s.sealed := rfl
@[simp] theorem State.setBytes_unresolved (s : State) (i j : Nat) (v : List Byte) : (s.setBytes i j v).unresolved = s.unresolved := rfl

/-! ### `State.setFlag` -/

@[simp] theorem State.setFlag_now (s : State) (i j : Nat) (v : Bool) : (s.setFlag i j v).now = s.now := rfl
@[simp] theorem State.setFlag_pending (s : State) (i j : Nat) (v : Bool) : (s.setFlag i j v).pending = s.pending := rfl
@[simp] theorem State.setFlag_freeCount (s : State) (i j : Nat) (v : Bool) : (s.setFlag i j v).freeCount = s.freeCount := rfl
@[simp] theorem State.setFlag_dict (s : State) (i j : Nat) (v : Bool) : (s.setFlag i j v).dict = NMap.put s.dict (key i j) (.num (b01 v)) := rfl
@[simp] theorem State.setFlag_bootDict (s : State) (i j : Nat) (v : Bool) : (s.setFlag i j v).bootDict = s.bootDict := rfl
@[simp] theorem State.setFlag_heldBack (s : State) (i j : Nat) (v : Bool) : (s.setFlag i j v).heldBack = s.heldBack := rfl
@[simp] theorem State.setFlag_dwellLowered (s : State) (i j : Nat) (v : Bool) : (s.setFlag i j v).dwellLowered = s.dwellLowered := rfl
@[simp] theorem State.setFlag_changes (s : State) (i j : Nat) (v : Bool) : (s.setFlag i j v).changes = s.changes := rfl
@[simp] theorem State.setFlag_delivered (s : State) (i j : Nat) (v : Bool) : (s.setFlag i j v).delivered = s.delivered := rfl
@[simp] theorem State.setFlag_fuses (s : State) (i j : Nat) (v : Bool) : (s.setFlag i j v).fuses = s.fuses := rfl
@[simp] theorem State.setFlag_shades (s : State) (i j : Nat) (v : Bool) : (s.setFlag i j v).shades = s.shades := rfl
@[simp] theorem State.setFlag_sessions (s : State) (i j : Nat) (v : Bool) : (s.setFlag i j v).sessions = s.sessions := rfl
@[simp] theorem State.setFlag_txns (s : State) (i j : Nat) (v : Bool) : (s.setFlag i j v).txns = s.txns := rfl
@[simp] theorem State.setFlag_lateStores (s : State) (i j : Nat) (v : Bool) : (s.setFlag i j v).lateStores = s.lateStores := rfl
@[simp] theorem State.setFlag_txnStats (s : State) (i j : Nat) (v : Bool) : (s.setFlag i j v).txnStats = s.txnStats := rfl
@[simp] theorem State.setFlag_quietDue (s : State) (i j : Nat) (v : Bool) : (s.setFlag i j v).quietDue = s.quietDue := rfl
@[simp] theorem State.setFlag_nextTxn (s : State) (i j : Nat) (v : Bool) : (s.setFlag i j v).nextTxn = s.nextTxn := rfl
@[simp] theorem State.setFlag_nextOrder (s : State) (i j : Nat) (v : Bool) : (s.setFlag i j v).nextOrder = s.nextOrder := rfl
@[simp] theorem State.setFlag_txq (s : State) (i j : Nat) (v : Bool) : (s.setFlag i j v).txq = s.txq := rfl
@[simp] theorem State.setFlag_waitingReplies (s : State) (i j : Nat) (v : Bool) : (s.setFlag i j v).waitingReplies = s.waitingReplies := rfl
@[simp] theorem State.setFlag_unknownErrors (s : State) (i j : Nat) (v : Bool) : (s.setFlag i j v).unknownErrors = s.unknownErrors := rfl
@[simp] theorem State.setFlag_lines (s : State) (i j : Nat) (v : Bool) : (s.setFlag i j v).lines = s.lines := rfl
@[simp] theorem State.setFlag_heldLines (s : State) (i j : Nat) (v : Bool) : (s.setFlag i j v).heldLines = s.heldLines := rfl
@[simp] theorem State.setFlag_challenges (s : State) (i j : Nat) (v : Bool) : (s.setFlag i j v).challenges = s.challenges := rfl
@[simp] theorem State.setFlag_freeLines (s : State) (i j : Nat) (v : Bool) : (s.setFlag i j v).freeLines = s.freeLines := rfl
@[simp] theorem State.setFlag_nextLine (s : State) (i j : Nat) (v : Bool) : (s.setFlag i j v).nextLine = s.nextLine := rfl
@[simp] theorem State.setFlag_bootNonce (s : State) (i j : Nat) (v : Bool) : (s.setFlag i j v).bootNonce = s.bootNonce := rfl
@[simp] theorem State.setFlag_moduleKey (s : State) (i j : Nat) (v : Bool) : (s.setFlag i j v).moduleKey = s.moduleKey := rfl
@[simp] theorem State.setFlag_trngKind (s : State) (i j : Nat) (v : Bool) : (s.setFlag i j v).trngKind = s.trngKind := rfl
@[simp] theorem State.setFlag_trngTick (s : State) (i j : Nat) (v : Bool) : (s.setFlag i j v).trngTick = s.trngTick := rfl
@[simp] theorem State.setFlag_eth (s : State) (i j : Nat) (v : Bool) : (s.setFlag i j v).eth = s.eth := rfl
@[simp] theorem State.setFlag_spire (s : State) (i j : Nat) (v : Bool) : (s.setFlag i j v).spire = s.spire := rfl
@[simp] theorem State.setFlag_power (s : State) (i j : Nat) (v : Bool) : (s.setFlag i j v).power = s.power := rfl
@[simp] theorem State.setFlag_pins (s : State) (i j : Nat) (v : Bool) : (s.setFlag i j v).pins = s.pins := rfl
@[simp] theorem State.setFlag_safe (s : State) (i j : Nat) (v : Bool) : (s.setFlag i j v).safe = s.safe := rfl
@[simp] theorem State.setFlag_box (s : State) (i j : Nat) (v : Bool) : (s.setFlag i j v).box = s.box := rfl
@[simp] theorem State.setFlag_counters (s : State) (i j : Nat) (v : Bool) : (s.setFlag i j v).counters = s.counters := rfl
@[simp] theorem State.setFlag_lantern (s : State) (i j : Nat) (v : Bool) : (s.setFlag i j v).lantern = s.lantern := rfl
@[simp] theorem State.setFlag_sweep (s : State) (i j : Nat) (v : Bool) : (s.setFlag i j v).sweep = s.sweep := rfl
@[simp] theorem State.setFlag_store (s : State) (i j : Nat) (v : Bool) : (s.setFlag i j v).store = s.store := rfl
@[simp] theorem State.setFlag_rtc (s : State) (i j : Nat) (v : Bool) : (s.setFlag i j v).rtc = s.rtc := rfl
@[simp] theorem State.setFlag_belfry (s : State) (i j : Nat) (v : Bool) : (s.setFlag i j v).belfry = s.belfry := rfl
@[simp] theorem State.setFlag_bootEvents (s : State) (i j : Nat) (v : Bool) : (s.setFlag i j v).bootEvents = s.bootEvents := rfl
@[simp] theorem State.setFlag_banks (s : State) (i j : Nat) (v : Bool) : (s.setFlag i j v).banks = s.banks := rfl
@[simp] theorem State.setFlag_quads (s : State) (i j : Nat) (v : Bool) : (s.setFlag i j v).quads = s.quads := rfl
@[simp] theorem State.setFlag_ports (s : State) (i j : Nat) (v : Bool) : (s.setFlag i j v).ports = s.ports := rfl
@[simp] theorem State.setFlag_rounds (s : State) (i j : Nat) (v : Bool) : (s.setFlag i j v).rounds = s.rounds := rfl
@[simp] theorem State.setFlag_plans (s : State) (i j : Nat) (v : Bool) : (s.setFlag i j v).plans = s.plans := rfl
@[simp] theorem State.setFlag_tags (s : State) (i j : Nat) (v : Bool) : (s.setFlag i j v).tags = s.tags := rfl
@[simp] theorem State.setFlag_coex (s : State) (i j : Nat) (v : Bool) : (s.setFlag i j v).coex = s.coex := rfl
@[simp] theorem State.setFlag_hsbErrors (s : State) (i j : Nat) (v : Bool) : (s.setFlag i j v).hsbErrors = s.hsbErrors := rfl
@[simp] theorem State.setFlag_ldpc (s : State) (i j : Nat) (v : Bool) : (s.setFlag i j v).ldpc = s.ldpc := rfl
@[simp] theorem State.setFlag_ldpcQueue (s : State) (i j : Nat) (v : Bool) : (s.setFlag i j v).ldpcQueue = s.ldpcQueue := rfl
@[simp] theorem State.setFlag_ldpcCores (s : State) (i j : Nat) (v : Bool) : (s.setFlag i j v).ldpcCores = s.ldpcCores := rfl
@[simp] theorem State.setFlag_timers (s : State) (i j : Nat) (v : Bool) : (s.setFlag i j v).timers = s.timers := rfl
@[simp] theorem State.setFlag_hfPorts (s : State) (i j : Nat) (v : Bool) : (s.setFlag i j v).hfPorts = s.hfPorts := rfl
@[simp] theorem State.setFlag_hfTx (s : State) (i j : Nat) (v : Bool) : (s.setFlag i j v).hfTx = s.hfTx := rfl
@[simp] theorem State.setFlag_caps (s : State) (i j : Nat) (v : Bool) : (s.setFlag i j v).caps = s.caps := rfl
@[simp] theorem State.setFlag_meters (s : State) (i j : Nat) (v : Bool) : (s.setFlag i j v).meters = s.meters := rfl
@[simp] theorem State.setFlag_savedMeters (s : State) (i j : Nat) (v : Bool) : (s.setFlag i j v).savedMeters = s.savedMeters := rfl
@[simp] theorem State.setFlag_olderMeters (s : State) (i j : Nat) (v : Bool) : (s.setFlag i j v).olderMeters = s.olderMeters := rfl
@[simp] theorem State.setFlag_newerControl (s : State) (i j : Nat) (v : Bool) : (s.setFlag i j v).newerControl = s.newerControl := rfl
@[simp] theorem State.setFlag_classes (s : State) (i j : Nat) (v : Bool) : (s.setFlag i j v).classes = s.classes := rfl
@[simp] theorem State.setFlag_journals (s : State) (i j : Nat) (v : Bool) : (s.setFlag i j v).journals = s.journals := rfl
@[simp] theorem State.setFlag_groups (s : State) (i j : Nat) (v : Bool) : (s.setFlag i j v).groups = s.groups := rfl
@[simp] theorem State.setFlag_served (s : State) (i j : Nat) (v : Bool) : (s.setFlag i j v).served = s.served := rfl
@[simp] theorem State.setFlag_unregistered (s : State) (i j : Nat) (v : Bool) : (s.setFlag i j v).unregistered = s.unregistered := rfl
@[simp] theorem State.setFlag_sealed (s : State) (i j : Nat) (v : Bool) : (s.setFlag i j v).sealed = s.sealed := rfl
@[simp] theorem State.setFlag_unresolved (s : State) (i j : Nat) (v : Bool) : (s.setFlag i j v).unresolved = s.unresolved := rfl

/-! ### `State.addTo` -/

@[simp] theorem State.addTo_now (s : State) (i j n : Nat) : (s.addTo i j n).now = s.now := rfl
@[simp] theorem State.addTo_pending (s : State) (i j n : Nat) : (s.addTo i j n).pending = s.pending := rfl
@[simp] theorem State.addTo_freeCount (s : State) (i j n : Nat) : (s.addTo i j n).freeCount = s.freeCount := rfl
@[simp] theorem State.addTo_dict (s : State) (i j n : Nat) : (s.addTo i j n).dict = NMap.put s.dict (key i j) (.num ((s.nat i j + n) % 2 ^ 32 : Nat)) := rfl
@[simp] theorem State.addTo_bootDict (s : State) (i j n : Nat) : (s.addTo i j n).bootDict = s.bootDict := rfl
@[simp] theorem State.addTo_heldBack (s : State) (i j n : Nat) : (s.addTo i j n).heldBack = s.heldBack := rfl
@[simp] theorem State.addTo_dwellLowered (s : State) (i j n : Nat) : (s.addTo i j n).dwellLowered = s.dwellLowered := rfl
@[simp] theorem State.addTo_changes (s : State) (i j n : Nat) : (s.addTo i j n).changes = s.changes := rfl
@[simp] theorem State.addTo_delivered (s : State) (i j n : Nat) : (s.addTo i j n).delivered = s.delivered := rfl
@[simp] theorem State.addTo_fuses (s : State) (i j n : Nat) : (s.addTo i j n).fuses = s.fuses := rfl
@[simp] theorem State.addTo_shades (s : State) (i j n : Nat) : (s.addTo i j n).shades = s.shades := rfl
@[simp] theorem State.addTo_sessions (s : State) (i j n : Nat) : (s.addTo i j n).sessions = s.sessions := rfl
@[simp] theorem State.addTo_txns (s : State) (i j n : Nat) : (s.addTo i j n).txns = s.txns := rfl
@[simp] theorem State.addTo_lateStores (s : State) (i j n : Nat) : (s.addTo i j n).lateStores = s.lateStores := rfl
@[simp] theorem State.addTo_txnStats (s : State) (i j n : Nat) : (s.addTo i j n).txnStats = s.txnStats := rfl
@[simp] theorem State.addTo_quietDue (s : State) (i j n : Nat) : (s.addTo i j n).quietDue = s.quietDue := rfl
@[simp] theorem State.addTo_nextTxn (s : State) (i j n : Nat) : (s.addTo i j n).nextTxn = s.nextTxn := rfl
@[simp] theorem State.addTo_nextOrder (s : State) (i j n : Nat) : (s.addTo i j n).nextOrder = s.nextOrder := rfl
@[simp] theorem State.addTo_txq (s : State) (i j n : Nat) : (s.addTo i j n).txq = s.txq := rfl
@[simp] theorem State.addTo_waitingReplies (s : State) (i j n : Nat) : (s.addTo i j n).waitingReplies = s.waitingReplies := rfl
@[simp] theorem State.addTo_unknownErrors (s : State) (i j n : Nat) : (s.addTo i j n).unknownErrors = s.unknownErrors := rfl
@[simp] theorem State.addTo_lines (s : State) (i j n : Nat) : (s.addTo i j n).lines = s.lines := rfl
@[simp] theorem State.addTo_heldLines (s : State) (i j n : Nat) : (s.addTo i j n).heldLines = s.heldLines := rfl
@[simp] theorem State.addTo_challenges (s : State) (i j n : Nat) : (s.addTo i j n).challenges = s.challenges := rfl
@[simp] theorem State.addTo_freeLines (s : State) (i j n : Nat) : (s.addTo i j n).freeLines = s.freeLines := rfl
@[simp] theorem State.addTo_nextLine (s : State) (i j n : Nat) : (s.addTo i j n).nextLine = s.nextLine := rfl
@[simp] theorem State.addTo_bootNonce (s : State) (i j n : Nat) : (s.addTo i j n).bootNonce = s.bootNonce := rfl
@[simp] theorem State.addTo_moduleKey (s : State) (i j n : Nat) : (s.addTo i j n).moduleKey = s.moduleKey := rfl
@[simp] theorem State.addTo_trngKind (s : State) (i j n : Nat) : (s.addTo i j n).trngKind = s.trngKind := rfl
@[simp] theorem State.addTo_trngTick (s : State) (i j n : Nat) : (s.addTo i j n).trngTick = s.trngTick := rfl
@[simp] theorem State.addTo_eth (s : State) (i j n : Nat) : (s.addTo i j n).eth = s.eth := rfl
@[simp] theorem State.addTo_spire (s : State) (i j n : Nat) : (s.addTo i j n).spire = s.spire := rfl
@[simp] theorem State.addTo_power (s : State) (i j n : Nat) : (s.addTo i j n).power = s.power := rfl
@[simp] theorem State.addTo_pins (s : State) (i j n : Nat) : (s.addTo i j n).pins = s.pins := rfl
@[simp] theorem State.addTo_safe (s : State) (i j n : Nat) : (s.addTo i j n).safe = s.safe := rfl
@[simp] theorem State.addTo_box (s : State) (i j n : Nat) : (s.addTo i j n).box = s.box := rfl
@[simp] theorem State.addTo_counters (s : State) (i j n : Nat) : (s.addTo i j n).counters = s.counters := rfl
@[simp] theorem State.addTo_lantern (s : State) (i j n : Nat) : (s.addTo i j n).lantern = s.lantern := rfl
@[simp] theorem State.addTo_sweep (s : State) (i j n : Nat) : (s.addTo i j n).sweep = s.sweep := rfl
@[simp] theorem State.addTo_store (s : State) (i j n : Nat) : (s.addTo i j n).store = s.store := rfl
@[simp] theorem State.addTo_rtc (s : State) (i j n : Nat) : (s.addTo i j n).rtc = s.rtc := rfl
@[simp] theorem State.addTo_belfry (s : State) (i j n : Nat) : (s.addTo i j n).belfry = s.belfry := rfl
@[simp] theorem State.addTo_bootEvents (s : State) (i j n : Nat) : (s.addTo i j n).bootEvents = s.bootEvents := rfl
@[simp] theorem State.addTo_banks (s : State) (i j n : Nat) : (s.addTo i j n).banks = s.banks := rfl
@[simp] theorem State.addTo_quads (s : State) (i j n : Nat) : (s.addTo i j n).quads = s.quads := rfl
@[simp] theorem State.addTo_ports (s : State) (i j n : Nat) : (s.addTo i j n).ports = s.ports := rfl
@[simp] theorem State.addTo_rounds (s : State) (i j n : Nat) : (s.addTo i j n).rounds = s.rounds := rfl
@[simp] theorem State.addTo_plans (s : State) (i j n : Nat) : (s.addTo i j n).plans = s.plans := rfl
@[simp] theorem State.addTo_tags (s : State) (i j n : Nat) : (s.addTo i j n).tags = s.tags := rfl
@[simp] theorem State.addTo_coex (s : State) (i j n : Nat) : (s.addTo i j n).coex = s.coex := rfl
@[simp] theorem State.addTo_hsbErrors (s : State) (i j n : Nat) : (s.addTo i j n).hsbErrors = s.hsbErrors := rfl
@[simp] theorem State.addTo_ldpc (s : State) (i j n : Nat) : (s.addTo i j n).ldpc = s.ldpc := rfl
@[simp] theorem State.addTo_ldpcQueue (s : State) (i j n : Nat) : (s.addTo i j n).ldpcQueue = s.ldpcQueue := rfl
@[simp] theorem State.addTo_ldpcCores (s : State) (i j n : Nat) : (s.addTo i j n).ldpcCores = s.ldpcCores := rfl
@[simp] theorem State.addTo_timers (s : State) (i j n : Nat) : (s.addTo i j n).timers = s.timers := rfl
@[simp] theorem State.addTo_hfPorts (s : State) (i j n : Nat) : (s.addTo i j n).hfPorts = s.hfPorts := rfl
@[simp] theorem State.addTo_hfTx (s : State) (i j n : Nat) : (s.addTo i j n).hfTx = s.hfTx := rfl
@[simp] theorem State.addTo_caps (s : State) (i j n : Nat) : (s.addTo i j n).caps = s.caps := rfl
@[simp] theorem State.addTo_meters (s : State) (i j n : Nat) : (s.addTo i j n).meters = s.meters := rfl
@[simp] theorem State.addTo_savedMeters (s : State) (i j n : Nat) : (s.addTo i j n).savedMeters = s.savedMeters := rfl
@[simp] theorem State.addTo_olderMeters (s : State) (i j n : Nat) : (s.addTo i j n).olderMeters = s.olderMeters := rfl
@[simp] theorem State.addTo_newerControl (s : State) (i j n : Nat) : (s.addTo i j n).newerControl = s.newerControl := rfl
@[simp] theorem State.addTo_classes (s : State) (i j n : Nat) : (s.addTo i j n).classes = s.classes := rfl
@[simp] theorem State.addTo_journals (s : State) (i j n : Nat) : (s.addTo i j n).journals = s.journals := rfl
@[simp] theorem State.addTo_groups (s : State) (i j n : Nat) : (s.addTo i j n).groups = s.groups := rfl
@[simp] theorem State.addTo_served (s : State) (i j n : Nat) : (s.addTo i j n).served = s.served := rfl
@[simp] theorem State.addTo_unregistered (s : State) (i j n : Nat) : (s.addTo i j n).unregistered = s.unregistered := rfl
@[simp] theorem State.addTo_sealed (s : State) (i j n : Nat) : (s.addTo i j n).sealed = s.sealed := rfl
@[simp] theorem State.addTo_unresolved (s : State) (i j n : Nat) : (s.addTo i j n).unresolved = s.unresolved := rfl

/-! ### `State.count` -/

@[simp] theorem State.count_now (s : State) (i j : Nat) : (s.count i j).now = s.now := rfl
@[simp] theorem State.count_pending (s : State) (i j : Nat) : (s.count i j).pending = s.pending := rfl
@[simp] theorem State.count_freeCount (s : State) (i j : Nat) : (s.count i j).freeCount = s.freeCount := rfl
@[simp] theorem State.count_dict (s : State) (i j : Nat) : (s.count i j).dict = NMap.put s.dict (key i j) (.num ((s.nat i j + 1) % 2 ^ 32 : Nat)) := rfl
@[simp] theorem State.count_bootDict (s : State) (i j : Nat) : (s.count i j).bootDict = s.bootDict := rfl
@[simp] theorem State.count_heldBack (s : State) (i j : Nat) : (s.count i j).heldBack = s.heldBack := rfl
@[simp] theorem State.count_dwellLowered (s : State) (i j : Nat) : (s.count i j).dwellLowered = s.dwellLowered := rfl
@[simp] theorem State.count_changes (s : State) (i j : Nat) : (s.count i j).changes = s.changes := rfl
@[simp] theorem State.count_delivered (s : State) (i j : Nat) : (s.count i j).delivered = s.delivered := rfl
@[simp] theorem State.count_fuses (s : State) (i j : Nat) : (s.count i j).fuses = s.fuses := rfl
@[simp] theorem State.count_shades (s : State) (i j : Nat) : (s.count i j).shades = s.shades := rfl
@[simp] theorem State.count_sessions (s : State) (i j : Nat) : (s.count i j).sessions = s.sessions := rfl
@[simp] theorem State.count_txns (s : State) (i j : Nat) : (s.count i j).txns = s.txns := rfl
@[simp] theorem State.count_lateStores (s : State) (i j : Nat) : (s.count i j).lateStores = s.lateStores := rfl
@[simp] theorem State.count_txnStats (s : State) (i j : Nat) : (s.count i j).txnStats = s.txnStats := rfl
@[simp] theorem State.count_quietDue (s : State) (i j : Nat) : (s.count i j).quietDue = s.quietDue := rfl
@[simp] theorem State.count_nextTxn (s : State) (i j : Nat) : (s.count i j).nextTxn = s.nextTxn := rfl
@[simp] theorem State.count_nextOrder (s : State) (i j : Nat) : (s.count i j).nextOrder = s.nextOrder := rfl
@[simp] theorem State.count_txq (s : State) (i j : Nat) : (s.count i j).txq = s.txq := rfl
@[simp] theorem State.count_waitingReplies (s : State) (i j : Nat) : (s.count i j).waitingReplies = s.waitingReplies := rfl
@[simp] theorem State.count_unknownErrors (s : State) (i j : Nat) : (s.count i j).unknownErrors = s.unknownErrors := rfl
@[simp] theorem State.count_lines (s : State) (i j : Nat) : (s.count i j).lines = s.lines := rfl
@[simp] theorem State.count_heldLines (s : State) (i j : Nat) : (s.count i j).heldLines = s.heldLines := rfl
@[simp] theorem State.count_challenges (s : State) (i j : Nat) : (s.count i j).challenges = s.challenges := rfl
@[simp] theorem State.count_freeLines (s : State) (i j : Nat) : (s.count i j).freeLines = s.freeLines := rfl
@[simp] theorem State.count_nextLine (s : State) (i j : Nat) : (s.count i j).nextLine = s.nextLine := rfl
@[simp] theorem State.count_bootNonce (s : State) (i j : Nat) : (s.count i j).bootNonce = s.bootNonce := rfl
@[simp] theorem State.count_moduleKey (s : State) (i j : Nat) : (s.count i j).moduleKey = s.moduleKey := rfl
@[simp] theorem State.count_trngKind (s : State) (i j : Nat) : (s.count i j).trngKind = s.trngKind := rfl
@[simp] theorem State.count_trngTick (s : State) (i j : Nat) : (s.count i j).trngTick = s.trngTick := rfl
@[simp] theorem State.count_eth (s : State) (i j : Nat) : (s.count i j).eth = s.eth := rfl
@[simp] theorem State.count_spire (s : State) (i j : Nat) : (s.count i j).spire = s.spire := rfl
@[simp] theorem State.count_power (s : State) (i j : Nat) : (s.count i j).power = s.power := rfl
@[simp] theorem State.count_pins (s : State) (i j : Nat) : (s.count i j).pins = s.pins := rfl
@[simp] theorem State.count_safe (s : State) (i j : Nat) : (s.count i j).safe = s.safe := rfl
@[simp] theorem State.count_box (s : State) (i j : Nat) : (s.count i j).box = s.box := rfl
@[simp] theorem State.count_counters (s : State) (i j : Nat) : (s.count i j).counters = s.counters := rfl
@[simp] theorem State.count_lantern (s : State) (i j : Nat) : (s.count i j).lantern = s.lantern := rfl
@[simp] theorem State.count_sweep (s : State) (i j : Nat) : (s.count i j).sweep = s.sweep := rfl
@[simp] theorem State.count_store (s : State) (i j : Nat) : (s.count i j).store = s.store := rfl
@[simp] theorem State.count_rtc (s : State) (i j : Nat) : (s.count i j).rtc = s.rtc := rfl
@[simp] theorem State.count_belfry (s : State) (i j : Nat) : (s.count i j).belfry = s.belfry := rfl
@[simp] theorem State.count_bootEvents (s : State) (i j : Nat) : (s.count i j).bootEvents = s.bootEvents := rfl
@[simp] theorem State.count_banks (s : State) (i j : Nat) : (s.count i j).banks = s.banks := rfl
@[simp] theorem State.count_quads (s : State) (i j : Nat) : (s.count i j).quads = s.quads := rfl
@[simp] theorem State.count_ports (s : State) (i j : Nat) : (s.count i j).ports = s.ports := rfl
@[simp] theorem State.count_rounds (s : State) (i j : Nat) : (s.count i j).rounds = s.rounds := rfl
@[simp] theorem State.count_plans (s : State) (i j : Nat) : (s.count i j).plans = s.plans := rfl
@[simp] theorem State.count_tags (s : State) (i j : Nat) : (s.count i j).tags = s.tags := rfl
@[simp] theorem State.count_coex (s : State) (i j : Nat) : (s.count i j).coex = s.coex := rfl
@[simp] theorem State.count_hsbErrors (s : State) (i j : Nat) : (s.count i j).hsbErrors = s.hsbErrors := rfl
@[simp] theorem State.count_ldpc (s : State) (i j : Nat) : (s.count i j).ldpc = s.ldpc := rfl
@[simp] theorem State.count_ldpcQueue (s : State) (i j : Nat) : (s.count i j).ldpcQueue = s.ldpcQueue := rfl
@[simp] theorem State.count_ldpcCores (s : State) (i j : Nat) : (s.count i j).ldpcCores = s.ldpcCores := rfl
@[simp] theorem State.count_timers (s : State) (i j : Nat) : (s.count i j).timers = s.timers := rfl
@[simp] theorem State.count_hfPorts (s : State) (i j : Nat) : (s.count i j).hfPorts = s.hfPorts := rfl
@[simp] theorem State.count_hfTx (s : State) (i j : Nat) : (s.count i j).hfTx = s.hfTx := rfl
@[simp] theorem State.count_caps (s : State) (i j : Nat) : (s.count i j).caps = s.caps := rfl
@[simp] theorem State.count_meters (s : State) (i j : Nat) : (s.count i j).meters = s.meters := rfl
@[simp] theorem State.count_savedMeters (s : State) (i j : Nat) : (s.count i j).savedMeters = s.savedMeters := rfl
@[simp] theorem State.count_olderMeters (s : State) (i j : Nat) : (s.count i j).olderMeters = s.olderMeters := rfl
@[simp] theorem State.count_newerControl (s : State) (i j : Nat) : (s.count i j).newerControl = s.newerControl := rfl
@[simp] theorem State.count_classes (s : State) (i j : Nat) : (s.count i j).classes = s.classes := rfl
@[simp] theorem State.count_journals (s : State) (i j : Nat) : (s.count i j).journals = s.journals := rfl
@[simp] theorem State.count_groups (s : State) (i j : Nat) : (s.count i j).groups = s.groups := rfl
@[simp] theorem State.count_served (s : State) (i j : Nat) : (s.count i j).served = s.served := rfl
@[simp] theorem State.count_unregistered (s : State) (i j : Nat) : (s.count i j).unregistered = s.unregistered := rfl
@[simp] theorem State.count_sealed (s : State) (i j : Nat) : (s.count i j).sealed = s.sealed := rfl
@[simp] theorem State.count_unresolved (s : State) (i j : Nat) : (s.count i j).unresolved = s.unresolved := rfl

/-! ### `State.setPeak` -/

@[simp] theorem State.setPeak_now (s : State) (i j n : Nat) : (s.setPeak i j n).now = s.now := rfl
@[simp] theorem State.setPeak_pending (s : State) (i j n : Nat) : (s.setPeak i j n).pending = s.pending := rfl
@[simp] theorem State.setPeak_freeCount (s : State) (i j n : Nat) : (s.setPeak i j n).freeCount = s.freeCount := rfl
@[simp] theorem State.setPeak_dict (s : State) (i j n : Nat) : (s.setPeak i j n).dict = NMap.put s.dict (key i j) (.num (peak (s.nat i j) n : Nat)) := rfl
@[simp] theorem State.setPeak_bootDict (s : State) (i j n : Nat) : (s.setPeak i j n).bootDict = s.bootDict := rfl
@[simp] theorem State.setPeak_heldBack (s : State) (i j n : Nat) : (s.setPeak i j n).heldBack = s.heldBack := rfl
@[simp] theorem State.setPeak_dwellLowered (s : State) (i j n : Nat) : (s.setPeak i j n).dwellLowered = s.dwellLowered := rfl
@[simp] theorem State.setPeak_changes (s : State) (i j n : Nat) : (s.setPeak i j n).changes = s.changes := rfl
@[simp] theorem State.setPeak_delivered (s : State) (i j n : Nat) : (s.setPeak i j n).delivered = s.delivered := rfl
@[simp] theorem State.setPeak_fuses (s : State) (i j n : Nat) : (s.setPeak i j n).fuses = s.fuses := rfl
@[simp] theorem State.setPeak_shades (s : State) (i j n : Nat) : (s.setPeak i j n).shades = s.shades := rfl
@[simp] theorem State.setPeak_sessions (s : State) (i j n : Nat) : (s.setPeak i j n).sessions = s.sessions := rfl
@[simp] theorem State.setPeak_txns (s : State) (i j n : Nat) : (s.setPeak i j n).txns = s.txns := rfl
@[simp] theorem State.setPeak_lateStores (s : State) (i j n : Nat) : (s.setPeak i j n).lateStores = s.lateStores := rfl
@[simp] theorem State.setPeak_txnStats (s : State) (i j n : Nat) : (s.setPeak i j n).txnStats = s.txnStats := rfl
@[simp] theorem State.setPeak_quietDue (s : State) (i j n : Nat) : (s.setPeak i j n).quietDue = s.quietDue := rfl
@[simp] theorem State.setPeak_nextTxn (s : State) (i j n : Nat) : (s.setPeak i j n).nextTxn = s.nextTxn := rfl
@[simp] theorem State.setPeak_nextOrder (s : State) (i j n : Nat) : (s.setPeak i j n).nextOrder = s.nextOrder := rfl
@[simp] theorem State.setPeak_txq (s : State) (i j n : Nat) : (s.setPeak i j n).txq = s.txq := rfl
@[simp] theorem State.setPeak_waitingReplies (s : State) (i j n : Nat) : (s.setPeak i j n).waitingReplies = s.waitingReplies := rfl
@[simp] theorem State.setPeak_unknownErrors (s : State) (i j n : Nat) : (s.setPeak i j n).unknownErrors = s.unknownErrors := rfl
@[simp] theorem State.setPeak_lines (s : State) (i j n : Nat) : (s.setPeak i j n).lines = s.lines := rfl
@[simp] theorem State.setPeak_heldLines (s : State) (i j n : Nat) : (s.setPeak i j n).heldLines = s.heldLines := rfl
@[simp] theorem State.setPeak_challenges (s : State) (i j n : Nat) : (s.setPeak i j n).challenges = s.challenges := rfl
@[simp] theorem State.setPeak_freeLines (s : State) (i j n : Nat) : (s.setPeak i j n).freeLines = s.freeLines := rfl
@[simp] theorem State.setPeak_nextLine (s : State) (i j n : Nat) : (s.setPeak i j n).nextLine = s.nextLine := rfl
@[simp] theorem State.setPeak_bootNonce (s : State) (i j n : Nat) : (s.setPeak i j n).bootNonce = s.bootNonce := rfl
@[simp] theorem State.setPeak_moduleKey (s : State) (i j n : Nat) : (s.setPeak i j n).moduleKey = s.moduleKey := rfl
@[simp] theorem State.setPeak_trngKind (s : State) (i j n : Nat) : (s.setPeak i j n).trngKind = s.trngKind := rfl
@[simp] theorem State.setPeak_trngTick (s : State) (i j n : Nat) : (s.setPeak i j n).trngTick = s.trngTick := rfl
@[simp] theorem State.setPeak_eth (s : State) (i j n : Nat) : (s.setPeak i j n).eth = s.eth := rfl
@[simp] theorem State.setPeak_spire (s : State) (i j n : Nat) : (s.setPeak i j n).spire = s.spire := rfl
@[simp] theorem State.setPeak_power (s : State) (i j n : Nat) : (s.setPeak i j n).power = s.power := rfl
@[simp] theorem State.setPeak_pins (s : State) (i j n : Nat) : (s.setPeak i j n).pins = s.pins := rfl
@[simp] theorem State.setPeak_safe (s : State) (i j n : Nat) : (s.setPeak i j n).safe = s.safe := rfl
@[simp] theorem State.setPeak_box (s : State) (i j n : Nat) : (s.setPeak i j n).box = s.box := rfl
@[simp] theorem State.setPeak_counters (s : State) (i j n : Nat) : (s.setPeak i j n).counters = s.counters := rfl
@[simp] theorem State.setPeak_lantern (s : State) (i j n : Nat) : (s.setPeak i j n).lantern = s.lantern := rfl
@[simp] theorem State.setPeak_sweep (s : State) (i j n : Nat) : (s.setPeak i j n).sweep = s.sweep := rfl
@[simp] theorem State.setPeak_store (s : State) (i j n : Nat) : (s.setPeak i j n).store = s.store := rfl
@[simp] theorem State.setPeak_rtc (s : State) (i j n : Nat) : (s.setPeak i j n).rtc = s.rtc := rfl
@[simp] theorem State.setPeak_belfry (s : State) (i j n : Nat) : (s.setPeak i j n).belfry = s.belfry := rfl
@[simp] theorem State.setPeak_bootEvents (s : State) (i j n : Nat) : (s.setPeak i j n).bootEvents = s.bootEvents := rfl
@[simp] theorem State.setPeak_banks (s : State) (i j n : Nat) : (s.setPeak i j n).banks = s.banks := rfl
@[simp] theorem State.setPeak_quads (s : State) (i j n : Nat) : (s.setPeak i j n).quads = s.quads := rfl
@[simp] theorem State.setPeak_ports (s : State) (i j n : Nat) : (s.setPeak i j n).ports = s.ports := rfl
@[simp] theorem State.setPeak_rounds (s : State) (i j n : Nat) : (s.setPeak i j n).rounds = s.rounds := rfl
@[simp] theorem State.setPeak_plans (s : State) (i j n : Nat) : (s.setPeak i j n).plans = s.plans := rfl
@[simp] theorem State.setPeak_tags (s : State) (i j n : Nat) : (s.setPeak i j n).tags = s.tags := rfl
@[simp] theorem State.setPeak_coex (s : State) (i j n : Nat) : (s.setPeak i j n).coex = s.coex := rfl
@[simp] theorem State.setPeak_hsbErrors (s : State) (i j n : Nat) : (s.setPeak i j n).hsbErrors = s.hsbErrors := rfl
@[simp] theorem State.setPeak_ldpc (s : State) (i j n : Nat) : (s.setPeak i j n).ldpc = s.ldpc := rfl
@[simp] theorem State.setPeak_ldpcQueue (s : State) (i j n : Nat) : (s.setPeak i j n).ldpcQueue = s.ldpcQueue := rfl
@[simp] theorem State.setPeak_ldpcCores (s : State) (i j n : Nat) : (s.setPeak i j n).ldpcCores = s.ldpcCores := rfl
@[simp] theorem State.setPeak_timers (s : State) (i j n : Nat) : (s.setPeak i j n).timers = s.timers := rfl
@[simp] theorem State.setPeak_hfPorts (s : State) (i j n : Nat) : (s.setPeak i j n).hfPorts = s.hfPorts := rfl
@[simp] theorem State.setPeak_hfTx (s : State) (i j n : Nat) : (s.setPeak i j n).hfTx = s.hfTx := rfl
@[simp] theorem State.setPeak_caps (s : State) (i j n : Nat) : (s.setPeak i j n).caps = s.caps := rfl
@[simp] theorem State.setPeak_meters (s : State) (i j n : Nat) : (s.setPeak i j n).meters = s.meters := rfl
@[simp] theorem State.setPeak_savedMeters (s : State) (i j n : Nat) : (s.setPeak i j n).savedMeters = s.savedMeters := rfl
@[simp] theorem State.setPeak_olderMeters (s : State) (i j n : Nat) : (s.setPeak i j n).olderMeters = s.olderMeters := rfl
@[simp] theorem State.setPeak_newerControl (s : State) (i j n : Nat) : (s.setPeak i j n).newerControl = s.newerControl := rfl
@[simp] theorem State.setPeak_classes (s : State) (i j n : Nat) : (s.setPeak i j n).classes = s.classes := rfl
@[simp] theorem State.setPeak_journals (s : State) (i j n : Nat) : (s.setPeak i j n).journals = s.journals := rfl
@[simp] theorem State.setPeak_groups (s : State) (i j n : Nat) : (s.setPeak i j n).groups = s.groups := rfl
@[simp] theorem State.setPeak_served (s : State) (i j n : Nat) : (s.setPeak i j n).served = s.served := rfl
@[simp] theorem State.setPeak_unregistered (s : State) (i j n : Nat) : (s.setPeak i j n).unregistered = s.unregistered := rfl
@[simp] theorem State.setPeak_sealed (s : State) (i j n : Nat) : (s.setPeak i j n).sealed = s.sealed := rfl
@[simp] theorem State.setPeak_unresolved (s : State) (i j n : Nat) : (s.setPeak i j n).unresolved = s.unresolved := rfl

/-! ### `State.touch` -/

@[simp] theorem State.touch_now (s : State) (k : Nat) : (s.touch k).now = s.now := rfl
@[simp] theorem State.touch_pending (s : State) (k : Nat) : (s.touch k).pending = s.pending := rfl
@[simp] theorem State.touch_freeCount (s : State) (k : Nat) : (s.touch k).freeCount = s.freeCount := rfl
@[simp] theorem State.touch_dict (s : State) (k : Nat) : (s.touch k).dict = s.dict := rfl
@[simp] theorem State.touch_bootDict (s : State) (k : Nat) : (s.touch k).bootDict = s.bootDict := rfl
@[simp] theorem State.touch_heldBack (s : State) (k : Nat) : (s.touch k).heldBack = s.heldBack := rfl
@[simp] theorem State.touch_dwellLowered (s : State) (k : Nat) : (s.touch k).dwellLowered = s.dwellLowered := rfl
@[simp] theorem State.touch_changes (s : State) (k : Nat) : (s.touch k).changes = NMap.put s.changes k (NMap.getD s.changes k 0 + 1) := rfl
@[simp] theorem State.touch_delivered (s : State) (k : Nat) : (s.touch k).delivered = s.delivered := rfl
@[simp] theorem State.touch_fuses (s : State) (k : Nat) : (s.touch k).fuses = s.fuses := rfl
@[simp] theorem State.touch_shades (s : State) (k : Nat) : (s.touch k).shades = s.shades := rfl
@[simp] theorem State.touch_sessions (s : State) (k : Nat) : (s.touch k).sessions = s.sessions := rfl
@[simp] theorem State.touch_txns (s : State) (k : Nat) : (s.touch k).txns = s.txns := rfl
@[simp] theorem State.touch_lateStores (s : State) (k : Nat) : (s.touch k).lateStores = s.lateStores := rfl
@[simp] theorem State.touch_txnStats (s : State) (k : Nat) : (s.touch k).txnStats = s.txnStats := rfl
@[simp] theorem State.touch_quietDue (s : State) (k : Nat) : (s.touch k).quietDue = s.quietDue := rfl
@[simp] theorem State.touch_nextTxn (s : State) (k : Nat) : (s.touch k).nextTxn = s.nextTxn := rfl
@[simp] theorem State.touch_nextOrder (s : State) (k : Nat) : (s.touch k).nextOrder = s.nextOrder := rfl
@[simp] theorem State.touch_txq (s : State) (k : Nat) : (s.touch k).txq = s.txq := rfl
@[simp] theorem State.touch_waitingReplies (s : State) (k : Nat) : (s.touch k).waitingReplies = s.waitingReplies := rfl
@[simp] theorem State.touch_unknownErrors (s : State) (k : Nat) : (s.touch k).unknownErrors = s.unknownErrors := rfl
@[simp] theorem State.touch_lines (s : State) (k : Nat) : (s.touch k).lines = s.lines := rfl
@[simp] theorem State.touch_heldLines (s : State) (k : Nat) : (s.touch k).heldLines = s.heldLines := rfl
@[simp] theorem State.touch_challenges (s : State) (k : Nat) : (s.touch k).challenges = s.challenges := rfl
@[simp] theorem State.touch_freeLines (s : State) (k : Nat) : (s.touch k).freeLines = s.freeLines := rfl
@[simp] theorem State.touch_nextLine (s : State) (k : Nat) : (s.touch k).nextLine = s.nextLine := rfl
@[simp] theorem State.touch_bootNonce (s : State) (k : Nat) : (s.touch k).bootNonce = s.bootNonce := rfl
@[simp] theorem State.touch_moduleKey (s : State) (k : Nat) : (s.touch k).moduleKey = s.moduleKey := rfl
@[simp] theorem State.touch_trngKind (s : State) (k : Nat) : (s.touch k).trngKind = s.trngKind := rfl
@[simp] theorem State.touch_trngTick (s : State) (k : Nat) : (s.touch k).trngTick = s.trngTick := rfl
@[simp] theorem State.touch_eth (s : State) (k : Nat) : (s.touch k).eth = s.eth := rfl
@[simp] theorem State.touch_spire (s : State) (k : Nat) : (s.touch k).spire = s.spire := rfl
@[simp] theorem State.touch_power (s : State) (k : Nat) : (s.touch k).power = s.power := rfl
@[simp] theorem State.touch_pins (s : State) (k : Nat) : (s.touch k).pins = s.pins := rfl
@[simp] theorem State.touch_safe (s : State) (k : Nat) : (s.touch k).safe = s.safe := rfl
@[simp] theorem State.touch_box (s : State) (k : Nat) : (s.touch k).box = s.box := rfl
@[simp] theorem State.touch_counters (s : State) (k : Nat) : (s.touch k).counters = s.counters := rfl
@[simp] theorem State.touch_lantern (s : State) (k : Nat) : (s.touch k).lantern = s.lantern := rfl
@[simp] theorem State.touch_sweep (s : State) (k : Nat) : (s.touch k).sweep = s.sweep := rfl
@[simp] theorem State.touch_store (s : State) (k : Nat) : (s.touch k).store = s.store := rfl
@[simp] theorem State.touch_rtc (s : State) (k : Nat) : (s.touch k).rtc = s.rtc := rfl
@[simp] theorem State.touch_belfry (s : State) (k : Nat) : (s.touch k).belfry = s.belfry := rfl
@[simp] theorem State.touch_bootEvents (s : State) (k : Nat) : (s.touch k).bootEvents = s.bootEvents := rfl
@[simp] theorem State.touch_banks (s : State) (k : Nat) : (s.touch k).banks = s.banks := rfl
@[simp] theorem State.touch_quads (s : State) (k : Nat) : (s.touch k).quads = s.quads := rfl
@[simp] theorem State.touch_ports (s : State) (k : Nat) : (s.touch k).ports = s.ports := rfl
@[simp] theorem State.touch_rounds (s : State) (k : Nat) : (s.touch k).rounds = s.rounds := rfl
@[simp] theorem State.touch_plans (s : State) (k : Nat) : (s.touch k).plans = s.plans := rfl
@[simp] theorem State.touch_tags (s : State) (k : Nat) : (s.touch k).tags = s.tags := rfl
@[simp] theorem State.touch_coex (s : State) (k : Nat) : (s.touch k).coex = s.coex := rfl
@[simp] theorem State.touch_hsbErrors (s : State) (k : Nat) : (s.touch k).hsbErrors = s.hsbErrors := rfl
@[simp] theorem State.touch_ldpc (s : State) (k : Nat) : (s.touch k).ldpc = s.ldpc := rfl
@[simp] theorem State.touch_ldpcQueue (s : State) (k : Nat) : (s.touch k).ldpcQueue = s.ldpcQueue := rfl
@[simp] theorem State.touch_ldpcCores (s : State) (k : Nat) : (s.touch k).ldpcCores = s.ldpcCores := rfl
@[simp] theorem State.touch_timers (s : State) (k : Nat) : (s.touch k).timers = s.timers := rfl
@[simp] theorem State.touch_hfPorts (s : State) (k : Nat) : (s.touch k).hfPorts = s.hfPorts := rfl
@[simp] theorem State.touch_hfTx (s : State) (k : Nat) : (s.touch k).hfTx = s.hfTx := rfl
@[simp] theorem State.touch_caps (s : State) (k : Nat) : (s.touch k).caps = s.caps := rfl
@[simp] theorem State.touch_meters (s : State) (k : Nat) : (s.touch k).meters = s.meters := rfl
@[simp] theorem State.touch_savedMeters (s : State) (k : Nat) : (s.touch k).savedMeters = s.savedMeters := rfl
@[simp] theorem State.touch_olderMeters (s : State) (k : Nat) : (s.touch k).olderMeters = s.olderMeters := rfl
@[simp] theorem State.touch_newerControl (s : State) (k : Nat) : (s.touch k).newerControl = s.newerControl := rfl
@[simp] theorem State.touch_classes (s : State) (k : Nat) : (s.touch k).classes = s.classes := rfl
@[simp] theorem State.touch_journals (s : State) (k : Nat) : (s.touch k).journals = s.journals := rfl
@[simp] theorem State.touch_groups (s : State) (k : Nat) : (s.touch k).groups = s.groups := rfl
@[simp] theorem State.touch_served (s : State) (k : Nat) : (s.touch k).served = s.served := rfl
@[simp] theorem State.touch_unregistered (s : State) (k : Nat) : (s.touch k).unregistered = s.unregistered := rfl
@[simp] theorem State.touch_sealed (s : State) (k : Nat) : (s.touch k).sealed = s.sealed := rfl
@[simp] theorem State.touch_unresolved (s : State) (k : Nat) : (s.touch k).unresolved = s.unresolved := rfl
@[simp] theorem State.touch_val (s : State) (k : Nat) (o : Nat) : (s.touch k).val o = s.val o := rfl

/-! ### `State.drawn` -/

@[simp] theorem State.drawn_now (s : State) : s.drawn.now = s.now := rfl
@[simp] theorem State.drawn_pending (s : State) : s.drawn.pending = s.pending := rfl
@[simp] theorem State.drawn_freeCount (s : State) : s.drawn.freeCount = s.freeCount + 1 := rfl
@[simp] theorem State.drawn_dict (s : State) : s.drawn.dict = s.dict := rfl
@[simp] theorem State.drawn_bootDict (s : State) : s.drawn.bootDict = s.bootDict := rfl
@[simp] theorem State.drawn_heldBack (s : State) : s.drawn.heldBack = s.heldBack := rfl
@[simp] theorem State.drawn_dwellLowered (s : State) : s.drawn.dwellLowered = s.dwellLowered := rfl
@[simp] theorem State.drawn_changes (s : State) : s.drawn.changes = s.changes := rfl
@[simp] theorem State.drawn_delivered (s : State) : s.drawn.delivered = s.delivered := rfl
@[simp] theorem State.drawn_fuses (s : State) : s.drawn.fuses = s.fuses := rfl
@[simp] theorem State.drawn_shades (s : State) : s.drawn.shades = s.shades := rfl
@[simp] theorem State.drawn_sessions (s : State) : s.drawn.sessions = s.sessions := rfl
@[simp] theorem State.drawn_txns (s : State) : s.drawn.txns = s.txns := rfl
@[simp] theorem State.drawn_lateStores (s : State) : s.drawn.lateStores = s.lateStores := rfl
@[simp] theorem State.drawn_txnStats (s : State) : s.drawn.txnStats = s.txnStats := rfl
@[simp] theorem State.drawn_quietDue (s : State) : s.drawn.quietDue = s.quietDue := rfl
@[simp] theorem State.drawn_nextTxn (s : State) : s.drawn.nextTxn = s.nextTxn := rfl
@[simp] theorem State.drawn_nextOrder (s : State) : s.drawn.nextOrder = s.nextOrder := rfl
@[simp] theorem State.drawn_txq (s : State) : s.drawn.txq = s.txq := rfl
@[simp] theorem State.drawn_waitingReplies (s : State) : s.drawn.waitingReplies = s.waitingReplies := rfl
@[simp] theorem State.drawn_unknownErrors (s : State) : s.drawn.unknownErrors = s.unknownErrors := rfl
@[simp] theorem State.drawn_lines (s : State) : s.drawn.lines = s.lines := rfl
@[simp] theorem State.drawn_heldLines (s : State) : s.drawn.heldLines = s.heldLines := rfl
@[simp] theorem State.drawn_challenges (s : State) : s.drawn.challenges = s.challenges := rfl
@[simp] theorem State.drawn_freeLines (s : State) : s.drawn.freeLines = s.freeLines := rfl
@[simp] theorem State.drawn_nextLine (s : State) : s.drawn.nextLine = s.nextLine := rfl
@[simp] theorem State.drawn_bootNonce (s : State) : s.drawn.bootNonce = s.bootNonce := rfl
@[simp] theorem State.drawn_moduleKey (s : State) : s.drawn.moduleKey = s.moduleKey := rfl
@[simp] theorem State.drawn_trngKind (s : State) : s.drawn.trngKind = s.trngKind := rfl
@[simp] theorem State.drawn_trngTick (s : State) : s.drawn.trngTick = s.trngTick := rfl
@[simp] theorem State.drawn_eth (s : State) : s.drawn.eth = s.eth := rfl
@[simp] theorem State.drawn_spire (s : State) : s.drawn.spire = s.spire := rfl
@[simp] theorem State.drawn_power (s : State) : s.drawn.power = s.power := rfl
@[simp] theorem State.drawn_pins (s : State) : s.drawn.pins = s.pins := rfl
@[simp] theorem State.drawn_safe (s : State) : s.drawn.safe = s.safe := rfl
@[simp] theorem State.drawn_box (s : State) : s.drawn.box = s.box := rfl
@[simp] theorem State.drawn_counters (s : State) : s.drawn.counters = s.counters := rfl
@[simp] theorem State.drawn_lantern (s : State) : s.drawn.lantern = s.lantern := rfl
@[simp] theorem State.drawn_sweep (s : State) : s.drawn.sweep = s.sweep := rfl
@[simp] theorem State.drawn_store (s : State) : s.drawn.store = s.store := rfl
@[simp] theorem State.drawn_rtc (s : State) : s.drawn.rtc = s.rtc := rfl
@[simp] theorem State.drawn_belfry (s : State) : s.drawn.belfry = s.belfry := rfl
@[simp] theorem State.drawn_bootEvents (s : State) : s.drawn.bootEvents = s.bootEvents := rfl
@[simp] theorem State.drawn_banks (s : State) : s.drawn.banks = s.banks := rfl
@[simp] theorem State.drawn_quads (s : State) : s.drawn.quads = s.quads := rfl
@[simp] theorem State.drawn_ports (s : State) : s.drawn.ports = s.ports := rfl
@[simp] theorem State.drawn_rounds (s : State) : s.drawn.rounds = s.rounds := rfl
@[simp] theorem State.drawn_plans (s : State) : s.drawn.plans = s.plans := rfl
@[simp] theorem State.drawn_tags (s : State) : s.drawn.tags = s.tags := rfl
@[simp] theorem State.drawn_coex (s : State) : s.drawn.coex = s.coex := rfl
@[simp] theorem State.drawn_hsbErrors (s : State) : s.drawn.hsbErrors = s.hsbErrors := rfl
@[simp] theorem State.drawn_ldpc (s : State) : s.drawn.ldpc = s.ldpc := rfl
@[simp] theorem State.drawn_ldpcQueue (s : State) : s.drawn.ldpcQueue = s.ldpcQueue := rfl
@[simp] theorem State.drawn_ldpcCores (s : State) : s.drawn.ldpcCores = s.ldpcCores := rfl
@[simp] theorem State.drawn_timers (s : State) : s.drawn.timers = s.timers := rfl
@[simp] theorem State.drawn_hfPorts (s : State) : s.drawn.hfPorts = s.hfPorts := rfl
@[simp] theorem State.drawn_hfTx (s : State) : s.drawn.hfTx = s.hfTx := rfl
@[simp] theorem State.drawn_caps (s : State) : s.drawn.caps = s.caps := rfl
@[simp] theorem State.drawn_meters (s : State) : s.drawn.meters = s.meters := rfl
@[simp] theorem State.drawn_savedMeters (s : State) : s.drawn.savedMeters = s.savedMeters := rfl
@[simp] theorem State.drawn_olderMeters (s : State) : s.drawn.olderMeters = s.olderMeters := rfl
@[simp] theorem State.drawn_newerControl (s : State) : s.drawn.newerControl = s.newerControl := rfl
@[simp] theorem State.drawn_classes (s : State) : s.drawn.classes = s.classes := rfl
@[simp] theorem State.drawn_journals (s : State) : s.drawn.journals = s.journals := rfl
@[simp] theorem State.drawn_groups (s : State) : s.drawn.groups = s.groups := rfl
@[simp] theorem State.drawn_served (s : State) : s.drawn.served = s.served := rfl
@[simp] theorem State.drawn_unregistered (s : State) : s.drawn.unregistered = s.unregistered := rfl
@[simp] theorem State.drawn_sealed (s : State) : s.drawn.sealed = s.sealed := rfl
@[simp] theorem State.drawn_unresolved (s : State) : s.drawn.unresolved = s.unresolved := rfl
@[simp] theorem State.drawn_val (s : State)  (o : Nat) : s.drawn.val o = s.val o := rfl

/-! ### `State.drawnByRead` -/

@[simp] theorem State.drawnByRead_now (s : State) : s.drawnByRead.now = s.now := rfl
@[simp] theorem State.drawnByRead_pending (s : State) : s.drawnByRead.pending = s.pending := rfl
@[simp] theorem State.drawnByRead_freeCount (s : State) : s.drawnByRead.freeCount = s.freeCount + 66 := rfl
@[simp] theorem State.drawnByRead_dict (s : State) : s.drawnByRead.dict = s.dict := rfl
@[simp] theorem State.drawnByRead_bootDict (s : State) : s.drawnByRead.bootDict = s.bootDict := rfl
@[simp] theorem State.drawnByRead_heldBack (s : State) : s.drawnByRead.heldBack = s.heldBack := rfl
@[simp] theorem State.drawnByRead_dwellLowered (s : State) : s.drawnByRead.dwellLowered = s.dwellLowered := rfl
@[simp] theorem State.drawnByRead_changes (s : State) : s.drawnByRead.changes = s.changes := rfl
@[simp] theorem State.drawnByRead_delivered (s : State) : s.drawnByRead.delivered = s.delivered := rfl
@[simp] theorem State.drawnByRead_fuses (s : State) : s.drawnByRead.fuses = s.fuses := rfl
@[simp] theorem State.drawnByRead_shades (s : State) : s.drawnByRead.shades = s.shades := rfl
@[simp] theorem State.drawnByRead_sessions (s : State) : s.drawnByRead.sessions = s.sessions := rfl
@[simp] theorem State.drawnByRead_txns (s : State) : s.drawnByRead.txns = s.txns := rfl
@[simp] theorem State.drawnByRead_lateStores (s : State) : s.drawnByRead.lateStores = s.lateStores := rfl
@[simp] theorem State.drawnByRead_txnStats (s : State) : s.drawnByRead.txnStats = s.txnStats := rfl
@[simp] theorem State.drawnByRead_quietDue (s : State) : s.drawnByRead.quietDue = s.quietDue := rfl
@[simp] theorem State.drawnByRead_nextTxn (s : State) : s.drawnByRead.nextTxn = s.nextTxn := rfl
@[simp] theorem State.drawnByRead_nextOrder (s : State) : s.drawnByRead.nextOrder = s.nextOrder := rfl
@[simp] theorem State.drawnByRead_txq (s : State) : s.drawnByRead.txq = s.txq := rfl
@[simp] theorem State.drawnByRead_waitingReplies (s : State) : s.drawnByRead.waitingReplies = s.waitingReplies := rfl
@[simp] theorem State.drawnByRead_unknownErrors (s : State) : s.drawnByRead.unknownErrors = s.unknownErrors := rfl
@[simp] theorem State.drawnByRead_lines (s : State) : s.drawnByRead.lines = s.lines := rfl
@[simp] theorem State.drawnByRead_heldLines (s : State) : s.drawnByRead.heldLines = s.heldLines := rfl
@[simp] theorem State.drawnByRead_challenges (s : State) : s.drawnByRead.challenges = s.challenges := rfl
@[simp] theorem State.drawnByRead_freeLines (s : State) : s.drawnByRead.freeLines = s.freeLines := rfl
@[simp] theorem State.drawnByRead_nextLine (s : State) : s.drawnByRead.nextLine = s.nextLine := rfl
@[simp] theorem State.drawnByRead_bootNonce (s : State) : s.drawnByRead.bootNonce = s.bootNonce := rfl
@[simp] theorem State.drawnByRead_moduleKey (s : State) : s.drawnByRead.moduleKey = s.moduleKey := rfl
@[simp] theorem State.drawnByRead_trngKind (s : State) : s.drawnByRead.trngKind = s.trngKind := rfl
@[simp] theorem State.drawnByRead_trngTick (s : State) : s.drawnByRead.trngTick = s.trngTick := rfl
@[simp] theorem State.drawnByRead_eth (s : State) : s.drawnByRead.eth = s.eth := rfl
@[simp] theorem State.drawnByRead_spire (s : State) : s.drawnByRead.spire = s.spire := rfl
@[simp] theorem State.drawnByRead_power (s : State) : s.drawnByRead.power = s.power := rfl
@[simp] theorem State.drawnByRead_pins (s : State) : s.drawnByRead.pins = s.pins := rfl
@[simp] theorem State.drawnByRead_safe (s : State) : s.drawnByRead.safe = s.safe := rfl
@[simp] theorem State.drawnByRead_box (s : State) : s.drawnByRead.box = s.box := rfl
@[simp] theorem State.drawnByRead_counters (s : State) : s.drawnByRead.counters = s.counters := rfl
@[simp] theorem State.drawnByRead_lantern (s : State) : s.drawnByRead.lantern = s.lantern := rfl
@[simp] theorem State.drawnByRead_sweep (s : State) : s.drawnByRead.sweep = s.sweep := rfl
@[simp] theorem State.drawnByRead_store (s : State) : s.drawnByRead.store = s.store := rfl
@[simp] theorem State.drawnByRead_rtc (s : State) : s.drawnByRead.rtc = s.rtc := rfl
@[simp] theorem State.drawnByRead_belfry (s : State) : s.drawnByRead.belfry = s.belfry := rfl
@[simp] theorem State.drawnByRead_bootEvents (s : State) : s.drawnByRead.bootEvents = s.bootEvents := rfl
@[simp] theorem State.drawnByRead_banks (s : State) : s.drawnByRead.banks = s.banks := rfl
@[simp] theorem State.drawnByRead_quads (s : State) : s.drawnByRead.quads = s.quads := rfl
@[simp] theorem State.drawnByRead_ports (s : State) : s.drawnByRead.ports = s.ports := rfl
@[simp] theorem State.drawnByRead_rounds (s : State) : s.drawnByRead.rounds = s.rounds := rfl
@[simp] theorem State.drawnByRead_plans (s : State) : s.drawnByRead.plans = s.plans := rfl
@[simp] theorem State.drawnByRead_tags (s : State) : s.drawnByRead.tags = s.tags := rfl
@[simp] theorem State.drawnByRead_coex (s : State) : s.drawnByRead.coex = s.coex := rfl
@[simp] theorem State.drawnByRead_hsbErrors (s : State) : s.drawnByRead.hsbErrors = s.hsbErrors := rfl
@[simp] theorem State.drawnByRead_ldpc (s : State) : s.drawnByRead.ldpc = s.ldpc := rfl
@[simp] theorem State.drawnByRead_ldpcQueue (s : State) : s.drawnByRead.ldpcQueue = s.ldpcQueue := rfl
@[simp] theorem State.drawnByRead_ldpcCores (s : State) : s.drawnByRead.ldpcCores = s.ldpcCores := rfl
@[simp] theorem State.drawnByRead_timers (s : State) : s.drawnByRead.timers = s.timers := rfl
@[simp] theorem State.drawnByRead_hfPorts (s : State) : s.drawnByRead.hfPorts = s.hfPorts := rfl
@[simp] theorem State.drawnByRead_hfTx (s : State) : s.drawnByRead.hfTx = s.hfTx := rfl
@[simp] theorem State.drawnByRead_caps (s : State) : s.drawnByRead.caps = s.caps := rfl
@[simp] theorem State.drawnByRead_meters (s : State) : s.drawnByRead.meters = s.meters := rfl
@[simp] theorem State.drawnByRead_savedMeters (s : State) : s.drawnByRead.savedMeters = s.savedMeters := rfl
@[simp] theorem State.drawnByRead_olderMeters (s : State) : s.drawnByRead.olderMeters = s.olderMeters := rfl
@[simp] theorem State.drawnByRead_newerControl (s : State) : s.drawnByRead.newerControl = s.newerControl := rfl
@[simp] theorem State.drawnByRead_classes (s : State) : s.drawnByRead.classes = s.classes := rfl
@[simp] theorem State.drawnByRead_journals (s : State) : s.drawnByRead.journals = s.journals := rfl
@[simp] theorem State.drawnByRead_groups (s : State) : s.drawnByRead.groups = s.groups := rfl
@[simp] theorem State.drawnByRead_served (s : State) : s.drawnByRead.served = s.served := rfl
@[simp] theorem State.drawnByRead_unregistered (s : State) : s.drawnByRead.unregistered = s.unregistered := rfl
@[simp] theorem State.drawnByRead_sealed (s : State) : s.drawnByRead.sealed = s.sealed := rfl
@[simp] theorem State.drawnByRead_unresolved (s : State) : s.drawnByRead.unresolved = s.unresolved := rfl
@[simp] theorem State.drawnByRead_val (s : State)  (o : Nat) : s.drawnByRead.val o = s.val o := rfl

/-! ### `State.modShade` -/

@[simp] theorem State.modShade_now (s : State) (i : Nat) (f : Shade → Shade) : (s.modShade i f).now = s.now := rfl
@[simp] theorem State.modShade_pending (s : State) (i : Nat) (f : Shade → Shade) : (s.modShade i f).pending = s.pending := rfl
@[simp] theorem State.modShade_freeCount (s : State) (i : Nat) (f : Shade → Shade) : (s.modShade i f).freeCount = s.freeCount := rfl
@[simp] theorem State.modShade_dict (s : State) (i : Nat) (f : Shade → Shade) : (s.modShade i f).dict = s.dict := rfl
@[simp] theorem State.modShade_bootDict (s : State) (i : Nat) (f : Shade → Shade) : (s.modShade i f).bootDict = s.bootDict := rfl
@[simp] theorem State.modShade_heldBack (s : State) (i : Nat) (f : Shade → Shade) : (s.modShade i f).heldBack = s.heldBack := rfl
@[simp] theorem State.modShade_dwellLowered (s : State) (i : Nat) (f : Shade → Shade) : (s.modShade i f).dwellLowered = s.dwellLowered := rfl
@[simp] theorem State.modShade_changes (s : State) (i : Nat) (f : Shade → Shade) : (s.modShade i f).changes = s.changes := rfl
@[simp] theorem State.modShade_delivered (s : State) (i : Nat) (f : Shade → Shade) : (s.modShade i f).delivered = s.delivered := rfl
@[simp] theorem State.modShade_fuses (s : State) (i : Nat) (f : Shade → Shade) : (s.modShade i f).fuses = s.fuses := rfl
@[simp] theorem State.modShade_shades (s : State) (i : Nat) (f : Shade → Shade) : (s.modShade i f).shades = tmod s.shades i f := rfl
@[simp] theorem State.modShade_sessions (s : State) (i : Nat) (f : Shade → Shade) : (s.modShade i f).sessions = s.sessions := rfl
@[simp] theorem State.modShade_txns (s : State) (i : Nat) (f : Shade → Shade) : (s.modShade i f).txns = s.txns := rfl
@[simp] theorem State.modShade_lateStores (s : State) (i : Nat) (f : Shade → Shade) : (s.modShade i f).lateStores = s.lateStores := rfl
@[simp] theorem State.modShade_txnStats (s : State) (i : Nat) (f : Shade → Shade) : (s.modShade i f).txnStats = s.txnStats := rfl
@[simp] theorem State.modShade_quietDue (s : State) (i : Nat) (f : Shade → Shade) : (s.modShade i f).quietDue = s.quietDue := rfl
@[simp] theorem State.modShade_nextTxn (s : State) (i : Nat) (f : Shade → Shade) : (s.modShade i f).nextTxn = s.nextTxn := rfl
@[simp] theorem State.modShade_nextOrder (s : State) (i : Nat) (f : Shade → Shade) : (s.modShade i f).nextOrder = s.nextOrder := rfl
@[simp] theorem State.modShade_txq (s : State) (i : Nat) (f : Shade → Shade) : (s.modShade i f).txq = s.txq := rfl
@[simp] theorem State.modShade_waitingReplies (s : State) (i : Nat) (f : Shade → Shade) : (s.modShade i f).waitingReplies = s.waitingReplies := rfl
@[simp] theorem State.modShade_unknownErrors (s : State) (i : Nat) (f : Shade → Shade) : (s.modShade i f).unknownErrors = s.unknownErrors := rfl
@[simp] theorem State.modShade_lines (s : State) (i : Nat) (f : Shade → Shade) : (s.modShade i f).lines = s.lines := rfl
@[simp] theorem State.modShade_heldLines (s : State) (i : Nat) (f : Shade → Shade) : (s.modShade i f).heldLines = s.heldLines := rfl
@[simp] theorem State.modShade_challenges (s : State) (i : Nat) (f : Shade → Shade) : (s.modShade i f).challenges = s.challenges := rfl
@[simp] theorem State.modShade_freeLines (s : State) (i : Nat) (f : Shade → Shade) : (s.modShade i f).freeLines = s.freeLines := rfl
@[simp] theorem State.modShade_nextLine (s : State) (i : Nat) (f : Shade → Shade) : (s.modShade i f).nextLine = s.nextLine := rfl
@[simp] theorem State.modShade_bootNonce (s : State) (i : Nat) (f : Shade → Shade) : (s.modShade i f).bootNonce = s.bootNonce := rfl
@[simp] theorem State.modShade_moduleKey (s : State) (i : Nat) (f : Shade → Shade) : (s.modShade i f).moduleKey = s.moduleKey := rfl
@[simp] theorem State.modShade_trngKind (s : State) (i : Nat) (f : Shade → Shade) : (s.modShade i f).trngKind = s.trngKind := rfl
@[simp] theorem State.modShade_trngTick (s : State) (i : Nat) (f : Shade → Shade) : (s.modShade i f).trngTick = s.trngTick := rfl
@[simp] theorem State.modShade_eth (s : State) (i : Nat) (f : Shade → Shade) : (s.modShade i f).eth = s.eth := rfl
@[simp] theorem State.modShade_spire (s : State) (i : Nat) (f : Shade → Shade) : (s.modShade i f).spire = s.spire := rfl
@[simp] theorem State.modShade_power (s : State) (i : Nat) (f : Shade → Shade) : (s.modShade i f).power = s.power := rfl
@[simp] theorem State.modShade_pins (s : State) (i : Nat) (f : Shade → Shade) : (s.modShade i f).pins = s.pins := rfl
@[simp] theorem State.modShade_safe (s : State) (i : Nat) (f : Shade → Shade) : (s.modShade i f).safe = s.safe := rfl
@[simp] theorem State.modShade_box (s : State) (i : Nat) (f : Shade → Shade) : (s.modShade i f).box = s.box := rfl
@[simp] theorem State.modShade_counters (s : State) (i : Nat) (f : Shade → Shade) : (s.modShade i f).counters = s.counters := rfl
@[simp] theorem State.modShade_lantern (s : State) (i : Nat) (f : Shade → Shade) : (s.modShade i f).lantern = s.lantern := rfl
@[simp] theorem State.modShade_sweep (s : State) (i : Nat) (f : Shade → Shade) : (s.modShade i f).sweep = s.sweep := rfl
@[simp] theorem State.modShade_store (s : State) (i : Nat) (f : Shade → Shade) : (s.modShade i f).store = s.store := rfl
@[simp] theorem State.modShade_rtc (s : State) (i : Nat) (f : Shade → Shade) : (s.modShade i f).rtc = s.rtc := rfl
@[simp] theorem State.modShade_belfry (s : State) (i : Nat) (f : Shade → Shade) : (s.modShade i f).belfry = s.belfry := rfl
@[simp] theorem State.modShade_bootEvents (s : State) (i : Nat) (f : Shade → Shade) : (s.modShade i f).bootEvents = s.bootEvents := rfl
@[simp] theorem State.modShade_banks (s : State) (i : Nat) (f : Shade → Shade) : (s.modShade i f).banks = s.banks := rfl
@[simp] theorem State.modShade_quads (s : State) (i : Nat) (f : Shade → Shade) : (s.modShade i f).quads = s.quads := rfl
@[simp] theorem State.modShade_ports (s : State) (i : Nat) (f : Shade → Shade) : (s.modShade i f).ports = s.ports := rfl
@[simp] theorem State.modShade_rounds (s : State) (i : Nat) (f : Shade → Shade) : (s.modShade i f).rounds = s.rounds := rfl
@[simp] theorem State.modShade_plans (s : State) (i : Nat) (f : Shade → Shade) : (s.modShade i f).plans = s.plans := rfl
@[simp] theorem State.modShade_tags (s : State) (i : Nat) (f : Shade → Shade) : (s.modShade i f).tags = s.tags := rfl
@[simp] theorem State.modShade_coex (s : State) (i : Nat) (f : Shade → Shade) : (s.modShade i f).coex = s.coex := rfl
@[simp] theorem State.modShade_hsbErrors (s : State) (i : Nat) (f : Shade → Shade) : (s.modShade i f).hsbErrors = s.hsbErrors := rfl
@[simp] theorem State.modShade_ldpc (s : State) (i : Nat) (f : Shade → Shade) : (s.modShade i f).ldpc = s.ldpc := rfl
@[simp] theorem State.modShade_ldpcQueue (s : State) (i : Nat) (f : Shade → Shade) : (s.modShade i f).ldpcQueue = s.ldpcQueue := rfl
@[simp] theorem State.modShade_ldpcCores (s : State) (i : Nat) (f : Shade → Shade) : (s.modShade i f).ldpcCores = s.ldpcCores := rfl
@[simp] theorem State.modShade_timers (s : State) (i : Nat) (f : Shade → Shade) : (s.modShade i f).timers = s.timers := rfl
@[simp] theorem State.modShade_hfPorts (s : State) (i : Nat) (f : Shade → Shade) : (s.modShade i f).hfPorts = s.hfPorts := rfl
@[simp] theorem State.modShade_hfTx (s : State) (i : Nat) (f : Shade → Shade) : (s.modShade i f).hfTx = s.hfTx := rfl
@[simp] theorem State.modShade_caps (s : State) (i : Nat) (f : Shade → Shade) : (s.modShade i f).caps = s.caps := rfl
@[simp] theorem State.modShade_meters (s : State) (i : Nat) (f : Shade → Shade) : (s.modShade i f).meters = s.meters := rfl
@[simp] theorem State.modShade_savedMeters (s : State) (i : Nat) (f : Shade → Shade) : (s.modShade i f).savedMeters = s.savedMeters := rfl
@[simp] theorem State.modShade_olderMeters (s : State) (i : Nat) (f : Shade → Shade) : (s.modShade i f).olderMeters = s.olderMeters := rfl
@[simp] theorem State.modShade_newerControl (s : State) (i : Nat) (f : Shade → Shade) : (s.modShade i f).newerControl = s.newerControl := rfl
@[simp] theorem State.modShade_classes (s : State) (i : Nat) (f : Shade → Shade) : (s.modShade i f).classes = s.classes := rfl
@[simp] theorem State.modShade_journals (s : State) (i : Nat) (f : Shade → Shade) : (s.modShade i f).journals = s.journals := rfl
@[simp] theorem State.modShade_groups (s : State) (i : Nat) (f : Shade → Shade) : (s.modShade i f).groups = s.groups := rfl
@[simp] theorem State.modShade_served (s : State) (i : Nat) (f : Shade → Shade) : (s.modShade i f).served = s.served := rfl
@[simp] theorem State.modShade_unregistered (s : State) (i : Nat) (f : Shade → Shade) : (s.modShade i f).unregistered = s.unregistered := rfl
@[simp] theorem State.modShade_sealed (s : State) (i : Nat) (f : Shade → Shade) : (s.modShade i f).sealed = s.sealed := rfl
@[simp] theorem State.modShade_unresolved (s : State) (i : Nat) (f : Shade → Shade) : (s.modShade i f).unresolved = s.unresolved := rfl
@[simp] theorem State.modShade_val (s : State) (i : Nat) (f : Shade → Shade) (o : Nat) : (s.modShade i f).val o = s.val o := rfl

/-! ### `State.modQuad` -/

@[simp] theorem State.modQuad_now (s : State) (q : Nat) (f : Quad → Quad) : (s.modQuad q f).now = s.now := rfl
@[simp] theorem State.modQuad_pending (s : State) (q : Nat) (f : Quad → Quad) : (s.modQuad q f).pending = s.pending := rfl
@[simp] theorem State.modQuad_freeCount (s : State) (q : Nat) (f : Quad → Quad) : (s.modQuad q f).freeCount = s.freeCount := rfl
@[simp] theorem State.modQuad_dict (s : State) (q : Nat) (f : Quad → Quad) : (s.modQuad q f).dict = s.dict := rfl
@[simp] theorem State.modQuad_bootDict (s : State) (q : Nat) (f : Quad → Quad) : (s.modQuad q f).bootDict = s.bootDict := rfl
@[simp] theorem State.modQuad_heldBack (s : State) (q : Nat) (f : Quad → Quad) : (s.modQuad q f).heldBack = s.heldBack := rfl
@[simp] theorem State.modQuad_dwellLowered (s : State) (q : Nat) (f : Quad → Quad) : (s.modQuad q f).dwellLowered = s.dwellLowered := rfl
@[simp] theorem State.modQuad_changes (s : State) (q : Nat) (f : Quad → Quad) : (s.modQuad q f).changes = s.changes := rfl
@[simp] theorem State.modQuad_delivered (s : State) (q : Nat) (f : Quad → Quad) : (s.modQuad q f).delivered = s.delivered := rfl
@[simp] theorem State.modQuad_fuses (s : State) (q : Nat) (f : Quad → Quad) : (s.modQuad q f).fuses = s.fuses := rfl
@[simp] theorem State.modQuad_shades (s : State) (q : Nat) (f : Quad → Quad) : (s.modQuad q f).shades = s.shades := rfl
@[simp] theorem State.modQuad_sessions (s : State) (q : Nat) (f : Quad → Quad) : (s.modQuad q f).sessions = s.sessions := rfl
@[simp] theorem State.modQuad_txns (s : State) (q : Nat) (f : Quad → Quad) : (s.modQuad q f).txns = s.txns := rfl
@[simp] theorem State.modQuad_lateStores (s : State) (q : Nat) (f : Quad → Quad) : (s.modQuad q f).lateStores = s.lateStores := rfl
@[simp] theorem State.modQuad_txnStats (s : State) (q : Nat) (f : Quad → Quad) : (s.modQuad q f).txnStats = s.txnStats := rfl
@[simp] theorem State.modQuad_quietDue (s : State) (q : Nat) (f : Quad → Quad) : (s.modQuad q f).quietDue = s.quietDue := rfl
@[simp] theorem State.modQuad_nextTxn (s : State) (q : Nat) (f : Quad → Quad) : (s.modQuad q f).nextTxn = s.nextTxn := rfl
@[simp] theorem State.modQuad_nextOrder (s : State) (q : Nat) (f : Quad → Quad) : (s.modQuad q f).nextOrder = s.nextOrder := rfl
@[simp] theorem State.modQuad_txq (s : State) (q : Nat) (f : Quad → Quad) : (s.modQuad q f).txq = s.txq := rfl
@[simp] theorem State.modQuad_waitingReplies (s : State) (q : Nat) (f : Quad → Quad) : (s.modQuad q f).waitingReplies = s.waitingReplies := rfl
@[simp] theorem State.modQuad_unknownErrors (s : State) (q : Nat) (f : Quad → Quad) : (s.modQuad q f).unknownErrors = s.unknownErrors := rfl
@[simp] theorem State.modQuad_lines (s : State) (q : Nat) (f : Quad → Quad) : (s.modQuad q f).lines = s.lines := rfl
@[simp] theorem State.modQuad_heldLines (s : State) (q : Nat) (f : Quad → Quad) : (s.modQuad q f).heldLines = s.heldLines := rfl
@[simp] theorem State.modQuad_challenges (s : State) (q : Nat) (f : Quad → Quad) : (s.modQuad q f).challenges = s.challenges := rfl
@[simp] theorem State.modQuad_freeLines (s : State) (q : Nat) (f : Quad → Quad) : (s.modQuad q f).freeLines = s.freeLines := rfl
@[simp] theorem State.modQuad_nextLine (s : State) (q : Nat) (f : Quad → Quad) : (s.modQuad q f).nextLine = s.nextLine := rfl
@[simp] theorem State.modQuad_bootNonce (s : State) (q : Nat) (f : Quad → Quad) : (s.modQuad q f).bootNonce = s.bootNonce := rfl
@[simp] theorem State.modQuad_moduleKey (s : State) (q : Nat) (f : Quad → Quad) : (s.modQuad q f).moduleKey = s.moduleKey := rfl
@[simp] theorem State.modQuad_trngKind (s : State) (q : Nat) (f : Quad → Quad) : (s.modQuad q f).trngKind = s.trngKind := rfl
@[simp] theorem State.modQuad_trngTick (s : State) (q : Nat) (f : Quad → Quad) : (s.modQuad q f).trngTick = s.trngTick := rfl
@[simp] theorem State.modQuad_eth (s : State) (q : Nat) (f : Quad → Quad) : (s.modQuad q f).eth = s.eth := rfl
@[simp] theorem State.modQuad_spire (s : State) (q : Nat) (f : Quad → Quad) : (s.modQuad q f).spire = s.spire := rfl
@[simp] theorem State.modQuad_power (s : State) (q : Nat) (f : Quad → Quad) : (s.modQuad q f).power = s.power := rfl
@[simp] theorem State.modQuad_pins (s : State) (q : Nat) (f : Quad → Quad) : (s.modQuad q f).pins = s.pins := rfl
@[simp] theorem State.modQuad_safe (s : State) (q : Nat) (f : Quad → Quad) : (s.modQuad q f).safe = s.safe := rfl
@[simp] theorem State.modQuad_box (s : State) (q : Nat) (f : Quad → Quad) : (s.modQuad q f).box = s.box := rfl
@[simp] theorem State.modQuad_counters (s : State) (q : Nat) (f : Quad → Quad) : (s.modQuad q f).counters = s.counters := rfl
@[simp] theorem State.modQuad_lantern (s : State) (q : Nat) (f : Quad → Quad) : (s.modQuad q f).lantern = s.lantern := rfl
@[simp] theorem State.modQuad_sweep (s : State) (q : Nat) (f : Quad → Quad) : (s.modQuad q f).sweep = s.sweep := rfl
@[simp] theorem State.modQuad_store (s : State) (q : Nat) (f : Quad → Quad) : (s.modQuad q f).store = s.store := rfl
@[simp] theorem State.modQuad_rtc (s : State) (q : Nat) (f : Quad → Quad) : (s.modQuad q f).rtc = s.rtc := rfl
@[simp] theorem State.modQuad_belfry (s : State) (q : Nat) (f : Quad → Quad) : (s.modQuad q f).belfry = s.belfry := rfl
@[simp] theorem State.modQuad_bootEvents (s : State) (q : Nat) (f : Quad → Quad) : (s.modQuad q f).bootEvents = s.bootEvents := rfl
@[simp] theorem State.modQuad_banks (s : State) (q : Nat) (f : Quad → Quad) : (s.modQuad q f).banks = s.banks := rfl
@[simp] theorem State.modQuad_quads (s : State) (q : Nat) (f : Quad → Quad) : (s.modQuad q f).quads = tmod s.quads q f := rfl
@[simp] theorem State.modQuad_ports (s : State) (q : Nat) (f : Quad → Quad) : (s.modQuad q f).ports = s.ports := rfl
@[simp] theorem State.modQuad_rounds (s : State) (q : Nat) (f : Quad → Quad) : (s.modQuad q f).rounds = s.rounds := rfl
@[simp] theorem State.modQuad_plans (s : State) (q : Nat) (f : Quad → Quad) : (s.modQuad q f).plans = s.plans := rfl
@[simp] theorem State.modQuad_tags (s : State) (q : Nat) (f : Quad → Quad) : (s.modQuad q f).tags = s.tags := rfl
@[simp] theorem State.modQuad_coex (s : State) (q : Nat) (f : Quad → Quad) : (s.modQuad q f).coex = s.coex := rfl
@[simp] theorem State.modQuad_hsbErrors (s : State) (q : Nat) (f : Quad → Quad) : (s.modQuad q f).hsbErrors = s.hsbErrors := rfl
@[simp] theorem State.modQuad_ldpc (s : State) (q : Nat) (f : Quad → Quad) : (s.modQuad q f).ldpc = s.ldpc := rfl
@[simp] theorem State.modQuad_ldpcQueue (s : State) (q : Nat) (f : Quad → Quad) : (s.modQuad q f).ldpcQueue = s.ldpcQueue := rfl
@[simp] theorem State.modQuad_ldpcCores (s : State) (q : Nat) (f : Quad → Quad) : (s.modQuad q f).ldpcCores = s.ldpcCores := rfl
@[simp] theorem State.modQuad_timers (s : State) (q : Nat) (f : Quad → Quad) : (s.modQuad q f).timers = s.timers := rfl
@[simp] theorem State.modQuad_hfPorts (s : State) (q : Nat) (f : Quad → Quad) : (s.modQuad q f).hfPorts = s.hfPorts := rfl
@[simp] theorem State.modQuad_hfTx (s : State) (q : Nat) (f : Quad → Quad) : (s.modQuad q f).hfTx = s.hfTx := rfl
@[simp] theorem State.modQuad_caps (s : State) (q : Nat) (f : Quad → Quad) : (s.modQuad q f).caps = s.caps := rfl
@[simp] theorem State.modQuad_meters (s : State) (q : Nat) (f : Quad → Quad) : (s.modQuad q f).meters = s.meters := rfl
@[simp] theorem State.modQuad_savedMeters (s : State) (q : Nat) (f : Quad → Quad) : (s.modQuad q f).savedMeters = s.savedMeters := rfl
@[simp] theorem State.modQuad_olderMeters (s : State) (q : Nat) (f : Quad → Quad) : (s.modQuad q f).olderMeters = s.olderMeters := rfl
@[simp] theorem State.modQuad_newerControl (s : State) (q : Nat) (f : Quad → Quad) : (s.modQuad q f).newerControl = s.newerControl := rfl
@[simp] theorem State.modQuad_classes (s : State) (q : Nat) (f : Quad → Quad) : (s.modQuad q f).classes = s.classes := rfl
@[simp] theorem State.modQuad_journals (s : State) (q : Nat) (f : Quad → Quad) : (s.modQuad q f).journals = s.journals := rfl
@[simp] theorem State.modQuad_groups (s : State) (q : Nat) (f : Quad → Quad) : (s.modQuad q f).groups = s.groups := rfl
@[simp] theorem State.modQuad_served (s : State) (q : Nat) (f : Quad → Quad) : (s.modQuad q f).served = s.served := rfl
@[simp] theorem State.modQuad_unregistered (s : State) (q : Nat) (f : Quad → Quad) : (s.modQuad q f).unregistered = s.unregistered := rfl
@[simp] theorem State.modQuad_sealed (s : State) (q : Nat) (f : Quad → Quad) : (s.modQuad q f).sealed = s.sealed := rfl
@[simp] theorem State.modQuad_unresolved (s : State) (q : Nat) (f : Quad → Quad) : (s.modQuad q f).unresolved = s.unresolved := rfl
@[simp] theorem State.modQuad_val (s : State) (q : Nat) (f : Quad → Quad) (o : Nat) : (s.modQuad q f).val o = s.val o := rfl

/-! ### `State.modTx` -/

@[simp] theorem State.modTx_now (s : State) (q : Nat) (f : Tx → Tx) : (s.modTx q f).now = s.now := rfl
@[simp] theorem State.modTx_pending (s : State) (q : Nat) (f : Tx → Tx) : (s.modTx q f).pending = s.pending := rfl
@[simp] theorem State.modTx_freeCount (s : State) (q : Nat) (f : Tx → Tx) : (s.modTx q f).freeCount = s.freeCount := rfl
@[simp] theorem State.modTx_dict (s : State) (q : Nat) (f : Tx → Tx) : (s.modTx q f).dict = s.dict := rfl
@[simp] theorem State.modTx_bootDict (s : State) (q : Nat) (f : Tx → Tx) : (s.modTx q f).bootDict = s.bootDict := rfl
@[simp] theorem State.modTx_heldBack (s : State) (q : Nat) (f : Tx → Tx) : (s.modTx q f).heldBack = s.heldBack := rfl
@[simp] theorem State.modTx_dwellLowered (s : State) (q : Nat) (f : Tx → Tx) : (s.modTx q f).dwellLowered = s.dwellLowered := rfl
@[simp] theorem State.modTx_changes (s : State) (q : Nat) (f : Tx → Tx) : (s.modTx q f).changes = s.changes := rfl
@[simp] theorem State.modTx_delivered (s : State) (q : Nat) (f : Tx → Tx) : (s.modTx q f).delivered = s.delivered := rfl
@[simp] theorem State.modTx_fuses (s : State) (q : Nat) (f : Tx → Tx) : (s.modTx q f).fuses = s.fuses := rfl
@[simp] theorem State.modTx_shades (s : State) (q : Nat) (f : Tx → Tx) : (s.modTx q f).shades = s.shades := rfl
@[simp] theorem State.modTx_sessions (s : State) (q : Nat) (f : Tx → Tx) : (s.modTx q f).sessions = s.sessions := rfl
@[simp] theorem State.modTx_txns (s : State) (q : Nat) (f : Tx → Tx) : (s.modTx q f).txns = s.txns := rfl
@[simp] theorem State.modTx_lateStores (s : State) (q : Nat) (f : Tx → Tx) : (s.modTx q f).lateStores = s.lateStores := rfl
@[simp] theorem State.modTx_txnStats (s : State) (q : Nat) (f : Tx → Tx) : (s.modTx q f).txnStats = s.txnStats := rfl
@[simp] theorem State.modTx_quietDue (s : State) (q : Nat) (f : Tx → Tx) : (s.modTx q f).quietDue = s.quietDue := rfl
@[simp] theorem State.modTx_nextTxn (s : State) (q : Nat) (f : Tx → Tx) : (s.modTx q f).nextTxn = s.nextTxn := rfl
@[simp] theorem State.modTx_nextOrder (s : State) (q : Nat) (f : Tx → Tx) : (s.modTx q f).nextOrder = s.nextOrder := rfl
@[simp] theorem State.modTx_txq (s : State) (q : Nat) (f : Tx → Tx) : (s.modTx q f).txq = s.txq := rfl
@[simp] theorem State.modTx_waitingReplies (s : State) (q : Nat) (f : Tx → Tx) : (s.modTx q f).waitingReplies = s.waitingReplies := rfl
@[simp] theorem State.modTx_unknownErrors (s : State) (q : Nat) (f : Tx → Tx) : (s.modTx q f).unknownErrors = s.unknownErrors := rfl
@[simp] theorem State.modTx_lines (s : State) (q : Nat) (f : Tx → Tx) : (s.modTx q f).lines = s.lines := rfl
@[simp] theorem State.modTx_heldLines (s : State) (q : Nat) (f : Tx → Tx) : (s.modTx q f).heldLines = s.heldLines := rfl
@[simp] theorem State.modTx_challenges (s : State) (q : Nat) (f : Tx → Tx) : (s.modTx q f).challenges = s.challenges := rfl
@[simp] theorem State.modTx_freeLines (s : State) (q : Nat) (f : Tx → Tx) : (s.modTx q f).freeLines = s.freeLines := rfl
@[simp] theorem State.modTx_nextLine (s : State) (q : Nat) (f : Tx → Tx) : (s.modTx q f).nextLine = s.nextLine := rfl
@[simp] theorem State.modTx_bootNonce (s : State) (q : Nat) (f : Tx → Tx) : (s.modTx q f).bootNonce = s.bootNonce := rfl
@[simp] theorem State.modTx_moduleKey (s : State) (q : Nat) (f : Tx → Tx) : (s.modTx q f).moduleKey = s.moduleKey := rfl
@[simp] theorem State.modTx_trngKind (s : State) (q : Nat) (f : Tx → Tx) : (s.modTx q f).trngKind = s.trngKind := rfl
@[simp] theorem State.modTx_trngTick (s : State) (q : Nat) (f : Tx → Tx) : (s.modTx q f).trngTick = s.trngTick := rfl
@[simp] theorem State.modTx_eth (s : State) (q : Nat) (f : Tx → Tx) : (s.modTx q f).eth = s.eth := rfl
@[simp] theorem State.modTx_spire (s : State) (q : Nat) (f : Tx → Tx) : (s.modTx q f).spire = s.spire := rfl
@[simp] theorem State.modTx_power (s : State) (q : Nat) (f : Tx → Tx) : (s.modTx q f).power = s.power := rfl
@[simp] theorem State.modTx_pins (s : State) (q : Nat) (f : Tx → Tx) : (s.modTx q f).pins = s.pins := rfl
@[simp] theorem State.modTx_safe (s : State) (q : Nat) (f : Tx → Tx) : (s.modTx q f).safe = s.safe := rfl
@[simp] theorem State.modTx_box (s : State) (q : Nat) (f : Tx → Tx) : (s.modTx q f).box = s.box := rfl
@[simp] theorem State.modTx_counters (s : State) (q : Nat) (f : Tx → Tx) : (s.modTx q f).counters = s.counters := rfl
@[simp] theorem State.modTx_lantern (s : State) (q : Nat) (f : Tx → Tx) : (s.modTx q f).lantern = s.lantern := rfl
@[simp] theorem State.modTx_sweep (s : State) (q : Nat) (f : Tx → Tx) : (s.modTx q f).sweep = s.sweep := rfl
@[simp] theorem State.modTx_store (s : State) (q : Nat) (f : Tx → Tx) : (s.modTx q f).store = s.store := rfl
@[simp] theorem State.modTx_rtc (s : State) (q : Nat) (f : Tx → Tx) : (s.modTx q f).rtc = s.rtc := rfl
@[simp] theorem State.modTx_belfry (s : State) (q : Nat) (f : Tx → Tx) : (s.modTx q f).belfry = s.belfry := rfl
@[simp] theorem State.modTx_bootEvents (s : State) (q : Nat) (f : Tx → Tx) : (s.modTx q f).bootEvents = s.bootEvents := rfl
@[simp] theorem State.modTx_banks (s : State) (q : Nat) (f : Tx → Tx) : (s.modTx q f).banks = s.banks := rfl
@[simp] theorem State.modTx_ports (s : State) (q : Nat) (f : Tx → Tx) : (s.modTx q f).ports = s.ports := rfl
@[simp] theorem State.modTx_rounds (s : State) (q : Nat) (f : Tx → Tx) : (s.modTx q f).rounds = s.rounds := rfl
@[simp] theorem State.modTx_plans (s : State) (q : Nat) (f : Tx → Tx) : (s.modTx q f).plans = s.plans := rfl
@[simp] theorem State.modTx_tags (s : State) (q : Nat) (f : Tx → Tx) : (s.modTx q f).tags = s.tags := rfl
@[simp] theorem State.modTx_coex (s : State) (q : Nat) (f : Tx → Tx) : (s.modTx q f).coex = s.coex := rfl
@[simp] theorem State.modTx_hsbErrors (s : State) (q : Nat) (f : Tx → Tx) : (s.modTx q f).hsbErrors = s.hsbErrors := rfl
@[simp] theorem State.modTx_ldpc (s : State) (q : Nat) (f : Tx → Tx) : (s.modTx q f).ldpc = s.ldpc := rfl
@[simp] theorem State.modTx_ldpcQueue (s : State) (q : Nat) (f : Tx → Tx) : (s.modTx q f).ldpcQueue = s.ldpcQueue := rfl
@[simp] theorem State.modTx_ldpcCores (s : State) (q : Nat) (f : Tx → Tx) : (s.modTx q f).ldpcCores = s.ldpcCores := rfl
@[simp] theorem State.modTx_timers (s : State) (q : Nat) (f : Tx → Tx) : (s.modTx q f).timers = s.timers := rfl
@[simp] theorem State.modTx_hfPorts (s : State) (q : Nat) (f : Tx → Tx) : (s.modTx q f).hfPorts = s.hfPorts := rfl
@[simp] theorem State.modTx_hfTx (s : State) (q : Nat) (f : Tx → Tx) : (s.modTx q f).hfTx = s.hfTx := rfl
@[simp] theorem State.modTx_caps (s : State) (q : Nat) (f : Tx → Tx) : (s.modTx q f).caps = s.caps := rfl
@[simp] theorem State.modTx_meters (s : State) (q : Nat) (f : Tx → Tx) : (s.modTx q f).meters = s.meters := rfl
@[simp] theorem State.modTx_savedMeters (s : State) (q : Nat) (f : Tx → Tx) : (s.modTx q f).savedMeters = s.savedMeters := rfl
@[simp] theorem State.modTx_olderMeters (s : State) (q : Nat) (f : Tx → Tx) : (s.modTx q f).olderMeters = s.olderMeters := rfl
@[simp] theorem State.modTx_newerControl (s : State) (q : Nat) (f : Tx → Tx) : (s.modTx q f).newerControl = s.newerControl := rfl
@[simp] theorem State.modTx_classes (s : State) (q : Nat) (f : Tx → Tx) : (s.modTx q f).classes = s.classes := rfl
@[simp] theorem State.modTx_journals (s : State) (q : Nat) (f : Tx → Tx) : (s.modTx q f).journals = s.journals := rfl
@[simp] theorem State.modTx_groups (s : State) (q : Nat) (f : Tx → Tx) : (s.modTx q f).groups = s.groups := rfl
@[simp] theorem State.modTx_served (s : State) (q : Nat) (f : Tx → Tx) : (s.modTx q f).served = s.served := rfl
@[simp] theorem State.modTx_unregistered (s : State) (q : Nat) (f : Tx → Tx) : (s.modTx q f).unregistered = s.unregistered := rfl
@[simp] theorem State.modTx_sealed (s : State) (q : Nat) (f : Tx → Tx) : (s.modTx q f).sealed = s.sealed := rfl
@[simp] theorem State.modTx_unresolved (s : State) (q : Nat) (f : Tx → Tx) : (s.modTx q f).unresolved = s.unresolved := rfl
@[simp] theorem State.modTx_val (s : State) (q : Nat) (f : Tx → Tx) (o : Nat) : (s.modTx q f).val o = s.val o := rfl

/-! ### `State.modSeq` -/

@[simp] theorem State.modSeq_now (s : State) (q : Nat) (f : Seq → Seq) : (s.modSeq q f).now = s.now := rfl
@[simp] theorem State.modSeq_pending (s : State) (q : Nat) (f : Seq → Seq) : (s.modSeq q f).pending = s.pending := rfl
@[simp] theorem State.modSeq_freeCount (s : State) (q : Nat) (f : Seq → Seq) : (s.modSeq q f).freeCount = s.freeCount := rfl
@[simp] theorem State.modSeq_dict (s : State) (q : Nat) (f : Seq → Seq) : (s.modSeq q f).dict = s.dict := rfl
@[simp] theorem State.modSeq_bootDict (s : State) (q : Nat) (f : Seq → Seq) : (s.modSeq q f).bootDict = s.bootDict := rfl
@[simp] theorem State.modSeq_heldBack (s : State) (q : Nat) (f : Seq → Seq) : (s.modSeq q f).heldBack = s.heldBack := rfl
@[simp] theorem State.modSeq_dwellLowered (s : State) (q : Nat) (f : Seq → Seq) : (s.modSeq q f).dwellLowered = s.dwellLowered := rfl
@[simp] theorem State.modSeq_changes (s : State) (q : Nat) (f : Seq → Seq) : (s.modSeq q f).changes = s.changes := rfl
@[simp] theorem State.modSeq_delivered (s : State) (q : Nat) (f : Seq → Seq) : (s.modSeq q f).delivered = s.delivered := rfl
@[simp] theorem State.modSeq_fuses (s : State) (q : Nat) (f : Seq → Seq) : (s.modSeq q f).fuses = s.fuses := rfl
@[simp] theorem State.modSeq_shades (s : State) (q : Nat) (f : Seq → Seq) : (s.modSeq q f).shades = s.shades := rfl
@[simp] theorem State.modSeq_sessions (s : State) (q : Nat) (f : Seq → Seq) : (s.modSeq q f).sessions = s.sessions := rfl
@[simp] theorem State.modSeq_txns (s : State) (q : Nat) (f : Seq → Seq) : (s.modSeq q f).txns = s.txns := rfl
@[simp] theorem State.modSeq_lateStores (s : State) (q : Nat) (f : Seq → Seq) : (s.modSeq q f).lateStores = s.lateStores := rfl
@[simp] theorem State.modSeq_txnStats (s : State) (q : Nat) (f : Seq → Seq) : (s.modSeq q f).txnStats = s.txnStats := rfl
@[simp] theorem State.modSeq_quietDue (s : State) (q : Nat) (f : Seq → Seq) : (s.modSeq q f).quietDue = s.quietDue := rfl
@[simp] theorem State.modSeq_nextTxn (s : State) (q : Nat) (f : Seq → Seq) : (s.modSeq q f).nextTxn = s.nextTxn := rfl
@[simp] theorem State.modSeq_nextOrder (s : State) (q : Nat) (f : Seq → Seq) : (s.modSeq q f).nextOrder = s.nextOrder := rfl
@[simp] theorem State.modSeq_txq (s : State) (q : Nat) (f : Seq → Seq) : (s.modSeq q f).txq = s.txq := rfl
@[simp] theorem State.modSeq_waitingReplies (s : State) (q : Nat) (f : Seq → Seq) : (s.modSeq q f).waitingReplies = s.waitingReplies := rfl
@[simp] theorem State.modSeq_unknownErrors (s : State) (q : Nat) (f : Seq → Seq) : (s.modSeq q f).unknownErrors = s.unknownErrors := rfl
@[simp] theorem State.modSeq_lines (s : State) (q : Nat) (f : Seq → Seq) : (s.modSeq q f).lines = s.lines := rfl
@[simp] theorem State.modSeq_heldLines (s : State) (q : Nat) (f : Seq → Seq) : (s.modSeq q f).heldLines = s.heldLines := rfl
@[simp] theorem State.modSeq_challenges (s : State) (q : Nat) (f : Seq → Seq) : (s.modSeq q f).challenges = s.challenges := rfl
@[simp] theorem State.modSeq_freeLines (s : State) (q : Nat) (f : Seq → Seq) : (s.modSeq q f).freeLines = s.freeLines := rfl
@[simp] theorem State.modSeq_nextLine (s : State) (q : Nat) (f : Seq → Seq) : (s.modSeq q f).nextLine = s.nextLine := rfl
@[simp] theorem State.modSeq_bootNonce (s : State) (q : Nat) (f : Seq → Seq) : (s.modSeq q f).bootNonce = s.bootNonce := rfl
@[simp] theorem State.modSeq_moduleKey (s : State) (q : Nat) (f : Seq → Seq) : (s.modSeq q f).moduleKey = s.moduleKey := rfl
@[simp] theorem State.modSeq_trngKind (s : State) (q : Nat) (f : Seq → Seq) : (s.modSeq q f).trngKind = s.trngKind := rfl
@[simp] theorem State.modSeq_trngTick (s : State) (q : Nat) (f : Seq → Seq) : (s.modSeq q f).trngTick = s.trngTick := rfl
@[simp] theorem State.modSeq_eth (s : State) (q : Nat) (f : Seq → Seq) : (s.modSeq q f).eth = s.eth := rfl
@[simp] theorem State.modSeq_spire (s : State) (q : Nat) (f : Seq → Seq) : (s.modSeq q f).spire = s.spire := rfl
@[simp] theorem State.modSeq_power (s : State) (q : Nat) (f : Seq → Seq) : (s.modSeq q f).power = s.power := rfl
@[simp] theorem State.modSeq_pins (s : State) (q : Nat) (f : Seq → Seq) : (s.modSeq q f).pins = s.pins := rfl
@[simp] theorem State.modSeq_safe (s : State) (q : Nat) (f : Seq → Seq) : (s.modSeq q f).safe = s.safe := rfl
@[simp] theorem State.modSeq_box (s : State) (q : Nat) (f : Seq → Seq) : (s.modSeq q f).box = s.box := rfl
@[simp] theorem State.modSeq_counters (s : State) (q : Nat) (f : Seq → Seq) : (s.modSeq q f).counters = s.counters := rfl
@[simp] theorem State.modSeq_lantern (s : State) (q : Nat) (f : Seq → Seq) : (s.modSeq q f).lantern = s.lantern := rfl
@[simp] theorem State.modSeq_sweep (s : State) (q : Nat) (f : Seq → Seq) : (s.modSeq q f).sweep = s.sweep := rfl
@[simp] theorem State.modSeq_store (s : State) (q : Nat) (f : Seq → Seq) : (s.modSeq q f).store = s.store := rfl
@[simp] theorem State.modSeq_rtc (s : State) (q : Nat) (f : Seq → Seq) : (s.modSeq q f).rtc = s.rtc := rfl
@[simp] theorem State.modSeq_belfry (s : State) (q : Nat) (f : Seq → Seq) : (s.modSeq q f).belfry = s.belfry := rfl
@[simp] theorem State.modSeq_bootEvents (s : State) (q : Nat) (f : Seq → Seq) : (s.modSeq q f).bootEvents = s.bootEvents := rfl
@[simp] theorem State.modSeq_banks (s : State) (q : Nat) (f : Seq → Seq) : (s.modSeq q f).banks = s.banks := rfl
@[simp] theorem State.modSeq_ports (s : State) (q : Nat) (f : Seq → Seq) : (s.modSeq q f).ports = s.ports := rfl
@[simp] theorem State.modSeq_rounds (s : State) (q : Nat) (f : Seq → Seq) : (s.modSeq q f).rounds = s.rounds := rfl
@[simp] theorem State.modSeq_plans (s : State) (q : Nat) (f : Seq → Seq) : (s.modSeq q f).plans = s.plans := rfl
@[simp] theorem State.modSeq_tags (s : State) (q : Nat) (f : Seq → Seq) : (s.modSeq q f).tags = s.tags := rfl
@[simp] theorem State.modSeq_coex (s : State) (q : Nat) (f : Seq → Seq) : (s.modSeq q f).coex = s.coex := rfl
@[simp] theorem State.modSeq_hsbErrors (s : State) (q : Nat) (f : Seq → Seq) : (s.modSeq q f).hsbErrors = s.hsbErrors := rfl
@[simp] theorem State.modSeq_ldpc (s : State) (q : Nat) (f : Seq → Seq) : (s.modSeq q f).ldpc = s.ldpc := rfl
@[simp] theorem State.modSeq_ldpcQueue (s : State) (q : Nat) (f : Seq → Seq) : (s.modSeq q f).ldpcQueue = s.ldpcQueue := rfl
@[simp] theorem State.modSeq_ldpcCores (s : State) (q : Nat) (f : Seq → Seq) : (s.modSeq q f).ldpcCores = s.ldpcCores := rfl
@[simp] theorem State.modSeq_timers (s : State) (q : Nat) (f : Seq → Seq) : (s.modSeq q f).timers = s.timers := rfl
@[simp] theorem State.modSeq_hfPorts (s : State) (q : Nat) (f : Seq → Seq) : (s.modSeq q f).hfPorts = s.hfPorts := rfl
@[simp] theorem State.modSeq_hfTx (s : State) (q : Nat) (f : Seq → Seq) : (s.modSeq q f).hfTx = s.hfTx := rfl
@[simp] theorem State.modSeq_caps (s : State) (q : Nat) (f : Seq → Seq) : (s.modSeq q f).caps = s.caps := rfl
@[simp] theorem State.modSeq_meters (s : State) (q : Nat) (f : Seq → Seq) : (s.modSeq q f).meters = s.meters := rfl
@[simp] theorem State.modSeq_savedMeters (s : State) (q : Nat) (f : Seq → Seq) : (s.modSeq q f).savedMeters = s.savedMeters := rfl
@[simp] theorem State.modSeq_olderMeters (s : State) (q : Nat) (f : Seq → Seq) : (s.modSeq q f).olderMeters = s.olderMeters := rfl
@[simp] theorem State.modSeq_newerControl (s : State) (q : Nat) (f : Seq → Seq) : (s.modSeq q f).newerControl = s.newerControl := rfl
@[simp] theorem State.modSeq_classes (s : State) (q : Nat) (f : Seq → Seq) : (s.modSeq q f).classes = s.classes := rfl
@[simp] theorem State.modSeq_journals (s : State) (q : Nat) (f : Seq → Seq) : (s.modSeq q f).journals = s.journals := rfl
@[simp] theorem State.modSeq_groups (s : State) (q : Nat) (f : Seq → Seq) : (s.modSeq q f).groups = s.groups := rfl
@[simp] theorem State.modSeq_served (s : State) (q : Nat) (f : Seq → Seq) : (s.modSeq q f).served = s.served := rfl
@[simp] theorem State.modSeq_unregistered (s : State) (q : Nat) (f : Seq → Seq) : (s.modSeq q f).unregistered = s.unregistered := rfl
@[simp] theorem State.modSeq_sealed (s : State) (q : Nat) (f : Seq → Seq) : (s.modSeq q f).sealed = s.sealed := rfl
@[simp] theorem State.modSeq_unresolved (s : State) (q : Nat) (f : Seq → Seq) : (s.modSeq q f).unresolved = s.unresolved := rfl
@[simp] theorem State.modSeq_val (s : State) (q : Nat) (f : Seq → Seq) (o : Nat) : (s.modSeq q f).val o = s.val o := rfl

/-! ### `State.modPort` -/

@[simp] theorem State.modPort_now (s : State) (p : Nat) (f : Port → Port) : (s.modPort p f).now = s.now := rfl
@[simp] theorem State.modPort_pending (s : State) (p : Nat) (f : Port → Port) : (s.modPort p f).pending = s.pending := rfl
@[simp] theorem State.modPort_freeCount (s : State) (p : Nat) (f : Port → Port) : (s.modPort p f).freeCount = s.freeCount := rfl
@[simp] theorem State.modPort_dict (s : State) (p : Nat) (f : Port → Port) : (s.modPort p f).dict = s.dict := rfl
@[simp] theorem State.modPort_bootDict (s : State) (p : Nat) (f : Port → Port) : (s.modPort p f).bootDict = s.bootDict := rfl
@[simp] theorem State.modPort_heldBack (s : State) (p : Nat) (f : Port → Port) : (s.modPort p f).heldBack = s.heldBack := rfl
@[simp] theorem State.modPort_dwellLowered (s : State) (p : Nat) (f : Port → Port) : (s.modPort p f).dwellLowered = s.dwellLowered := rfl
@[simp] theorem State.modPort_changes (s : State) (p : Nat) (f : Port → Port) : (s.modPort p f).changes = s.changes := rfl
@[simp] theorem State.modPort_delivered (s : State) (p : Nat) (f : Port → Port) : (s.modPort p f).delivered = s.delivered := rfl
@[simp] theorem State.modPort_fuses (s : State) (p : Nat) (f : Port → Port) : (s.modPort p f).fuses = s.fuses := rfl
@[simp] theorem State.modPort_shades (s : State) (p : Nat) (f : Port → Port) : (s.modPort p f).shades = s.shades := rfl
@[simp] theorem State.modPort_sessions (s : State) (p : Nat) (f : Port → Port) : (s.modPort p f).sessions = s.sessions := rfl
@[simp] theorem State.modPort_txns (s : State) (p : Nat) (f : Port → Port) : (s.modPort p f).txns = s.txns := rfl
@[simp] theorem State.modPort_lateStores (s : State) (p : Nat) (f : Port → Port) : (s.modPort p f).lateStores = s.lateStores := rfl
@[simp] theorem State.modPort_txnStats (s : State) (p : Nat) (f : Port → Port) : (s.modPort p f).txnStats = s.txnStats := rfl
@[simp] theorem State.modPort_quietDue (s : State) (p : Nat) (f : Port → Port) : (s.modPort p f).quietDue = s.quietDue := rfl
@[simp] theorem State.modPort_nextTxn (s : State) (p : Nat) (f : Port → Port) : (s.modPort p f).nextTxn = s.nextTxn := rfl
@[simp] theorem State.modPort_nextOrder (s : State) (p : Nat) (f : Port → Port) : (s.modPort p f).nextOrder = s.nextOrder := rfl
@[simp] theorem State.modPort_txq (s : State) (p : Nat) (f : Port → Port) : (s.modPort p f).txq = s.txq := rfl
@[simp] theorem State.modPort_waitingReplies (s : State) (p : Nat) (f : Port → Port) : (s.modPort p f).waitingReplies = s.waitingReplies := rfl
@[simp] theorem State.modPort_unknownErrors (s : State) (p : Nat) (f : Port → Port) : (s.modPort p f).unknownErrors = s.unknownErrors := rfl
@[simp] theorem State.modPort_lines (s : State) (p : Nat) (f : Port → Port) : (s.modPort p f).lines = s.lines := rfl
@[simp] theorem State.modPort_heldLines (s : State) (p : Nat) (f : Port → Port) : (s.modPort p f).heldLines = s.heldLines := rfl
@[simp] theorem State.modPort_challenges (s : State) (p : Nat) (f : Port → Port) : (s.modPort p f).challenges = s.challenges := rfl
@[simp] theorem State.modPort_freeLines (s : State) (p : Nat) (f : Port → Port) : (s.modPort p f).freeLines = s.freeLines := rfl
@[simp] theorem State.modPort_nextLine (s : State) (p : Nat) (f : Port → Port) : (s.modPort p f).nextLine = s.nextLine := rfl
@[simp] theorem State.modPort_bootNonce (s : State) (p : Nat) (f : Port → Port) : (s.modPort p f).bootNonce = s.bootNonce := rfl
@[simp] theorem State.modPort_moduleKey (s : State) (p : Nat) (f : Port → Port) : (s.modPort p f).moduleKey = s.moduleKey := rfl
@[simp] theorem State.modPort_trngKind (s : State) (p : Nat) (f : Port → Port) : (s.modPort p f).trngKind = s.trngKind := rfl
@[simp] theorem State.modPort_trngTick (s : State) (p : Nat) (f : Port → Port) : (s.modPort p f).trngTick = s.trngTick := rfl
@[simp] theorem State.modPort_eth (s : State) (p : Nat) (f : Port → Port) : (s.modPort p f).eth = s.eth := rfl
@[simp] theorem State.modPort_spire (s : State) (p : Nat) (f : Port → Port) : (s.modPort p f).spire = s.spire := rfl
@[simp] theorem State.modPort_power (s : State) (p : Nat) (f : Port → Port) : (s.modPort p f).power = s.power := rfl
@[simp] theorem State.modPort_pins (s : State) (p : Nat) (f : Port → Port) : (s.modPort p f).pins = s.pins := rfl
@[simp] theorem State.modPort_safe (s : State) (p : Nat) (f : Port → Port) : (s.modPort p f).safe = s.safe := rfl
@[simp] theorem State.modPort_box (s : State) (p : Nat) (f : Port → Port) : (s.modPort p f).box = s.box := rfl
@[simp] theorem State.modPort_counters (s : State) (p : Nat) (f : Port → Port) : (s.modPort p f).counters = s.counters := rfl
@[simp] theorem State.modPort_lantern (s : State) (p : Nat) (f : Port → Port) : (s.modPort p f).lantern = s.lantern := rfl
@[simp] theorem State.modPort_sweep (s : State) (p : Nat) (f : Port → Port) : (s.modPort p f).sweep = s.sweep := rfl
@[simp] theorem State.modPort_store (s : State) (p : Nat) (f : Port → Port) : (s.modPort p f).store = s.store := rfl
@[simp] theorem State.modPort_rtc (s : State) (p : Nat) (f : Port → Port) : (s.modPort p f).rtc = s.rtc := rfl
@[simp] theorem State.modPort_belfry (s : State) (p : Nat) (f : Port → Port) : (s.modPort p f).belfry = s.belfry := rfl
@[simp] theorem State.modPort_bootEvents (s : State) (p : Nat) (f : Port → Port) : (s.modPort p f).bootEvents = s.bootEvents := rfl
@[simp] theorem State.modPort_banks (s : State) (p : Nat) (f : Port → Port) : (s.modPort p f).banks = s.banks := rfl
@[simp] theorem State.modPort_quads (s : State) (p : Nat) (f : Port → Port) : (s.modPort p f).quads = s.quads := rfl
@[simp] theorem State.modPort_ports (s : State) (p : Nat) (f : Port → Port) : (s.modPort p f).ports = tmod s.ports p f := rfl
@[simp] theorem State.modPort_rounds (s : State) (p : Nat) (f : Port → Port) : (s.modPort p f).rounds = s.rounds := rfl
@[simp] theorem State.modPort_plans (s : State) (p : Nat) (f : Port → Port) : (s.modPort p f).plans = s.plans := rfl
@[simp] theorem State.modPort_tags (s : State) (p : Nat) (f : Port → Port) : (s.modPort p f).tags = s.tags := rfl
@[simp] theorem State.modPort_coex (s : State) (p : Nat) (f : Port → Port) : (s.modPort p f).coex = s.coex := rfl
@[simp] theorem State.modPort_hsbErrors (s : State) (p : Nat) (f : Port → Port) : (s.modPort p f).hsbErrors = s.hsbErrors := rfl
@[simp] theorem State.modPort_ldpc (s : State) (p : Nat) (f : Port → Port) : (s.modPort p f).ldpc = s.ldpc := rfl
@[simp] theorem State.modPort_ldpcQueue (s : State) (p : Nat) (f : Port → Port) : (s.modPort p f).ldpcQueue = s.ldpcQueue := rfl
@[simp] theorem State.modPort_ldpcCores (s : State) (p : Nat) (f : Port → Port) : (s.modPort p f).ldpcCores = s.ldpcCores := rfl
@[simp] theorem State.modPort_timers (s : State) (p : Nat) (f : Port → Port) : (s.modPort p f).timers = s.timers := rfl
@[simp] theorem State.modPort_hfPorts (s : State) (p : Nat) (f : Port → Port) : (s.modPort p f).hfPorts = s.hfPorts := rfl
@[simp] theorem State.modPort_hfTx (s : State) (p : Nat) (f : Port → Port) : (s.modPort p f).hfTx = s.hfTx := rfl
@[simp] theorem State.modPort_caps (s : State) (p : Nat) (f : Port → Port) : (s.modPort p f).caps = s.caps := rfl
@[simp] theorem State.modPort_meters (s : State) (p : Nat) (f : Port → Port) : (s.modPort p f).meters = s.meters := rfl
@[simp] theorem State.modPort_savedMeters (s : State) (p : Nat) (f : Port → Port) : (s.modPort p f).savedMeters = s.savedMeters := rfl
@[simp] theorem State.modPort_olderMeters (s : State) (p : Nat) (f : Port → Port) : (s.modPort p f).olderMeters = s.olderMeters := rfl
@[simp] theorem State.modPort_newerControl (s : State) (p : Nat) (f : Port → Port) : (s.modPort p f).newerControl = s.newerControl := rfl
@[simp] theorem State.modPort_classes (s : State) (p : Nat) (f : Port → Port) : (s.modPort p f).classes = s.classes := rfl
@[simp] theorem State.modPort_journals (s : State) (p : Nat) (f : Port → Port) : (s.modPort p f).journals = s.journals := rfl
@[simp] theorem State.modPort_groups (s : State) (p : Nat) (f : Port → Port) : (s.modPort p f).groups = s.groups := rfl
@[simp] theorem State.modPort_served (s : State) (p : Nat) (f : Port → Port) : (s.modPort p f).served = s.served := rfl
@[simp] theorem State.modPort_unregistered (s : State) (p : Nat) (f : Port → Port) : (s.modPort p f).unregistered = s.unregistered := rfl
@[simp] theorem State.modPort_sealed (s : State) (p : Nat) (f : Port → Port) : (s.modPort p f).sealed = s.sealed := rfl
@[simp] theorem State.modPort_unresolved (s : State) (p : Nat) (f : Port → Port) : (s.modPort p f).unresolved = s.unresolved := rfl
@[simp] theorem State.modPort_val (s : State) (p : Nat) (f : Port → Port) (o : Nat) : (s.modPort p f).val o = s.val o := rfl

/-! ### `State.modBank` -/

@[simp] theorem State.modBank_now (s : State) (b : Nat) (f : Bank → Bank) : (s.modBank b f).now = s.now := rfl
@[simp] theorem State.modBank_pending (s : State) (b : Nat) (f : Bank → Bank) : (s.modBank b f).pending = s.pending := rfl
@[simp] theorem State.modBank_freeCount (s : State) (b : Nat) (f : Bank → Bank) : (s.modBank b f).freeCount = s.freeCount := rfl
@[simp] theorem State.modBank_dict (s : State) (b : Nat) (f : Bank → Bank) : (s.modBank b f).dict = s.dict := rfl
@[simp] theorem State.modBank_bootDict (s : State) (b : Nat) (f : Bank → Bank) : (s.modBank b f).bootDict = s.bootDict := rfl
@[simp] theorem State.modBank_heldBack (s : State) (b : Nat) (f : Bank → Bank) : (s.modBank b f).heldBack = s.heldBack := rfl
@[simp] theorem State.modBank_dwellLowered (s : State) (b : Nat) (f : Bank → Bank) : (s.modBank b f).dwellLowered = s.dwellLowered := rfl
@[simp] theorem State.modBank_changes (s : State) (b : Nat) (f : Bank → Bank) : (s.modBank b f).changes = s.changes := rfl
@[simp] theorem State.modBank_delivered (s : State) (b : Nat) (f : Bank → Bank) : (s.modBank b f).delivered = s.delivered := rfl
@[simp] theorem State.modBank_fuses (s : State) (b : Nat) (f : Bank → Bank) : (s.modBank b f).fuses = s.fuses := rfl
@[simp] theorem State.modBank_shades (s : State) (b : Nat) (f : Bank → Bank) : (s.modBank b f).shades = s.shades := rfl
@[simp] theorem State.modBank_sessions (s : State) (b : Nat) (f : Bank → Bank) : (s.modBank b f).sessions = s.sessions := rfl
@[simp] theorem State.modBank_txns (s : State) (b : Nat) (f : Bank → Bank) : (s.modBank b f).txns = s.txns := rfl
@[simp] theorem State.modBank_lateStores (s : State) (b : Nat) (f : Bank → Bank) : (s.modBank b f).lateStores = s.lateStores := rfl
@[simp] theorem State.modBank_txnStats (s : State) (b : Nat) (f : Bank → Bank) : (s.modBank b f).txnStats = s.txnStats := rfl
@[simp] theorem State.modBank_quietDue (s : State) (b : Nat) (f : Bank → Bank) : (s.modBank b f).quietDue = s.quietDue := rfl
@[simp] theorem State.modBank_nextTxn (s : State) (b : Nat) (f : Bank → Bank) : (s.modBank b f).nextTxn = s.nextTxn := rfl
@[simp] theorem State.modBank_nextOrder (s : State) (b : Nat) (f : Bank → Bank) : (s.modBank b f).nextOrder = s.nextOrder := rfl
@[simp] theorem State.modBank_txq (s : State) (b : Nat) (f : Bank → Bank) : (s.modBank b f).txq = s.txq := rfl
@[simp] theorem State.modBank_waitingReplies (s : State) (b : Nat) (f : Bank → Bank) : (s.modBank b f).waitingReplies = s.waitingReplies := rfl
@[simp] theorem State.modBank_unknownErrors (s : State) (b : Nat) (f : Bank → Bank) : (s.modBank b f).unknownErrors = s.unknownErrors := rfl
@[simp] theorem State.modBank_lines (s : State) (b : Nat) (f : Bank → Bank) : (s.modBank b f).lines = s.lines := rfl
@[simp] theorem State.modBank_heldLines (s : State) (b : Nat) (f : Bank → Bank) : (s.modBank b f).heldLines = s.heldLines := rfl
@[simp] theorem State.modBank_challenges (s : State) (b : Nat) (f : Bank → Bank) : (s.modBank b f).challenges = s.challenges := rfl
@[simp] theorem State.modBank_freeLines (s : State) (b : Nat) (f : Bank → Bank) : (s.modBank b f).freeLines = s.freeLines := rfl
@[simp] theorem State.modBank_nextLine (s : State) (b : Nat) (f : Bank → Bank) : (s.modBank b f).nextLine = s.nextLine := rfl
@[simp] theorem State.modBank_bootNonce (s : State) (b : Nat) (f : Bank → Bank) : (s.modBank b f).bootNonce = s.bootNonce := rfl
@[simp] theorem State.modBank_moduleKey (s : State) (b : Nat) (f : Bank → Bank) : (s.modBank b f).moduleKey = s.moduleKey := rfl
@[simp] theorem State.modBank_trngKind (s : State) (b : Nat) (f : Bank → Bank) : (s.modBank b f).trngKind = s.trngKind := rfl
@[simp] theorem State.modBank_trngTick (s : State) (b : Nat) (f : Bank → Bank) : (s.modBank b f).trngTick = s.trngTick := rfl
@[simp] theorem State.modBank_eth (s : State) (b : Nat) (f : Bank → Bank) : (s.modBank b f).eth = s.eth := rfl
@[simp] theorem State.modBank_spire (s : State) (b : Nat) (f : Bank → Bank) : (s.modBank b f).spire = s.spire := rfl
@[simp] theorem State.modBank_power (s : State) (b : Nat) (f : Bank → Bank) : (s.modBank b f).power = s.power := rfl
@[simp] theorem State.modBank_pins (s : State) (b : Nat) (f : Bank → Bank) : (s.modBank b f).pins = s.pins := rfl
@[simp] theorem State.modBank_safe (s : State) (b : Nat) (f : Bank → Bank) : (s.modBank b f).safe = s.safe := rfl
@[simp] theorem State.modBank_box (s : State) (b : Nat) (f : Bank → Bank) : (s.modBank b f).box = s.box := rfl
@[simp] theorem State.modBank_counters (s : State) (b : Nat) (f : Bank → Bank) : (s.modBank b f).counters = s.counters := rfl
@[simp] theorem State.modBank_lantern (s : State) (b : Nat) (f : Bank → Bank) : (s.modBank b f).lantern = s.lantern := rfl
@[simp] theorem State.modBank_sweep (s : State) (b : Nat) (f : Bank → Bank) : (s.modBank b f).sweep = s.sweep := rfl
@[simp] theorem State.modBank_store (s : State) (b : Nat) (f : Bank → Bank) : (s.modBank b f).store = s.store := rfl
@[simp] theorem State.modBank_rtc (s : State) (b : Nat) (f : Bank → Bank) : (s.modBank b f).rtc = s.rtc := rfl
@[simp] theorem State.modBank_belfry (s : State) (b : Nat) (f : Bank → Bank) : (s.modBank b f).belfry = s.belfry := rfl
@[simp] theorem State.modBank_bootEvents (s : State) (b : Nat) (f : Bank → Bank) : (s.modBank b f).bootEvents = s.bootEvents := rfl
@[simp] theorem State.modBank_banks (s : State) (b : Nat) (f : Bank → Bank) : (s.modBank b f).banks = tmod s.banks b f := rfl
@[simp] theorem State.modBank_quads (s : State) (b : Nat) (f : Bank → Bank) : (s.modBank b f).quads = s.quads := rfl
@[simp] theorem State.modBank_ports (s : State) (b : Nat) (f : Bank → Bank) : (s.modBank b f).ports = s.ports := rfl
@[simp] theorem State.modBank_rounds (s : State) (b : Nat) (f : Bank → Bank) : (s.modBank b f).rounds = s.rounds := rfl
@[simp] theorem State.modBank_plans (s : State) (b : Nat) (f : Bank → Bank) : (s.modBank b f).plans = s.plans := rfl
@[simp] theorem State.modBank_tags (s : State) (b : Nat) (f : Bank → Bank) : (s.modBank b f).tags = s.tags := rfl
@[simp] theorem State.modBank_coex (s : State) (b : Nat) (f : Bank → Bank) : (s.modBank b f).coex = s.coex := rfl
@[simp] theorem State.modBank_hsbErrors (s : State) (b : Nat) (f : Bank → Bank) : (s.modBank b f).hsbErrors = s.hsbErrors := rfl
@[simp] theorem State.modBank_ldpc (s : State) (b : Nat) (f : Bank → Bank) : (s.modBank b f).ldpc = s.ldpc := rfl
@[simp] theorem State.modBank_ldpcQueue (s : State) (b : Nat) (f : Bank → Bank) : (s.modBank b f).ldpcQueue = s.ldpcQueue := rfl
@[simp] theorem State.modBank_ldpcCores (s : State) (b : Nat) (f : Bank → Bank) : (s.modBank b f).ldpcCores = s.ldpcCores := rfl
@[simp] theorem State.modBank_timers (s : State) (b : Nat) (f : Bank → Bank) : (s.modBank b f).timers = s.timers := rfl
@[simp] theorem State.modBank_hfPorts (s : State) (b : Nat) (f : Bank → Bank) : (s.modBank b f).hfPorts = s.hfPorts := rfl
@[simp] theorem State.modBank_hfTx (s : State) (b : Nat) (f : Bank → Bank) : (s.modBank b f).hfTx = s.hfTx := rfl
@[simp] theorem State.modBank_caps (s : State) (b : Nat) (f : Bank → Bank) : (s.modBank b f).caps = s.caps := rfl
@[simp] theorem State.modBank_meters (s : State) (b : Nat) (f : Bank → Bank) : (s.modBank b f).meters = s.meters := rfl
@[simp] theorem State.modBank_savedMeters (s : State) (b : Nat) (f : Bank → Bank) : (s.modBank b f).savedMeters = s.savedMeters := rfl
@[simp] theorem State.modBank_olderMeters (s : State) (b : Nat) (f : Bank → Bank) : (s.modBank b f).olderMeters = s.olderMeters := rfl
@[simp] theorem State.modBank_newerControl (s : State) (b : Nat) (f : Bank → Bank) : (s.modBank b f).newerControl = s.newerControl := rfl
@[simp] theorem State.modBank_classes (s : State) (b : Nat) (f : Bank → Bank) : (s.modBank b f).classes = s.classes := rfl
@[simp] theorem State.modBank_journals (s : State) (b : Nat) (f : Bank → Bank) : (s.modBank b f).journals = s.journals := rfl
@[simp] theorem State.modBank_groups (s : State) (b : Nat) (f : Bank → Bank) : (s.modBank b f).groups = s.groups := rfl
@[simp] theorem State.modBank_served (s : State) (b : Nat) (f : Bank → Bank) : (s.modBank b f).served = s.served := rfl
@[simp] theorem State.modBank_unregistered (s : State) (b : Nat) (f : Bank → Bank) : (s.modBank b f).unregistered = s.unregistered := rfl
@[simp] theorem State.modBank_sealed (s : State) (b : Nat) (f : Bank → Bank) : (s.modBank b f).sealed = s.sealed := rfl
@[simp] theorem State.modBank_unresolved (s : State) (b : Nat) (f : Bank → Bank) : (s.modBank b f).unresolved = s.unresolved := rfl
@[simp] theorem State.modBank_val (s : State) (b : Nat) (f : Bank → Bank) (o : Nat) : (s.modBank b f).val o = s.val o := rfl

/-! ### `State.modPlan` -/

@[simp] theorem State.modPlan_now (s : State) (p : Nat) (f : PlanRun → PlanRun) : (s.modPlan p f).now = s.now := rfl
@[simp] theorem State.modPlan_pending (s : State) (p : Nat) (f : PlanRun → PlanRun) : (s.modPlan p f).pending = s.pending := rfl
@[simp] theorem State.modPlan_freeCount (s : State) (p : Nat) (f : PlanRun → PlanRun) : (s.modPlan p f).freeCount = s.freeCount := rfl
@[simp] theorem State.modPlan_dict (s : State) (p : Nat) (f : PlanRun → PlanRun) : (s.modPlan p f).dict = s.dict := rfl
@[simp] theorem State.modPlan_bootDict (s : State) (p : Nat) (f : PlanRun → PlanRun) : (s.modPlan p f).bootDict = s.bootDict := rfl
@[simp] theorem State.modPlan_heldBack (s : State) (p : Nat) (f : PlanRun → PlanRun) : (s.modPlan p f).heldBack = s.heldBack := rfl
@[simp] theorem State.modPlan_dwellLowered (s : State) (p : Nat) (f : PlanRun → PlanRun) : (s.modPlan p f).dwellLowered = s.dwellLowered := rfl
@[simp] theorem State.modPlan_changes (s : State) (p : Nat) (f : PlanRun → PlanRun) : (s.modPlan p f).changes = s.changes := rfl
@[simp] theorem State.modPlan_delivered (s : State) (p : Nat) (f : PlanRun → PlanRun) : (s.modPlan p f).delivered = s.delivered := rfl
@[simp] theorem State.modPlan_fuses (s : State) (p : Nat) (f : PlanRun → PlanRun) : (s.modPlan p f).fuses = s.fuses := rfl
@[simp] theorem State.modPlan_shades (s : State) (p : Nat) (f : PlanRun → PlanRun) : (s.modPlan p f).shades = s.shades := rfl
@[simp] theorem State.modPlan_sessions (s : State) (p : Nat) (f : PlanRun → PlanRun) : (s.modPlan p f).sessions = s.sessions := rfl
@[simp] theorem State.modPlan_txns (s : State) (p : Nat) (f : PlanRun → PlanRun) : (s.modPlan p f).txns = s.txns := rfl
@[simp] theorem State.modPlan_lateStores (s : State) (p : Nat) (f : PlanRun → PlanRun) : (s.modPlan p f).lateStores = s.lateStores := rfl
@[simp] theorem State.modPlan_txnStats (s : State) (p : Nat) (f : PlanRun → PlanRun) : (s.modPlan p f).txnStats = s.txnStats := rfl
@[simp] theorem State.modPlan_quietDue (s : State) (p : Nat) (f : PlanRun → PlanRun) : (s.modPlan p f).quietDue = s.quietDue := rfl
@[simp] theorem State.modPlan_nextTxn (s : State) (p : Nat) (f : PlanRun → PlanRun) : (s.modPlan p f).nextTxn = s.nextTxn := rfl
@[simp] theorem State.modPlan_nextOrder (s : State) (p : Nat) (f : PlanRun → PlanRun) : (s.modPlan p f).nextOrder = s.nextOrder := rfl
@[simp] theorem State.modPlan_txq (s : State) (p : Nat) (f : PlanRun → PlanRun) : (s.modPlan p f).txq = s.txq := rfl
@[simp] theorem State.modPlan_waitingReplies (s : State) (p : Nat) (f : PlanRun → PlanRun) : (s.modPlan p f).waitingReplies = s.waitingReplies := rfl
@[simp] theorem State.modPlan_unknownErrors (s : State) (p : Nat) (f : PlanRun → PlanRun) : (s.modPlan p f).unknownErrors = s.unknownErrors := rfl
@[simp] theorem State.modPlan_lines (s : State) (p : Nat) (f : PlanRun → PlanRun) : (s.modPlan p f).lines = s.lines := rfl
@[simp] theorem State.modPlan_heldLines (s : State) (p : Nat) (f : PlanRun → PlanRun) : (s.modPlan p f).heldLines = s.heldLines := rfl
@[simp] theorem State.modPlan_challenges (s : State) (p : Nat) (f : PlanRun → PlanRun) : (s.modPlan p f).challenges = s.challenges := rfl
@[simp] theorem State.modPlan_freeLines (s : State) (p : Nat) (f : PlanRun → PlanRun) : (s.modPlan p f).freeLines = s.freeLines := rfl
@[simp] theorem State.modPlan_nextLine (s : State) (p : Nat) (f : PlanRun → PlanRun) : (s.modPlan p f).nextLine = s.nextLine := rfl
@[simp] theorem State.modPlan_bootNonce (s : State) (p : Nat) (f : PlanRun → PlanRun) : (s.modPlan p f).bootNonce = s.bootNonce := rfl
@[simp] theorem State.modPlan_moduleKey (s : State) (p : Nat) (f : PlanRun → PlanRun) : (s.modPlan p f).moduleKey = s.moduleKey := rfl
@[simp] theorem State.modPlan_trngKind (s : State) (p : Nat) (f : PlanRun → PlanRun) : (s.modPlan p f).trngKind = s.trngKind := rfl
@[simp] theorem State.modPlan_trngTick (s : State) (p : Nat) (f : PlanRun → PlanRun) : (s.modPlan p f).trngTick = s.trngTick := rfl
@[simp] theorem State.modPlan_eth (s : State) (p : Nat) (f : PlanRun → PlanRun) : (s.modPlan p f).eth = s.eth := rfl
@[simp] theorem State.modPlan_spire (s : State) (p : Nat) (f : PlanRun → PlanRun) : (s.modPlan p f).spire = s.spire := rfl
@[simp] theorem State.modPlan_power (s : State) (p : Nat) (f : PlanRun → PlanRun) : (s.modPlan p f).power = s.power := rfl
@[simp] theorem State.modPlan_pins (s : State) (p : Nat) (f : PlanRun → PlanRun) : (s.modPlan p f).pins = s.pins := rfl
@[simp] theorem State.modPlan_safe (s : State) (p : Nat) (f : PlanRun → PlanRun) : (s.modPlan p f).safe = s.safe := rfl
@[simp] theorem State.modPlan_box (s : State) (p : Nat) (f : PlanRun → PlanRun) : (s.modPlan p f).box = s.box := rfl
@[simp] theorem State.modPlan_counters (s : State) (p : Nat) (f : PlanRun → PlanRun) : (s.modPlan p f).counters = s.counters := rfl
@[simp] theorem State.modPlan_lantern (s : State) (p : Nat) (f : PlanRun → PlanRun) : (s.modPlan p f).lantern = s.lantern := rfl
@[simp] theorem State.modPlan_sweep (s : State) (p : Nat) (f : PlanRun → PlanRun) : (s.modPlan p f).sweep = s.sweep := rfl
@[simp] theorem State.modPlan_store (s : State) (p : Nat) (f : PlanRun → PlanRun) : (s.modPlan p f).store = s.store := rfl
@[simp] theorem State.modPlan_rtc (s : State) (p : Nat) (f : PlanRun → PlanRun) : (s.modPlan p f).rtc = s.rtc := rfl
@[simp] theorem State.modPlan_belfry (s : State) (p : Nat) (f : PlanRun → PlanRun) : (s.modPlan p f).belfry = s.belfry := rfl
@[simp] theorem State.modPlan_bootEvents (s : State) (p : Nat) (f : PlanRun → PlanRun) : (s.modPlan p f).bootEvents = s.bootEvents := rfl
@[simp] theorem State.modPlan_banks (s : State) (p : Nat) (f : PlanRun → PlanRun) : (s.modPlan p f).banks = s.banks := rfl
@[simp] theorem State.modPlan_quads (s : State) (p : Nat) (f : PlanRun → PlanRun) : (s.modPlan p f).quads = s.quads := rfl
@[simp] theorem State.modPlan_ports (s : State) (p : Nat) (f : PlanRun → PlanRun) : (s.modPlan p f).ports = s.ports := rfl
@[simp] theorem State.modPlan_rounds (s : State) (p : Nat) (f : PlanRun → PlanRun) : (s.modPlan p f).rounds = s.rounds := rfl
@[simp] theorem State.modPlan_plans (s : State) (p : Nat) (f : PlanRun → PlanRun) : (s.modPlan p f).plans = tmod s.plans p f := rfl
@[simp] theorem State.modPlan_tags (s : State) (p : Nat) (f : PlanRun → PlanRun) : (s.modPlan p f).tags = s.tags := rfl
@[simp] theorem State.modPlan_coex (s : State) (p : Nat) (f : PlanRun → PlanRun) : (s.modPlan p f).coex = s.coex := rfl
@[simp] theorem State.modPlan_hsbErrors (s : State) (p : Nat) (f : PlanRun → PlanRun) : (s.modPlan p f).hsbErrors = s.hsbErrors := rfl
@[simp] theorem State.modPlan_ldpc (s : State) (p : Nat) (f : PlanRun → PlanRun) : (s.modPlan p f).ldpc = s.ldpc := rfl
@[simp] theorem State.modPlan_ldpcQueue (s : State) (p : Nat) (f : PlanRun → PlanRun) : (s.modPlan p f).ldpcQueue = s.ldpcQueue := rfl
@[simp] theorem State.modPlan_ldpcCores (s : State) (p : Nat) (f : PlanRun → PlanRun) : (s.modPlan p f).ldpcCores = s.ldpcCores := rfl
@[simp] theorem State.modPlan_timers (s : State) (p : Nat) (f : PlanRun → PlanRun) : (s.modPlan p f).timers = s.timers := rfl
@[simp] theorem State.modPlan_hfPorts (s : State) (p : Nat) (f : PlanRun → PlanRun) : (s.modPlan p f).hfPorts = s.hfPorts := rfl
@[simp] theorem State.modPlan_hfTx (s : State) (p : Nat) (f : PlanRun → PlanRun) : (s.modPlan p f).hfTx = s.hfTx := rfl
@[simp] theorem State.modPlan_caps (s : State) (p : Nat) (f : PlanRun → PlanRun) : (s.modPlan p f).caps = s.caps := rfl
@[simp] theorem State.modPlan_meters (s : State) (p : Nat) (f : PlanRun → PlanRun) : (s.modPlan p f).meters = s.meters := rfl
@[simp] theorem State.modPlan_savedMeters (s : State) (p : Nat) (f : PlanRun → PlanRun) : (s.modPlan p f).savedMeters = s.savedMeters := rfl
@[simp] theorem State.modPlan_olderMeters (s : State) (p : Nat) (f : PlanRun → PlanRun) : (s.modPlan p f).olderMeters = s.olderMeters := rfl
@[simp] theorem State.modPlan_newerControl (s : State) (p : Nat) (f : PlanRun → PlanRun) : (s.modPlan p f).newerControl = s.newerControl := rfl
@[simp] theorem State.modPlan_classes (s : State) (p : Nat) (f : PlanRun → PlanRun) : (s.modPlan p f).classes = s.classes := rfl
@[simp] theorem State.modPlan_journals (s : State) (p : Nat) (f : PlanRun → PlanRun) : (s.modPlan p f).journals = s.journals := rfl
@[simp] theorem State.modPlan_groups (s : State) (p : Nat) (f : PlanRun → PlanRun) : (s.modPlan p f).groups = s.groups := rfl
@[simp] theorem State.modPlan_served (s : State) (p : Nat) (f : PlanRun → PlanRun) : (s.modPlan p f).served = s.served := rfl
@[simp] theorem State.modPlan_unregistered (s : State) (p : Nat) (f : PlanRun → PlanRun) : (s.modPlan p f).unregistered = s.unregistered := rfl
@[simp] theorem State.modPlan_sealed (s : State) (p : Nat) (f : PlanRun → PlanRun) : (s.modPlan p f).sealed = s.sealed := rfl
@[simp] theorem State.modPlan_unresolved (s : State) (p : Nat) (f : PlanRun → PlanRun) : (s.modPlan p f).unresolved = s.unresolved := rfl
@[simp] theorem State.modPlan_val (s : State) (p : Nat) (f : PlanRun → PlanRun) (o : Nat) : (s.modPlan p f).val o = s.val o := rfl

/-! ### `State.modTag` -/

@[simp] theorem State.modTag_now (s : State) (n : Nat) (f : TagEntry → TagEntry) : (s.modTag n f).now = s.now := rfl
@[simp] theorem State.modTag_pending (s : State) (n : Nat) (f : TagEntry → TagEntry) : (s.modTag n f).pending = s.pending := rfl
@[simp] theorem State.modTag_freeCount (s : State) (n : Nat) (f : TagEntry → TagEntry) : (s.modTag n f).freeCount = s.freeCount := rfl
@[simp] theorem State.modTag_dict (s : State) (n : Nat) (f : TagEntry → TagEntry) : (s.modTag n f).dict = s.dict := rfl
@[simp] theorem State.modTag_bootDict (s : State) (n : Nat) (f : TagEntry → TagEntry) : (s.modTag n f).bootDict = s.bootDict := rfl
@[simp] theorem State.modTag_heldBack (s : State) (n : Nat) (f : TagEntry → TagEntry) : (s.modTag n f).heldBack = s.heldBack := rfl
@[simp] theorem State.modTag_dwellLowered (s : State) (n : Nat) (f : TagEntry → TagEntry) : (s.modTag n f).dwellLowered = s.dwellLowered := rfl
@[simp] theorem State.modTag_changes (s : State) (n : Nat) (f : TagEntry → TagEntry) : (s.modTag n f).changes = s.changes := rfl
@[simp] theorem State.modTag_delivered (s : State) (n : Nat) (f : TagEntry → TagEntry) : (s.modTag n f).delivered = s.delivered := rfl
@[simp] theorem State.modTag_fuses (s : State) (n : Nat) (f : TagEntry → TagEntry) : (s.modTag n f).fuses = s.fuses := rfl
@[simp] theorem State.modTag_shades (s : State) (n : Nat) (f : TagEntry → TagEntry) : (s.modTag n f).shades = s.shades := rfl
@[simp] theorem State.modTag_sessions (s : State) (n : Nat) (f : TagEntry → TagEntry) : (s.modTag n f).sessions = s.sessions := rfl
@[simp] theorem State.modTag_txns (s : State) (n : Nat) (f : TagEntry → TagEntry) : (s.modTag n f).txns = s.txns := rfl
@[simp] theorem State.modTag_lateStores (s : State) (n : Nat) (f : TagEntry → TagEntry) : (s.modTag n f).lateStores = s.lateStores := rfl
@[simp] theorem State.modTag_txnStats (s : State) (n : Nat) (f : TagEntry → TagEntry) : (s.modTag n f).txnStats = s.txnStats := rfl
@[simp] theorem State.modTag_quietDue (s : State) (n : Nat) (f : TagEntry → TagEntry) : (s.modTag n f).quietDue = s.quietDue := rfl
@[simp] theorem State.modTag_nextTxn (s : State) (n : Nat) (f : TagEntry → TagEntry) : (s.modTag n f).nextTxn = s.nextTxn := rfl
@[simp] theorem State.modTag_nextOrder (s : State) (n : Nat) (f : TagEntry → TagEntry) : (s.modTag n f).nextOrder = s.nextOrder := rfl
@[simp] theorem State.modTag_txq (s : State) (n : Nat) (f : TagEntry → TagEntry) : (s.modTag n f).txq = s.txq := rfl
@[simp] theorem State.modTag_waitingReplies (s : State) (n : Nat) (f : TagEntry → TagEntry) : (s.modTag n f).waitingReplies = s.waitingReplies := rfl
@[simp] theorem State.modTag_unknownErrors (s : State) (n : Nat) (f : TagEntry → TagEntry) : (s.modTag n f).unknownErrors = s.unknownErrors := rfl
@[simp] theorem State.modTag_lines (s : State) (n : Nat) (f : TagEntry → TagEntry) : (s.modTag n f).lines = s.lines := rfl
@[simp] theorem State.modTag_heldLines (s : State) (n : Nat) (f : TagEntry → TagEntry) : (s.modTag n f).heldLines = s.heldLines := rfl
@[simp] theorem State.modTag_challenges (s : State) (n : Nat) (f : TagEntry → TagEntry) : (s.modTag n f).challenges = s.challenges := rfl
@[simp] theorem State.modTag_freeLines (s : State) (n : Nat) (f : TagEntry → TagEntry) : (s.modTag n f).freeLines = s.freeLines := rfl
@[simp] theorem State.modTag_nextLine (s : State) (n : Nat) (f : TagEntry → TagEntry) : (s.modTag n f).nextLine = s.nextLine := rfl
@[simp] theorem State.modTag_bootNonce (s : State) (n : Nat) (f : TagEntry → TagEntry) : (s.modTag n f).bootNonce = s.bootNonce := rfl
@[simp] theorem State.modTag_moduleKey (s : State) (n : Nat) (f : TagEntry → TagEntry) : (s.modTag n f).moduleKey = s.moduleKey := rfl
@[simp] theorem State.modTag_trngKind (s : State) (n : Nat) (f : TagEntry → TagEntry) : (s.modTag n f).trngKind = s.trngKind := rfl
@[simp] theorem State.modTag_trngTick (s : State) (n : Nat) (f : TagEntry → TagEntry) : (s.modTag n f).trngTick = s.trngTick := rfl
@[simp] theorem State.modTag_eth (s : State) (n : Nat) (f : TagEntry → TagEntry) : (s.modTag n f).eth = s.eth := rfl
@[simp] theorem State.modTag_spire (s : State) (n : Nat) (f : TagEntry → TagEntry) : (s.modTag n f).spire = s.spire := rfl
@[simp] theorem State.modTag_power (s : State) (n : Nat) (f : TagEntry → TagEntry) : (s.modTag n f).power = s.power := rfl
@[simp] theorem State.modTag_pins (s : State) (n : Nat) (f : TagEntry → TagEntry) : (s.modTag n f).pins = s.pins := rfl
@[simp] theorem State.modTag_safe (s : State) (n : Nat) (f : TagEntry → TagEntry) : (s.modTag n f).safe = s.safe := rfl
@[simp] theorem State.modTag_box (s : State) (n : Nat) (f : TagEntry → TagEntry) : (s.modTag n f).box = s.box := rfl
@[simp] theorem State.modTag_counters (s : State) (n : Nat) (f : TagEntry → TagEntry) : (s.modTag n f).counters = s.counters := rfl
@[simp] theorem State.modTag_lantern (s : State) (n : Nat) (f : TagEntry → TagEntry) : (s.modTag n f).lantern = s.lantern := rfl
@[simp] theorem State.modTag_sweep (s : State) (n : Nat) (f : TagEntry → TagEntry) : (s.modTag n f).sweep = s.sweep := rfl
@[simp] theorem State.modTag_store (s : State) (n : Nat) (f : TagEntry → TagEntry) : (s.modTag n f).store = s.store := rfl
@[simp] theorem State.modTag_rtc (s : State) (n : Nat) (f : TagEntry → TagEntry) : (s.modTag n f).rtc = s.rtc := rfl
@[simp] theorem State.modTag_belfry (s : State) (n : Nat) (f : TagEntry → TagEntry) : (s.modTag n f).belfry = s.belfry := rfl
@[simp] theorem State.modTag_bootEvents (s : State) (n : Nat) (f : TagEntry → TagEntry) : (s.modTag n f).bootEvents = s.bootEvents := rfl
@[simp] theorem State.modTag_banks (s : State) (n : Nat) (f : TagEntry → TagEntry) : (s.modTag n f).banks = s.banks := rfl
@[simp] theorem State.modTag_quads (s : State) (n : Nat) (f : TagEntry → TagEntry) : (s.modTag n f).quads = s.quads := rfl
@[simp] theorem State.modTag_ports (s : State) (n : Nat) (f : TagEntry → TagEntry) : (s.modTag n f).ports = s.ports := rfl
@[simp] theorem State.modTag_rounds (s : State) (n : Nat) (f : TagEntry → TagEntry) : (s.modTag n f).rounds = s.rounds := rfl
@[simp] theorem State.modTag_plans (s : State) (n : Nat) (f : TagEntry → TagEntry) : (s.modTag n f).plans = s.plans := rfl
@[simp] theorem State.modTag_tags (s : State) (n : Nat) (f : TagEntry → TagEntry) : (s.modTag n f).tags = NMap.upd s.tags n f := rfl
@[simp] theorem State.modTag_coex (s : State) (n : Nat) (f : TagEntry → TagEntry) : (s.modTag n f).coex = s.coex := rfl
@[simp] theorem State.modTag_hsbErrors (s : State) (n : Nat) (f : TagEntry → TagEntry) : (s.modTag n f).hsbErrors = s.hsbErrors := rfl
@[simp] theorem State.modTag_ldpc (s : State) (n : Nat) (f : TagEntry → TagEntry) : (s.modTag n f).ldpc = s.ldpc := rfl
@[simp] theorem State.modTag_ldpcQueue (s : State) (n : Nat) (f : TagEntry → TagEntry) : (s.modTag n f).ldpcQueue = s.ldpcQueue := rfl
@[simp] theorem State.modTag_ldpcCores (s : State) (n : Nat) (f : TagEntry → TagEntry) : (s.modTag n f).ldpcCores = s.ldpcCores := rfl
@[simp] theorem State.modTag_timers (s : State) (n : Nat) (f : TagEntry → TagEntry) : (s.modTag n f).timers = s.timers := rfl
@[simp] theorem State.modTag_hfPorts (s : State) (n : Nat) (f : TagEntry → TagEntry) : (s.modTag n f).hfPorts = s.hfPorts := rfl
@[simp] theorem State.modTag_hfTx (s : State) (n : Nat) (f : TagEntry → TagEntry) : (s.modTag n f).hfTx = s.hfTx := rfl
@[simp] theorem State.modTag_caps (s : State) (n : Nat) (f : TagEntry → TagEntry) : (s.modTag n f).caps = s.caps := rfl
@[simp] theorem State.modTag_meters (s : State) (n : Nat) (f : TagEntry → TagEntry) : (s.modTag n f).meters = s.meters := rfl
@[simp] theorem State.modTag_savedMeters (s : State) (n : Nat) (f : TagEntry → TagEntry) : (s.modTag n f).savedMeters = s.savedMeters := rfl
@[simp] theorem State.modTag_olderMeters (s : State) (n : Nat) (f : TagEntry → TagEntry) : (s.modTag n f).olderMeters = s.olderMeters := rfl
@[simp] theorem State.modTag_newerControl (s : State) (n : Nat) (f : TagEntry → TagEntry) : (s.modTag n f).newerControl = s.newerControl := rfl
@[simp] theorem State.modTag_classes (s : State) (n : Nat) (f : TagEntry → TagEntry) : (s.modTag n f).classes = s.classes := rfl
@[simp] theorem State.modTag_journals (s : State) (n : Nat) (f : TagEntry → TagEntry) : (s.modTag n f).journals = s.journals := rfl
@[simp] theorem State.modTag_groups (s : State) (n : Nat) (f : TagEntry → TagEntry) : (s.modTag n f).groups = s.groups := rfl
@[simp] theorem State.modTag_served (s : State) (n : Nat) (f : TagEntry → TagEntry) : (s.modTag n f).served = s.served := rfl
@[simp] theorem State.modTag_unregistered (s : State) (n : Nat) (f : TagEntry → TagEntry) : (s.modTag n f).unregistered = s.unregistered := rfl
@[simp] theorem State.modTag_sealed (s : State) (n : Nat) (f : TagEntry → TagEntry) : (s.modTag n f).sealed = s.sealed := rfl
@[simp] theorem State.modTag_unresolved (s : State) (n : Nat) (f : TagEntry → TagEntry) : (s.modTag n f).unresolved = s.unresolved := rfl
@[simp] theorem State.modTag_val (s : State) (n : Nat) (f : TagEntry → TagEntry) (o : Nat) : (s.modTag n f).val o = s.val o := rfl

/-! ### `State.modHf` -/

@[simp] theorem State.modHf_now (s : State) (h : Nat) (f : HfPort → HfPort) : (s.modHf h f).now = s.now := rfl
@[simp] theorem State.modHf_pending (s : State) (h : Nat) (f : HfPort → HfPort) : (s.modHf h f).pending = s.pending := rfl
@[simp] theorem State.modHf_freeCount (s : State) (h : Nat) (f : HfPort → HfPort) : (s.modHf h f).freeCount = s.freeCount := rfl
@[simp] theorem State.modHf_dict (s : State) (h : Nat) (f : HfPort → HfPort) : (s.modHf h f).dict = s.dict := rfl
@[simp] theorem State.modHf_bootDict (s : State) (h : Nat) (f : HfPort → HfPort) : (s.modHf h f).bootDict = s.bootDict := rfl
@[simp] theorem State.modHf_heldBack (s : State) (h : Nat) (f : HfPort → HfPort) : (s.modHf h f).heldBack = s.heldBack := rfl
@[simp] theorem State.modHf_dwellLowered (s : State) (h : Nat) (f : HfPort → HfPort) : (s.modHf h f).dwellLowered = s.dwellLowered := rfl
@[simp] theorem State.modHf_changes (s : State) (h : Nat) (f : HfPort → HfPort) : (s.modHf h f).changes = s.changes := rfl
@[simp] theorem State.modHf_delivered (s : State) (h : Nat) (f : HfPort → HfPort) : (s.modHf h f).delivered = s.delivered := rfl
@[simp] theorem State.modHf_fuses (s : State) (h : Nat) (f : HfPort → HfPort) : (s.modHf h f).fuses = s.fuses := rfl
@[simp] theorem State.modHf_shades (s : State) (h : Nat) (f : HfPort → HfPort) : (s.modHf h f).shades = s.shades := rfl
@[simp] theorem State.modHf_sessions (s : State) (h : Nat) (f : HfPort → HfPort) : (s.modHf h f).sessions = s.sessions := rfl
@[simp] theorem State.modHf_txns (s : State) (h : Nat) (f : HfPort → HfPort) : (s.modHf h f).txns = s.txns := rfl
@[simp] theorem State.modHf_lateStores (s : State) (h : Nat) (f : HfPort → HfPort) : (s.modHf h f).lateStores = s.lateStores := rfl
@[simp] theorem State.modHf_txnStats (s : State) (h : Nat) (f : HfPort → HfPort) : (s.modHf h f).txnStats = s.txnStats := rfl
@[simp] theorem State.modHf_quietDue (s : State) (h : Nat) (f : HfPort → HfPort) : (s.modHf h f).quietDue = s.quietDue := rfl
@[simp] theorem State.modHf_nextTxn (s : State) (h : Nat) (f : HfPort → HfPort) : (s.modHf h f).nextTxn = s.nextTxn := rfl
@[simp] theorem State.modHf_nextOrder (s : State) (h : Nat) (f : HfPort → HfPort) : (s.modHf h f).nextOrder = s.nextOrder := rfl
@[simp] theorem State.modHf_txq (s : State) (h : Nat) (f : HfPort → HfPort) : (s.modHf h f).txq = s.txq := rfl
@[simp] theorem State.modHf_waitingReplies (s : State) (h : Nat) (f : HfPort → HfPort) : (s.modHf h f).waitingReplies = s.waitingReplies := rfl
@[simp] theorem State.modHf_unknownErrors (s : State) (h : Nat) (f : HfPort → HfPort) : (s.modHf h f).unknownErrors = s.unknownErrors := rfl
@[simp] theorem State.modHf_lines (s : State) (h : Nat) (f : HfPort → HfPort) : (s.modHf h f).lines = s.lines := rfl
@[simp] theorem State.modHf_heldLines (s : State) (h : Nat) (f : HfPort → HfPort) : (s.modHf h f).heldLines = s.heldLines := rfl
@[simp] theorem State.modHf_challenges (s : State) (h : Nat) (f : HfPort → HfPort) : (s.modHf h f).challenges = s.challenges := rfl
@[simp] theorem State.modHf_freeLines (s : State) (h : Nat) (f : HfPort → HfPort) : (s.modHf h f).freeLines = s.freeLines := rfl
@[simp] theorem State.modHf_nextLine (s : State) (h : Nat) (f : HfPort → HfPort) : (s.modHf h f).nextLine = s.nextLine := rfl
@[simp] theorem State.modHf_bootNonce (s : State) (h : Nat) (f : HfPort → HfPort) : (s.modHf h f).bootNonce = s.bootNonce := rfl
@[simp] theorem State.modHf_moduleKey (s : State) (h : Nat) (f : HfPort → HfPort) : (s.modHf h f).moduleKey = s.moduleKey := rfl
@[simp] theorem State.modHf_trngKind (s : State) (h : Nat) (f : HfPort → HfPort) : (s.modHf h f).trngKind = s.trngKind := rfl
@[simp] theorem State.modHf_trngTick (s : State) (h : Nat) (f : HfPort → HfPort) : (s.modHf h f).trngTick = s.trngTick := rfl
@[simp] theorem State.modHf_eth (s : State) (h : Nat) (f : HfPort → HfPort) : (s.modHf h f).eth = s.eth := rfl
@[simp] theorem State.modHf_spire (s : State) (h : Nat) (f : HfPort → HfPort) : (s.modHf h f).spire = s.spire := rfl
@[simp] theorem State.modHf_power (s : State) (h : Nat) (f : HfPort → HfPort) : (s.modHf h f).power = s.power := rfl
@[simp] theorem State.modHf_pins (s : State) (h : Nat) (f : HfPort → HfPort) : (s.modHf h f).pins = s.pins := rfl
@[simp] theorem State.modHf_safe (s : State) (h : Nat) (f : HfPort → HfPort) : (s.modHf h f).safe = s.safe := rfl
@[simp] theorem State.modHf_box (s : State) (h : Nat) (f : HfPort → HfPort) : (s.modHf h f).box = s.box := rfl
@[simp] theorem State.modHf_counters (s : State) (h : Nat) (f : HfPort → HfPort) : (s.modHf h f).counters = s.counters := rfl
@[simp] theorem State.modHf_lantern (s : State) (h : Nat) (f : HfPort → HfPort) : (s.modHf h f).lantern = s.lantern := rfl
@[simp] theorem State.modHf_sweep (s : State) (h : Nat) (f : HfPort → HfPort) : (s.modHf h f).sweep = s.sweep := rfl
@[simp] theorem State.modHf_store (s : State) (h : Nat) (f : HfPort → HfPort) : (s.modHf h f).store = s.store := rfl
@[simp] theorem State.modHf_rtc (s : State) (h : Nat) (f : HfPort → HfPort) : (s.modHf h f).rtc = s.rtc := rfl
@[simp] theorem State.modHf_belfry (s : State) (h : Nat) (f : HfPort → HfPort) : (s.modHf h f).belfry = s.belfry := rfl
@[simp] theorem State.modHf_bootEvents (s : State) (h : Nat) (f : HfPort → HfPort) : (s.modHf h f).bootEvents = s.bootEvents := rfl
@[simp] theorem State.modHf_banks (s : State) (h : Nat) (f : HfPort → HfPort) : (s.modHf h f).banks = s.banks := rfl
@[simp] theorem State.modHf_quads (s : State) (h : Nat) (f : HfPort → HfPort) : (s.modHf h f).quads = s.quads := rfl
@[simp] theorem State.modHf_ports (s : State) (h : Nat) (f : HfPort → HfPort) : (s.modHf h f).ports = s.ports := rfl
@[simp] theorem State.modHf_rounds (s : State) (h : Nat) (f : HfPort → HfPort) : (s.modHf h f).rounds = s.rounds := rfl
@[simp] theorem State.modHf_plans (s : State) (h : Nat) (f : HfPort → HfPort) : (s.modHf h f).plans = s.plans := rfl
@[simp] theorem State.modHf_tags (s : State) (h : Nat) (f : HfPort → HfPort) : (s.modHf h f).tags = s.tags := rfl
@[simp] theorem State.modHf_coex (s : State) (h : Nat) (f : HfPort → HfPort) : (s.modHf h f).coex = s.coex := rfl
@[simp] theorem State.modHf_hsbErrors (s : State) (h : Nat) (f : HfPort → HfPort) : (s.modHf h f).hsbErrors = s.hsbErrors := rfl
@[simp] theorem State.modHf_ldpc (s : State) (h : Nat) (f : HfPort → HfPort) : (s.modHf h f).ldpc = s.ldpc := rfl
@[simp] theorem State.modHf_ldpcQueue (s : State) (h : Nat) (f : HfPort → HfPort) : (s.modHf h f).ldpcQueue = s.ldpcQueue := rfl
@[simp] theorem State.modHf_ldpcCores (s : State) (h : Nat) (f : HfPort → HfPort) : (s.modHf h f).ldpcCores = s.ldpcCores := rfl
@[simp] theorem State.modHf_timers (s : State) (h : Nat) (f : HfPort → HfPort) : (s.modHf h f).timers = s.timers := rfl
@[simp] theorem State.modHf_hfPorts (s : State) (h : Nat) (f : HfPort → HfPort) : (s.modHf h f).hfPorts = tmod s.hfPorts h f := rfl
@[simp] theorem State.modHf_hfTx (s : State) (h : Nat) (f : HfPort → HfPort) : (s.modHf h f).hfTx = s.hfTx := rfl
@[simp] theorem State.modHf_caps (s : State) (h : Nat) (f : HfPort → HfPort) : (s.modHf h f).caps = s.caps := rfl
@[simp] theorem State.modHf_meters (s : State) (h : Nat) (f : HfPort → HfPort) : (s.modHf h f).meters = s.meters := rfl
@[simp] theorem State.modHf_savedMeters (s : State) (h : Nat) (f : HfPort → HfPort) : (s.modHf h f).savedMeters = s.savedMeters := rfl
@[simp] theorem State.modHf_olderMeters (s : State) (h : Nat) (f : HfPort → HfPort) : (s.modHf h f).olderMeters = s.olderMeters := rfl
@[simp] theorem State.modHf_newerControl (s : State) (h : Nat) (f : HfPort → HfPort) : (s.modHf h f).newerControl = s.newerControl := rfl
@[simp] theorem State.modHf_classes (s : State) (h : Nat) (f : HfPort → HfPort) : (s.modHf h f).classes = s.classes := rfl
@[simp] theorem State.modHf_journals (s : State) (h : Nat) (f : HfPort → HfPort) : (s.modHf h f).journals = s.journals := rfl
@[simp] theorem State.modHf_groups (s : State) (h : Nat) (f : HfPort → HfPort) : (s.modHf h f).groups = s.groups := rfl
@[simp] theorem State.modHf_served (s : State) (h : Nat) (f : HfPort → HfPort) : (s.modHf h f).served = s.served := rfl
@[simp] theorem State.modHf_unregistered (s : State) (h : Nat) (f : HfPort → HfPort) : (s.modHf h f).unregistered = s.unregistered := rfl
@[simp] theorem State.modHf_sealed (s : State) (h : Nat) (f : HfPort → HfPort) : (s.modHf h f).sealed = s.sealed := rfl
@[simp] theorem State.modHf_unresolved (s : State) (h : Nat) (f : HfPort → HfPort) : (s.modHf h f).unresolved = s.unresolved := rfl
@[simp] theorem State.modHf_val (s : State) (h : Nat) (f : HfPort → HfPort) (o : Nat) : (s.modHf h f).val o = s.val o := rfl

/-! ### `State.modCap` -/

@[simp] theorem State.modCap_now (s : State) (n : Nat) (f : Cap → Cap) : (s.modCap n f).now = s.now := rfl
@[simp] theorem State.modCap_pending (s : State) (n : Nat) (f : Cap → Cap) : (s.modCap n f).pending = s.pending := rfl
@[simp] theorem State.modCap_freeCount (s : State) (n : Nat) (f : Cap → Cap) : (s.modCap n f).freeCount = s.freeCount := rfl
@[simp] theorem State.modCap_dict (s : State) (n : Nat) (f : Cap → Cap) : (s.modCap n f).dict = s.dict := rfl
@[simp] theorem State.modCap_bootDict (s : State) (n : Nat) (f : Cap → Cap) : (s.modCap n f).bootDict = s.bootDict := rfl
@[simp] theorem State.modCap_heldBack (s : State) (n : Nat) (f : Cap → Cap) : (s.modCap n f).heldBack = s.heldBack := rfl
@[simp] theorem State.modCap_dwellLowered (s : State) (n : Nat) (f : Cap → Cap) : (s.modCap n f).dwellLowered = s.dwellLowered := rfl
@[simp] theorem State.modCap_changes (s : State) (n : Nat) (f : Cap → Cap) : (s.modCap n f).changes = s.changes := rfl
@[simp] theorem State.modCap_delivered (s : State) (n : Nat) (f : Cap → Cap) : (s.modCap n f).delivered = s.delivered := rfl
@[simp] theorem State.modCap_fuses (s : State) (n : Nat) (f : Cap → Cap) : (s.modCap n f).fuses = s.fuses := rfl
@[simp] theorem State.modCap_shades (s : State) (n : Nat) (f : Cap → Cap) : (s.modCap n f).shades = s.shades := rfl
@[simp] theorem State.modCap_sessions (s : State) (n : Nat) (f : Cap → Cap) : (s.modCap n f).sessions = s.sessions := rfl
@[simp] theorem State.modCap_txns (s : State) (n : Nat) (f : Cap → Cap) : (s.modCap n f).txns = s.txns := rfl
@[simp] theorem State.modCap_lateStores (s : State) (n : Nat) (f : Cap → Cap) : (s.modCap n f).lateStores = s.lateStores := rfl
@[simp] theorem State.modCap_txnStats (s : State) (n : Nat) (f : Cap → Cap) : (s.modCap n f).txnStats = s.txnStats := rfl
@[simp] theorem State.modCap_quietDue (s : State) (n : Nat) (f : Cap → Cap) : (s.modCap n f).quietDue = s.quietDue := rfl
@[simp] theorem State.modCap_nextTxn (s : State) (n : Nat) (f : Cap → Cap) : (s.modCap n f).nextTxn = s.nextTxn := rfl
@[simp] theorem State.modCap_nextOrder (s : State) (n : Nat) (f : Cap → Cap) : (s.modCap n f).nextOrder = s.nextOrder := rfl
@[simp] theorem State.modCap_txq (s : State) (n : Nat) (f : Cap → Cap) : (s.modCap n f).txq = s.txq := rfl
@[simp] theorem State.modCap_waitingReplies (s : State) (n : Nat) (f : Cap → Cap) : (s.modCap n f).waitingReplies = s.waitingReplies := rfl
@[simp] theorem State.modCap_unknownErrors (s : State) (n : Nat) (f : Cap → Cap) : (s.modCap n f).unknownErrors = s.unknownErrors := rfl
@[simp] theorem State.modCap_lines (s : State) (n : Nat) (f : Cap → Cap) : (s.modCap n f).lines = s.lines := rfl
@[simp] theorem State.modCap_heldLines (s : State) (n : Nat) (f : Cap → Cap) : (s.modCap n f).heldLines = s.heldLines := rfl
@[simp] theorem State.modCap_challenges (s : State) (n : Nat) (f : Cap → Cap) : (s.modCap n f).challenges = s.challenges := rfl
@[simp] theorem State.modCap_freeLines (s : State) (n : Nat) (f : Cap → Cap) : (s.modCap n f).freeLines = s.freeLines := rfl
@[simp] theorem State.modCap_nextLine (s : State) (n : Nat) (f : Cap → Cap) : (s.modCap n f).nextLine = s.nextLine := rfl
@[simp] theorem State.modCap_bootNonce (s : State) (n : Nat) (f : Cap → Cap) : (s.modCap n f).bootNonce = s.bootNonce := rfl
@[simp] theorem State.modCap_moduleKey (s : State) (n : Nat) (f : Cap → Cap) : (s.modCap n f).moduleKey = s.moduleKey := rfl
@[simp] theorem State.modCap_trngKind (s : State) (n : Nat) (f : Cap → Cap) : (s.modCap n f).trngKind = s.trngKind := rfl
@[simp] theorem State.modCap_trngTick (s : State) (n : Nat) (f : Cap → Cap) : (s.modCap n f).trngTick = s.trngTick := rfl
@[simp] theorem State.modCap_eth (s : State) (n : Nat) (f : Cap → Cap) : (s.modCap n f).eth = s.eth := rfl
@[simp] theorem State.modCap_spire (s : State) (n : Nat) (f : Cap → Cap) : (s.modCap n f).spire = s.spire := rfl
@[simp] theorem State.modCap_power (s : State) (n : Nat) (f : Cap → Cap) : (s.modCap n f).power = s.power := rfl
@[simp] theorem State.modCap_pins (s : State) (n : Nat) (f : Cap → Cap) : (s.modCap n f).pins = s.pins := rfl
@[simp] theorem State.modCap_safe (s : State) (n : Nat) (f : Cap → Cap) : (s.modCap n f).safe = s.safe := rfl
@[simp] theorem State.modCap_box (s : State) (n : Nat) (f : Cap → Cap) : (s.modCap n f).box = s.box := rfl
@[simp] theorem State.modCap_counters (s : State) (n : Nat) (f : Cap → Cap) : (s.modCap n f).counters = s.counters := rfl
@[simp] theorem State.modCap_lantern (s : State) (n : Nat) (f : Cap → Cap) : (s.modCap n f).lantern = s.lantern := rfl
@[simp] theorem State.modCap_sweep (s : State) (n : Nat) (f : Cap → Cap) : (s.modCap n f).sweep = s.sweep := rfl
@[simp] theorem State.modCap_store (s : State) (n : Nat) (f : Cap → Cap) : (s.modCap n f).store = s.store := rfl
@[simp] theorem State.modCap_rtc (s : State) (n : Nat) (f : Cap → Cap) : (s.modCap n f).rtc = s.rtc := rfl
@[simp] theorem State.modCap_belfry (s : State) (n : Nat) (f : Cap → Cap) : (s.modCap n f).belfry = s.belfry := rfl
@[simp] theorem State.modCap_bootEvents (s : State) (n : Nat) (f : Cap → Cap) : (s.modCap n f).bootEvents = s.bootEvents := rfl
@[simp] theorem State.modCap_banks (s : State) (n : Nat) (f : Cap → Cap) : (s.modCap n f).banks = s.banks := rfl
@[simp] theorem State.modCap_quads (s : State) (n : Nat) (f : Cap → Cap) : (s.modCap n f).quads = s.quads := rfl
@[simp] theorem State.modCap_ports (s : State) (n : Nat) (f : Cap → Cap) : (s.modCap n f).ports = s.ports := rfl
@[simp] theorem State.modCap_rounds (s : State) (n : Nat) (f : Cap → Cap) : (s.modCap n f).rounds = s.rounds := rfl
@[simp] theorem State.modCap_plans (s : State) (n : Nat) (f : Cap → Cap) : (s.modCap n f).plans = s.plans := rfl
@[simp] theorem State.modCap_tags (s : State) (n : Nat) (f : Cap → Cap) : (s.modCap n f).tags = s.tags := rfl
@[simp] theorem State.modCap_coex (s : State) (n : Nat) (f : Cap → Cap) : (s.modCap n f).coex = s.coex := rfl
@[simp] theorem State.modCap_hsbErrors (s : State) (n : Nat) (f : Cap → Cap) : (s.modCap n f).hsbErrors = s.hsbErrors := rfl
@[simp] theorem State.modCap_ldpc (s : State) (n : Nat) (f : Cap → Cap) : (s.modCap n f).ldpc = s.ldpc := rfl
@[simp] theorem State.modCap_ldpcQueue (s : State) (n : Nat) (f : Cap → Cap) : (s.modCap n f).ldpcQueue = s.ldpcQueue := rfl
@[simp] theorem State.modCap_ldpcCores (s : State) (n : Nat) (f : Cap → Cap) : (s.modCap n f).ldpcCores = s.ldpcCores := rfl
@[simp] theorem State.modCap_timers (s : State) (n : Nat) (f : Cap → Cap) : (s.modCap n f).timers = s.timers := rfl
@[simp] theorem State.modCap_hfPorts (s : State) (n : Nat) (f : Cap → Cap) : (s.modCap n f).hfPorts = s.hfPorts := rfl
@[simp] theorem State.modCap_hfTx (s : State) (n : Nat) (f : Cap → Cap) : (s.modCap n f).hfTx = s.hfTx := rfl
@[simp] theorem State.modCap_caps (s : State) (n : Nat) (f : Cap → Cap) : (s.modCap n f).caps = tmod s.caps n f := rfl
@[simp] theorem State.modCap_meters (s : State) (n : Nat) (f : Cap → Cap) : (s.modCap n f).meters = s.meters := rfl
@[simp] theorem State.modCap_savedMeters (s : State) (n : Nat) (f : Cap → Cap) : (s.modCap n f).savedMeters = s.savedMeters := rfl
@[simp] theorem State.modCap_olderMeters (s : State) (n : Nat) (f : Cap → Cap) : (s.modCap n f).olderMeters = s.olderMeters := rfl
@[simp] theorem State.modCap_newerControl (s : State) (n : Nat) (f : Cap → Cap) : (s.modCap n f).newerControl = s.newerControl := rfl
@[simp] theorem State.modCap_classes (s : State) (n : Nat) (f : Cap → Cap) : (s.modCap n f).classes = s.classes := rfl
@[simp] theorem State.modCap_journals (s : State) (n : Nat) (f : Cap → Cap) : (s.modCap n f).journals = s.journals := rfl
@[simp] theorem State.modCap_groups (s : State) (n : Nat) (f : Cap → Cap) : (s.modCap n f).groups = s.groups := rfl
@[simp] theorem State.modCap_served (s : State) (n : Nat) (f : Cap → Cap) : (s.modCap n f).served = s.served := rfl
@[simp] theorem State.modCap_unregistered (s : State) (n : Nat) (f : Cap → Cap) : (s.modCap n f).unregistered = s.unregistered := rfl
@[simp] theorem State.modCap_sealed (s : State) (n : Nat) (f : Cap → Cap) : (s.modCap n f).sealed = s.sealed := rfl
@[simp] theorem State.modCap_unresolved (s : State) (n : Nat) (f : Cap → Cap) : (s.modCap n f).unresolved = s.unresolved := rfl
@[simp] theorem State.modCap_val (s : State) (n : Nat) (f : Cap → Cap) (o : Nat) : (s.modCap n f).val o = s.val o := rfl

/-! ### `State.modTimer` -/

@[simp] theorem State.modTimer_now (s : State) (n : Nat) (f : Timer → Timer) : (s.modTimer n f).now = s.now := rfl
@[simp] theorem State.modTimer_pending (s : State) (n : Nat) (f : Timer → Timer) : (s.modTimer n f).pending = s.pending := rfl
@[simp] theorem State.modTimer_freeCount (s : State) (n : Nat) (f : Timer → Timer) : (s.modTimer n f).freeCount = s.freeCount := rfl
@[simp] theorem State.modTimer_dict (s : State) (n : Nat) (f : Timer → Timer) : (s.modTimer n f).dict = s.dict := rfl
@[simp] theorem State.modTimer_bootDict (s : State) (n : Nat) (f : Timer → Timer) : (s.modTimer n f).bootDict = s.bootDict := rfl
@[simp] theorem State.modTimer_heldBack (s : State) (n : Nat) (f : Timer → Timer) : (s.modTimer n f).heldBack = s.heldBack := rfl
@[simp] theorem State.modTimer_dwellLowered (s : State) (n : Nat) (f : Timer → Timer) : (s.modTimer n f).dwellLowered = s.dwellLowered := rfl
@[simp] theorem State.modTimer_changes (s : State) (n : Nat) (f : Timer → Timer) : (s.modTimer n f).changes = s.changes := rfl
@[simp] theorem State.modTimer_delivered (s : State) (n : Nat) (f : Timer → Timer) : (s.modTimer n f).delivered = s.delivered := rfl
@[simp] theorem State.modTimer_fuses (s : State) (n : Nat) (f : Timer → Timer) : (s.modTimer n f).fuses = s.fuses := rfl
@[simp] theorem State.modTimer_shades (s : State) (n : Nat) (f : Timer → Timer) : (s.modTimer n f).shades = s.shades := rfl
@[simp] theorem State.modTimer_sessions (s : State) (n : Nat) (f : Timer → Timer) : (s.modTimer n f).sessions = s.sessions := rfl
@[simp] theorem State.modTimer_txns (s : State) (n : Nat) (f : Timer → Timer) : (s.modTimer n f).txns = s.txns := rfl
@[simp] theorem State.modTimer_lateStores (s : State) (n : Nat) (f : Timer → Timer) : (s.modTimer n f).lateStores = s.lateStores := rfl
@[simp] theorem State.modTimer_txnStats (s : State) (n : Nat) (f : Timer → Timer) : (s.modTimer n f).txnStats = s.txnStats := rfl
@[simp] theorem State.modTimer_quietDue (s : State) (n : Nat) (f : Timer → Timer) : (s.modTimer n f).quietDue = s.quietDue := rfl
@[simp] theorem State.modTimer_nextTxn (s : State) (n : Nat) (f : Timer → Timer) : (s.modTimer n f).nextTxn = s.nextTxn := rfl
@[simp] theorem State.modTimer_nextOrder (s : State) (n : Nat) (f : Timer → Timer) : (s.modTimer n f).nextOrder = s.nextOrder := rfl
@[simp] theorem State.modTimer_txq (s : State) (n : Nat) (f : Timer → Timer) : (s.modTimer n f).txq = s.txq := rfl
@[simp] theorem State.modTimer_waitingReplies (s : State) (n : Nat) (f : Timer → Timer) : (s.modTimer n f).waitingReplies = s.waitingReplies := rfl
@[simp] theorem State.modTimer_unknownErrors (s : State) (n : Nat) (f : Timer → Timer) : (s.modTimer n f).unknownErrors = s.unknownErrors := rfl
@[simp] theorem State.modTimer_lines (s : State) (n : Nat) (f : Timer → Timer) : (s.modTimer n f).lines = s.lines := rfl
@[simp] theorem State.modTimer_heldLines (s : State) (n : Nat) (f : Timer → Timer) : (s.modTimer n f).heldLines = s.heldLines := rfl
@[simp] theorem State.modTimer_challenges (s : State) (n : Nat) (f : Timer → Timer) : (s.modTimer n f).challenges = s.challenges := rfl
@[simp] theorem State.modTimer_freeLines (s : State) (n : Nat) (f : Timer → Timer) : (s.modTimer n f).freeLines = s.freeLines := rfl
@[simp] theorem State.modTimer_nextLine (s : State) (n : Nat) (f : Timer → Timer) : (s.modTimer n f).nextLine = s.nextLine := rfl
@[simp] theorem State.modTimer_bootNonce (s : State) (n : Nat) (f : Timer → Timer) : (s.modTimer n f).bootNonce = s.bootNonce := rfl
@[simp] theorem State.modTimer_moduleKey (s : State) (n : Nat) (f : Timer → Timer) : (s.modTimer n f).moduleKey = s.moduleKey := rfl
@[simp] theorem State.modTimer_trngKind (s : State) (n : Nat) (f : Timer → Timer) : (s.modTimer n f).trngKind = s.trngKind := rfl
@[simp] theorem State.modTimer_trngTick (s : State) (n : Nat) (f : Timer → Timer) : (s.modTimer n f).trngTick = s.trngTick := rfl
@[simp] theorem State.modTimer_eth (s : State) (n : Nat) (f : Timer → Timer) : (s.modTimer n f).eth = s.eth := rfl
@[simp] theorem State.modTimer_spire (s : State) (n : Nat) (f : Timer → Timer) : (s.modTimer n f).spire = s.spire := rfl
@[simp] theorem State.modTimer_power (s : State) (n : Nat) (f : Timer → Timer) : (s.modTimer n f).power = s.power := rfl
@[simp] theorem State.modTimer_pins (s : State) (n : Nat) (f : Timer → Timer) : (s.modTimer n f).pins = s.pins := rfl
@[simp] theorem State.modTimer_safe (s : State) (n : Nat) (f : Timer → Timer) : (s.modTimer n f).safe = s.safe := rfl
@[simp] theorem State.modTimer_box (s : State) (n : Nat) (f : Timer → Timer) : (s.modTimer n f).box = s.box := rfl
@[simp] theorem State.modTimer_counters (s : State) (n : Nat) (f : Timer → Timer) : (s.modTimer n f).counters = s.counters := rfl
@[simp] theorem State.modTimer_lantern (s : State) (n : Nat) (f : Timer → Timer) : (s.modTimer n f).lantern = s.lantern := rfl
@[simp] theorem State.modTimer_sweep (s : State) (n : Nat) (f : Timer → Timer) : (s.modTimer n f).sweep = s.sweep := rfl
@[simp] theorem State.modTimer_store (s : State) (n : Nat) (f : Timer → Timer) : (s.modTimer n f).store = s.store := rfl
@[simp] theorem State.modTimer_rtc (s : State) (n : Nat) (f : Timer → Timer) : (s.modTimer n f).rtc = s.rtc := rfl
@[simp] theorem State.modTimer_belfry (s : State) (n : Nat) (f : Timer → Timer) : (s.modTimer n f).belfry = s.belfry := rfl
@[simp] theorem State.modTimer_bootEvents (s : State) (n : Nat) (f : Timer → Timer) : (s.modTimer n f).bootEvents = s.bootEvents := rfl
@[simp] theorem State.modTimer_banks (s : State) (n : Nat) (f : Timer → Timer) : (s.modTimer n f).banks = s.banks := rfl
@[simp] theorem State.modTimer_quads (s : State) (n : Nat) (f : Timer → Timer) : (s.modTimer n f).quads = s.quads := rfl
@[simp] theorem State.modTimer_ports (s : State) (n : Nat) (f : Timer → Timer) : (s.modTimer n f).ports = s.ports := rfl
@[simp] theorem State.modTimer_rounds (s : State) (n : Nat) (f : Timer → Timer) : (s.modTimer n f).rounds = s.rounds := rfl
@[simp] theorem State.modTimer_plans (s : State) (n : Nat) (f : Timer → Timer) : (s.modTimer n f).plans = s.plans := rfl
@[simp] theorem State.modTimer_tags (s : State) (n : Nat) (f : Timer → Timer) : (s.modTimer n f).tags = s.tags := rfl
@[simp] theorem State.modTimer_coex (s : State) (n : Nat) (f : Timer → Timer) : (s.modTimer n f).coex = s.coex := rfl
@[simp] theorem State.modTimer_hsbErrors (s : State) (n : Nat) (f : Timer → Timer) : (s.modTimer n f).hsbErrors = s.hsbErrors := rfl
@[simp] theorem State.modTimer_ldpc (s : State) (n : Nat) (f : Timer → Timer) : (s.modTimer n f).ldpc = s.ldpc := rfl
@[simp] theorem State.modTimer_ldpcQueue (s : State) (n : Nat) (f : Timer → Timer) : (s.modTimer n f).ldpcQueue = s.ldpcQueue := rfl
@[simp] theorem State.modTimer_ldpcCores (s : State) (n : Nat) (f : Timer → Timer) : (s.modTimer n f).ldpcCores = s.ldpcCores := rfl
@[simp] theorem State.modTimer_timers (s : State) (n : Nat) (f : Timer → Timer) : (s.modTimer n f).timers = tmod s.timers n f := rfl
@[simp] theorem State.modTimer_hfPorts (s : State) (n : Nat) (f : Timer → Timer) : (s.modTimer n f).hfPorts = s.hfPorts := rfl
@[simp] theorem State.modTimer_hfTx (s : State) (n : Nat) (f : Timer → Timer) : (s.modTimer n f).hfTx = s.hfTx := rfl
@[simp] theorem State.modTimer_caps (s : State) (n : Nat) (f : Timer → Timer) : (s.modTimer n f).caps = s.caps := rfl
@[simp] theorem State.modTimer_meters (s : State) (n : Nat) (f : Timer → Timer) : (s.modTimer n f).meters = s.meters := rfl
@[simp] theorem State.modTimer_savedMeters (s : State) (n : Nat) (f : Timer → Timer) : (s.modTimer n f).savedMeters = s.savedMeters := rfl
@[simp] theorem State.modTimer_olderMeters (s : State) (n : Nat) (f : Timer → Timer) : (s.modTimer n f).olderMeters = s.olderMeters := rfl
@[simp] theorem State.modTimer_newerControl (s : State) (n : Nat) (f : Timer → Timer) : (s.modTimer n f).newerControl = s.newerControl := rfl
@[simp] theorem State.modTimer_classes (s : State) (n : Nat) (f : Timer → Timer) : (s.modTimer n f).classes = s.classes := rfl
@[simp] theorem State.modTimer_journals (s : State) (n : Nat) (f : Timer → Timer) : (s.modTimer n f).journals = s.journals := rfl
@[simp] theorem State.modTimer_groups (s : State) (n : Nat) (f : Timer → Timer) : (s.modTimer n f).groups = s.groups := rfl
@[simp] theorem State.modTimer_served (s : State) (n : Nat) (f : Timer → Timer) : (s.modTimer n f).served = s.served := rfl
@[simp] theorem State.modTimer_unregistered (s : State) (n : Nat) (f : Timer → Timer) : (s.modTimer n f).unregistered = s.unregistered := rfl
@[simp] theorem State.modTimer_sealed (s : State) (n : Nat) (f : Timer → Timer) : (s.modTimer n f).sealed = s.sealed := rfl
@[simp] theorem State.modTimer_unresolved (s : State) (n : Nat) (f : Timer → Timer) : (s.modTimer n f).unresolved = s.unresolved := rfl
@[simp] theorem State.modTimer_val (s : State) (n : Nat) (f : Timer → Timer) (o : Nat) : (s.modTimer n f).val o = s.val o := rfl

/-! ### `State.modMeter` -/

@[simp] theorem State.modMeter_now (s : State) (m : Nat) (f : Meter → Meter) : (s.modMeter m f).now = s.now := rfl
@[simp] theorem State.modMeter_pending (s : State) (m : Nat) (f : Meter → Meter) : (s.modMeter m f).pending = s.pending := rfl
@[simp] theorem State.modMeter_freeCount (s : State) (m : Nat) (f : Meter → Meter) : (s.modMeter m f).freeCount = s.freeCount := rfl
@[simp] theorem State.modMeter_dict (s : State) (m : Nat) (f : Meter → Meter) : (s.modMeter m f).dict = s.dict := rfl
@[simp] theorem State.modMeter_bootDict (s : State) (m : Nat) (f : Meter → Meter) : (s.modMeter m f).bootDict = s.bootDict := rfl
@[simp] theorem State.modMeter_heldBack (s : State) (m : Nat) (f : Meter → Meter) : (s.modMeter m f).heldBack = s.heldBack := rfl
@[simp] theorem State.modMeter_dwellLowered (s : State) (m : Nat) (f : Meter → Meter) : (s.modMeter m f).dwellLowered = s.dwellLowered := rfl
@[simp] theorem State.modMeter_changes (s : State) (m : Nat) (f : Meter → Meter) : (s.modMeter m f).changes = s.changes := rfl
@[simp] theorem State.modMeter_delivered (s : State) (m : Nat) (f : Meter → Meter) : (s.modMeter m f).delivered = s.delivered := rfl
@[simp] theorem State.modMeter_fuses (s : State) (m : Nat) (f : Meter → Meter) : (s.modMeter m f).fuses = s.fuses := rfl
@[simp] theorem State.modMeter_shades (s : State) (m : Nat) (f : Meter → Meter) : (s.modMeter m f).shades = s.shades := rfl
@[simp] theorem State.modMeter_sessions (s : State) (m : Nat) (f : Meter → Meter) : (s.modMeter m f).sessions = s.sessions := rfl
@[simp] theorem State.modMeter_txns (s : State) (m : Nat) (f : Meter → Meter) : (s.modMeter m f).txns = s.txns := rfl
@[simp] theorem State.modMeter_lateStores (s : State) (m : Nat) (f : Meter → Meter) : (s.modMeter m f).lateStores = s.lateStores := rfl
@[simp] theorem State.modMeter_txnStats (s : State) (m : Nat) (f : Meter → Meter) : (s.modMeter m f).txnStats = s.txnStats := rfl
@[simp] theorem State.modMeter_quietDue (s : State) (m : Nat) (f : Meter → Meter) : (s.modMeter m f).quietDue = s.quietDue := rfl
@[simp] theorem State.modMeter_nextTxn (s : State) (m : Nat) (f : Meter → Meter) : (s.modMeter m f).nextTxn = s.nextTxn := rfl
@[simp] theorem State.modMeter_nextOrder (s : State) (m : Nat) (f : Meter → Meter) : (s.modMeter m f).nextOrder = s.nextOrder := rfl
@[simp] theorem State.modMeter_txq (s : State) (m : Nat) (f : Meter → Meter) : (s.modMeter m f).txq = s.txq := rfl
@[simp] theorem State.modMeter_waitingReplies (s : State) (m : Nat) (f : Meter → Meter) : (s.modMeter m f).waitingReplies = s.waitingReplies := rfl
@[simp] theorem State.modMeter_unknownErrors (s : State) (m : Nat) (f : Meter → Meter) : (s.modMeter m f).unknownErrors = s.unknownErrors := rfl
@[simp] theorem State.modMeter_lines (s : State) (m : Nat) (f : Meter → Meter) : (s.modMeter m f).lines = s.lines := rfl
@[simp] theorem State.modMeter_heldLines (s : State) (m : Nat) (f : Meter → Meter) : (s.modMeter m f).heldLines = s.heldLines := rfl
@[simp] theorem State.modMeter_challenges (s : State) (m : Nat) (f : Meter → Meter) : (s.modMeter m f).challenges = s.challenges := rfl
@[simp] theorem State.modMeter_freeLines (s : State) (m : Nat) (f : Meter → Meter) : (s.modMeter m f).freeLines = s.freeLines := rfl
@[simp] theorem State.modMeter_nextLine (s : State) (m : Nat) (f : Meter → Meter) : (s.modMeter m f).nextLine = s.nextLine := rfl
@[simp] theorem State.modMeter_bootNonce (s : State) (m : Nat) (f : Meter → Meter) : (s.modMeter m f).bootNonce = s.bootNonce := rfl
@[simp] theorem State.modMeter_moduleKey (s : State) (m : Nat) (f : Meter → Meter) : (s.modMeter m f).moduleKey = s.moduleKey := rfl
@[simp] theorem State.modMeter_trngKind (s : State) (m : Nat) (f : Meter → Meter) : (s.modMeter m f).trngKind = s.trngKind := rfl
@[simp] theorem State.modMeter_trngTick (s : State) (m : Nat) (f : Meter → Meter) : (s.modMeter m f).trngTick = s.trngTick := rfl
@[simp] theorem State.modMeter_eth (s : State) (m : Nat) (f : Meter → Meter) : (s.modMeter m f).eth = s.eth := rfl
@[simp] theorem State.modMeter_spire (s : State) (m : Nat) (f : Meter → Meter) : (s.modMeter m f).spire = s.spire := rfl
@[simp] theorem State.modMeter_power (s : State) (m : Nat) (f : Meter → Meter) : (s.modMeter m f).power = s.power := rfl
@[simp] theorem State.modMeter_pins (s : State) (m : Nat) (f : Meter → Meter) : (s.modMeter m f).pins = s.pins := rfl
@[simp] theorem State.modMeter_safe (s : State) (m : Nat) (f : Meter → Meter) : (s.modMeter m f).safe = s.safe := rfl
@[simp] theorem State.modMeter_box (s : State) (m : Nat) (f : Meter → Meter) : (s.modMeter m f).box = s.box := rfl
@[simp] theorem State.modMeter_counters (s : State) (m : Nat) (f : Meter → Meter) : (s.modMeter m f).counters = s.counters := rfl
@[simp] theorem State.modMeter_lantern (s : State) (m : Nat) (f : Meter → Meter) : (s.modMeter m f).lantern = s.lantern := rfl
@[simp] theorem State.modMeter_sweep (s : State) (m : Nat) (f : Meter → Meter) : (s.modMeter m f).sweep = s.sweep := rfl
@[simp] theorem State.modMeter_store (s : State) (m : Nat) (f : Meter → Meter) : (s.modMeter m f).store = s.store := rfl
@[simp] theorem State.modMeter_rtc (s : State) (m : Nat) (f : Meter → Meter) : (s.modMeter m f).rtc = s.rtc := rfl
@[simp] theorem State.modMeter_belfry (s : State) (m : Nat) (f : Meter → Meter) : (s.modMeter m f).belfry = s.belfry := rfl
@[simp] theorem State.modMeter_bootEvents (s : State) (m : Nat) (f : Meter → Meter) : (s.modMeter m f).bootEvents = s.bootEvents := rfl
@[simp] theorem State.modMeter_banks (s : State) (m : Nat) (f : Meter → Meter) : (s.modMeter m f).banks = s.banks := rfl
@[simp] theorem State.modMeter_quads (s : State) (m : Nat) (f : Meter → Meter) : (s.modMeter m f).quads = s.quads := rfl
@[simp] theorem State.modMeter_ports (s : State) (m : Nat) (f : Meter → Meter) : (s.modMeter m f).ports = s.ports := rfl
@[simp] theorem State.modMeter_rounds (s : State) (m : Nat) (f : Meter → Meter) : (s.modMeter m f).rounds = s.rounds := rfl
@[simp] theorem State.modMeter_plans (s : State) (m : Nat) (f : Meter → Meter) : (s.modMeter m f).plans = s.plans := rfl
@[simp] theorem State.modMeter_tags (s : State) (m : Nat) (f : Meter → Meter) : (s.modMeter m f).tags = s.tags := rfl
@[simp] theorem State.modMeter_coex (s : State) (m : Nat) (f : Meter → Meter) : (s.modMeter m f).coex = s.coex := rfl
@[simp] theorem State.modMeter_hsbErrors (s : State) (m : Nat) (f : Meter → Meter) : (s.modMeter m f).hsbErrors = s.hsbErrors := rfl
@[simp] theorem State.modMeter_ldpc (s : State) (m : Nat) (f : Meter → Meter) : (s.modMeter m f).ldpc = s.ldpc := rfl
@[simp] theorem State.modMeter_ldpcQueue (s : State) (m : Nat) (f : Meter → Meter) : (s.modMeter m f).ldpcQueue = s.ldpcQueue := rfl
@[simp] theorem State.modMeter_ldpcCores (s : State) (m : Nat) (f : Meter → Meter) : (s.modMeter m f).ldpcCores = s.ldpcCores := rfl
@[simp] theorem State.modMeter_timers (s : State) (m : Nat) (f : Meter → Meter) : (s.modMeter m f).timers = s.timers := rfl
@[simp] theorem State.modMeter_hfPorts (s : State) (m : Nat) (f : Meter → Meter) : (s.modMeter m f).hfPorts = s.hfPorts := rfl
@[simp] theorem State.modMeter_hfTx (s : State) (m : Nat) (f : Meter → Meter) : (s.modMeter m f).hfTx = s.hfTx := rfl
@[simp] theorem State.modMeter_caps (s : State) (m : Nat) (f : Meter → Meter) : (s.modMeter m f).caps = s.caps := rfl
@[simp] theorem State.modMeter_meters (s : State) (m : Nat) (f : Meter → Meter) : (s.modMeter m f).meters = NMap.upd s.meters m f := rfl
@[simp] theorem State.modMeter_savedMeters (s : State) (m : Nat) (f : Meter → Meter) : (s.modMeter m f).savedMeters = s.savedMeters := rfl
@[simp] theorem State.modMeter_olderMeters (s : State) (m : Nat) (f : Meter → Meter) : (s.modMeter m f).olderMeters = s.olderMeters := rfl
@[simp] theorem State.modMeter_newerControl (s : State) (m : Nat) (f : Meter → Meter) : (s.modMeter m f).newerControl = s.newerControl := rfl
@[simp] theorem State.modMeter_classes (s : State) (m : Nat) (f : Meter → Meter) : (s.modMeter m f).classes = s.classes := rfl
@[simp] theorem State.modMeter_journals (s : State) (m : Nat) (f : Meter → Meter) : (s.modMeter m f).journals = s.journals := rfl
@[simp] theorem State.modMeter_groups (s : State) (m : Nat) (f : Meter → Meter) : (s.modMeter m f).groups = s.groups := rfl
@[simp] theorem State.modMeter_served (s : State) (m : Nat) (f : Meter → Meter) : (s.modMeter m f).served = s.served := rfl
@[simp] theorem State.modMeter_unregistered (s : State) (m : Nat) (f : Meter → Meter) : (s.modMeter m f).unregistered = s.unregistered := rfl
@[simp] theorem State.modMeter_sealed (s : State) (m : Nat) (f : Meter → Meter) : (s.modMeter m f).sealed = s.sealed := rfl
@[simp] theorem State.modMeter_unresolved (s : State) (m : Nat) (f : Meter → Meter) : (s.modMeter m f).unresolved = s.unresolved := rfl
@[simp] theorem State.modMeter_val (s : State) (m : Nat) (f : Meter → Meter) (o : Nat) : (s.modMeter m f).val o = s.val o := rfl

/-! ### `State.modCls` -/

@[simp] theorem State.modCls_now (s : State) (c : Nat) (f : ClassRun → ClassRun) : (s.modCls c f).now = s.now := rfl
@[simp] theorem State.modCls_pending (s : State) (c : Nat) (f : ClassRun → ClassRun) : (s.modCls c f).pending = s.pending := rfl
@[simp] theorem State.modCls_freeCount (s : State) (c : Nat) (f : ClassRun → ClassRun) : (s.modCls c f).freeCount = s.freeCount := rfl
@[simp] theorem State.modCls_dict (s : State) (c : Nat) (f : ClassRun → ClassRun) : (s.modCls c f).dict = s.dict := rfl
@[simp] theorem State.modCls_bootDict (s : State) (c : Nat) (f : ClassRun → ClassRun) : (s.modCls c f).bootDict = s.bootDict := rfl
@[simp] theorem State.modCls_heldBack (s : State) (c : Nat) (f : ClassRun → ClassRun) : (s.modCls c f).heldBack = s.heldBack := rfl
@[simp] theorem State.modCls_dwellLowered (s : State) (c : Nat) (f : ClassRun → ClassRun) : (s.modCls c f).dwellLowered = s.dwellLowered := rfl
@[simp] theorem State.modCls_changes (s : State) (c : Nat) (f : ClassRun → ClassRun) : (s.modCls c f).changes = s.changes := rfl
@[simp] theorem State.modCls_delivered (s : State) (c : Nat) (f : ClassRun → ClassRun) : (s.modCls c f).delivered = s.delivered := rfl
@[simp] theorem State.modCls_fuses (s : State) (c : Nat) (f : ClassRun → ClassRun) : (s.modCls c f).fuses = s.fuses := rfl
@[simp] theorem State.modCls_shades (s : State) (c : Nat) (f : ClassRun → ClassRun) : (s.modCls c f).shades = s.shades := rfl
@[simp] theorem State.modCls_sessions (s : State) (c : Nat) (f : ClassRun → ClassRun) : (s.modCls c f).sessions = s.sessions := rfl
@[simp] theorem State.modCls_txns (s : State) (c : Nat) (f : ClassRun → ClassRun) : (s.modCls c f).txns = s.txns := rfl
@[simp] theorem State.modCls_lateStores (s : State) (c : Nat) (f : ClassRun → ClassRun) : (s.modCls c f).lateStores = s.lateStores := rfl
@[simp] theorem State.modCls_txnStats (s : State) (c : Nat) (f : ClassRun → ClassRun) : (s.modCls c f).txnStats = s.txnStats := rfl
@[simp] theorem State.modCls_quietDue (s : State) (c : Nat) (f : ClassRun → ClassRun) : (s.modCls c f).quietDue = s.quietDue := rfl
@[simp] theorem State.modCls_nextTxn (s : State) (c : Nat) (f : ClassRun → ClassRun) : (s.modCls c f).nextTxn = s.nextTxn := rfl
@[simp] theorem State.modCls_nextOrder (s : State) (c : Nat) (f : ClassRun → ClassRun) : (s.modCls c f).nextOrder = s.nextOrder := rfl
@[simp] theorem State.modCls_txq (s : State) (c : Nat) (f : ClassRun → ClassRun) : (s.modCls c f).txq = s.txq := rfl
@[simp] theorem State.modCls_waitingReplies (s : State) (c : Nat) (f : ClassRun → ClassRun) : (s.modCls c f).waitingReplies = s.waitingReplies := rfl
@[simp] theorem State.modCls_unknownErrors (s : State) (c : Nat) (f : ClassRun → ClassRun) : (s.modCls c f).unknownErrors = s.unknownErrors := rfl
@[simp] theorem State.modCls_lines (s : State) (c : Nat) (f : ClassRun → ClassRun) : (s.modCls c f).lines = s.lines := rfl
@[simp] theorem State.modCls_heldLines (s : State) (c : Nat) (f : ClassRun → ClassRun) : (s.modCls c f).heldLines = s.heldLines := rfl
@[simp] theorem State.modCls_challenges (s : State) (c : Nat) (f : ClassRun → ClassRun) : (s.modCls c f).challenges = s.challenges := rfl
@[simp] theorem State.modCls_freeLines (s : State) (c : Nat) (f : ClassRun → ClassRun) : (s.modCls c f).freeLines = s.freeLines := rfl
@[simp] theorem State.modCls_nextLine (s : State) (c : Nat) (f : ClassRun → ClassRun) : (s.modCls c f).nextLine = s.nextLine := rfl
@[simp] theorem State.modCls_bootNonce (s : State) (c : Nat) (f : ClassRun → ClassRun) : (s.modCls c f).bootNonce = s.bootNonce := rfl
@[simp] theorem State.modCls_moduleKey (s : State) (c : Nat) (f : ClassRun → ClassRun) : (s.modCls c f).moduleKey = s.moduleKey := rfl
@[simp] theorem State.modCls_trngKind (s : State) (c : Nat) (f : ClassRun → ClassRun) : (s.modCls c f).trngKind = s.trngKind := rfl
@[simp] theorem State.modCls_trngTick (s : State) (c : Nat) (f : ClassRun → ClassRun) : (s.modCls c f).trngTick = s.trngTick := rfl
@[simp] theorem State.modCls_eth (s : State) (c : Nat) (f : ClassRun → ClassRun) : (s.modCls c f).eth = s.eth := rfl
@[simp] theorem State.modCls_spire (s : State) (c : Nat) (f : ClassRun → ClassRun) : (s.modCls c f).spire = s.spire := rfl
@[simp] theorem State.modCls_power (s : State) (c : Nat) (f : ClassRun → ClassRun) : (s.modCls c f).power = s.power := rfl
@[simp] theorem State.modCls_pins (s : State) (c : Nat) (f : ClassRun → ClassRun) : (s.modCls c f).pins = s.pins := rfl
@[simp] theorem State.modCls_safe (s : State) (c : Nat) (f : ClassRun → ClassRun) : (s.modCls c f).safe = s.safe := rfl
@[simp] theorem State.modCls_box (s : State) (c : Nat) (f : ClassRun → ClassRun) : (s.modCls c f).box = s.box := rfl
@[simp] theorem State.modCls_counters (s : State) (c : Nat) (f : ClassRun → ClassRun) : (s.modCls c f).counters = s.counters := rfl
@[simp] theorem State.modCls_lantern (s : State) (c : Nat) (f : ClassRun → ClassRun) : (s.modCls c f).lantern = s.lantern := rfl
@[simp] theorem State.modCls_sweep (s : State) (c : Nat) (f : ClassRun → ClassRun) : (s.modCls c f).sweep = s.sweep := rfl
@[simp] theorem State.modCls_store (s : State) (c : Nat) (f : ClassRun → ClassRun) : (s.modCls c f).store = s.store := rfl
@[simp] theorem State.modCls_rtc (s : State) (c : Nat) (f : ClassRun → ClassRun) : (s.modCls c f).rtc = s.rtc := rfl
@[simp] theorem State.modCls_belfry (s : State) (c : Nat) (f : ClassRun → ClassRun) : (s.modCls c f).belfry = s.belfry := rfl
@[simp] theorem State.modCls_bootEvents (s : State) (c : Nat) (f : ClassRun → ClassRun) : (s.modCls c f).bootEvents = s.bootEvents := rfl
@[simp] theorem State.modCls_banks (s : State) (c : Nat) (f : ClassRun → ClassRun) : (s.modCls c f).banks = s.banks := rfl
@[simp] theorem State.modCls_quads (s : State) (c : Nat) (f : ClassRun → ClassRun) : (s.modCls c f).quads = s.quads := rfl
@[simp] theorem State.modCls_ports (s : State) (c : Nat) (f : ClassRun → ClassRun) : (s.modCls c f).ports = s.ports := rfl
@[simp] theorem State.modCls_rounds (s : State) (c : Nat) (f : ClassRun → ClassRun) : (s.modCls c f).rounds = s.rounds := rfl
@[simp] theorem State.modCls_plans (s : State) (c : Nat) (f : ClassRun → ClassRun) : (s.modCls c f).plans = s.plans := rfl
@[simp] theorem State.modCls_tags (s : State) (c : Nat) (f : ClassRun → ClassRun) : (s.modCls c f).tags = s.tags := rfl
@[simp] theorem State.modCls_coex (s : State) (c : Nat) (f : ClassRun → ClassRun) : (s.modCls c f).coex = s.coex := rfl
@[simp] theorem State.modCls_hsbErrors (s : State) (c : Nat) (f : ClassRun → ClassRun) : (s.modCls c f).hsbErrors = s.hsbErrors := rfl
@[simp] theorem State.modCls_ldpc (s : State) (c : Nat) (f : ClassRun → ClassRun) : (s.modCls c f).ldpc = s.ldpc := rfl
@[simp] theorem State.modCls_ldpcQueue (s : State) (c : Nat) (f : ClassRun → ClassRun) : (s.modCls c f).ldpcQueue = s.ldpcQueue := rfl
@[simp] theorem State.modCls_ldpcCores (s : State) (c : Nat) (f : ClassRun → ClassRun) : (s.modCls c f).ldpcCores = s.ldpcCores := rfl
@[simp] theorem State.modCls_timers (s : State) (c : Nat) (f : ClassRun → ClassRun) : (s.modCls c f).timers = s.timers := rfl
@[simp] theorem State.modCls_hfPorts (s : State) (c : Nat) (f : ClassRun → ClassRun) : (s.modCls c f).hfPorts = s.hfPorts := rfl
@[simp] theorem State.modCls_hfTx (s : State) (c : Nat) (f : ClassRun → ClassRun) : (s.modCls c f).hfTx = s.hfTx := rfl
@[simp] theorem State.modCls_caps (s : State) (c : Nat) (f : ClassRun → ClassRun) : (s.modCls c f).caps = s.caps := rfl
@[simp] theorem State.modCls_meters (s : State) (c : Nat) (f : ClassRun → ClassRun) : (s.modCls c f).meters = s.meters := rfl
@[simp] theorem State.modCls_savedMeters (s : State) (c : Nat) (f : ClassRun → ClassRun) : (s.modCls c f).savedMeters = s.savedMeters := rfl
@[simp] theorem State.modCls_olderMeters (s : State) (c : Nat) (f : ClassRun → ClassRun) : (s.modCls c f).olderMeters = s.olderMeters := rfl
@[simp] theorem State.modCls_newerControl (s : State) (c : Nat) (f : ClassRun → ClassRun) : (s.modCls c f).newerControl = s.newerControl := rfl
@[simp] theorem State.modCls_classes (s : State) (c : Nat) (f : ClassRun → ClassRun) : (s.modCls c f).classes = tmod s.classes c f := rfl
@[simp] theorem State.modCls_journals (s : State) (c : Nat) (f : ClassRun → ClassRun) : (s.modCls c f).journals = s.journals := rfl
@[simp] theorem State.modCls_groups (s : State) (c : Nat) (f : ClassRun → ClassRun) : (s.modCls c f).groups = s.groups := rfl
@[simp] theorem State.modCls_served (s : State) (c : Nat) (f : ClassRun → ClassRun) : (s.modCls c f).served = s.served := rfl
@[simp] theorem State.modCls_unregistered (s : State) (c : Nat) (f : ClassRun → ClassRun) : (s.modCls c f).unregistered = s.unregistered := rfl
@[simp] theorem State.modCls_sealed (s : State) (c : Nat) (f : ClassRun → ClassRun) : (s.modCls c f).sealed = s.sealed := rfl
@[simp] theorem State.modCls_unresolved (s : State) (c : Nat) (f : ClassRun → ClassRun) : (s.modCls c f).unresolved = s.unresolved := rfl
@[simp] theorem State.modCls_val (s : State) (c : Nat) (f : ClassRun → ClassRun) (o : Nat) : (s.modCls c f).val o = s.val o := rfl

/-! ### `State.modJournal` -/

@[simp] theorem State.modJournal_now (s : State) (sh : Nat) (f : Journal → Journal) : (s.modJournal sh f).now = s.now := rfl
@[simp] theorem State.modJournal_pending (s : State) (sh : Nat) (f : Journal → Journal) : (s.modJournal sh f).pending = s.pending := rfl
@[simp] theorem State.modJournal_freeCount (s : State) (sh : Nat) (f : Journal → Journal) : (s.modJournal sh f).freeCount = s.freeCount := rfl
@[simp] theorem State.modJournal_dict (s : State) (sh : Nat) (f : Journal → Journal) : (s.modJournal sh f).dict = s.dict := rfl
@[simp] theorem State.modJournal_bootDict (s : State) (sh : Nat) (f : Journal → Journal) : (s.modJournal sh f).bootDict = s.bootDict := rfl
@[simp] theorem State.modJournal_heldBack (s : State) (sh : Nat) (f : Journal → Journal) : (s.modJournal sh f).heldBack = s.heldBack := rfl
@[simp] theorem State.modJournal_dwellLowered (s : State) (sh : Nat) (f : Journal → Journal) : (s.modJournal sh f).dwellLowered = s.dwellLowered := rfl
@[simp] theorem State.modJournal_changes (s : State) (sh : Nat) (f : Journal → Journal) : (s.modJournal sh f).changes = s.changes := rfl
@[simp] theorem State.modJournal_delivered (s : State) (sh : Nat) (f : Journal → Journal) : (s.modJournal sh f).delivered = s.delivered := rfl
@[simp] theorem State.modJournal_fuses (s : State) (sh : Nat) (f : Journal → Journal) : (s.modJournal sh f).fuses = s.fuses := rfl
@[simp] theorem State.modJournal_shades (s : State) (sh : Nat) (f : Journal → Journal) : (s.modJournal sh f).shades = s.shades := rfl
@[simp] theorem State.modJournal_sessions (s : State) (sh : Nat) (f : Journal → Journal) : (s.modJournal sh f).sessions = s.sessions := rfl
@[simp] theorem State.modJournal_txns (s : State) (sh : Nat) (f : Journal → Journal) : (s.modJournal sh f).txns = s.txns := rfl
@[simp] theorem State.modJournal_lateStores (s : State) (sh : Nat) (f : Journal → Journal) : (s.modJournal sh f).lateStores = s.lateStores := rfl
@[simp] theorem State.modJournal_txnStats (s : State) (sh : Nat) (f : Journal → Journal) : (s.modJournal sh f).txnStats = s.txnStats := rfl
@[simp] theorem State.modJournal_quietDue (s : State) (sh : Nat) (f : Journal → Journal) : (s.modJournal sh f).quietDue = s.quietDue := rfl
@[simp] theorem State.modJournal_nextTxn (s : State) (sh : Nat) (f : Journal → Journal) : (s.modJournal sh f).nextTxn = s.nextTxn := rfl
@[simp] theorem State.modJournal_nextOrder (s : State) (sh : Nat) (f : Journal → Journal) : (s.modJournal sh f).nextOrder = s.nextOrder := rfl
@[simp] theorem State.modJournal_txq (s : State) (sh : Nat) (f : Journal → Journal) : (s.modJournal sh f).txq = s.txq := rfl
@[simp] theorem State.modJournal_waitingReplies (s : State) (sh : Nat) (f : Journal → Journal) : (s.modJournal sh f).waitingReplies = s.waitingReplies := rfl
@[simp] theorem State.modJournal_unknownErrors (s : State) (sh : Nat) (f : Journal → Journal) : (s.modJournal sh f).unknownErrors = s.unknownErrors := rfl
@[simp] theorem State.modJournal_lines (s : State) (sh : Nat) (f : Journal → Journal) : (s.modJournal sh f).lines = s.lines := rfl
@[simp] theorem State.modJournal_heldLines (s : State) (sh : Nat) (f : Journal → Journal) : (s.modJournal sh f).heldLines = s.heldLines := rfl
@[simp] theorem State.modJournal_challenges (s : State) (sh : Nat) (f : Journal → Journal) : (s.modJournal sh f).challenges = s.challenges := rfl
@[simp] theorem State.modJournal_freeLines (s : State) (sh : Nat) (f : Journal → Journal) : (s.modJournal sh f).freeLines = s.freeLines := rfl
@[simp] theorem State.modJournal_nextLine (s : State) (sh : Nat) (f : Journal → Journal) : (s.modJournal sh f).nextLine = s.nextLine := rfl
@[simp] theorem State.modJournal_bootNonce (s : State) (sh : Nat) (f : Journal → Journal) : (s.modJournal sh f).bootNonce = s.bootNonce := rfl
@[simp] theorem State.modJournal_moduleKey (s : State) (sh : Nat) (f : Journal → Journal) : (s.modJournal sh f).moduleKey = s.moduleKey := rfl
@[simp] theorem State.modJournal_trngKind (s : State) (sh : Nat) (f : Journal → Journal) : (s.modJournal sh f).trngKind = s.trngKind := rfl
@[simp] theorem State.modJournal_trngTick (s : State) (sh : Nat) (f : Journal → Journal) : (s.modJournal sh f).trngTick = s.trngTick := rfl
@[simp] theorem State.modJournal_eth (s : State) (sh : Nat) (f : Journal → Journal) : (s.modJournal sh f).eth = s.eth := rfl
@[simp] theorem State.modJournal_spire (s : State) (sh : Nat) (f : Journal → Journal) : (s.modJournal sh f).spire = s.spire := rfl
@[simp] theorem State.modJournal_power (s : State) (sh : Nat) (f : Journal → Journal) : (s.modJournal sh f).power = s.power := rfl
@[simp] theorem State.modJournal_pins (s : State) (sh : Nat) (f : Journal → Journal) : (s.modJournal sh f).pins = s.pins := rfl
@[simp] theorem State.modJournal_safe (s : State) (sh : Nat) (f : Journal → Journal) : (s.modJournal sh f).safe = s.safe := rfl
@[simp] theorem State.modJournal_box (s : State) (sh : Nat) (f : Journal → Journal) : (s.modJournal sh f).box = s.box := rfl
@[simp] theorem State.modJournal_counters (s : State) (sh : Nat) (f : Journal → Journal) : (s.modJournal sh f).counters = s.counters := rfl
@[simp] theorem State.modJournal_lantern (s : State) (sh : Nat) (f : Journal → Journal) : (s.modJournal sh f).lantern = s.lantern := rfl
@[simp] theorem State.modJournal_sweep (s : State) (sh : Nat) (f : Journal → Journal) : (s.modJournal sh f).sweep = s.sweep := rfl
@[simp] theorem State.modJournal_store (s : State) (sh : Nat) (f : Journal → Journal) : (s.modJournal sh f).store = s.store := rfl
@[simp] theorem State.modJournal_rtc (s : State) (sh : Nat) (f : Journal → Journal) : (s.modJournal sh f).rtc = s.rtc := rfl
@[simp] theorem State.modJournal_belfry (s : State) (sh : Nat) (f : Journal → Journal) : (s.modJournal sh f).belfry = s.belfry := rfl
@[simp] theorem State.modJournal_bootEvents (s : State) (sh : Nat) (f : Journal → Journal) : (s.modJournal sh f).bootEvents = s.bootEvents := rfl
@[simp] theorem State.modJournal_banks (s : State) (sh : Nat) (f : Journal → Journal) : (s.modJournal sh f).banks = s.banks := rfl
@[simp] theorem State.modJournal_quads (s : State) (sh : Nat) (f : Journal → Journal) : (s.modJournal sh f).quads = s.quads := rfl
@[simp] theorem State.modJournal_ports (s : State) (sh : Nat) (f : Journal → Journal) : (s.modJournal sh f).ports = s.ports := rfl
@[simp] theorem State.modJournal_rounds (s : State) (sh : Nat) (f : Journal → Journal) : (s.modJournal sh f).rounds = s.rounds := rfl
@[simp] theorem State.modJournal_plans (s : State) (sh : Nat) (f : Journal → Journal) : (s.modJournal sh f).plans = s.plans := rfl
@[simp] theorem State.modJournal_tags (s : State) (sh : Nat) (f : Journal → Journal) : (s.modJournal sh f).tags = s.tags := rfl
@[simp] theorem State.modJournal_coex (s : State) (sh : Nat) (f : Journal → Journal) : (s.modJournal sh f).coex = s.coex := rfl
@[simp] theorem State.modJournal_hsbErrors (s : State) (sh : Nat) (f : Journal → Journal) : (s.modJournal sh f).hsbErrors = s.hsbErrors := rfl
@[simp] theorem State.modJournal_ldpc (s : State) (sh : Nat) (f : Journal → Journal) : (s.modJournal sh f).ldpc = s.ldpc := rfl
@[simp] theorem State.modJournal_ldpcQueue (s : State) (sh : Nat) (f : Journal → Journal) : (s.modJournal sh f).ldpcQueue = s.ldpcQueue := rfl
@[simp] theorem State.modJournal_ldpcCores (s : State) (sh : Nat) (f : Journal → Journal) : (s.modJournal sh f).ldpcCores = s.ldpcCores := rfl
@[simp] theorem State.modJournal_timers (s : State) (sh : Nat) (f : Journal → Journal) : (s.modJournal sh f).timers = s.timers := rfl
@[simp] theorem State.modJournal_hfPorts (s : State) (sh : Nat) (f : Journal → Journal) : (s.modJournal sh f).hfPorts = s.hfPorts := rfl
@[simp] theorem State.modJournal_hfTx (s : State) (sh : Nat) (f : Journal → Journal) : (s.modJournal sh f).hfTx = s.hfTx := rfl
@[simp] theorem State.modJournal_caps (s : State) (sh : Nat) (f : Journal → Journal) : (s.modJournal sh f).caps = s.caps := rfl
@[simp] theorem State.modJournal_meters (s : State) (sh : Nat) (f : Journal → Journal) : (s.modJournal sh f).meters = s.meters := rfl
@[simp] theorem State.modJournal_savedMeters (s : State) (sh : Nat) (f : Journal → Journal) : (s.modJournal sh f).savedMeters = s.savedMeters := rfl
@[simp] theorem State.modJournal_olderMeters (s : State) (sh : Nat) (f : Journal → Journal) : (s.modJournal sh f).olderMeters = s.olderMeters := rfl
@[simp] theorem State.modJournal_newerControl (s : State) (sh : Nat) (f : Journal → Journal) : (s.modJournal sh f).newerControl = s.newerControl := rfl
@[simp] theorem State.modJournal_classes (s : State) (sh : Nat) (f : Journal → Journal) : (s.modJournal sh f).classes = s.classes := rfl
@[simp] theorem State.modJournal_journals (s : State) (sh : Nat) (f : Journal → Journal) : (s.modJournal sh f).journals = tmod s.journals sh f := rfl
@[simp] theorem State.modJournal_groups (s : State) (sh : Nat) (f : Journal → Journal) : (s.modJournal sh f).groups = s.groups := rfl
@[simp] theorem State.modJournal_served (s : State) (sh : Nat) (f : Journal → Journal) : (s.modJournal sh f).served = s.served := rfl
@[simp] theorem State.modJournal_unregistered (s : State) (sh : Nat) (f : Journal → Journal) : (s.modJournal sh f).unregistered = s.unregistered := rfl
@[simp] theorem State.modJournal_sealed (s : State) (sh : Nat) (f : Journal → Journal) : (s.modJournal sh f).sealed = s.sealed := rfl
@[simp] theorem State.modJournal_unresolved (s : State) (sh : Nat) (f : Journal → Journal) : (s.modJournal sh f).unresolved = s.unresolved := rfl
@[simp] theorem State.modJournal_val (s : State) (sh : Nat) (f : Journal → Journal) (o : Nat) : (s.modJournal sh f).val o = s.val o := rfl

/-! ### `State.modPower` -/

@[simp] theorem State.modPower_now (s : State) (f : Power → Power) : (s.modPower f).now = s.now := rfl
@[simp] theorem State.modPower_pending (s : State) (f : Power → Power) : (s.modPower f).pending = s.pending := rfl
@[simp] theorem State.modPower_freeCount (s : State) (f : Power → Power) : (s.modPower f).freeCount = s.freeCount := rfl
@[simp] theorem State.modPower_dict (s : State) (f : Power → Power) : (s.modPower f).dict = s.dict := rfl
@[simp] theorem State.modPower_bootDict (s : State) (f : Power → Power) : (s.modPower f).bootDict = s.bootDict := rfl
@[simp] theorem State.modPower_heldBack (s : State) (f : Power → Power) : (s.modPower f).heldBack = s.heldBack := rfl
@[simp] theorem State.modPower_dwellLowered (s : State) (f : Power → Power) : (s.modPower f).dwellLowered = s.dwellLowered := rfl
@[simp] theorem State.modPower_changes (s : State) (f : Power → Power) : (s.modPower f).changes = s.changes := rfl
@[simp] theorem State.modPower_delivered (s : State) (f : Power → Power) : (s.modPower f).delivered = s.delivered := rfl
@[simp] theorem State.modPower_fuses (s : State) (f : Power → Power) : (s.modPower f).fuses = s.fuses := rfl
@[simp] theorem State.modPower_shades (s : State) (f : Power → Power) : (s.modPower f).shades = s.shades := rfl
@[simp] theorem State.modPower_sessions (s : State) (f : Power → Power) : (s.modPower f).sessions = s.sessions := rfl
@[simp] theorem State.modPower_txns (s : State) (f : Power → Power) : (s.modPower f).txns = s.txns := rfl
@[simp] theorem State.modPower_lateStores (s : State) (f : Power → Power) : (s.modPower f).lateStores = s.lateStores := rfl
@[simp] theorem State.modPower_txnStats (s : State) (f : Power → Power) : (s.modPower f).txnStats = s.txnStats := rfl
@[simp] theorem State.modPower_quietDue (s : State) (f : Power → Power) : (s.modPower f).quietDue = s.quietDue := rfl
@[simp] theorem State.modPower_nextTxn (s : State) (f : Power → Power) : (s.modPower f).nextTxn = s.nextTxn := rfl
@[simp] theorem State.modPower_nextOrder (s : State) (f : Power → Power) : (s.modPower f).nextOrder = s.nextOrder := rfl
@[simp] theorem State.modPower_txq (s : State) (f : Power → Power) : (s.modPower f).txq = s.txq := rfl
@[simp] theorem State.modPower_waitingReplies (s : State) (f : Power → Power) : (s.modPower f).waitingReplies = s.waitingReplies := rfl
@[simp] theorem State.modPower_unknownErrors (s : State) (f : Power → Power) : (s.modPower f).unknownErrors = s.unknownErrors := rfl
@[simp] theorem State.modPower_lines (s : State) (f : Power → Power) : (s.modPower f).lines = s.lines := rfl
@[simp] theorem State.modPower_heldLines (s : State) (f : Power → Power) : (s.modPower f).heldLines = s.heldLines := rfl
@[simp] theorem State.modPower_challenges (s : State) (f : Power → Power) : (s.modPower f).challenges = s.challenges := rfl
@[simp] theorem State.modPower_freeLines (s : State) (f : Power → Power) : (s.modPower f).freeLines = s.freeLines := rfl
@[simp] theorem State.modPower_nextLine (s : State) (f : Power → Power) : (s.modPower f).nextLine = s.nextLine := rfl
@[simp] theorem State.modPower_bootNonce (s : State) (f : Power → Power) : (s.modPower f).bootNonce = s.bootNonce := rfl
@[simp] theorem State.modPower_moduleKey (s : State) (f : Power → Power) : (s.modPower f).moduleKey = s.moduleKey := rfl
@[simp] theorem State.modPower_trngKind (s : State) (f : Power → Power) : (s.modPower f).trngKind = s.trngKind := rfl
@[simp] theorem State.modPower_trngTick (s : State) (f : Power → Power) : (s.modPower f).trngTick = s.trngTick := rfl
@[simp] theorem State.modPower_eth (s : State) (f : Power → Power) : (s.modPower f).eth = s.eth := rfl
@[simp] theorem State.modPower_spire (s : State) (f : Power → Power) : (s.modPower f).spire = s.spire := rfl
@[simp] theorem State.modPower_power (s : State) (f : Power → Power) : (s.modPower f).power = f s.power := rfl
@[simp] theorem State.modPower_pins (s : State) (f : Power → Power) : (s.modPower f).pins = s.pins := rfl
@[simp] theorem State.modPower_safe (s : State) (f : Power → Power) : (s.modPower f).safe = s.safe := rfl
@[simp] theorem State.modPower_box (s : State) (f : Power → Power) : (s.modPower f).box = s.box := rfl
@[simp] theorem State.modPower_counters (s : State) (f : Power → Power) : (s.modPower f).counters = s.counters := rfl
@[simp] theorem State.modPower_lantern (s : State) (f : Power → Power) : (s.modPower f).lantern = s.lantern := rfl
@[simp] theorem State.modPower_sweep (s : State) (f : Power → Power) : (s.modPower f).sweep = s.sweep := rfl
@[simp] theorem State.modPower_store (s : State) (f : Power → Power) : (s.modPower f).store = s.store := rfl
@[simp] theorem State.modPower_rtc (s : State) (f : Power → Power) : (s.modPower f).rtc = s.rtc := rfl
@[simp] theorem State.modPower_belfry (s : State) (f : Power → Power) : (s.modPower f).belfry = s.belfry := rfl
@[simp] theorem State.modPower_bootEvents (s : State) (f : Power → Power) : (s.modPower f).bootEvents = s.bootEvents := rfl
@[simp] theorem State.modPower_banks (s : State) (f : Power → Power) : (s.modPower f).banks = s.banks := rfl
@[simp] theorem State.modPower_quads (s : State) (f : Power → Power) : (s.modPower f).quads = s.quads := rfl
@[simp] theorem State.modPower_ports (s : State) (f : Power → Power) : (s.modPower f).ports = s.ports := rfl
@[simp] theorem State.modPower_rounds (s : State) (f : Power → Power) : (s.modPower f).rounds = s.rounds := rfl
@[simp] theorem State.modPower_plans (s : State) (f : Power → Power) : (s.modPower f).plans = s.plans := rfl
@[simp] theorem State.modPower_tags (s : State) (f : Power → Power) : (s.modPower f).tags = s.tags := rfl
@[simp] theorem State.modPower_coex (s : State) (f : Power → Power) : (s.modPower f).coex = s.coex := rfl
@[simp] theorem State.modPower_hsbErrors (s : State) (f : Power → Power) : (s.modPower f).hsbErrors = s.hsbErrors := rfl
@[simp] theorem State.modPower_ldpc (s : State) (f : Power → Power) : (s.modPower f).ldpc = s.ldpc := rfl
@[simp] theorem State.modPower_ldpcQueue (s : State) (f : Power → Power) : (s.modPower f).ldpcQueue = s.ldpcQueue := rfl
@[simp] theorem State.modPower_ldpcCores (s : State) (f : Power → Power) : (s.modPower f).ldpcCores = s.ldpcCores := rfl
@[simp] theorem State.modPower_timers (s : State) (f : Power → Power) : (s.modPower f).timers = s.timers := rfl
@[simp] theorem State.modPower_hfPorts (s : State) (f : Power → Power) : (s.modPower f).hfPorts = s.hfPorts := rfl
@[simp] theorem State.modPower_hfTx (s : State) (f : Power → Power) : (s.modPower f).hfTx = s.hfTx := rfl
@[simp] theorem State.modPower_caps (s : State) (f : Power → Power) : (s.modPower f).caps = s.caps := rfl
@[simp] theorem State.modPower_meters (s : State) (f : Power → Power) : (s.modPower f).meters = s.meters := rfl
@[simp] theorem State.modPower_savedMeters (s : State) (f : Power → Power) : (s.modPower f).savedMeters = s.savedMeters := rfl
@[simp] theorem State.modPower_olderMeters (s : State) (f : Power → Power) : (s.modPower f).olderMeters = s.olderMeters := rfl
@[simp] theorem State.modPower_newerControl (s : State) (f : Power → Power) : (s.modPower f).newerControl = s.newerControl := rfl
@[simp] theorem State.modPower_classes (s : State) (f : Power → Power) : (s.modPower f).classes = s.classes := rfl
@[simp] theorem State.modPower_journals (s : State) (f : Power → Power) : (s.modPower f).journals = s.journals := rfl
@[simp] theorem State.modPower_groups (s : State) (f : Power → Power) : (s.modPower f).groups = s.groups := rfl
@[simp] theorem State.modPower_served (s : State) (f : Power → Power) : (s.modPower f).served = s.served := rfl
@[simp] theorem State.modPower_unregistered (s : State) (f : Power → Power) : (s.modPower f).unregistered = s.unregistered := rfl
@[simp] theorem State.modPower_sealed (s : State) (f : Power → Power) : (s.modPower f).sealed = s.sealed := rfl
@[simp] theorem State.modPower_unresolved (s : State) (f : Power → Power) : (s.modPower f).unresolved = s.unresolved := rfl
@[simp] theorem State.modPower_val (s : State) (f : Power → Power) (o : Nat) : (s.modPower f).val o = s.val o := rfl

/-! ### `State.modBelfry` -/

@[simp] theorem State.modBelfry_now (s : State) (f : Belfry → Belfry) : (s.modBelfry f).now = s.now := rfl
@[simp] theorem State.modBelfry_pending (s : State) (f : Belfry → Belfry) : (s.modBelfry f).pending = s.pending := rfl
@[simp] theorem State.modBelfry_freeCount (s : State) (f : Belfry → Belfry) : (s.modBelfry f).freeCount = s.freeCount := rfl
@[simp] theorem State.modBelfry_dict (s : State) (f : Belfry → Belfry) : (s.modBelfry f).dict = s.dict := rfl
@[simp] theorem State.modBelfry_bootDict (s : State) (f : Belfry → Belfry) : (s.modBelfry f).bootDict = s.bootDict := rfl
@[simp] theorem State.modBelfry_heldBack (s : State) (f : Belfry → Belfry) : (s.modBelfry f).heldBack = s.heldBack := rfl
@[simp] theorem State.modBelfry_dwellLowered (s : State) (f : Belfry → Belfry) : (s.modBelfry f).dwellLowered = s.dwellLowered := rfl
@[simp] theorem State.modBelfry_changes (s : State) (f : Belfry → Belfry) : (s.modBelfry f).changes = s.changes := rfl
@[simp] theorem State.modBelfry_delivered (s : State) (f : Belfry → Belfry) : (s.modBelfry f).delivered = s.delivered := rfl
@[simp] theorem State.modBelfry_fuses (s : State) (f : Belfry → Belfry) : (s.modBelfry f).fuses = s.fuses := rfl
@[simp] theorem State.modBelfry_shades (s : State) (f : Belfry → Belfry) : (s.modBelfry f).shades = s.shades := rfl
@[simp] theorem State.modBelfry_sessions (s : State) (f : Belfry → Belfry) : (s.modBelfry f).sessions = s.sessions := rfl
@[simp] theorem State.modBelfry_txns (s : State) (f : Belfry → Belfry) : (s.modBelfry f).txns = s.txns := rfl
@[simp] theorem State.modBelfry_lateStores (s : State) (f : Belfry → Belfry) : (s.modBelfry f).lateStores = s.lateStores := rfl
@[simp] theorem State.modBelfry_txnStats (s : State) (f : Belfry → Belfry) : (s.modBelfry f).txnStats = s.txnStats := rfl
@[simp] theorem State.modBelfry_quietDue (s : State) (f : Belfry → Belfry) : (s.modBelfry f).quietDue = s.quietDue := rfl
@[simp] theorem State.modBelfry_nextTxn (s : State) (f : Belfry → Belfry) : (s.modBelfry f).nextTxn = s.nextTxn := rfl
@[simp] theorem State.modBelfry_nextOrder (s : State) (f : Belfry → Belfry) : (s.modBelfry f).nextOrder = s.nextOrder := rfl
@[simp] theorem State.modBelfry_txq (s : State) (f : Belfry → Belfry) : (s.modBelfry f).txq = s.txq := rfl
@[simp] theorem State.modBelfry_waitingReplies (s : State) (f : Belfry → Belfry) : (s.modBelfry f).waitingReplies = s.waitingReplies := rfl
@[simp] theorem State.modBelfry_unknownErrors (s : State) (f : Belfry → Belfry) : (s.modBelfry f).unknownErrors = s.unknownErrors := rfl
@[simp] theorem State.modBelfry_lines (s : State) (f : Belfry → Belfry) : (s.modBelfry f).lines = s.lines := rfl
@[simp] theorem State.modBelfry_heldLines (s : State) (f : Belfry → Belfry) : (s.modBelfry f).heldLines = s.heldLines := rfl
@[simp] theorem State.modBelfry_challenges (s : State) (f : Belfry → Belfry) : (s.modBelfry f).challenges = s.challenges := rfl
@[simp] theorem State.modBelfry_freeLines (s : State) (f : Belfry → Belfry) : (s.modBelfry f).freeLines = s.freeLines := rfl
@[simp] theorem State.modBelfry_nextLine (s : State) (f : Belfry → Belfry) : (s.modBelfry f).nextLine = s.nextLine := rfl
@[simp] theorem State.modBelfry_bootNonce (s : State) (f : Belfry → Belfry) : (s.modBelfry f).bootNonce = s.bootNonce := rfl
@[simp] theorem State.modBelfry_moduleKey (s : State) (f : Belfry → Belfry) : (s.modBelfry f).moduleKey = s.moduleKey := rfl
@[simp] theorem State.modBelfry_trngKind (s : State) (f : Belfry → Belfry) : (s.modBelfry f).trngKind = s.trngKind := rfl
@[simp] theorem State.modBelfry_trngTick (s : State) (f : Belfry → Belfry) : (s.modBelfry f).trngTick = s.trngTick := rfl
@[simp] theorem State.modBelfry_eth (s : State) (f : Belfry → Belfry) : (s.modBelfry f).eth = s.eth := rfl
@[simp] theorem State.modBelfry_spire (s : State) (f : Belfry → Belfry) : (s.modBelfry f).spire = s.spire := rfl
@[simp] theorem State.modBelfry_power (s : State) (f : Belfry → Belfry) : (s.modBelfry f).power = s.power := rfl
@[simp] theorem State.modBelfry_pins (s : State) (f : Belfry → Belfry) : (s.modBelfry f).pins = s.pins := rfl
@[simp] theorem State.modBelfry_safe (s : State) (f : Belfry → Belfry) : (s.modBelfry f).safe = s.safe := rfl
@[simp] theorem State.modBelfry_box (s : State) (f : Belfry → Belfry) : (s.modBelfry f).box = s.box := rfl
@[simp] theorem State.modBelfry_counters (s : State) (f : Belfry → Belfry) : (s.modBelfry f).counters = s.counters := rfl
@[simp] theorem State.modBelfry_lantern (s : State) (f : Belfry → Belfry) : (s.modBelfry f).lantern = s.lantern := rfl
@[simp] theorem State.modBelfry_sweep (s : State) (f : Belfry → Belfry) : (s.modBelfry f).sweep = s.sweep := rfl
@[simp] theorem State.modBelfry_store (s : State) (f : Belfry → Belfry) : (s.modBelfry f).store = s.store := rfl
@[simp] theorem State.modBelfry_rtc (s : State) (f : Belfry → Belfry) : (s.modBelfry f).rtc = s.rtc := rfl
@[simp] theorem State.modBelfry_belfry (s : State) (f : Belfry → Belfry) : (s.modBelfry f).belfry = f s.belfry := rfl
@[simp] theorem State.modBelfry_bootEvents (s : State) (f : Belfry → Belfry) : (s.modBelfry f).bootEvents = s.bootEvents := rfl
@[simp] theorem State.modBelfry_banks (s : State) (f : Belfry → Belfry) : (s.modBelfry f).banks = s.banks := rfl
@[simp] theorem State.modBelfry_quads (s : State) (f : Belfry → Belfry) : (s.modBelfry f).quads = s.quads := rfl
@[simp] theorem State.modBelfry_ports (s : State) (f : Belfry → Belfry) : (s.modBelfry f).ports = s.ports := rfl
@[simp] theorem State.modBelfry_rounds (s : State) (f : Belfry → Belfry) : (s.modBelfry f).rounds = s.rounds := rfl
@[simp] theorem State.modBelfry_plans (s : State) (f : Belfry → Belfry) : (s.modBelfry f).plans = s.plans := rfl
@[simp] theorem State.modBelfry_tags (s : State) (f : Belfry → Belfry) : (s.modBelfry f).tags = s.tags := rfl
@[simp] theorem State.modBelfry_coex (s : State) (f : Belfry → Belfry) : (s.modBelfry f).coex = s.coex := rfl
@[simp] theorem State.modBelfry_hsbErrors (s : State) (f : Belfry → Belfry) : (s.modBelfry f).hsbErrors = s.hsbErrors := rfl
@[simp] theorem State.modBelfry_ldpc (s : State) (f : Belfry → Belfry) : (s.modBelfry f).ldpc = s.ldpc := rfl
@[simp] theorem State.modBelfry_ldpcQueue (s : State) (f : Belfry → Belfry) : (s.modBelfry f).ldpcQueue = s.ldpcQueue := rfl
@[simp] theorem State.modBelfry_ldpcCores (s : State) (f : Belfry → Belfry) : (s.modBelfry f).ldpcCores = s.ldpcCores := rfl
@[simp] theorem State.modBelfry_timers (s : State) (f : Belfry → Belfry) : (s.modBelfry f).timers = s.timers := rfl
@[simp] theorem State.modBelfry_hfPorts (s : State) (f : Belfry → Belfry) : (s.modBelfry f).hfPorts = s.hfPorts := rfl
@[simp] theorem State.modBelfry_hfTx (s : State) (f : Belfry → Belfry) : (s.modBelfry f).hfTx = s.hfTx := rfl
@[simp] theorem State.modBelfry_caps (s : State) (f : Belfry → Belfry) : (s.modBelfry f).caps = s.caps := rfl
@[simp] theorem State.modBelfry_meters (s : State) (f : Belfry → Belfry) : (s.modBelfry f).meters = s.meters := rfl
@[simp] theorem State.modBelfry_savedMeters (s : State) (f : Belfry → Belfry) : (s.modBelfry f).savedMeters = s.savedMeters := rfl
@[simp] theorem State.modBelfry_olderMeters (s : State) (f : Belfry → Belfry) : (s.modBelfry f).olderMeters = s.olderMeters := rfl
@[simp] theorem State.modBelfry_newerControl (s : State) (f : Belfry → Belfry) : (s.modBelfry f).newerControl = s.newerControl := rfl
@[simp] theorem State.modBelfry_classes (s : State) (f : Belfry → Belfry) : (s.modBelfry f).classes = s.classes := rfl
@[simp] theorem State.modBelfry_journals (s : State) (f : Belfry → Belfry) : (s.modBelfry f).journals = s.journals := rfl
@[simp] theorem State.modBelfry_groups (s : State) (f : Belfry → Belfry) : (s.modBelfry f).groups = s.groups := rfl
@[simp] theorem State.modBelfry_served (s : State) (f : Belfry → Belfry) : (s.modBelfry f).served = s.served := rfl
@[simp] theorem State.modBelfry_unregistered (s : State) (f : Belfry → Belfry) : (s.modBelfry f).unregistered = s.unregistered := rfl
@[simp] theorem State.modBelfry_sealed (s : State) (f : Belfry → Belfry) : (s.modBelfry f).sealed = s.sealed := rfl
@[simp] theorem State.modBelfry_unresolved (s : State) (f : Belfry → Belfry) : (s.modBelfry f).unresolved = s.unresolved := rfl
@[simp] theorem State.modBelfry_val (s : State) (f : Belfry → Belfry) (o : Nat) : (s.modBelfry f).val o = s.val o := rfl

/-! ### `State.modEth` -/

@[simp] theorem State.modEth_now (s : State) (f : Eth → Eth) : (s.modEth f).now = s.now := rfl
@[simp] theorem State.modEth_pending (s : State) (f : Eth → Eth) : (s.modEth f).pending = s.pending := rfl
@[simp] theorem State.modEth_freeCount (s : State) (f : Eth → Eth) : (s.modEth f).freeCount = s.freeCount := rfl
@[simp] theorem State.modEth_dict (s : State) (f : Eth → Eth) : (s.modEth f).dict = s.dict := rfl
@[simp] theorem State.modEth_bootDict (s : State) (f : Eth → Eth) : (s.modEth f).bootDict = s.bootDict := rfl
@[simp] theorem State.modEth_heldBack (s : State) (f : Eth → Eth) : (s.modEth f).heldBack = s.heldBack := rfl
@[simp] theorem State.modEth_dwellLowered (s : State) (f : Eth → Eth) : (s.modEth f).dwellLowered = s.dwellLowered := rfl
@[simp] theorem State.modEth_changes (s : State) (f : Eth → Eth) : (s.modEth f).changes = s.changes := rfl
@[simp] theorem State.modEth_delivered (s : State) (f : Eth → Eth) : (s.modEth f).delivered = s.delivered := rfl
@[simp] theorem State.modEth_fuses (s : State) (f : Eth → Eth) : (s.modEth f).fuses = s.fuses := rfl
@[simp] theorem State.modEth_shades (s : State) (f : Eth → Eth) : (s.modEth f).shades = s.shades := rfl
@[simp] theorem State.modEth_sessions (s : State) (f : Eth → Eth) : (s.modEth f).sessions = s.sessions := rfl
@[simp] theorem State.modEth_txns (s : State) (f : Eth → Eth) : (s.modEth f).txns = s.txns := rfl
@[simp] theorem State.modEth_lateStores (s : State) (f : Eth → Eth) : (s.modEth f).lateStores = s.lateStores := rfl
@[simp] theorem State.modEth_txnStats (s : State) (f : Eth → Eth) : (s.modEth f).txnStats = s.txnStats := rfl
@[simp] theorem State.modEth_quietDue (s : State) (f : Eth → Eth) : (s.modEth f).quietDue = s.quietDue := rfl
@[simp] theorem State.modEth_nextTxn (s : State) (f : Eth → Eth) : (s.modEth f).nextTxn = s.nextTxn := rfl
@[simp] theorem State.modEth_nextOrder (s : State) (f : Eth → Eth) : (s.modEth f).nextOrder = s.nextOrder := rfl
@[simp] theorem State.modEth_txq (s : State) (f : Eth → Eth) : (s.modEth f).txq = s.txq := rfl
@[simp] theorem State.modEth_waitingReplies (s : State) (f : Eth → Eth) : (s.modEth f).waitingReplies = s.waitingReplies := rfl
@[simp] theorem State.modEth_unknownErrors (s : State) (f : Eth → Eth) : (s.modEth f).unknownErrors = s.unknownErrors := rfl
@[simp] theorem State.modEth_lines (s : State) (f : Eth → Eth) : (s.modEth f).lines = s.lines := rfl
@[simp] theorem State.modEth_heldLines (s : State) (f : Eth → Eth) : (s.modEth f).heldLines = s.heldLines := rfl
@[simp] theorem State.modEth_challenges (s : State) (f : Eth → Eth) : (s.modEth f).challenges = s.challenges := rfl
@[simp] theorem State.modEth_freeLines (s : State) (f : Eth → Eth) : (s.modEth f).freeLines = s.freeLines := rfl
@[simp] theorem State.modEth_nextLine (s : State) (f : Eth → Eth) : (s.modEth f).nextLine = s.nextLine := rfl
@[simp] theorem State.modEth_bootNonce (s : State) (f : Eth → Eth) : (s.modEth f).bootNonce = s.bootNonce := rfl
@[simp] theorem State.modEth_moduleKey (s : State) (f : Eth → Eth) : (s.modEth f).moduleKey = s.moduleKey := rfl
@[simp] theorem State.modEth_trngKind (s : State) (f : Eth → Eth) : (s.modEth f).trngKind = s.trngKind := rfl
@[simp] theorem State.modEth_trngTick (s : State) (f : Eth → Eth) : (s.modEth f).trngTick = s.trngTick := rfl
@[simp] theorem State.modEth_eth (s : State) (f : Eth → Eth) : (s.modEth f).eth = f s.eth := rfl
@[simp] theorem State.modEth_spire (s : State) (f : Eth → Eth) : (s.modEth f).spire = s.spire := rfl
@[simp] theorem State.modEth_power (s : State) (f : Eth → Eth) : (s.modEth f).power = s.power := rfl
@[simp] theorem State.modEth_pins (s : State) (f : Eth → Eth) : (s.modEth f).pins = s.pins := rfl
@[simp] theorem State.modEth_safe (s : State) (f : Eth → Eth) : (s.modEth f).safe = s.safe := rfl
@[simp] theorem State.modEth_box (s : State) (f : Eth → Eth) : (s.modEth f).box = s.box := rfl
@[simp] theorem State.modEth_counters (s : State) (f : Eth → Eth) : (s.modEth f).counters = s.counters := rfl
@[simp] theorem State.modEth_lantern (s : State) (f : Eth → Eth) : (s.modEth f).lantern = s.lantern := rfl
@[simp] theorem State.modEth_sweep (s : State) (f : Eth → Eth) : (s.modEth f).sweep = s.sweep := rfl
@[simp] theorem State.modEth_store (s : State) (f : Eth → Eth) : (s.modEth f).store = s.store := rfl
@[simp] theorem State.modEth_rtc (s : State) (f : Eth → Eth) : (s.modEth f).rtc = s.rtc := rfl
@[simp] theorem State.modEth_belfry (s : State) (f : Eth → Eth) : (s.modEth f).belfry = s.belfry := rfl
@[simp] theorem State.modEth_bootEvents (s : State) (f : Eth → Eth) : (s.modEth f).bootEvents = s.bootEvents := rfl
@[simp] theorem State.modEth_banks (s : State) (f : Eth → Eth) : (s.modEth f).banks = s.banks := rfl
@[simp] theorem State.modEth_quads (s : State) (f : Eth → Eth) : (s.modEth f).quads = s.quads := rfl
@[simp] theorem State.modEth_ports (s : State) (f : Eth → Eth) : (s.modEth f).ports = s.ports := rfl
@[simp] theorem State.modEth_rounds (s : State) (f : Eth → Eth) : (s.modEth f).rounds = s.rounds := rfl
@[simp] theorem State.modEth_plans (s : State) (f : Eth → Eth) : (s.modEth f).plans = s.plans := rfl
@[simp] theorem State.modEth_tags (s : State) (f : Eth → Eth) : (s.modEth f).tags = s.tags := rfl
@[simp] theorem State.modEth_coex (s : State) (f : Eth → Eth) : (s.modEth f).coex = s.coex := rfl
@[simp] theorem State.modEth_hsbErrors (s : State) (f : Eth → Eth) : (s.modEth f).hsbErrors = s.hsbErrors := rfl
@[simp] theorem State.modEth_ldpc (s : State) (f : Eth → Eth) : (s.modEth f).ldpc = s.ldpc := rfl
@[simp] theorem State.modEth_ldpcQueue (s : State) (f : Eth → Eth) : (s.modEth f).ldpcQueue = s.ldpcQueue := rfl
@[simp] theorem State.modEth_ldpcCores (s : State) (f : Eth → Eth) : (s.modEth f).ldpcCores = s.ldpcCores := rfl
@[simp] theorem State.modEth_timers (s : State) (f : Eth → Eth) : (s.modEth f).timers = s.timers := rfl
@[simp] theorem State.modEth_hfPorts (s : State) (f : Eth → Eth) : (s.modEth f).hfPorts = s.hfPorts := rfl
@[simp] theorem State.modEth_hfTx (s : State) (f : Eth → Eth) : (s.modEth f).hfTx = s.hfTx := rfl
@[simp] theorem State.modEth_caps (s : State) (f : Eth → Eth) : (s.modEth f).caps = s.caps := rfl
@[simp] theorem State.modEth_meters (s : State) (f : Eth → Eth) : (s.modEth f).meters = s.meters := rfl
@[simp] theorem State.modEth_savedMeters (s : State) (f : Eth → Eth) : (s.modEth f).savedMeters = s.savedMeters := rfl
@[simp] theorem State.modEth_olderMeters (s : State) (f : Eth → Eth) : (s.modEth f).olderMeters = s.olderMeters := rfl
@[simp] theorem State.modEth_newerControl (s : State) (f : Eth → Eth) : (s.modEth f).newerControl = s.newerControl := rfl
@[simp] theorem State.modEth_classes (s : State) (f : Eth → Eth) : (s.modEth f).classes = s.classes := rfl
@[simp] theorem State.modEth_journals (s : State) (f : Eth → Eth) : (s.modEth f).journals = s.journals := rfl
@[simp] theorem State.modEth_groups (s : State) (f : Eth → Eth) : (s.modEth f).groups = s.groups := rfl
@[simp] theorem State.modEth_served (s : State) (f : Eth → Eth) : (s.modEth f).served = s.served := rfl
@[simp] theorem State.modEth_unregistered (s : State) (f : Eth → Eth) : (s.modEth f).unregistered = s.unregistered := rfl
@[simp] theorem State.modEth_sealed (s : State) (f : Eth → Eth) : (s.modEth f).sealed = s.sealed := rfl
@[simp] theorem State.modEth_unresolved (s : State) (f : Eth → Eth) : (s.modEth f).unresolved = s.unresolved := rfl
@[simp] theorem State.modEth_val (s : State) (f : Eth → Eth) (o : Nat) : (s.modEth f).val o = s.val o := rfl

/-! ### `State.modSpire` -/

@[simp] theorem State.modSpire_now (s : State) (f : Spire → Spire) : (s.modSpire f).now = s.now := rfl
@[simp] theorem State.modSpire_pending (s : State) (f : Spire → Spire) : (s.modSpire f).pending = s.pending := rfl
@[simp] theorem State.modSpire_freeCount (s : State) (f : Spire → Spire) : (s.modSpire f).freeCount = s.freeCount := rfl
@[simp] theorem State.modSpire_dict (s : State) (f : Spire → Spire) : (s.modSpire f).dict = s.dict := rfl
@[simp] theorem State.modSpire_bootDict (s : State) (f : Spire → Spire) : (s.modSpire f).bootDict = s.bootDict := rfl
@[simp] theorem State.modSpire_heldBack (s : State) (f : Spire → Spire) : (s.modSpire f).heldBack = s.heldBack := rfl
@[simp] theorem State.modSpire_dwellLowered (s : State) (f : Spire → Spire) : (s.modSpire f).dwellLowered = s.dwellLowered := rfl
@[simp] theorem State.modSpire_changes (s : State) (f : Spire → Spire) : (s.modSpire f).changes = s.changes := rfl
@[simp] theorem State.modSpire_delivered (s : State) (f : Spire → Spire) : (s.modSpire f).delivered = s.delivered := rfl
@[simp] theorem State.modSpire_fuses (s : State) (f : Spire → Spire) : (s.modSpire f).fuses = s.fuses := rfl
@[simp] theorem State.modSpire_shades (s : State) (f : Spire → Spire) : (s.modSpire f).shades = s.shades := rfl
@[simp] theorem State.modSpire_sessions (s : State) (f : Spire → Spire) : (s.modSpire f).sessions = s.sessions := rfl
@[simp] theorem State.modSpire_txns (s : State) (f : Spire → Spire) : (s.modSpire f).txns = s.txns := rfl
@[simp] theorem State.modSpire_lateStores (s : State) (f : Spire → Spire) : (s.modSpire f).lateStores = s.lateStores := rfl
@[simp] theorem State.modSpire_txnStats (s : State) (f : Spire → Spire) : (s.modSpire f).txnStats = s.txnStats := rfl
@[simp] theorem State.modSpire_quietDue (s : State) (f : Spire → Spire) : (s.modSpire f).quietDue = s.quietDue := rfl
@[simp] theorem State.modSpire_nextTxn (s : State) (f : Spire → Spire) : (s.modSpire f).nextTxn = s.nextTxn := rfl
@[simp] theorem State.modSpire_nextOrder (s : State) (f : Spire → Spire) : (s.modSpire f).nextOrder = s.nextOrder := rfl
@[simp] theorem State.modSpire_txq (s : State) (f : Spire → Spire) : (s.modSpire f).txq = s.txq := rfl
@[simp] theorem State.modSpire_waitingReplies (s : State) (f : Spire → Spire) : (s.modSpire f).waitingReplies = s.waitingReplies := rfl
@[simp] theorem State.modSpire_unknownErrors (s : State) (f : Spire → Spire) : (s.modSpire f).unknownErrors = s.unknownErrors := rfl
@[simp] theorem State.modSpire_lines (s : State) (f : Spire → Spire) : (s.modSpire f).lines = s.lines := rfl
@[simp] theorem State.modSpire_heldLines (s : State) (f : Spire → Spire) : (s.modSpire f).heldLines = s.heldLines := rfl
@[simp] theorem State.modSpire_challenges (s : State) (f : Spire → Spire) : (s.modSpire f).challenges = s.challenges := rfl
@[simp] theorem State.modSpire_freeLines (s : State) (f : Spire → Spire) : (s.modSpire f).freeLines = s.freeLines := rfl
@[simp] theorem State.modSpire_nextLine (s : State) (f : Spire → Spire) : (s.modSpire f).nextLine = s.nextLine := rfl
@[simp] theorem State.modSpire_bootNonce (s : State) (f : Spire → Spire) : (s.modSpire f).bootNonce = s.bootNonce := rfl
@[simp] theorem State.modSpire_moduleKey (s : State) (f : Spire → Spire) : (s.modSpire f).moduleKey = s.moduleKey := rfl
@[simp] theorem State.modSpire_trngKind (s : State) (f : Spire → Spire) : (s.modSpire f).trngKind = s.trngKind := rfl
@[simp] theorem State.modSpire_trngTick (s : State) (f : Spire → Spire) : (s.modSpire f).trngTick = s.trngTick := rfl
@[simp] theorem State.modSpire_eth (s : State) (f : Spire → Spire) : (s.modSpire f).eth = s.eth := rfl
@[simp] theorem State.modSpire_spire (s : State) (f : Spire → Spire) : (s.modSpire f).spire = f s.spire := rfl
@[simp] theorem State.modSpire_power (s : State) (f : Spire → Spire) : (s.modSpire f).power = s.power := rfl
@[simp] theorem State.modSpire_pins (s : State) (f : Spire → Spire) : (s.modSpire f).pins = s.pins := rfl
@[simp] theorem State.modSpire_safe (s : State) (f : Spire → Spire) : (s.modSpire f).safe = s.safe := rfl
@[simp] theorem State.modSpire_box (s : State) (f : Spire → Spire) : (s.modSpire f).box = s.box := rfl
@[simp] theorem State.modSpire_counters (s : State) (f : Spire → Spire) : (s.modSpire f).counters = s.counters := rfl
@[simp] theorem State.modSpire_lantern (s : State) (f : Spire → Spire) : (s.modSpire f).lantern = s.lantern := rfl
@[simp] theorem State.modSpire_sweep (s : State) (f : Spire → Spire) : (s.modSpire f).sweep = s.sweep := rfl
@[simp] theorem State.modSpire_store (s : State) (f : Spire → Spire) : (s.modSpire f).store = s.store := rfl
@[simp] theorem State.modSpire_rtc (s : State) (f : Spire → Spire) : (s.modSpire f).rtc = s.rtc := rfl
@[simp] theorem State.modSpire_belfry (s : State) (f : Spire → Spire) : (s.modSpire f).belfry = s.belfry := rfl
@[simp] theorem State.modSpire_bootEvents (s : State) (f : Spire → Spire) : (s.modSpire f).bootEvents = s.bootEvents := rfl
@[simp] theorem State.modSpire_banks (s : State) (f : Spire → Spire) : (s.modSpire f).banks = s.banks := rfl
@[simp] theorem State.modSpire_quads (s : State) (f : Spire → Spire) : (s.modSpire f).quads = s.quads := rfl
@[simp] theorem State.modSpire_ports (s : State) (f : Spire → Spire) : (s.modSpire f).ports = s.ports := rfl
@[simp] theorem State.modSpire_rounds (s : State) (f : Spire → Spire) : (s.modSpire f).rounds = s.rounds := rfl
@[simp] theorem State.modSpire_plans (s : State) (f : Spire → Spire) : (s.modSpire f).plans = s.plans := rfl
@[simp] theorem State.modSpire_tags (s : State) (f : Spire → Spire) : (s.modSpire f).tags = s.tags := rfl
@[simp] theorem State.modSpire_coex (s : State) (f : Spire → Spire) : (s.modSpire f).coex = s.coex := rfl
@[simp] theorem State.modSpire_hsbErrors (s : State) (f : Spire → Spire) : (s.modSpire f).hsbErrors = s.hsbErrors := rfl
@[simp] theorem State.modSpire_ldpc (s : State) (f : Spire → Spire) : (s.modSpire f).ldpc = s.ldpc := rfl
@[simp] theorem State.modSpire_ldpcQueue (s : State) (f : Spire → Spire) : (s.modSpire f).ldpcQueue = s.ldpcQueue := rfl
@[simp] theorem State.modSpire_ldpcCores (s : State) (f : Spire → Spire) : (s.modSpire f).ldpcCores = s.ldpcCores := rfl
@[simp] theorem State.modSpire_timers (s : State) (f : Spire → Spire) : (s.modSpire f).timers = s.timers := rfl
@[simp] theorem State.modSpire_hfPorts (s : State) (f : Spire → Spire) : (s.modSpire f).hfPorts = s.hfPorts := rfl
@[simp] theorem State.modSpire_hfTx (s : State) (f : Spire → Spire) : (s.modSpire f).hfTx = s.hfTx := rfl
@[simp] theorem State.modSpire_caps (s : State) (f : Spire → Spire) : (s.modSpire f).caps = s.caps := rfl
@[simp] theorem State.modSpire_meters (s : State) (f : Spire → Spire) : (s.modSpire f).meters = s.meters := rfl
@[simp] theorem State.modSpire_savedMeters (s : State) (f : Spire → Spire) : (s.modSpire f).savedMeters = s.savedMeters := rfl
@[simp] theorem State.modSpire_olderMeters (s : State) (f : Spire → Spire) : (s.modSpire f).olderMeters = s.olderMeters := rfl
@[simp] theorem State.modSpire_newerControl (s : State) (f : Spire → Spire) : (s.modSpire f).newerControl = s.newerControl := rfl
@[simp] theorem State.modSpire_classes (s : State) (f : Spire → Spire) : (s.modSpire f).classes = s.classes := rfl
@[simp] theorem State.modSpire_journals (s : State) (f : Spire → Spire) : (s.modSpire f).journals = s.journals := rfl
@[simp] theorem State.modSpire_groups (s : State) (f : Spire → Spire) : (s.modSpire f).groups = s.groups := rfl
@[simp] theorem State.modSpire_served (s : State) (f : Spire → Spire) : (s.modSpire f).served = s.served := rfl
@[simp] theorem State.modSpire_unregistered (s : State) (f : Spire → Spire) : (s.modSpire f).unregistered = s.unregistered := rfl
@[simp] theorem State.modSpire_sealed (s : State) (f : Spire → Spire) : (s.modSpire f).sealed = s.sealed := rfl
@[simp] theorem State.modSpire_unresolved (s : State) (f : Spire → Spire) : (s.modSpire f).unresolved = s.unresolved := rfl
@[simp] theorem State.modSpire_val (s : State) (f : Spire → Spire) (o : Nat) : (s.modSpire f).val o = s.val o := rfl

/-! ### `State.modSession` -/

@[simp] theorem State.modSession_now (s : State) (id : Nat) (f : Session → Session) : (s.modSession id f).now = s.now := rfl
@[simp] theorem State.modSession_pending (s : State) (id : Nat) (f : Session → Session) : (s.modSession id f).pending = s.pending := rfl
@[simp] theorem State.modSession_freeCount (s : State) (id : Nat) (f : Session → Session) : (s.modSession id f).freeCount = s.freeCount := rfl
@[simp] theorem State.modSession_dict (s : State) (id : Nat) (f : Session → Session) : (s.modSession id f).dict = s.dict := rfl
@[simp] theorem State.modSession_bootDict (s : State) (id : Nat) (f : Session → Session) : (s.modSession id f).bootDict = s.bootDict := rfl
@[simp] theorem State.modSession_heldBack (s : State) (id : Nat) (f : Session → Session) : (s.modSession id f).heldBack = s.heldBack := rfl
@[simp] theorem State.modSession_dwellLowered (s : State) (id : Nat) (f : Session → Session) : (s.modSession id f).dwellLowered = s.dwellLowered := rfl
@[simp] theorem State.modSession_changes (s : State) (id : Nat) (f : Session → Session) : (s.modSession id f).changes = s.changes := rfl
@[simp] theorem State.modSession_delivered (s : State) (id : Nat) (f : Session → Session) : (s.modSession id f).delivered = s.delivered := rfl
@[simp] theorem State.modSession_fuses (s : State) (id : Nat) (f : Session → Session) : (s.modSession id f).fuses = s.fuses := rfl
@[simp] theorem State.modSession_shades (s : State) (id : Nat) (f : Session → Session) : (s.modSession id f).shades = s.shades := rfl
@[simp] theorem State.modSession_txns (s : State) (id : Nat) (f : Session → Session) : (s.modSession id f).txns = s.txns := rfl
@[simp] theorem State.modSession_lateStores (s : State) (id : Nat) (f : Session → Session) : (s.modSession id f).lateStores = s.lateStores := rfl
@[simp] theorem State.modSession_txnStats (s : State) (id : Nat) (f : Session → Session) : (s.modSession id f).txnStats = s.txnStats := rfl
@[simp] theorem State.modSession_quietDue (s : State) (id : Nat) (f : Session → Session) : (s.modSession id f).quietDue = s.quietDue := rfl
@[simp] theorem State.modSession_nextTxn (s : State) (id : Nat) (f : Session → Session) : (s.modSession id f).nextTxn = s.nextTxn := rfl
@[simp] theorem State.modSession_nextOrder (s : State) (id : Nat) (f : Session → Session) : (s.modSession id f).nextOrder = s.nextOrder := rfl
@[simp] theorem State.modSession_txq (s : State) (id : Nat) (f : Session → Session) : (s.modSession id f).txq = s.txq := rfl
@[simp] theorem State.modSession_waitingReplies (s : State) (id : Nat) (f : Session → Session) : (s.modSession id f).waitingReplies = s.waitingReplies := rfl
@[simp] theorem State.modSession_unknownErrors (s : State) (id : Nat) (f : Session → Session) : (s.modSession id f).unknownErrors = s.unknownErrors := rfl
@[simp] theorem State.modSession_lines (s : State) (id : Nat) (f : Session → Session) : (s.modSession id f).lines = s.lines := rfl
@[simp] theorem State.modSession_heldLines (s : State) (id : Nat) (f : Session → Session) : (s.modSession id f).heldLines = s.heldLines := rfl
@[simp] theorem State.modSession_challenges (s : State) (id : Nat) (f : Session → Session) : (s.modSession id f).challenges = s.challenges := rfl
@[simp] theorem State.modSession_freeLines (s : State) (id : Nat) (f : Session → Session) : (s.modSession id f).freeLines = s.freeLines := rfl
@[simp] theorem State.modSession_nextLine (s : State) (id : Nat) (f : Session → Session) : (s.modSession id f).nextLine = s.nextLine := rfl
@[simp] theorem State.modSession_bootNonce (s : State) (id : Nat) (f : Session → Session) : (s.modSession id f).bootNonce = s.bootNonce := rfl
@[simp] theorem State.modSession_moduleKey (s : State) (id : Nat) (f : Session → Session) : (s.modSession id f).moduleKey = s.moduleKey := rfl
@[simp] theorem State.modSession_trngKind (s : State) (id : Nat) (f : Session → Session) : (s.modSession id f).trngKind = s.trngKind := rfl
@[simp] theorem State.modSession_trngTick (s : State) (id : Nat) (f : Session → Session) : (s.modSession id f).trngTick = s.trngTick := rfl
@[simp] theorem State.modSession_eth (s : State) (id : Nat) (f : Session → Session) : (s.modSession id f).eth = s.eth := rfl
@[simp] theorem State.modSession_spire (s : State) (id : Nat) (f : Session → Session) : (s.modSession id f).spire = s.spire := rfl
@[simp] theorem State.modSession_power (s : State) (id : Nat) (f : Session → Session) : (s.modSession id f).power = s.power := rfl
@[simp] theorem State.modSession_pins (s : State) (id : Nat) (f : Session → Session) : (s.modSession id f).pins = s.pins := rfl
@[simp] theorem State.modSession_safe (s : State) (id : Nat) (f : Session → Session) : (s.modSession id f).safe = s.safe := rfl
@[simp] theorem State.modSession_box (s : State) (id : Nat) (f : Session → Session) : (s.modSession id f).box = s.box := rfl
@[simp] theorem State.modSession_counters (s : State) (id : Nat) (f : Session → Session) : (s.modSession id f).counters = s.counters := rfl
@[simp] theorem State.modSession_lantern (s : State) (id : Nat) (f : Session → Session) : (s.modSession id f).lantern = s.lantern := rfl
@[simp] theorem State.modSession_sweep (s : State) (id : Nat) (f : Session → Session) : (s.modSession id f).sweep = s.sweep := rfl
@[simp] theorem State.modSession_store (s : State) (id : Nat) (f : Session → Session) : (s.modSession id f).store = s.store := rfl
@[simp] theorem State.modSession_rtc (s : State) (id : Nat) (f : Session → Session) : (s.modSession id f).rtc = s.rtc := rfl
@[simp] theorem State.modSession_belfry (s : State) (id : Nat) (f : Session → Session) : (s.modSession id f).belfry = s.belfry := rfl
@[simp] theorem State.modSession_bootEvents (s : State) (id : Nat) (f : Session → Session) : (s.modSession id f).bootEvents = s.bootEvents := rfl
@[simp] theorem State.modSession_banks (s : State) (id : Nat) (f : Session → Session) : (s.modSession id f).banks = s.banks := rfl
@[simp] theorem State.modSession_quads (s : State) (id : Nat) (f : Session → Session) : (s.modSession id f).quads = s.quads := rfl
@[simp] theorem State.modSession_ports (s : State) (id : Nat) (f : Session → Session) : (s.modSession id f).ports = s.ports := rfl
@[simp] theorem State.modSession_rounds (s : State) (id : Nat) (f : Session → Session) : (s.modSession id f).rounds = s.rounds := rfl
@[simp] theorem State.modSession_plans (s : State) (id : Nat) (f : Session → Session) : (s.modSession id f).plans = s.plans := rfl
@[simp] theorem State.modSession_tags (s : State) (id : Nat) (f : Session → Session) : (s.modSession id f).tags = s.tags := rfl
@[simp] theorem State.modSession_coex (s : State) (id : Nat) (f : Session → Session) : (s.modSession id f).coex = s.coex := rfl
@[simp] theorem State.modSession_hsbErrors (s : State) (id : Nat) (f : Session → Session) : (s.modSession id f).hsbErrors = s.hsbErrors := rfl
@[simp] theorem State.modSession_ldpc (s : State) (id : Nat) (f : Session → Session) : (s.modSession id f).ldpc = s.ldpc := rfl
@[simp] theorem State.modSession_ldpcQueue (s : State) (id : Nat) (f : Session → Session) : (s.modSession id f).ldpcQueue = s.ldpcQueue := rfl
@[simp] theorem State.modSession_ldpcCores (s : State) (id : Nat) (f : Session → Session) : (s.modSession id f).ldpcCores = s.ldpcCores := rfl
@[simp] theorem State.modSession_timers (s : State) (id : Nat) (f : Session → Session) : (s.modSession id f).timers = s.timers := rfl
@[simp] theorem State.modSession_hfPorts (s : State) (id : Nat) (f : Session → Session) : (s.modSession id f).hfPorts = s.hfPorts := rfl
@[simp] theorem State.modSession_hfTx (s : State) (id : Nat) (f : Session → Session) : (s.modSession id f).hfTx = s.hfTx := rfl
@[simp] theorem State.modSession_caps (s : State) (id : Nat) (f : Session → Session) : (s.modSession id f).caps = s.caps := rfl
@[simp] theorem State.modSession_meters (s : State) (id : Nat) (f : Session → Session) : (s.modSession id f).meters = s.meters := rfl
@[simp] theorem State.modSession_savedMeters (s : State) (id : Nat) (f : Session → Session) : (s.modSession id f).savedMeters = s.savedMeters := rfl
@[simp] theorem State.modSession_olderMeters (s : State) (id : Nat) (f : Session → Session) : (s.modSession id f).olderMeters = s.olderMeters := rfl
@[simp] theorem State.modSession_newerControl (s : State) (id : Nat) (f : Session → Session) : (s.modSession id f).newerControl = s.newerControl := rfl
@[simp] theorem State.modSession_classes (s : State) (id : Nat) (f : Session → Session) : (s.modSession id f).classes = s.classes := rfl
@[simp] theorem State.modSession_journals (s : State) (id : Nat) (f : Session → Session) : (s.modSession id f).journals = s.journals := rfl
@[simp] theorem State.modSession_groups (s : State) (id : Nat) (f : Session → Session) : (s.modSession id f).groups = s.groups := rfl
@[simp] theorem State.modSession_served (s : State) (id : Nat) (f : Session → Session) : (s.modSession id f).served = s.served := rfl
@[simp] theorem State.modSession_unregistered (s : State) (id : Nat) (f : Session → Session) : (s.modSession id f).unregistered = s.unregistered := rfl
@[simp] theorem State.modSession_sealed (s : State) (id : Nat) (f : Session → Session) : (s.modSession id f).sealed = s.sealed := rfl
@[simp] theorem State.modSession_unresolved (s : State) (id : Nat) (f : Session → Session) : (s.modSession id f).unresolved = s.unresolved := rfl
@[simp] theorem State.modSession_val (s : State) (id : Nat) (f : Session → Session) (o : Nat) : (s.modSession id f).val o = s.val o := rfl

/-! ### `State.modTxn` -/

@[simp] theorem State.modTxn_now (s : State) (num : Nat) (f : Txn → Txn) : (s.modTxn num f).now = s.now := rfl
@[simp] theorem State.modTxn_pending (s : State) (num : Nat) (f : Txn → Txn) : (s.modTxn num f).pending = s.pending := rfl
@[simp] theorem State.modTxn_freeCount (s : State) (num : Nat) (f : Txn → Txn) : (s.modTxn num f).freeCount = s.freeCount := rfl
@[simp] theorem State.modTxn_dict (s : State) (num : Nat) (f : Txn → Txn) : (s.modTxn num f).dict = s.dict := rfl
@[simp] theorem State.modTxn_bootDict (s : State) (num : Nat) (f : Txn → Txn) : (s.modTxn num f).bootDict = s.bootDict := rfl
@[simp] theorem State.modTxn_heldBack (s : State) (num : Nat) (f : Txn → Txn) : (s.modTxn num f).heldBack = s.heldBack := rfl
@[simp] theorem State.modTxn_dwellLowered (s : State) (num : Nat) (f : Txn → Txn) : (s.modTxn num f).dwellLowered = s.dwellLowered := rfl
@[simp] theorem State.modTxn_changes (s : State) (num : Nat) (f : Txn → Txn) : (s.modTxn num f).changes = s.changes := rfl
@[simp] theorem State.modTxn_delivered (s : State) (num : Nat) (f : Txn → Txn) : (s.modTxn num f).delivered = s.delivered := rfl
@[simp] theorem State.modTxn_fuses (s : State) (num : Nat) (f : Txn → Txn) : (s.modTxn num f).fuses = s.fuses := rfl
@[simp] theorem State.modTxn_shades (s : State) (num : Nat) (f : Txn → Txn) : (s.modTxn num f).shades = s.shades := rfl
@[simp] theorem State.modTxn_sessions (s : State) (num : Nat) (f : Txn → Txn) : (s.modTxn num f).sessions = s.sessions := rfl
@[simp] theorem State.modTxn_lateStores (s : State) (num : Nat) (f : Txn → Txn) : (s.modTxn num f).lateStores = s.lateStores := rfl
@[simp] theorem State.modTxn_txnStats (s : State) (num : Nat) (f : Txn → Txn) : (s.modTxn num f).txnStats = s.txnStats := rfl
@[simp] theorem State.modTxn_quietDue (s : State) (num : Nat) (f : Txn → Txn) : (s.modTxn num f).quietDue = s.quietDue := rfl
@[simp] theorem State.modTxn_nextTxn (s : State) (num : Nat) (f : Txn → Txn) : (s.modTxn num f).nextTxn = s.nextTxn := rfl
@[simp] theorem State.modTxn_nextOrder (s : State) (num : Nat) (f : Txn → Txn) : (s.modTxn num f).nextOrder = s.nextOrder := rfl
@[simp] theorem State.modTxn_txq (s : State) (num : Nat) (f : Txn → Txn) : (s.modTxn num f).txq = s.txq := rfl
@[simp] theorem State.modTxn_waitingReplies (s : State) (num : Nat) (f : Txn → Txn) : (s.modTxn num f).waitingReplies = s.waitingReplies := rfl
@[simp] theorem State.modTxn_unknownErrors (s : State) (num : Nat) (f : Txn → Txn) : (s.modTxn num f).unknownErrors = s.unknownErrors := rfl
@[simp] theorem State.modTxn_lines (s : State) (num : Nat) (f : Txn → Txn) : (s.modTxn num f).lines = s.lines := rfl
@[simp] theorem State.modTxn_heldLines (s : State) (num : Nat) (f : Txn → Txn) : (s.modTxn num f).heldLines = s.heldLines := rfl
@[simp] theorem State.modTxn_challenges (s : State) (num : Nat) (f : Txn → Txn) : (s.modTxn num f).challenges = s.challenges := rfl
@[simp] theorem State.modTxn_freeLines (s : State) (num : Nat) (f : Txn → Txn) : (s.modTxn num f).freeLines = s.freeLines := rfl
@[simp] theorem State.modTxn_nextLine (s : State) (num : Nat) (f : Txn → Txn) : (s.modTxn num f).nextLine = s.nextLine := rfl
@[simp] theorem State.modTxn_bootNonce (s : State) (num : Nat) (f : Txn → Txn) : (s.modTxn num f).bootNonce = s.bootNonce := rfl
@[simp] theorem State.modTxn_moduleKey (s : State) (num : Nat) (f : Txn → Txn) : (s.modTxn num f).moduleKey = s.moduleKey := rfl
@[simp] theorem State.modTxn_trngKind (s : State) (num : Nat) (f : Txn → Txn) : (s.modTxn num f).trngKind = s.trngKind := rfl
@[simp] theorem State.modTxn_trngTick (s : State) (num : Nat) (f : Txn → Txn) : (s.modTxn num f).trngTick = s.trngTick := rfl
@[simp] theorem State.modTxn_eth (s : State) (num : Nat) (f : Txn → Txn) : (s.modTxn num f).eth = s.eth := rfl
@[simp] theorem State.modTxn_spire (s : State) (num : Nat) (f : Txn → Txn) : (s.modTxn num f).spire = s.spire := rfl
@[simp] theorem State.modTxn_power (s : State) (num : Nat) (f : Txn → Txn) : (s.modTxn num f).power = s.power := rfl
@[simp] theorem State.modTxn_pins (s : State) (num : Nat) (f : Txn → Txn) : (s.modTxn num f).pins = s.pins := rfl
@[simp] theorem State.modTxn_safe (s : State) (num : Nat) (f : Txn → Txn) : (s.modTxn num f).safe = s.safe := rfl
@[simp] theorem State.modTxn_box (s : State) (num : Nat) (f : Txn → Txn) : (s.modTxn num f).box = s.box := rfl
@[simp] theorem State.modTxn_counters (s : State) (num : Nat) (f : Txn → Txn) : (s.modTxn num f).counters = s.counters := rfl
@[simp] theorem State.modTxn_lantern (s : State) (num : Nat) (f : Txn → Txn) : (s.modTxn num f).lantern = s.lantern := rfl
@[simp] theorem State.modTxn_sweep (s : State) (num : Nat) (f : Txn → Txn) : (s.modTxn num f).sweep = s.sweep := rfl
@[simp] theorem State.modTxn_store (s : State) (num : Nat) (f : Txn → Txn) : (s.modTxn num f).store = s.store := rfl
@[simp] theorem State.modTxn_rtc (s : State) (num : Nat) (f : Txn → Txn) : (s.modTxn num f).rtc = s.rtc := rfl
@[simp] theorem State.modTxn_belfry (s : State) (num : Nat) (f : Txn → Txn) : (s.modTxn num f).belfry = s.belfry := rfl
@[simp] theorem State.modTxn_bootEvents (s : State) (num : Nat) (f : Txn → Txn) : (s.modTxn num f).bootEvents = s.bootEvents := rfl
@[simp] theorem State.modTxn_banks (s : State) (num : Nat) (f : Txn → Txn) : (s.modTxn num f).banks = s.banks := rfl
@[simp] theorem State.modTxn_quads (s : State) (num : Nat) (f : Txn → Txn) : (s.modTxn num f).quads = s.quads := rfl
@[simp] theorem State.modTxn_ports (s : State) (num : Nat) (f : Txn → Txn) : (s.modTxn num f).ports = s.ports := rfl
@[simp] theorem State.modTxn_rounds (s : State) (num : Nat) (f : Txn → Txn) : (s.modTxn num f).rounds = s.rounds := rfl
@[simp] theorem State.modTxn_plans (s : State) (num : Nat) (f : Txn → Txn) : (s.modTxn num f).plans = s.plans := rfl
@[simp] theorem State.modTxn_tags (s : State) (num : Nat) (f : Txn → Txn) : (s.modTxn num f).tags = s.tags := rfl
@[simp] theorem State.modTxn_coex (s : State) (num : Nat) (f : Txn → Txn) : (s.modTxn num f).coex = s.coex := rfl
@[simp] theorem State.modTxn_hsbErrors (s : State) (num : Nat) (f : Txn → Txn) : (s.modTxn num f).hsbErrors = s.hsbErrors := rfl
@[simp] theorem State.modTxn_ldpc (s : State) (num : Nat) (f : Txn → Txn) : (s.modTxn num f).ldpc = s.ldpc := rfl
@[simp] theorem State.modTxn_ldpcQueue (s : State) (num : Nat) (f : Txn → Txn) : (s.modTxn num f).ldpcQueue = s.ldpcQueue := rfl
@[simp] theorem State.modTxn_ldpcCores (s : State) (num : Nat) (f : Txn → Txn) : (s.modTxn num f).ldpcCores = s.ldpcCores := rfl
@[simp] theorem State.modTxn_timers (s : State) (num : Nat) (f : Txn → Txn) : (s.modTxn num f).timers = s.timers := rfl
@[simp] theorem State.modTxn_hfPorts (s : State) (num : Nat) (f : Txn → Txn) : (s.modTxn num f).hfPorts = s.hfPorts := rfl
@[simp] theorem State.modTxn_hfTx (s : State) (num : Nat) (f : Txn → Txn) : (s.modTxn num f).hfTx = s.hfTx := rfl
@[simp] theorem State.modTxn_caps (s : State) (num : Nat) (f : Txn → Txn) : (s.modTxn num f).caps = s.caps := rfl
@[simp] theorem State.modTxn_meters (s : State) (num : Nat) (f : Txn → Txn) : (s.modTxn num f).meters = s.meters := rfl
@[simp] theorem State.modTxn_savedMeters (s : State) (num : Nat) (f : Txn → Txn) : (s.modTxn num f).savedMeters = s.savedMeters := rfl
@[simp] theorem State.modTxn_olderMeters (s : State) (num : Nat) (f : Txn → Txn) : (s.modTxn num f).olderMeters = s.olderMeters := rfl
@[simp] theorem State.modTxn_newerControl (s : State) (num : Nat) (f : Txn → Txn) : (s.modTxn num f).newerControl = s.newerControl := rfl
@[simp] theorem State.modTxn_classes (s : State) (num : Nat) (f : Txn → Txn) : (s.modTxn num f).classes = s.classes := rfl
@[simp] theorem State.modTxn_journals (s : State) (num : Nat) (f : Txn → Txn) : (s.modTxn num f).journals = s.journals := rfl
@[simp] theorem State.modTxn_groups (s : State) (num : Nat) (f : Txn → Txn) : (s.modTxn num f).groups = s.groups := rfl
@[simp] theorem State.modTxn_served (s : State) (num : Nat) (f : Txn → Txn) : (s.modTxn num f).served = s.served := rfl
@[simp] theorem State.modTxn_unregistered (s : State) (num : Nat) (f : Txn → Txn) : (s.modTxn num f).unregistered = s.unregistered := rfl
@[simp] theorem State.modTxn_sealed (s : State) (num : Nat) (f : Txn → Txn) : (s.modTxn num f).sealed = s.sealed := rfl
@[simp] theorem State.modTxn_unresolved (s : State) (num : Nat) (f : Txn → Txn) : (s.modTxn num f).unresolved = s.unresolved := rfl
@[simp] theorem State.modTxn_val (s : State) (num : Nat) (f : Txn → Txn) (o : Nat) : (s.modTxn num f).val o = s.val o := rfl

end Sys2Proof.Machine
end

