-- ==== Sys2Proof/Laws/Ops.lean ====
section
/-! SUPPORT. What the shared operations do: reading an object after a write, the passing of time, Lantern, the shade
queues and raising an event. `State.bare` says what such an operation leaves alone; a field that `bare` keeps follows by
`congrArg`. -/

namespace Sys2Proof.Machine

variable (s : State)

/-! ### Objects -/

/-- Keys of objects are equal only when index and subindex are. -/
theorem key_inj {i j a b : Nat} (hj : j < 256) (hb : b < 256) : key i j = key a b ↔ i = a ∧ j = b := by
  unfold key; omega

@[simp] theorem State.val_set_same (i j : Nat) (v : Int) : (s.set i j v).val (key i j) = .num v := by
  simp [State.val]

theorem State.val_set_ne {i j k : Nat} (v : Int) (h : k ≠ key i j) : (s.set i j v).val k = s.val k := by
  simp [State.val, NMap.get?_put_ne _ _ h]

theorem State.val_setBytes_ne {i j k : Nat} (v : List Byte) (h : k ≠ key i j) : (s.setBytes i j v).val k = s.val k := by
  simp [State.val, NMap.get?_put_ne _ _ h]

@[simp] theorem State.int_set_same (i j : Nat) (v : Int) : (s.set i j v).int i j = v := by
  simp [State.int, Val.toInt]

@[simp] theorem State.nat_set_same (i j : Nat) (v : Int) : (s.set i j v).nat i j = v.toNat := by
  simp [State.nat]

@[simp] theorem State.flag_setFlag_same (i j : Nat) (b : Bool) : (s.setFlag i j b).flag i j = b := by
  cases b <;> simp [State.flag, State.setFlag, b01]

theorem State.int_set_ne {i j a b : Nat} (v : Int) (h : key a b ≠ key i j) : (s.set i j v).int a b = s.int a b := by
  simp [State.int, State.val_set_ne _ _ h]

theorem State.nat_set_ne {i j a b : Nat} (v : Int) (h : key a b ≠ key i j) : (s.set i j v).nat a b = s.nat a b := by
  simp [State.nat, State.int_set_ne _ _ h]

theorem State.flag_set_ne {i j a b : Nat} (v : Int) (h : key a b ≠ key i j) : (s.set i j v).flag a b = s.flag a b := by
  simp [State.flag, State.int_set_ne _ _ h]

theorem State.val_addTo_ne {i j k n : Nat} (h : k ≠ key i j) : (s.addTo i j n).val k = s.val k := State.val_set_ne s _ h

theorem State.val_count_ne {i j k : Nat} (h : k ≠ key i j) : (s.count i j).val k = s.val k := State.val_set_ne s _ h

theorem State.val_setPeak_ne {i j k n : Nat} (h : k ≠ key i j) : (s.setPeak i j n).val k = s.val k := State.val_set_ne s _ h

theorem State.val_setFlag_ne {i j k : Nat} (b : Bool) (h : k ≠ key i j) : (s.setFlag i j b).val k = s.val k :=
  State.val_set_ne s _ h

/-- Counting one at a counter below 2^32 − 1 adds one. -/
theorem State.nat_count_same {i j : Nat} (h : s.nat i j < 2 ^ 32 - 1) : (s.count i j).nat i j = s.nat i j + 1 := by
  simp only [State.count, State.addTo, State.nat_set_same]
  rw [Nat.mod_eq_of_lt (by omega)]; simp

/-! ### `State.bare` through updates of objects -/

@[simp] theorem State.set_bare (i j : Nat) (v : Int) : (s.set i j v).bare = s.bare := rfl
@[simp] theorem State.setBytes_bare (i j : Nat) (v : List Byte) : (s.setBytes i j v).bare = s.bare := rfl
@[simp] theorem State.setFlag_bare (i j : Nat) (v : Bool) : (s.setFlag i j v).bare = s.bare := rfl
@[simp] theorem State.addTo_bare (i j n : Nat) : (s.addTo i j n).bare = s.bare := rfl
@[simp] theorem State.count_bare (i j : Nat) : (s.count i j).bare = s.bare := rfl
@[simp] theorem State.setPeak_bare (i j n : Nat) : (s.setPeak i j n).bare = s.bare := rfl

theorem tmod_map_of {α β : Type} (g : α → β) (f : α → α) (hf : ∀ x, g (f x) = g x) (l : List α) (i : Nat) :
    (tmod l i f).map g = l.map g := by
  induction l generalizing i with
  | nil => rfl
  | cons x r ih => cases i <;> simp [tmod, hf, ih]

/-- A change of a shade's queue alone. -/
theorem State.modShade_bare (i : Nat) (f : Shade → Shade) (hf : ∀ x : Shade, (f x).sansQueue = x.sansQueue) :
    (s.modShade i f).bare = s.bare := by
  simp only [State.bare, State.modShade, tmod_map_of Shade.sansQueue f hf]

/-- A state differs from another at most in the log: `State.bare`, the instant, the accumulator and every object outside
the log are the same. -/
structure LogOnly (s s' : State) : Prop where
  bare : s'.bare = s.bare
  now : s'.now = s.now
  belfry : s'.belfry = s.belfry
  val : ∀ k, logObject k = false → s'.val k = s.val k

theorem LogOnly.refl : LogOnly s s := ⟨rfl, rfl, rfl, fun _ _ => rfl⟩

theorem LogOnly.trans {s s1 s2 : State} (a : LogOnly s s1) (b : LogOnly s1 s2) : LogOnly s s2 :=
  ⟨b.bare.trans a.bare, b.now.trans a.now, b.belfry.trans a.belfry, fun k h => (b.val k h).trans (a.val k h)⟩

/-- A fold of operations that write only the log writes only the log. -/
theorem LogOnly.foldl {α : Type} (f : State → α → State) (hf : ∀ st x, LogOnly st (f st x)) (l : List α) (st : State) :
    LogOnly st (l.foldl f st) := by
  induction l generalizing st with
  | nil => exact LogOnly.refl st
  | cons x r ih => exact (hf st x).trans (ih _)

/-- Counting at an object of the log. -/
theorem LogOnly.count {i j : Nat} (h : ∀ k, logObject k = false → k ≠ key i j) : LogOnly s (s.count i j) :=
  ⟨rfl, rfl, rfl, fun k hk => State.val_count_ne s (h k hk)⟩

/-- A peak kept at an object of the log. -/
theorem LogOnly.setPeak {i j : Nat} (n : Nat) (h : ∀ k, logObject k = false → k ≠ key i j) : LogOnly s (s.setPeak i j n) :=
  ⟨rfl, rfl, rfl, fun k hk => State.val_setPeak_ne s (h k hk)⟩

/-- A change of a shade's queue alone. -/
theorem LogOnly.modShade (i : Nat) (f : Shade → Shade) (hf : ∀ x : Shade, (f x).sansQueue = x.sansQueue) :
    LogOnly s (s.modShade i f) := ⟨State.modShade_bare s i f hf, rfl, rfl, fun _ _ => rfl⟩

/-! ### Time -/

@[simp] theorem State.at_now (t : Nat) : (s.at t).now = peak s.now t := by
  unfold State.at; dsimp only; split <;> rfl

@[simp] theorem State.at_bare (t : Nat) : (s.at t).bare = s.bare := by
  have h : ∀ n, (Lantern.drain s.lantern n).2.lastTime = s.lantern.lastTime := by
    intro n; unfold Lantern.drain; dsimp only; split <;> rfl
  unfold State.at; dsimp only
  split <;> simp [State.bare, Belfry.advance, h, State.addTo, State.set]

theorem State.at_val (t k : Nat) (h : k ≠ key 0x1730 4) : (s.at t).val k = s.val k := by
  unfold State.at; dsimp only
  split
  · rfl
  · rw [State.val_addTo_ne _ h]; rfl

/-! ### Lantern, the black box and the counters -/

@[simp] theorem State.lanternPush_bare (ty : Nat) (c : List Nat) : (s.lanternPush ty c).bare = s.bare := by
  unfold State.lanternPush
  dsimp only
  repeat' split
  all_goals rfl

theorem State.lanternPush_val (ty : Nat) (c : List Nat) (k : Nat) (h : k ≠ key 0x1730 5) : (s.lanternPush ty c).val k = s.val k := by
  unfold State.lanternPush
  dsimp only
  repeat' split
  all_goals first | rfl | (rw [State.val_count_ne _ h]; rfl)

@[simp] theorem State.countEvent_bare (code : Nat) : (s.countEvent code).bare = s.bare := rfl
@[simp] theorem State.countEvent_val (code k : Nat) : (s.countEvent code).val k = s.val k := rfl

@[simp] theorem State.noteChange_bare (r o n : Nat) : (s.noteChange r o n).bare = s.bare := by
  simp only [State.bare, State.noteChange, List.map_map]
  congr 1
  apply List.map_congr_left
  intro x _
  simp only [Function.comp]
  split <;> rfl

@[simp] theorem State.noteChange_val (r o n k : Nat) : (s.noteChange r o n).val k = s.val k := rfl

@[simp] theorem State.boxAppend_bare (code : Nat) (r : List Byte) : (s.boxAppend code r).bare = s.bare := by
  unfold State.boxAppend; simp; rfl

@[simp] theorem State.boxAppend_val (code : Nat) (r : List Byte) (k : Nat) : (s.boxAppend code r).val k = s.val k := rfl

/-! ### Lines and shade queues -/

theorem State.allocLines_keeps (n tag : Nat) : LogOnly s (s.allocLines n tag).1 := by
  induction n generalizing s with
  | zero => exact LogOnly.refl s
  | succ n ih =>
    simp only [State.allocLines]
    refine LogOnly.trans ?_ (ih _)
    exact ⟨rfl, rfl, rfl, fun _ _ => rfl⟩

theorem State.freeLinesOf_keeps (l : List Nat) : LogOnly s (s.freeLinesOf l).1 := by
  induction l generalizing s with
  | nil => exact LogOnly.refl s
  | cons x r ih =>
    simp only [State.freeLinesOf]
    refine LogOnly.trans ?_ (ih _)
    split
    · refine LogOnly.trans ?_ (LogOnly.count _ ?_)
      · exact ⟨rfl, rfl, rfl, fun _ _ => rfl⟩
      · rintro k h rfl
        simp [logObject] at h
    · exact ⟨rfl, rfl, rfl, fun _ _ => rfl⟩

/-- An object of the log stands at Lantern's, the Dome's or a shade queue's own places. -/
theorem logObject_queue {k sh j : Nat} (h : logObject k = false) : k ≠ key (0x5010 + sh) j := by
  rintro rfl
  unfold logObject key at h
  simp only [Bool.or_eq_false_iff, decide_eq_false_iff_not] at h
  omega

theorem logObject_lantern {k : Nat} (h : logObject k = false) : k ≠ key 0x1730 5 ∧ k ≠ key 0x1730 4 := by
  constructor <;> (rintro rfl; simp [logObject] at h)

theorem State.appendItem_keeps (sh : Nat) (e : Bool) (c : Nat) (b : List Byte) : LogOnly s (s.appendItem sh e c b) := by
  unfold State.appendItem
  dsimp only
  refine LogOnly.trans ?_ (LogOnly.setPeak _ _ (fun k h => logObject_queue h))
  refine (State.allocLines_keeps s _ _).trans (LogOnly.modShade _ _ _ ?_)
  intro x; rfl

theorem State.dropItem_keeps (sh c : Nat) : LogOnly s (s.dropItem sh c) := by
  unfold State.dropItem
  dsimp only
  have h0 : ∀ (st : State) (j : Nat), LogOnly st (st.count (0x5010 + sh) j) :=
    fun st j => LogOnly.count st (fun k hk => logObject_queue hk)
  have h1 : ∀ f : Shade → Shade, (∀ x : Shade, (f x).sansQueue = x.sansQueue) →
      LogOnly s ((s.modShade sh f).count (0x5010 + sh) 6) := fun f hf => (LogOnly.modShade s sh f hf).trans (h0 _ _)
  have h2 := h1 (fun x => if x.reportWaits then
      { x with overrun := true, items := x.items.map (fun i =>
          if i.cls = 3 ∧ i.number = none then
            { i with
              content := [48#8, byte (byteAt i.content 1 ||| dropBit c), 0#8, 0#8] ++
                le 4 (satTo 0xFFFFFFFF (fieldAt i.content 4 4 + 1)) ++ slice i.content 8 8 }
          else i) }
    else { x with
      overrun := true, dropFlags := (s.shade sh).dropFlags ||| dropBit c, dropped := x.dropped + 1
      firstDrop := if (s.shade sh).dropped = 0 then s.rtcSec else (s.shade sh).firstDrop }) (fun x => by split <;> rfl)
  split
  · exact h2.trans (h0 _ _)
  · split
    · exact h2.trans (h0 _ _)
    · exact h2

theorem State.formOverrun_keeps (sh : Nat) : LogOnly s (s.formOverrun sh) := by
  unfold State.formOverrun
  dsimp only
  split
  · exact (State.appendItem_keeps s _ _ _ _).trans (LogOnly.modShade _ _ _ (fun x => by simp [Shade.sansQueue]))
  · exact LogOnly.refl s

/-- An item offered to a shade queue writes the queue, its lines and its counts, and nothing else. -/
theorem State.takeIn_keeps (sh : Nat) (e : Bool) (c : Nat) (b : List Byte) : LogOnly s (s.takeIn sh e c b) := by
  unfold State.takeIn
  dsimp only
  split
  · split
    · exact (State.formOverrun_keeps s _).trans (State.appendItem_keeps _ _ _ _ _)
    · exact (State.formOverrun_keeps s _).trans (State.dropItem_keeps _ _ _)
  · exact State.dropItem_keeps s _ _

/-! ### Raising an event -/

theorem State.deliverEvent_keeps (code : Nat) (r : List Byte) (sh : Nat) : LogOnly s (s.deliverEvent code r sh) := by
  unfold State.deliverEvent
  split
  · exact LogOnly.refl s
  · split
    · exact State.takeIn_keeps s _ _ _ _
    · exact LogOnly.modShade s _ _ (fun x => rfl)

theorem State.noteDelivery_keeps (code : Nat) (lim : Option Limit) : LogOnly s (s.noteDelivery code lim) := by
  unfold State.noteDelivery; split <;> exact ⟨rfl, rfl, rfl, fun _ _ => rfl⟩

theorem State.lanternPush_keeps (ty : Nat) (c : List Nat) : LogOnly s (s.lanternPush ty c) := by
  refine ⟨State.lanternPush_bare s ty c, ?_, ?_, fun k h => State.lanternPush_val s ty c k (logObject_lantern h).1⟩
  all_goals
    unfold State.lanternPush
    dsimp only
    repeat' split
    all_goals rfl

theorem State.boxAppend_keeps (code : Nat) (r : List Byte) : LogOnly s (s.boxAppend code r) :=
  ⟨State.boxAppend_bare s code r, rfl, rfl, fun _ _ => rfl⟩

theorem State.raise0_keeps (code : Nat) (d reach : List Nat) (lim : Option Limit) : LogOnly s (s.raise0 code d reach lim) := by
  have hf := LogOnly.foldl (fun st sh => st.deliverEvent code (s.eventRecord code d) sh)
    (fun st sh => State.deliverEvent_keeps st _ _ _) reach
  have h4 : LogOnly s (if reach.contains 0 then (s.countEvent code).boxAppend code (s.eventRecord code d) else s.countEvent code) := by
    have h0 : LogOnly s (s.countEvent code) := ⟨rfl, rfl, rfl, fun _ _ => rfl⟩
    split
    · exact h0.trans (State.boxAppend_keeps _ _ _)
    · exact h0
  unfold State.raise0
  dsimp only
  generalize (if reach.contains 0 then (s.countEvent code).boxAppend code (s.eventRecord code d) else s.countEvent code) = s2 at h4 ⊢
  have h5 := h4.trans (State.lanternPush_keeps s2 8 [code % 256, code / 256])
  split
  · exact h5.trans ((State.noteDelivery_keeps _ code lim).trans (hf _))
  · exact h5

theorem State.settle_keeps : LogOnly s s.settle := by
  unfold State.settle
  refine LogOnly.foldl (fun st sh => (st.formOverrun sh).settleFull sh) (fun s0 sh => (State.formOverrun_keeps s0 sh).trans ?_) _ s
  generalize s0.formOverrun sh = st
  have hm : LogOnly st (st.modShade sh (fun x => { x with wasFull := st.isFull sh })) := LogOnly.modShade st _ _ (fun x => rfl)
  simp only [State.settleFull]
  split
  · exact hm.trans (State.raise0_keeps _ _ _ _ _)
  · exact hm

/-- Raising an event writes the log and nothing else. -/
theorem State.raise_keeps (code : Nat) (d reach : List Nat) (lim : Option Limit) : LogOnly s (s.raise code d reach lim) :=
  (State.raise0_keeps s _ _ _ _).trans (State.settle_keeps _)

/-- Raising an event leaves every object outside the log as it is. -/
theorem State.raise_val (code : Nat) (d reach : List Nat) (lim : Option Limit) (k : Nat) (h : logObject k = false) :
    (s.raise code d reach lim).val k = s.val k := (State.raise_keeps s code d reach lim).val k h

/-- Freeing lines writes the log and nothing else. -/
theorem State.releaseLines_keeps (l : List Nat) : LogOnly s (s.releaseLines l) := by
  unfold State.releaseLines
  exact (State.freeLinesOf_keeps s l).trans
    (LogOnly.foldl (fun st l => st.raise 0x030E (dU 4 l) [0]) (fun st x => State.raise_keeps st _ _ _ _) _ _)

/-- A loop record of Lantern writes the log and nothing else. -/
theorem State.lanternLoop_keeps (a b : Nat) (x y : Int) (n : Nat) : LogOnly s (s.lanternLoop a b x y n) := by
  unfold State.lanternLoop State.lanternQuad
  dsimp only
  repeat' split
  all_goals first | exact State.lanternPush_keeps s _ _ | exact LogOnly.refl s

/-! ### Objects read as numbers -/

theorem State.nat_addTo_same (i j n : Nat) : (s.addTo i j n).nat i j = (s.nat i j + n) % 2 ^ 32 := by
  simp only [State.addTo, State.nat_set_same]; exact Int.toNat_natCast _

theorem State.nat_count (i j : Nat) : (s.count i j).nat i j = (s.nat i j + 1) % 2 ^ 32 := State.nat_addTo_same s i j 1

theorem State.nat_setPeak (i j n : Nat) : (s.setPeak i j n).nat i j = peak (s.nat i j) n := by
  simp only [State.setPeak, State.nat_set_same]; exact Int.toNat_natCast _

theorem State.nat_count_ne {i j a b : Nat} (h : key a b ≠ key i j) : (s.count i j).nat a b = s.nat a b :=
  State.nat_set_ne s _ h

theorem State.int_count_ne {i j a b : Nat} (h : key a b ≠ key i j) : (s.count i j).int a b = s.int a b :=
  State.int_set_ne s _ h

theorem State.flag_count_ne {i j a b : Nat} (h : key a b ≠ key i j) : (s.count i j).flag a b = s.flag a b :=
  State.flag_set_ne s _ h

theorem State.int_of_val {s s' : State} {i j : Nat} (h : s'.val (key i j) = s.val (key i j)) : s'.int i j = s.int i j := by
  simp only [State.int, h]

theorem State.nat_of_val {s s' : State} {i j : Nat} (h : s'.val (key i j) = s.val (key i j)) : s'.nat i j = s.nat i j := by
  simp only [State.nat, State.int, h]

theorem State.flag_of_val {s s' : State} {i j : Nat} (h : s'.val (key i j) = s.val (key i j)) : s'.flag i j = s.flag i j := by
  unfold State.flag State.int; rw [h]

theorem State.raise_int (code : Nat) (d reach : List Nat) (lim : Option Limit) {i j : Nat} (h : logObject (key i j) = false) :
    (s.raise code d reach lim).int i j = s.int i j := State.int_of_val (State.raise_val s _ _ _ _ _ h)

theorem State.raise_nat (code : Nat) (d reach : List Nat) (lim : Option Limit) {i j : Nat} (h : logObject (key i j) = false) :
    (s.raise code d reach lim).nat i j = s.nat i j := State.nat_of_val (State.raise_val s _ _ _ _ _ h)

theorem State.raise_flag (code : Nat) (d reach : List Nat) (lim : Option Limit) {i j : Nat} (h : logObject (key i j) = false) :
    (s.raise code d reach lim).flag i j = s.flag i j := State.flag_of_val (State.raise_val s _ _ _ _ _ h)

theorem State.at_int (t : Nat) {i j : Nat} (h : key i j ≠ key 0x1730 4) : (s.at t).int i j = s.int i j :=
  State.int_of_val (State.at_val s t _ h)

theorem State.at_nat (t : Nat) {i j : Nat} (h : key i j ≠ key 0x1730 4) : (s.at t).nat i j = s.nat i j :=
  State.nat_of_val (State.at_val s t _ h)

theorem State.at_flag (t : Nat) {i j : Nat} (h : key i j ≠ key 0x1730 4) : (s.at t).flag i j = s.flag i j :=
  State.flag_of_val (State.at_val s t _ h)

theorem State.lanternLoop_val (a b : Nat) (x y : Int) (n k : Nat) (h : logObject k = false) :
    (s.lanternLoop a b x y n).val k = s.val k := (State.lanternLoop_keeps s a b x y n).val k h

/-- The objects below the shade queues' own, Lantern's and the Dome's apart, are not of the log. -/
theorem logObject_low {i j : Nat} (hi : i < 0x5010) (hj : j < 256) (h1 : i ≠ 0x1730) (h2 : i ≠ 0x1300) :
    logObject (key i j) = false := by
  unfold logObject key
  simp only [Bool.or_eq_false_iff, decide_eq_false_iff_not]
  omega

/-! ### The fields that `State.bare` keeps -/

theorem State.pending_of_bare {s s' : State} (h : s'.bare = s.bare) : s'.pending = s.pending :=
  (congrArg State.pending h : s'.bare.pending = s.bare.pending)
theorem State.freeCount_of_bare {s s' : State} (h : s'.bare = s.bare) : s'.freeCount = s.freeCount :=
  (congrArg State.freeCount h : s'.bare.freeCount = s.bare.freeCount)
theorem State.bootDict_of_bare {s s' : State} (h : s'.bare = s.bare) : s'.bootDict = s.bootDict :=
  (congrArg State.bootDict h : s'.bare.bootDict = s.bare.bootDict)
theorem State.changes_of_bare {s s' : State} (h : s'.bare = s.bare) : s'.changes = s.changes :=
  (congrArg State.changes h : s'.bare.changes = s.bare.changes)
theorem State.fuses_of_bare {s s' : State} (h : s'.bare = s.bare) : s'.fuses = s.fuses :=
  (congrArg State.fuses h : s'.bare.fuses = s.bare.fuses)
theorem State.txns_of_bare {s s' : State} (h : s'.bare = s.bare) : s'.txns = s.txns :=
  (congrArg State.txns h : s'.bare.txns = s.bare.txns)
theorem State.lateStores_of_bare {s s' : State} (h : s'.bare = s.bare) : s'.lateStores = s.lateStores :=
  (congrArg State.lateStores h : s'.bare.lateStores = s.bare.lateStores)
theorem State.txnStats_of_bare {s s' : State} (h : s'.bare = s.bare) : s'.txnStats = s.txnStats :=
  (congrArg State.txnStats h : s'.bare.txnStats = s.bare.txnStats)
theorem State.quietDue_of_bare {s s' : State} (h : s'.bare = s.bare) : s'.quietDue = s.quietDue :=
  (congrArg State.quietDue h : s'.bare.quietDue = s.bare.quietDue)
theorem State.nextTxn_of_bare {s s' : State} (h : s'.bare = s.bare) : s'.nextTxn = s.nextTxn :=
  (congrArg State.nextTxn h : s'.bare.nextTxn = s.bare.nextTxn)
theorem State.nextOrder_of_bare {s s' : State} (h : s'.bare = s.bare) : s'.nextOrder = s.nextOrder :=
  (congrArg State.nextOrder h : s'.bare.nextOrder = s.bare.nextOrder)
theorem State.txq_of_bare {s s' : State} (h : s'.bare = s.bare) : s'.txq = s.txq :=
  (congrArg State.txq h : s'.bare.txq = s.bare.txq)
theorem State.waitingReplies_of_bare {s s' : State} (h : s'.bare = s.bare) : s'.waitingReplies = s.waitingReplies :=
  (congrArg State.waitingReplies h : s'.bare.waitingReplies = s.bare.waitingReplies)
theorem State.unknownErrors_of_bare {s s' : State} (h : s'.bare = s.bare) : s'.unknownErrors = s.unknownErrors :=
  (congrArg State.unknownErrors h : s'.bare.unknownErrors = s.bare.unknownErrors)
theorem State.bootNonce_of_bare {s s' : State} (h : s'.bare = s.bare) : s'.bootNonce = s.bootNonce :=
  (congrArg State.bootNonce h : s'.bare.bootNonce = s.bare.bootNonce)
theorem State.moduleKey_of_bare {s s' : State} (h : s'.bare = s.bare) : s'.moduleKey = s.moduleKey :=
  (congrArg State.moduleKey h : s'.bare.moduleKey = s.bare.moduleKey)
theorem State.trngKind_of_bare {s s' : State} (h : s'.bare = s.bare) : s'.trngKind = s.trngKind :=
  (congrArg State.trngKind h : s'.bare.trngKind = s.bare.trngKind)
theorem State.trngTick_of_bare {s s' : State} (h : s'.bare = s.bare) : s'.trngTick = s.trngTick :=
  (congrArg State.trngTick h : s'.bare.trngTick = s.bare.trngTick)
theorem State.eth_of_bare {s s' : State} (h : s'.bare = s.bare) : s'.eth = s.eth :=
  (congrArg State.eth h : s'.bare.eth = s.bare.eth)
theorem State.spire_of_bare {s s' : State} (h : s'.bare = s.bare) : s'.spire = s.spire :=
  (congrArg State.spire h : s'.bare.spire = s.bare.spire)
theorem State.power_of_bare {s s' : State} (h : s'.bare = s.bare) : s'.power = s.power :=
  (congrArg State.power h : s'.bare.power = s.bare.power)
theorem State.pins_of_bare {s s' : State} (h : s'.bare = s.bare) : s'.pins = s.pins :=
  (congrArg State.pins h : s'.bare.pins = s.bare.pins)
theorem State.safe_of_bare {s s' : State} (h : s'.bare = s.bare) : s'.safe = s.safe :=
  (congrArg State.safe h : s'.bare.safe = s.bare.safe)
theorem State.sweep_of_bare {s s' : State} (h : s'.bare = s.bare) : s'.sweep = s.sweep :=
  (congrArg State.sweep h : s'.bare.sweep = s.bare.sweep)
theorem State.store_of_bare {s s' : State} (h : s'.bare = s.bare) : s'.store = s.store :=
  (congrArg State.store h : s'.bare.store = s.bare.store)
theorem State.rtc_of_bare {s s' : State} (h : s'.bare = s.bare) : s'.rtc = s.rtc :=
  (congrArg State.rtc h : s'.bare.rtc = s.bare.rtc)
theorem State.bootEvents_of_bare {s s' : State} (h : s'.bare = s.bare) : s'.bootEvents = s.bootEvents :=
  (congrArg State.bootEvents h : s'.bare.bootEvents = s.bare.bootEvents)
theorem State.banks_of_bare {s s' : State} (h : s'.bare = s.bare) : s'.banks = s.banks :=
  (congrArg State.banks h : s'.bare.banks = s.bare.banks)
theorem State.quads_of_bare {s s' : State} (h : s'.bare = s.bare) : s'.quads = s.quads :=
  (congrArg State.quads h : s'.bare.quads = s.bare.quads)
theorem State.ports_of_bare {s s' : State} (h : s'.bare = s.bare) : s'.ports = s.ports :=
  (congrArg State.ports h : s'.bare.ports = s.bare.ports)
theorem State.rounds_of_bare {s s' : State} (h : s'.bare = s.bare) : s'.rounds = s.rounds :=
  (congrArg State.rounds h : s'.bare.rounds = s.bare.rounds)
theorem State.plans_of_bare {s s' : State} (h : s'.bare = s.bare) : s'.plans = s.plans :=
  (congrArg State.plans h : s'.bare.plans = s.bare.plans)
theorem State.tags_of_bare {s s' : State} (h : s'.bare = s.bare) : s'.tags = s.tags :=
  (congrArg State.tags h : s'.bare.tags = s.bare.tags)
theorem State.coex_of_bare {s s' : State} (h : s'.bare = s.bare) : s'.coex = s.coex :=
  (congrArg State.coex h : s'.bare.coex = s.bare.coex)
theorem State.hsbErrors_of_bare {s s' : State} (h : s'.bare = s.bare) : s'.hsbErrors = s.hsbErrors :=
  (congrArg State.hsbErrors h : s'.bare.hsbErrors = s.bare.hsbErrors)
theorem State.ldpc_of_bare {s s' : State} (h : s'.bare = s.bare) : s'.ldpc = s.ldpc :=
  (congrArg State.ldpc h : s'.bare.ldpc = s.bare.ldpc)
theorem State.timers_of_bare {s s' : State} (h : s'.bare = s.bare) : s'.timers = s.timers :=
  (congrArg State.timers h : s'.bare.timers = s.bare.timers)
theorem State.hfPorts_of_bare {s s' : State} (h : s'.bare = s.bare) : s'.hfPorts = s.hfPorts :=
  (congrArg State.hfPorts h : s'.bare.hfPorts = s.bare.hfPorts)
theorem State.hfTx_of_bare {s s' : State} (h : s'.bare = s.bare) : s'.hfTx = s.hfTx :=
  (congrArg State.hfTx h : s'.bare.hfTx = s.bare.hfTx)
theorem State.caps_of_bare {s s' : State} (h : s'.bare = s.bare) : s'.caps = s.caps :=
  (congrArg State.caps h : s'.bare.caps = s.bare.caps)
theorem State.meters_of_bare {s s' : State} (h : s'.bare = s.bare) : s'.meters = s.meters :=
  (congrArg State.meters h : s'.bare.meters = s.bare.meters)
theorem State.savedMeters_of_bare {s s' : State} (h : s'.bare = s.bare) : s'.savedMeters = s.savedMeters :=
  (congrArg State.savedMeters h : s'.bare.savedMeters = s.bare.savedMeters)
theorem State.classes_of_bare {s s' : State} (h : s'.bare = s.bare) : s'.classes = s.classes :=
  (congrArg State.classes h : s'.bare.classes = s.bare.classes)
theorem State.journals_of_bare {s s' : State} (h : s'.bare = s.bare) : s'.journals = s.journals :=
  (congrArg State.journals h : s'.bare.journals = s.bare.journals)
theorem State.groups_of_bare {s s' : State} (h : s'.bare = s.bare) : s'.groups = s.groups :=
  (congrArg State.groups h : s'.bare.groups = s.bare.groups)
theorem State.unresolved_of_bare {s s' : State} (h : s'.bare = s.bare) : s'.unresolved = s.unresolved :=
  (congrArg State.unresolved h : s'.bare.unresolved = s.bare.unresolved)

/-! ### `State.raise`, field by field -/

@[simp] theorem State.raise_bare (code : Nat) (d reach : List Nat) (lim : Option Limit) : (s.raise code d reach lim).bare = s.bare := (State.raise_keeps s code d reach lim).bare
@[simp] theorem State.raise_now (code : Nat) (d reach : List Nat) (lim : Option Limit) : (s.raise code d reach lim).now = s.now := (State.raise_keeps s code d reach lim).now
@[simp] theorem State.raise_pending (code : Nat) (d reach : List Nat) (lim : Option Limit) : (s.raise code d reach lim).pending = s.pending := State.pending_of_bare (State.raise_bare s code d reach lim)
@[simp] theorem State.raise_freeCount (code : Nat) (d reach : List Nat) (lim : Option Limit) : (s.raise code d reach lim).freeCount = s.freeCount := State.freeCount_of_bare (State.raise_bare s code d reach lim)
@[simp] theorem State.raise_bootDict (code : Nat) (d reach : List Nat) (lim : Option Limit) : (s.raise code d reach lim).bootDict = s.bootDict := State.bootDict_of_bare (State.raise_bare s code d reach lim)
@[simp] theorem State.raise_changes (code : Nat) (d reach : List Nat) (lim : Option Limit) : (s.raise code d reach lim).changes = s.changes := State.changes_of_bare (State.raise_bare s code d reach lim)
@[simp] theorem State.raise_fuses (code : Nat) (d reach : List Nat) (lim : Option Limit) : (s.raise code d reach lim).fuses = s.fuses := State.fuses_of_bare (State.raise_bare s code d reach lim)
@[simp] theorem State.raise_txns (code : Nat) (d reach : List Nat) (lim : Option Limit) : (s.raise code d reach lim).txns = s.txns := State.txns_of_bare (State.raise_bare s code d reach lim)
@[simp] theorem State.raise_lateStores (code : Nat) (d reach : List Nat) (lim : Option Limit) : (s.raise code d reach lim).lateStores = s.lateStores := State.lateStores_of_bare (State.raise_bare s code d reach lim)
@[simp] theorem State.raise_txnStats (code : Nat) (d reach : List Nat) (lim : Option Limit) : (s.raise code d reach lim).txnStats = s.txnStats := State.txnStats_of_bare (State.raise_bare s code d reach lim)
@[simp] theorem State.raise_quietDue (code : Nat) (d reach : List Nat) (lim : Option Limit) : (s.raise code d reach lim).quietDue = s.quietDue := State.quietDue_of_bare (State.raise_bare s code d reach lim)
@[simp] theorem State.raise_nextTxn (code : Nat) (d reach : List Nat) (lim : Option Limit) : (s.raise code d reach lim).nextTxn = s.nextTxn := State.nextTxn_of_bare (State.raise_bare s code d reach lim)
@[simp] theorem State.raise_nextOrder (code : Nat) (d reach : List Nat) (lim : Option Limit) : (s.raise code d reach lim).nextOrder = s.nextOrder := State.nextOrder_of_bare (State.raise_bare s code d reach lim)
@[simp] theorem State.raise_txq (code : Nat) (d reach : List Nat) (lim : Option Limit) : (s.raise code d reach lim).txq = s.txq := State.txq_of_bare (State.raise_bare s code d reach lim)
@[simp] theorem State.raise_waitingReplies (code : Nat) (d reach : List Nat) (lim : Option Limit) : (s.raise code d reach lim).waitingReplies = s.waitingReplies := State.waitingReplies_of_bare (State.raise_bare s code d reach lim)
@[simp] theorem State.raise_unknownErrors (code : Nat) (d reach : List Nat) (lim : Option Limit) : (s.raise code d reach lim).unknownErrors = s.unknownErrors := State.unknownErrors_of_bare (State.raise_bare s code d reach lim)
@[simp] theorem State.raise_bootNonce (code : Nat) (d reach : List Nat) (lim : Option Limit) : (s.raise code d reach lim).bootNonce = s.bootNonce := State.bootNonce_of_bare (State.raise_bare s code d reach lim)
@[simp] theorem State.raise_moduleKey (code : Nat) (d reach : List Nat) (lim : Option Limit) : (s.raise code d reach lim).moduleKey = s.moduleKey := State.moduleKey_of_bare (State.raise_bare s code d reach lim)
@[simp] theorem State.raise_trngKind (code : Nat) (d reach : List Nat) (lim : Option Limit) : (s.raise code d reach lim).trngKind = s.trngKind := State.trngKind_of_bare (State.raise_bare s code d reach lim)
@[simp] theorem State.raise_trngTick (code : Nat) (d reach : List Nat) (lim : Option Limit) : (s.raise code d reach lim).trngTick = s.trngTick := State.trngTick_of_bare (State.raise_bare s code d reach lim)
@[simp] theorem State.raise_eth (code : Nat) (d reach : List Nat) (lim : Option Limit) : (s.raise code d reach lim).eth = s.eth := State.eth_of_bare (State.raise_bare s code d reach lim)
@[simp] theorem State.raise_spire (code : Nat) (d reach : List Nat) (lim : Option Limit) : (s.raise code d reach lim).spire = s.spire := State.spire_of_bare (State.raise_bare s code d reach lim)
@[simp] theorem State.raise_power (code : Nat) (d reach : List Nat) (lim : Option Limit) : (s.raise code d reach lim).power = s.power := State.power_of_bare (State.raise_bare s code d reach lim)
@[simp] theorem State.raise_pins (code : Nat) (d reach : List Nat) (lim : Option Limit) : (s.raise code d reach lim).pins = s.pins := State.pins_of_bare (State.raise_bare s code d reach lim)
@[simp] theorem State.raise_safe (code : Nat) (d reach : List Nat) (lim : Option Limit) : (s.raise code d reach lim).safe = s.safe := State.safe_of_bare (State.raise_bare s code d reach lim)
@[simp] theorem State.raise_sweep (code : Nat) (d reach : List Nat) (lim : Option Limit) : (s.raise code d reach lim).sweep = s.sweep := State.sweep_of_bare (State.raise_bare s code d reach lim)
@[simp] theorem State.raise_store (code : Nat) (d reach : List Nat) (lim : Option Limit) : (s.raise code d reach lim).store = s.store := State.store_of_bare (State.raise_bare s code d reach lim)
@[simp] theorem State.raise_rtc (code : Nat) (d reach : List Nat) (lim : Option Limit) : (s.raise code d reach lim).rtc = s.rtc := State.rtc_of_bare (State.raise_bare s code d reach lim)
@[simp] theorem State.raise_belfry (code : Nat) (d reach : List Nat) (lim : Option Limit) : (s.raise code d reach lim).belfry = s.belfry := (State.raise_keeps s code d reach lim).belfry
@[simp] theorem State.raise_bootEvents (code : Nat) (d reach : List Nat) (lim : Option Limit) : (s.raise code d reach lim).bootEvents = s.bootEvents := State.bootEvents_of_bare (State.raise_bare s code d reach lim)
@[simp] theorem State.raise_banks (code : Nat) (d reach : List Nat) (lim : Option Limit) : (s.raise code d reach lim).banks = s.banks := State.banks_of_bare (State.raise_bare s code d reach lim)
@[simp] theorem State.raise_quads (code : Nat) (d reach : List Nat) (lim : Option Limit) : (s.raise code d reach lim).quads = s.quads := State.quads_of_bare (State.raise_bare s code d reach lim)
@[simp] theorem State.raise_ports (code : Nat) (d reach : List Nat) (lim : Option Limit) : (s.raise code d reach lim).ports = s.ports := State.ports_of_bare (State.raise_bare s code d reach lim)
@[simp] theorem State.raise_rounds (code : Nat) (d reach : List Nat) (lim : Option Limit) : (s.raise code d reach lim).rounds = s.rounds := State.rounds_of_bare (State.raise_bare s code d reach lim)
@[simp] theorem State.raise_plans (code : Nat) (d reach : List Nat) (lim : Option Limit) : (s.raise code d reach lim).plans = s.plans := State.plans_of_bare (State.raise_bare s code d reach lim)
@[simp] theorem State.raise_tags (code : Nat) (d reach : List Nat) (lim : Option Limit) : (s.raise code d reach lim).tags = s.tags := State.tags_of_bare (State.raise_bare s code d reach lim)
@[simp] theorem State.raise_coex (code : Nat) (d reach : List Nat) (lim : Option Limit) : (s.raise code d reach lim).coex = s.coex := State.coex_of_bare (State.raise_bare s code d reach lim)
@[simp] theorem State.raise_hsbErrors (code : Nat) (d reach : List Nat) (lim : Option Limit) : (s.raise code d reach lim).hsbErrors = s.hsbErrors := State.hsbErrors_of_bare (State.raise_bare s code d reach lim)
@[simp] theorem State.raise_ldpc (code : Nat) (d reach : List Nat) (lim : Option Limit) : (s.raise code d reach lim).ldpc = s.ldpc := State.ldpc_of_bare (State.raise_bare s code d reach lim)
@[simp] theorem State.raise_timers (code : Nat) (d reach : List Nat) (lim : Option Limit) : (s.raise code d reach lim).timers = s.timers := State.timers_of_bare (State.raise_bare s code d reach lim)
@[simp] theorem State.raise_hfPorts (code : Nat) (d reach : List Nat) (lim : Option Limit) : (s.raise code d reach lim).hfPorts = s.hfPorts := State.hfPorts_of_bare (State.raise_bare s code d reach lim)
@[simp] theorem State.raise_hfTx (code : Nat) (d reach : List Nat) (lim : Option Limit) : (s.raise code d reach lim).hfTx = s.hfTx := State.hfTx_of_bare (State.raise_bare s code d reach lim)
@[simp] theorem State.raise_caps (code : Nat) (d reach : List Nat) (lim : Option Limit) : (s.raise code d reach lim).caps = s.caps := State.caps_of_bare (State.raise_bare s code d reach lim)
@[simp] theorem State.raise_meters (code : Nat) (d reach : List Nat) (lim : Option Limit) : (s.raise code d reach lim).meters = s.meters := State.meters_of_bare (State.raise_bare s code d reach lim)
@[simp] theorem State.raise_savedMeters (code : Nat) (d reach : List Nat) (lim : Option Limit) : (s.raise code d reach lim).savedMeters = s.savedMeters := State.savedMeters_of_bare (State.raise_bare s code d reach lim)
@[simp] theorem State.raise_classes (code : Nat) (d reach : List Nat) (lim : Option Limit) : (s.raise code d reach lim).classes = s.classes := State.classes_of_bare (State.raise_bare s code d reach lim)
@[simp] theorem State.raise_journals (code : Nat) (d reach : List Nat) (lim : Option Limit) : (s.raise code d reach lim).journals = s.journals := State.journals_of_bare (State.raise_bare s code d reach lim)
@[simp] theorem State.raise_groups (code : Nat) (d reach : List Nat) (lim : Option Limit) : (s.raise code d reach lim).groups = s.groups := State.groups_of_bare (State.raise_bare s code d reach lim)
@[simp] theorem State.raise_unresolved (code : Nat) (d reach : List Nat) (lim : Option Limit) : (s.raise code d reach lim).unresolved = s.unresolved := State.unresolved_of_bare (State.raise_bare s code d reach lim)

/-! ### `State.lanternPush`, field by field -/

@[simp] theorem State.lanternPush_now (ty : Nat) (c : List Nat) : (s.lanternPush ty c).now = s.now := (State.lanternPush_keeps s ty c).now
@[simp] theorem State.lanternPush_pending (ty : Nat) (c : List Nat) : (s.lanternPush ty c).pending = s.pending := State.pending_of_bare (State.lanternPush_bare s ty c)
@[simp] theorem State.lanternPush_freeCount (ty : Nat) (c : List Nat) : (s.lanternPush ty c).freeCount = s.freeCount := State.freeCount_of_bare (State.lanternPush_bare s ty c)
@[simp] theorem State.lanternPush_bootDict (ty : Nat) (c : List Nat) : (s.lanternPush ty c).bootDict = s.bootDict := State.bootDict_of_bare (State.lanternPush_bare s ty c)
@[simp] theorem State.lanternPush_changes (ty : Nat) (c : List Nat) : (s.lanternPush ty c).changes = s.changes := State.changes_of_bare (State.lanternPush_bare s ty c)
@[simp] theorem State.lanternPush_fuses (ty : Nat) (c : List Nat) : (s.lanternPush ty c).fuses = s.fuses := State.fuses_of_bare (State.lanternPush_bare s ty c)
@[simp] theorem State.lanternPush_txns (ty : Nat) (c : List Nat) : (s.lanternPush ty c).txns = s.txns := State.txns_of_bare (State.lanternPush_bare s ty c)
@[simp] theorem State.lanternPush_lateStores (ty : Nat) (c : List Nat) : (s.lanternPush ty c).lateStores = s.lateStores := State.lateStores_of_bare (State.lanternPush_bare s ty c)
@[simp] theorem State.lanternPush_txnStats (ty : Nat) (c : List Nat) : (s.lanternPush ty c).txnStats = s.txnStats := State.txnStats_of_bare (State.lanternPush_bare s ty c)
@[simp] theorem State.lanternPush_quietDue (ty : Nat) (c : List Nat) : (s.lanternPush ty c).quietDue = s.quietDue := State.quietDue_of_bare (State.lanternPush_bare s ty c)
@[simp] theorem State.lanternPush_nextTxn (ty : Nat) (c : List Nat) : (s.lanternPush ty c).nextTxn = s.nextTxn := State.nextTxn_of_bare (State.lanternPush_bare s ty c)
@[simp] theorem State.lanternPush_nextOrder (ty : Nat) (c : List Nat) : (s.lanternPush ty c).nextOrder = s.nextOrder := State.nextOrder_of_bare (State.lanternPush_bare s ty c)
@[simp] theorem State.lanternPush_txq (ty : Nat) (c : List Nat) : (s.lanternPush ty c).txq = s.txq := State.txq_of_bare (State.lanternPush_bare s ty c)
@[simp] theorem State.lanternPush_waitingReplies (ty : Nat) (c : List Nat) : (s.lanternPush ty c).waitingReplies = s.waitingReplies := State.waitingReplies_of_bare (State.lanternPush_bare s ty c)
@[simp] theorem State.lanternPush_unknownErrors (ty : Nat) (c : List Nat) : (s.lanternPush ty c).unknownErrors = s.unknownErrors := State.unknownErrors_of_bare (State.lanternPush_bare s ty c)
@[simp] theorem State.lanternPush_bootNonce (ty : Nat) (c : List Nat) : (s.lanternPush ty c).bootNonce = s.bootNonce := State.bootNonce_of_bare (State.lanternPush_bare s ty c)
@[simp] theorem State.lanternPush_moduleKey (ty : Nat) (c : List Nat) : (s.lanternPush ty c).moduleKey = s.moduleKey := State.moduleKey_of_bare (State.lanternPush_bare s ty c)
@[simp] theorem State.lanternPush_trngKind (ty : Nat) (c : List Nat) : (s.lanternPush ty c).trngKind = s.trngKind := State.trngKind_of_bare (State.lanternPush_bare s ty c)
@[simp] theorem State.lanternPush_trngTick (ty : Nat) (c : List Nat) : (s.lanternPush ty c).trngTick = s.trngTick := State.trngTick_of_bare (State.lanternPush_bare s ty c)
@[simp] theorem State.lanternPush_eth (ty : Nat) (c : List Nat) : (s.lanternPush ty c).eth = s.eth := State.eth_of_bare (State.lanternPush_bare s ty c)
@[simp] theorem State.lanternPush_spire (ty : Nat) (c : List Nat) : (s.lanternPush ty c).spire = s.spire := State.spire_of_bare (State.lanternPush_bare s ty c)
@[simp] theorem State.lanternPush_power (ty : Nat) (c : List Nat) : (s.lanternPush ty c).power = s.power := State.power_of_bare (State.lanternPush_bare s ty c)
@[simp] theorem State.lanternPush_pins (ty : Nat) (c : List Nat) : (s.lanternPush ty c).pins = s.pins := State.pins_of_bare (State.lanternPush_bare s ty c)
@[simp] theorem State.lanternPush_safe (ty : Nat) (c : List Nat) : (s.lanternPush ty c).safe = s.safe := State.safe_of_bare (State.lanternPush_bare s ty c)
@[simp] theorem State.lanternPush_sweep (ty : Nat) (c : List Nat) : (s.lanternPush ty c).sweep = s.sweep := State.sweep_of_bare (State.lanternPush_bare s ty c)
@[simp] theorem State.lanternPush_store (ty : Nat) (c : List Nat) : (s.lanternPush ty c).store = s.store := State.store_of_bare (State.lanternPush_bare s ty c)
@[simp] theorem State.lanternPush_rtc (ty : Nat) (c : List Nat) : (s.lanternPush ty c).rtc = s.rtc := State.rtc_of_bare (State.lanternPush_bare s ty c)
@[simp] theorem State.lanternPush_belfry (ty : Nat) (c : List Nat) : (s.lanternPush ty c).belfry = s.belfry := (State.lanternPush_keeps s ty c).belfry
@[simp] theorem State.lanternPush_bootEvents (ty : Nat) (c : List Nat) : (s.lanternPush ty c).bootEvents = s.bootEvents := State.bootEvents_of_bare (State.lanternPush_bare s ty c)
@[simp] theorem State.lanternPush_banks (ty : Nat) (c : List Nat) : (s.lanternPush ty c).banks = s.banks := State.banks_of_bare (State.lanternPush_bare s ty c)
@[simp] theorem State.lanternPush_quads (ty : Nat) (c : List Nat) : (s.lanternPush ty c).quads = s.quads := State.quads_of_bare (State.lanternPush_bare s ty c)
@[simp] theorem State.lanternPush_ports (ty : Nat) (c : List Nat) : (s.lanternPush ty c).ports = s.ports := State.ports_of_bare (State.lanternPush_bare s ty c)
@[simp] theorem State.lanternPush_rounds (ty : Nat) (c : List Nat) : (s.lanternPush ty c).rounds = s.rounds := State.rounds_of_bare (State.lanternPush_bare s ty c)
@[simp] theorem State.lanternPush_plans (ty : Nat) (c : List Nat) : (s.lanternPush ty c).plans = s.plans := State.plans_of_bare (State.lanternPush_bare s ty c)
@[simp] theorem State.lanternPush_tags (ty : Nat) (c : List Nat) : (s.lanternPush ty c).tags = s.tags := State.tags_of_bare (State.lanternPush_bare s ty c)
@[simp] theorem State.lanternPush_coex (ty : Nat) (c : List Nat) : (s.lanternPush ty c).coex = s.coex := State.coex_of_bare (State.lanternPush_bare s ty c)
@[simp] theorem State.lanternPush_hsbErrors (ty : Nat) (c : List Nat) : (s.lanternPush ty c).hsbErrors = s.hsbErrors := State.hsbErrors_of_bare (State.lanternPush_bare s ty c)
@[simp] theorem State.lanternPush_ldpc (ty : Nat) (c : List Nat) : (s.lanternPush ty c).ldpc = s.ldpc := State.ldpc_of_bare (State.lanternPush_bare s ty c)
@[simp] theorem State.lanternPush_timers (ty : Nat) (c : List Nat) : (s.lanternPush ty c).timers = s.timers := State.timers_of_bare (State.lanternPush_bare s ty c)
@[simp] theorem State.lanternPush_hfPorts (ty : Nat) (c : List Nat) : (s.lanternPush ty c).hfPorts = s.hfPorts := State.hfPorts_of_bare (State.lanternPush_bare s ty c)
@[simp] theorem State.lanternPush_hfTx (ty : Nat) (c : List Nat) : (s.lanternPush ty c).hfTx = s.hfTx := State.hfTx_of_bare (State.lanternPush_bare s ty c)
@[simp] theorem State.lanternPush_caps (ty : Nat) (c : List Nat) : (s.lanternPush ty c).caps = s.caps := State.caps_of_bare (State.lanternPush_bare s ty c)
@[simp] theorem State.lanternPush_meters (ty : Nat) (c : List Nat) : (s.lanternPush ty c).meters = s.meters := State.meters_of_bare (State.lanternPush_bare s ty c)
@[simp] theorem State.lanternPush_savedMeters (ty : Nat) (c : List Nat) : (s.lanternPush ty c).savedMeters = s.savedMeters := State.savedMeters_of_bare (State.lanternPush_bare s ty c)
@[simp] theorem State.lanternPush_classes (ty : Nat) (c : List Nat) : (s.lanternPush ty c).classes = s.classes := State.classes_of_bare (State.lanternPush_bare s ty c)
@[simp] theorem State.lanternPush_journals (ty : Nat) (c : List Nat) : (s.lanternPush ty c).journals = s.journals := State.journals_of_bare (State.lanternPush_bare s ty c)
@[simp] theorem State.lanternPush_groups (ty : Nat) (c : List Nat) : (s.lanternPush ty c).groups = s.groups := State.groups_of_bare (State.lanternPush_bare s ty c)
@[simp] theorem State.lanternPush_unresolved (ty : Nat) (c : List Nat) : (s.lanternPush ty c).unresolved = s.unresolved := State.unresolved_of_bare (State.lanternPush_bare s ty c)

/-! ### `State.lanternLoop`, field by field -/

@[simp] theorem State.lanternLoop_bare (a b : Nat) (x y : Int) (n : Nat) : (s.lanternLoop a b x y n).bare = s.bare := (State.lanternLoop_keeps s a b x y n).bare
@[simp] theorem State.lanternLoop_now (a b : Nat) (x y : Int) (n : Nat) : (s.lanternLoop a b x y n).now = s.now := (State.lanternLoop_keeps s a b x y n).now
@[simp] theorem State.lanternLoop_pending (a b : Nat) (x y : Int) (n : Nat) : (s.lanternLoop a b x y n).pending = s.pending := State.pending_of_bare (State.lanternLoop_bare s a b x y n)
@[simp] theorem State.lanternLoop_freeCount (a b : Nat) (x y : Int) (n : Nat) : (s.lanternLoop a b x y n).freeCount = s.freeCount := State.freeCount_of_bare (State.lanternLoop_bare s a b x y n)
@[simp] theorem State.lanternLoop_bootDict (a b : Nat) (x y : Int) (n : Nat) : (s.lanternLoop a b x y n).bootDict = s.bootDict := State.bootDict_of_bare (State.lanternLoop_bare s a b x y n)
@[simp] theorem State.lanternLoop_changes (a b : Nat) (x y : Int) (n : Nat) : (s.lanternLoop a b x y n).changes = s.changes := State.changes_of_bare (State.lanternLoop_bare s a b x y n)
@[simp] theorem State.lanternLoop_fuses (a b : Nat) (x y : Int) (n : Nat) : (s.lanternLoop a b x y n).fuses = s.fuses := State.fuses_of_bare (State.lanternLoop_bare s a b x y n)
@[simp] theorem State.lanternLoop_txns (a b : Nat) (x y : Int) (n : Nat) : (s.lanternLoop a b x y n).txns = s.txns := State.txns_of_bare (State.lanternLoop_bare s a b x y n)
@[simp] theorem State.lanternLoop_lateStores (a b : Nat) (x y : Int) (n : Nat) : (s.lanternLoop a b x y n).lateStores = s.lateStores := State.lateStores_of_bare (State.lanternLoop_bare s a b x y n)
@[simp] theorem State.lanternLoop_txnStats (a b : Nat) (x y : Int) (n : Nat) : (s.lanternLoop a b x y n).txnStats = s.txnStats := State.txnStats_of_bare (State.lanternLoop_bare s a b x y n)
@[simp] theorem State.lanternLoop_quietDue (a b : Nat) (x y : Int) (n : Nat) : (s.lanternLoop a b x y n).quietDue = s.quietDue := State.quietDue_of_bare (State.lanternLoop_bare s a b x y n)
@[simp] theorem State.lanternLoop_nextTxn (a b : Nat) (x y : Int) (n : Nat) : (s.lanternLoop a b x y n).nextTxn = s.nextTxn := State.nextTxn_of_bare (State.lanternLoop_bare s a b x y n)
@[simp] theorem State.lanternLoop_nextOrder (a b : Nat) (x y : Int) (n : Nat) : (s.lanternLoop a b x y n).nextOrder = s.nextOrder := State.nextOrder_of_bare (State.lanternLoop_bare s a b x y n)
@[simp] theorem State.lanternLoop_txq (a b : Nat) (x y : Int) (n : Nat) : (s.lanternLoop a b x y n).txq = s.txq := State.txq_of_bare (State.lanternLoop_bare s a b x y n)
@[simp] theorem State.lanternLoop_waitingReplies (a b : Nat) (x y : Int) (n : Nat) : (s.lanternLoop a b x y n).waitingReplies = s.waitingReplies := State.waitingReplies_of_bare (State.lanternLoop_bare s a b x y n)
@[simp] theorem State.lanternLoop_unknownErrors (a b : Nat) (x y : Int) (n : Nat) : (s.lanternLoop a b x y n).unknownErrors = s.unknownErrors := State.unknownErrors_of_bare (State.lanternLoop_bare s a b x y n)
@[simp] theorem State.lanternLoop_bootNonce (a b : Nat) (x y : Int) (n : Nat) : (s.lanternLoop a b x y n).bootNonce = s.bootNonce := State.bootNonce_of_bare (State.lanternLoop_bare s a b x y n)
@[simp] theorem State.lanternLoop_moduleKey (a b : Nat) (x y : Int) (n : Nat) : (s.lanternLoop a b x y n).moduleKey = s.moduleKey := State.moduleKey_of_bare (State.lanternLoop_bare s a b x y n)
@[simp] theorem State.lanternLoop_trngKind (a b : Nat) (x y : Int) (n : Nat) : (s.lanternLoop a b x y n).trngKind = s.trngKind := State.trngKind_of_bare (State.lanternLoop_bare s a b x y n)
@[simp] theorem State.lanternLoop_trngTick (a b : Nat) (x y : Int) (n : Nat) : (s.lanternLoop a b x y n).trngTick = s.trngTick := State.trngTick_of_bare (State.lanternLoop_bare s a b x y n)
@[simp] theorem State.lanternLoop_eth (a b : Nat) (x y : Int) (n : Nat) : (s.lanternLoop a b x y n).eth = s.eth := State.eth_of_bare (State.lanternLoop_bare s a b x y n)
@[simp] theorem State.lanternLoop_spire (a b : Nat) (x y : Int) (n : Nat) : (s.lanternLoop a b x y n).spire = s.spire := State.spire_of_bare (State.lanternLoop_bare s a b x y n)
@[simp] theorem State.lanternLoop_power (a b : Nat) (x y : Int) (n : Nat) : (s.lanternLoop a b x y n).power = s.power := State.power_of_bare (State.lanternLoop_bare s a b x y n)
@[simp] theorem State.lanternLoop_pins (a b : Nat) (x y : Int) (n : Nat) : (s.lanternLoop a b x y n).pins = s.pins := State.pins_of_bare (State.lanternLoop_bare s a b x y n)
@[simp] theorem State.lanternLoop_safe (a b : Nat) (x y : Int) (n : Nat) : (s.lanternLoop a b x y n).safe = s.safe := State.safe_of_bare (State.lanternLoop_bare s a b x y n)
@[simp] theorem State.lanternLoop_sweep (a b : Nat) (x y : Int) (n : Nat) : (s.lanternLoop a b x y n).sweep = s.sweep := State.sweep_of_bare (State.lanternLoop_bare s a b x y n)
@[simp] theorem State.lanternLoop_store (a b : Nat) (x y : Int) (n : Nat) : (s.lanternLoop a b x y n).store = s.store := State.store_of_bare (State.lanternLoop_bare s a b x y n)
@[simp] theorem State.lanternLoop_rtc (a b : Nat) (x y : Int) (n : Nat) : (s.lanternLoop a b x y n).rtc = s.rtc := State.rtc_of_bare (State.lanternLoop_bare s a b x y n)
@[simp] theorem State.lanternLoop_belfry (a b : Nat) (x y : Int) (n : Nat) : (s.lanternLoop a b x y n).belfry = s.belfry := (State.lanternLoop_keeps s a b x y n).belfry
@[simp] theorem State.lanternLoop_bootEvents (a b : Nat) (x y : Int) (n : Nat) : (s.lanternLoop a b x y n).bootEvents = s.bootEvents := State.bootEvents_of_bare (State.lanternLoop_bare s a b x y n)
@[simp] theorem State.lanternLoop_banks (a b : Nat) (x y : Int) (n : Nat) : (s.lanternLoop a b x y n).banks = s.banks := State.banks_of_bare (State.lanternLoop_bare s a b x y n)
@[simp] theorem State.lanternLoop_quads (a b : Nat) (x y : Int) (n : Nat) : (s.lanternLoop a b x y n).quads = s.quads := State.quads_of_bare (State.lanternLoop_bare s a b x y n)
@[simp] theorem State.lanternLoop_ports (a b : Nat) (x y : Int) (n : Nat) : (s.lanternLoop a b x y n).ports = s.ports := State.ports_of_bare (State.lanternLoop_bare s a b x y n)
@[simp] theorem State.lanternLoop_rounds (a b : Nat) (x y : Int) (n : Nat) : (s.lanternLoop a b x y n).rounds = s.rounds := State.rounds_of_bare (State.lanternLoop_bare s a b x y n)
@[simp] theorem State.lanternLoop_plans (a b : Nat) (x y : Int) (n : Nat) : (s.lanternLoop a b x y n).plans = s.plans := State.plans_of_bare (State.lanternLoop_bare s a b x y n)
@[simp] theorem State.lanternLoop_tags (a b : Nat) (x y : Int) (n : Nat) : (s.lanternLoop a b x y n).tags = s.tags := State.tags_of_bare (State.lanternLoop_bare s a b x y n)
@[simp] theorem State.lanternLoop_coex (a b : Nat) (x y : Int) (n : Nat) : (s.lanternLoop a b x y n).coex = s.coex := State.coex_of_bare (State.lanternLoop_bare s a b x y n)
@[simp] theorem State.lanternLoop_hsbErrors (a b : Nat) (x y : Int) (n : Nat) : (s.lanternLoop a b x y n).hsbErrors = s.hsbErrors := State.hsbErrors_of_bare (State.lanternLoop_bare s a b x y n)
@[simp] theorem State.lanternLoop_ldpc (a b : Nat) (x y : Int) (n : Nat) : (s.lanternLoop a b x y n).ldpc = s.ldpc := State.ldpc_of_bare (State.lanternLoop_bare s a b x y n)
@[simp] theorem State.lanternLoop_timers (a b : Nat) (x y : Int) (n : Nat) : (s.lanternLoop a b x y n).timers = s.timers := State.timers_of_bare (State.lanternLoop_bare s a b x y n)
@[simp] theorem State.lanternLoop_hfPorts (a b : Nat) (x y : Int) (n : Nat) : (s.lanternLoop a b x y n).hfPorts = s.hfPorts := State.hfPorts_of_bare (State.lanternLoop_bare s a b x y n)
@[simp] theorem State.lanternLoop_hfTx (a b : Nat) (x y : Int) (n : Nat) : (s.lanternLoop a b x y n).hfTx = s.hfTx := State.hfTx_of_bare (State.lanternLoop_bare s a b x y n)
@[simp] theorem State.lanternLoop_caps (a b : Nat) (x y : Int) (n : Nat) : (s.lanternLoop a b x y n).caps = s.caps := State.caps_of_bare (State.lanternLoop_bare s a b x y n)
@[simp] theorem State.lanternLoop_meters (a b : Nat) (x y : Int) (n : Nat) : (s.lanternLoop a b x y n).meters = s.meters := State.meters_of_bare (State.lanternLoop_bare s a b x y n)
@[simp] theorem State.lanternLoop_savedMeters (a b : Nat) (x y : Int) (n : Nat) : (s.lanternLoop a b x y n).savedMeters = s.savedMeters := State.savedMeters_of_bare (State.lanternLoop_bare s a b x y n)
@[simp] theorem State.lanternLoop_classes (a b : Nat) (x y : Int) (n : Nat) : (s.lanternLoop a b x y n).classes = s.classes := State.classes_of_bare (State.lanternLoop_bare s a b x y n)
@[simp] theorem State.lanternLoop_journals (a b : Nat) (x y : Int) (n : Nat) : (s.lanternLoop a b x y n).journals = s.journals := State.journals_of_bare (State.lanternLoop_bare s a b x y n)
@[simp] theorem State.lanternLoop_groups (a b : Nat) (x y : Int) (n : Nat) : (s.lanternLoop a b x y n).groups = s.groups := State.groups_of_bare (State.lanternLoop_bare s a b x y n)
@[simp] theorem State.lanternLoop_unresolved (a b : Nat) (x y : Int) (n : Nat) : (s.lanternLoop a b x y n).unresolved = s.unresolved := State.unresolved_of_bare (State.lanternLoop_bare s a b x y n)

/-! ### `State.releaseLines`, field by field -/

@[simp] theorem State.releaseLines_bare (l : List Nat) : (s.releaseLines l).bare = s.bare := (State.releaseLines_keeps s l).bare
@[simp] theorem State.releaseLines_now (l : List Nat) : (s.releaseLines l).now = s.now := (State.releaseLines_keeps s l).now
@[simp] theorem State.releaseLines_pending (l : List Nat) : (s.releaseLines l).pending = s.pending := State.pending_of_bare (State.releaseLines_bare s l)
@[simp] theorem State.releaseLines_freeCount (l : List Nat) : (s.releaseLines l).freeCount = s.freeCount := State.freeCount_of_bare (State.releaseLines_bare s l)
@[simp] theorem State.releaseLines_bootDict (l : List Nat) : (s.releaseLines l).bootDict = s.bootDict := State.bootDict_of_bare (State.releaseLines_bare s l)
@[simp] theorem State.releaseLines_changes (l : List Nat) : (s.releaseLines l).changes = s.changes := State.changes_of_bare (State.releaseLines_bare s l)
@[simp] theorem State.releaseLines_fuses (l : List Nat) : (s.releaseLines l).fuses = s.fuses := State.fuses_of_bare (State.releaseLines_bare s l)
@[simp] theorem State.releaseLines_txns (l : List Nat) : (s.releaseLines l).txns = s.txns := State.txns_of_bare (State.releaseLines_bare s l)
@[simp] theorem State.releaseLines_lateStores (l : List Nat) : (s.releaseLines l).lateStores = s.lateStores := State.lateStores_of_bare (State.releaseLines_bare s l)
@[simp] theorem State.releaseLines_txnStats (l : List Nat) : (s.releaseLines l).txnStats = s.txnStats := State.txnStats_of_bare (State.releaseLines_bare s l)
@[simp] theorem State.releaseLines_quietDue (l : List Nat) : (s.releaseLines l).quietDue = s.quietDue := State.quietDue_of_bare (State.releaseLines_bare s l)
@[simp] theorem State.releaseLines_nextTxn (l : List Nat) : (s.releaseLines l).nextTxn = s.nextTxn := State.nextTxn_of_bare (State.releaseLines_bare s l)
@[simp] theorem State.releaseLines_nextOrder (l : List Nat) : (s.releaseLines l).nextOrder = s.nextOrder := State.nextOrder_of_bare (State.releaseLines_bare s l)
@[simp] theorem State.releaseLines_txq (l : List Nat) : (s.releaseLines l).txq = s.txq := State.txq_of_bare (State.releaseLines_bare s l)
@[simp] theorem State.releaseLines_waitingReplies (l : List Nat) : (s.releaseLines l).waitingReplies = s.waitingReplies := State.waitingReplies_of_bare (State.releaseLines_bare s l)
@[simp] theorem State.releaseLines_unknownErrors (l : List Nat) : (s.releaseLines l).unknownErrors = s.unknownErrors := State.unknownErrors_of_bare (State.releaseLines_bare s l)
@[simp] theorem State.releaseLines_bootNonce (l : List Nat) : (s.releaseLines l).bootNonce = s.bootNonce := State.bootNonce_of_bare (State.releaseLines_bare s l)
@[simp] theorem State.releaseLines_moduleKey (l : List Nat) : (s.releaseLines l).moduleKey = s.moduleKey := State.moduleKey_of_bare (State.releaseLines_bare s l)
@[simp] theorem State.releaseLines_trngKind (l : List Nat) : (s.releaseLines l).trngKind = s.trngKind := State.trngKind_of_bare (State.releaseLines_bare s l)
@[simp] theorem State.releaseLines_trngTick (l : List Nat) : (s.releaseLines l).trngTick = s.trngTick := State.trngTick_of_bare (State.releaseLines_bare s l)
@[simp] theorem State.releaseLines_eth (l : List Nat) : (s.releaseLines l).eth = s.eth := State.eth_of_bare (State.releaseLines_bare s l)
@[simp] theorem State.releaseLines_spire (l : List Nat) : (s.releaseLines l).spire = s.spire := State.spire_of_bare (State.releaseLines_bare s l)
@[simp] theorem State.releaseLines_power (l : List Nat) : (s.releaseLines l).power = s.power := State.power_of_bare (State.releaseLines_bare s l)
@[simp] theorem State.releaseLines_pins (l : List Nat) : (s.releaseLines l).pins = s.pins := State.pins_of_bare (State.releaseLines_bare s l)
@[simp] theorem State.releaseLines_safe (l : List Nat) : (s.releaseLines l).safe = s.safe := State.safe_of_bare (State.releaseLines_bare s l)
@[simp] theorem State.releaseLines_sweep (l : List Nat) : (s.releaseLines l).sweep = s.sweep := State.sweep_of_bare (State.releaseLines_bare s l)
@[simp] theorem State.releaseLines_store (l : List Nat) : (s.releaseLines l).store = s.store := State.store_of_bare (State.releaseLines_bare s l)
@[simp] theorem State.releaseLines_rtc (l : List Nat) : (s.releaseLines l).rtc = s.rtc := State.rtc_of_bare (State.releaseLines_bare s l)
@[simp] theorem State.releaseLines_belfry (l : List Nat) : (s.releaseLines l).belfry = s.belfry := (State.releaseLines_keeps s l).belfry
@[simp] theorem State.releaseLines_bootEvents (l : List Nat) : (s.releaseLines l).bootEvents = s.bootEvents := State.bootEvents_of_bare (State.releaseLines_bare s l)
@[simp] theorem State.releaseLines_banks (l : List Nat) : (s.releaseLines l).banks = s.banks := State.banks_of_bare (State.releaseLines_bare s l)
@[simp] theorem State.releaseLines_quads (l : List Nat) : (s.releaseLines l).quads = s.quads := State.quads_of_bare (State.releaseLines_bare s l)
@[simp] theorem State.releaseLines_ports (l : List Nat) : (s.releaseLines l).ports = s.ports := State.ports_of_bare (State.releaseLines_bare s l)
@[simp] theorem State.releaseLines_rounds (l : List Nat) : (s.releaseLines l).rounds = s.rounds := State.rounds_of_bare (State.releaseLines_bare s l)
@[simp] theorem State.releaseLines_plans (l : List Nat) : (s.releaseLines l).plans = s.plans := State.plans_of_bare (State.releaseLines_bare s l)
@[simp] theorem State.releaseLines_tags (l : List Nat) : (s.releaseLines l).tags = s.tags := State.tags_of_bare (State.releaseLines_bare s l)
@[simp] theorem State.releaseLines_coex (l : List Nat) : (s.releaseLines l).coex = s.coex := State.coex_of_bare (State.releaseLines_bare s l)
@[simp] theorem State.releaseLines_hsbErrors (l : List Nat) : (s.releaseLines l).hsbErrors = s.hsbErrors := State.hsbErrors_of_bare (State.releaseLines_bare s l)
@[simp] theorem State.releaseLines_ldpc (l : List Nat) : (s.releaseLines l).ldpc = s.ldpc := State.ldpc_of_bare (State.releaseLines_bare s l)
@[simp] theorem State.releaseLines_timers (l : List Nat) : (s.releaseLines l).timers = s.timers := State.timers_of_bare (State.releaseLines_bare s l)
@[simp] theorem State.releaseLines_hfPorts (l : List Nat) : (s.releaseLines l).hfPorts = s.hfPorts := State.hfPorts_of_bare (State.releaseLines_bare s l)
@[simp] theorem State.releaseLines_hfTx (l : List Nat) : (s.releaseLines l).hfTx = s.hfTx := State.hfTx_of_bare (State.releaseLines_bare s l)
@[simp] theorem State.releaseLines_caps (l : List Nat) : (s.releaseLines l).caps = s.caps := State.caps_of_bare (State.releaseLines_bare s l)
@[simp] theorem State.releaseLines_meters (l : List Nat) : (s.releaseLines l).meters = s.meters := State.meters_of_bare (State.releaseLines_bare s l)
@[simp] theorem State.releaseLines_savedMeters (l : List Nat) : (s.releaseLines l).savedMeters = s.savedMeters := State.savedMeters_of_bare (State.releaseLines_bare s l)
@[simp] theorem State.releaseLines_classes (l : List Nat) : (s.releaseLines l).classes = s.classes := State.classes_of_bare (State.releaseLines_bare s l)
@[simp] theorem State.releaseLines_journals (l : List Nat) : (s.releaseLines l).journals = s.journals := State.journals_of_bare (State.releaseLines_bare s l)
@[simp] theorem State.releaseLines_groups (l : List Nat) : (s.releaseLines l).groups = s.groups := State.groups_of_bare (State.releaseLines_bare s l)
@[simp] theorem State.releaseLines_unresolved (l : List Nat) : (s.releaseLines l).unresolved = s.unresolved := State.unresolved_of_bare (State.releaseLines_bare s l)

/-! ### `State.takeIn`, field by field -/

@[simp] theorem State.takeIn_bare (sh : Nat) (e : Bool) (c : Nat) (b : List Byte) : (s.takeIn sh e c b).bare = s.bare := (State.takeIn_keeps s sh e c b).bare
@[simp] theorem State.takeIn_now (sh : Nat) (e : Bool) (c : Nat) (b : List Byte) : (s.takeIn sh e c b).now = s.now := (State.takeIn_keeps s sh e c b).now
@[simp] theorem State.takeIn_pending (sh : Nat) (e : Bool) (c : Nat) (b : List Byte) : (s.takeIn sh e c b).pending = s.pending := State.pending_of_bare (State.takeIn_bare s sh e c b)
@[simp] theorem State.takeIn_freeCount (sh : Nat) (e : Bool) (c : Nat) (b : List Byte) : (s.takeIn sh e c b).freeCount = s.freeCount := State.freeCount_of_bare (State.takeIn_bare s sh e c b)
@[simp] theorem State.takeIn_bootDict (sh : Nat) (e : Bool) (c : Nat) (b : List Byte) : (s.takeIn sh e c b).bootDict = s.bootDict := State.bootDict_of_bare (State.takeIn_bare s sh e c b)
@[simp] theorem State.takeIn_changes (sh : Nat) (e : Bool) (c : Nat) (b : List Byte) : (s.takeIn sh e c b).changes = s.changes := State.changes_of_bare (State.takeIn_bare s sh e c b)
@[simp] theorem State.takeIn_fuses (sh : Nat) (e : Bool) (c : Nat) (b : List Byte) : (s.takeIn sh e c b).fuses = s.fuses := State.fuses_of_bare (State.takeIn_bare s sh e c b)
@[simp] theorem State.takeIn_txns (sh : Nat) (e : Bool) (c : Nat) (b : List Byte) : (s.takeIn sh e c b).txns = s.txns := State.txns_of_bare (State.takeIn_bare s sh e c b)
@[simp] theorem State.takeIn_lateStores (sh : Nat) (e : Bool) (c : Nat) (b : List Byte) : (s.takeIn sh e c b).lateStores = s.lateStores := State.lateStores_of_bare (State.takeIn_bare s sh e c b)
@[simp] theorem State.takeIn_txnStats (sh : Nat) (e : Bool) (c : Nat) (b : List Byte) : (s.takeIn sh e c b).txnStats = s.txnStats := State.txnStats_of_bare (State.takeIn_bare s sh e c b)
@[simp] theorem State.takeIn_quietDue (sh : Nat) (e : Bool) (c : Nat) (b : List Byte) : (s.takeIn sh e c b).quietDue = s.quietDue := State.quietDue_of_bare (State.takeIn_bare s sh e c b)
@[simp] theorem State.takeIn_nextTxn (sh : Nat) (e : Bool) (c : Nat) (b : List Byte) : (s.takeIn sh e c b).nextTxn = s.nextTxn := State.nextTxn_of_bare (State.takeIn_bare s sh e c b)
@[simp] theorem State.takeIn_nextOrder (sh : Nat) (e : Bool) (c : Nat) (b : List Byte) : (s.takeIn sh e c b).nextOrder = s.nextOrder := State.nextOrder_of_bare (State.takeIn_bare s sh e c b)
@[simp] theorem State.takeIn_txq (sh : Nat) (e : Bool) (c : Nat) (b : List Byte) : (s.takeIn sh e c b).txq = s.txq := State.txq_of_bare (State.takeIn_bare s sh e c b)
@[simp] theorem State.takeIn_waitingReplies (sh : Nat) (e : Bool) (c : Nat) (b : List Byte) : (s.takeIn sh e c b).waitingReplies = s.waitingReplies := State.waitingReplies_of_bare (State.takeIn_bare s sh e c b)
@[simp] theorem State.takeIn_unknownErrors (sh : Nat) (e : Bool) (c : Nat) (b : List Byte) : (s.takeIn sh e c b).unknownErrors = s.unknownErrors := State.unknownErrors_of_bare (State.takeIn_bare s sh e c b)
@[simp] theorem State.takeIn_bootNonce (sh : Nat) (e : Bool) (c : Nat) (b : List Byte) : (s.takeIn sh e c b).bootNonce = s.bootNonce := State.bootNonce_of_bare (State.takeIn_bare s sh e c b)
@[simp] theorem State.takeIn_moduleKey (sh : Nat) (e : Bool) (c : Nat) (b : List Byte) : (s.takeIn sh e c b).moduleKey = s.moduleKey := State.moduleKey_of_bare (State.takeIn_bare s sh e c b)
@[simp] theorem State.takeIn_trngKind (sh : Nat) (e : Bool) (c : Nat) (b : List Byte) : (s.takeIn sh e c b).trngKind = s.trngKind := State.trngKind_of_bare (State.takeIn_bare s sh e c b)
@[simp] theorem State.takeIn_trngTick (sh : Nat) (e : Bool) (c : Nat) (b : List Byte) : (s.takeIn sh e c b).trngTick = s.trngTick := State.trngTick_of_bare (State.takeIn_bare s sh e c b)
@[simp] theorem State.takeIn_eth (sh : Nat) (e : Bool) (c : Nat) (b : List Byte) : (s.takeIn sh e c b).eth = s.eth := State.eth_of_bare (State.takeIn_bare s sh e c b)
@[simp] theorem State.takeIn_spire (sh : Nat) (e : Bool) (c : Nat) (b : List Byte) : (s.takeIn sh e c b).spire = s.spire := State.spire_of_bare (State.takeIn_bare s sh e c b)
@[simp] theorem State.takeIn_power (sh : Nat) (e : Bool) (c : Nat) (b : List Byte) : (s.takeIn sh e c b).power = s.power := State.power_of_bare (State.takeIn_bare s sh e c b)
@[simp] theorem State.takeIn_pins (sh : Nat) (e : Bool) (c : Nat) (b : List Byte) : (s.takeIn sh e c b).pins = s.pins := State.pins_of_bare (State.takeIn_bare s sh e c b)
@[simp] theorem State.takeIn_safe (sh : Nat) (e : Bool) (c : Nat) (b : List Byte) : (s.takeIn sh e c b).safe = s.safe := State.safe_of_bare (State.takeIn_bare s sh e c b)
@[simp] theorem State.takeIn_sweep (sh : Nat) (e : Bool) (c : Nat) (b : List Byte) : (s.takeIn sh e c b).sweep = s.sweep := State.sweep_of_bare (State.takeIn_bare s sh e c b)
@[simp] theorem State.takeIn_store (sh : Nat) (e : Bool) (c : Nat) (b : List Byte) : (s.takeIn sh e c b).store = s.store := State.store_of_bare (State.takeIn_bare s sh e c b)
@[simp] theorem State.takeIn_rtc (sh : Nat) (e : Bool) (c : Nat) (b : List Byte) : (s.takeIn sh e c b).rtc = s.rtc := State.rtc_of_bare (State.takeIn_bare s sh e c b)
@[simp] theorem State.takeIn_belfry (sh : Nat) (e : Bool) (c : Nat) (b : List Byte) : (s.takeIn sh e c b).belfry = s.belfry := (State.takeIn_keeps s sh e c b).belfry
@[simp] theorem State.takeIn_bootEvents (sh : Nat) (e : Bool) (c : Nat) (b : List Byte) : (s.takeIn sh e c b).bootEvents = s.bootEvents := State.bootEvents_of_bare (State.takeIn_bare s sh e c b)
@[simp] theorem State.takeIn_banks (sh : Nat) (e : Bool) (c : Nat) (b : List Byte) : (s.takeIn sh e c b).banks = s.banks := State.banks_of_bare (State.takeIn_bare s sh e c b)
@[simp] theorem State.takeIn_quads (sh : Nat) (e : Bool) (c : Nat) (b : List Byte) : (s.takeIn sh e c b).quads = s.quads := State.quads_of_bare (State.takeIn_bare s sh e c b)
@[simp] theorem State.takeIn_ports (sh : Nat) (e : Bool) (c : Nat) (b : List Byte) : (s.takeIn sh e c b).ports = s.ports := State.ports_of_bare (State.takeIn_bare s sh e c b)
@[simp] theorem State.takeIn_rounds (sh : Nat) (e : Bool) (c : Nat) (b : List Byte) : (s.takeIn sh e c b).rounds = s.rounds := State.rounds_of_bare (State.takeIn_bare s sh e c b)
@[simp] theorem State.takeIn_plans (sh : Nat) (e : Bool) (c : Nat) (b : List Byte) : (s.takeIn sh e c b).plans = s.plans := State.plans_of_bare (State.takeIn_bare s sh e c b)
@[simp] theorem State.takeIn_tags (sh : Nat) (e : Bool) (c : Nat) (b : List Byte) : (s.takeIn sh e c b).tags = s.tags := State.tags_of_bare (State.takeIn_bare s sh e c b)
@[simp] theorem State.takeIn_coex (sh : Nat) (e : Bool) (c : Nat) (b : List Byte) : (s.takeIn sh e c b).coex = s.coex := State.coex_of_bare (State.takeIn_bare s sh e c b)
@[simp] theorem State.takeIn_hsbErrors (sh : Nat) (e : Bool) (c : Nat) (b : List Byte) : (s.takeIn sh e c b).hsbErrors = s.hsbErrors := State.hsbErrors_of_bare (State.takeIn_bare s sh e c b)
@[simp] theorem State.takeIn_ldpc (sh : Nat) (e : Bool) (c : Nat) (b : List Byte) : (s.takeIn sh e c b).ldpc = s.ldpc := State.ldpc_of_bare (State.takeIn_bare s sh e c b)
@[simp] theorem State.takeIn_timers (sh : Nat) (e : Bool) (c : Nat) (b : List Byte) : (s.takeIn sh e c b).timers = s.timers := State.timers_of_bare (State.takeIn_bare s sh e c b)
@[simp] theorem State.takeIn_hfPorts (sh : Nat) (e : Bool) (c : Nat) (b : List Byte) : (s.takeIn sh e c b).hfPorts = s.hfPorts := State.hfPorts_of_bare (State.takeIn_bare s sh e c b)
@[simp] theorem State.takeIn_hfTx (sh : Nat) (e : Bool) (c : Nat) (b : List Byte) : (s.takeIn sh e c b).hfTx = s.hfTx := State.hfTx_of_bare (State.takeIn_bare s sh e c b)
@[simp] theorem State.takeIn_caps (sh : Nat) (e : Bool) (c : Nat) (b : List Byte) : (s.takeIn sh e c b).caps = s.caps := State.caps_of_bare (State.takeIn_bare s sh e c b)
@[simp] theorem State.takeIn_meters (sh : Nat) (e : Bool) (c : Nat) (b : List Byte) : (s.takeIn sh e c b).meters = s.meters := State.meters_of_bare (State.takeIn_bare s sh e c b)
@[simp] theorem State.takeIn_savedMeters (sh : Nat) (e : Bool) (c : Nat) (b : List Byte) : (s.takeIn sh e c b).savedMeters = s.savedMeters := State.savedMeters_of_bare (State.takeIn_bare s sh e c b)
@[simp] theorem State.takeIn_classes (sh : Nat) (e : Bool) (c : Nat) (b : List Byte) : (s.takeIn sh e c b).classes = s.classes := State.classes_of_bare (State.takeIn_bare s sh e c b)
@[simp] theorem State.takeIn_journals (sh : Nat) (e : Bool) (c : Nat) (b : List Byte) : (s.takeIn sh e c b).journals = s.journals := State.journals_of_bare (State.takeIn_bare s sh e c b)
@[simp] theorem State.takeIn_groups (sh : Nat) (e : Bool) (c : Nat) (b : List Byte) : (s.takeIn sh e c b).groups = s.groups := State.groups_of_bare (State.takeIn_bare s sh e c b)
@[simp] theorem State.takeIn_unresolved (sh : Nat) (e : Bool) (c : Nat) (b : List Byte) : (s.takeIn sh e c b).unresolved = s.unresolved := State.unresolved_of_bare (State.takeIn_bare s sh e c b)

/-! ### `State.at`, field by field -/

@[simp] theorem State.at_pending (t : Nat) : (s.at t).pending = s.pending := State.pending_of_bare (State.at_bare s t)
@[simp] theorem State.at_freeCount (t : Nat) : (s.at t).freeCount = s.freeCount := State.freeCount_of_bare (State.at_bare s t)
@[simp] theorem State.at_bootDict (t : Nat) : (s.at t).bootDict = s.bootDict := State.bootDict_of_bare (State.at_bare s t)
@[simp] theorem State.at_changes (t : Nat) : (s.at t).changes = s.changes := State.changes_of_bare (State.at_bare s t)
@[simp] theorem State.at_fuses (t : Nat) : (s.at t).fuses = s.fuses := State.fuses_of_bare (State.at_bare s t)
@[simp] theorem State.at_txns (t : Nat) : (s.at t).txns = s.txns := State.txns_of_bare (State.at_bare s t)
@[simp] theorem State.at_lateStores (t : Nat) : (s.at t).lateStores = s.lateStores := State.lateStores_of_bare (State.at_bare s t)
@[simp] theorem State.at_txnStats (t : Nat) : (s.at t).txnStats = s.txnStats := State.txnStats_of_bare (State.at_bare s t)
@[simp] theorem State.at_quietDue (t : Nat) : (s.at t).quietDue = s.quietDue := State.quietDue_of_bare (State.at_bare s t)
@[simp] theorem State.at_nextTxn (t : Nat) : (s.at t).nextTxn = s.nextTxn := State.nextTxn_of_bare (State.at_bare s t)
@[simp] theorem State.at_nextOrder (t : Nat) : (s.at t).nextOrder = s.nextOrder := State.nextOrder_of_bare (State.at_bare s t)
@[simp] theorem State.at_txq (t : Nat) : (s.at t).txq = s.txq := State.txq_of_bare (State.at_bare s t)
@[simp] theorem State.at_waitingReplies (t : Nat) : (s.at t).waitingReplies = s.waitingReplies := State.waitingReplies_of_bare (State.at_bare s t)
@[simp] theorem State.at_unknownErrors (t : Nat) : (s.at t).unknownErrors = s.unknownErrors := State.unknownErrors_of_bare (State.at_bare s t)
@[simp] theorem State.at_bootNonce (t : Nat) : (s.at t).bootNonce = s.bootNonce := State.bootNonce_of_bare (State.at_bare s t)
@[simp] theorem State.at_moduleKey (t : Nat) : (s.at t).moduleKey = s.moduleKey := State.moduleKey_of_bare (State.at_bare s t)
@[simp] theorem State.at_trngKind (t : Nat) : (s.at t).trngKind = s.trngKind := State.trngKind_of_bare (State.at_bare s t)
@[simp] theorem State.at_trngTick (t : Nat) : (s.at t).trngTick = s.trngTick := State.trngTick_of_bare (State.at_bare s t)
@[simp] theorem State.at_eth (t : Nat) : (s.at t).eth = s.eth := State.eth_of_bare (State.at_bare s t)
@[simp] theorem State.at_spire (t : Nat) : (s.at t).spire = s.spire := State.spire_of_bare (State.at_bare s t)
@[simp] theorem State.at_power (t : Nat) : (s.at t).power = s.power := State.power_of_bare (State.at_bare s t)
@[simp] theorem State.at_pins (t : Nat) : (s.at t).pins = s.pins := State.pins_of_bare (State.at_bare s t)
@[simp] theorem State.at_safe (t : Nat) : (s.at t).safe = s.safe := State.safe_of_bare (State.at_bare s t)
@[simp] theorem State.at_sweep (t : Nat) : (s.at t).sweep = s.sweep := State.sweep_of_bare (State.at_bare s t)
@[simp] theorem State.at_store (t : Nat) : (s.at t).store = s.store := State.store_of_bare (State.at_bare s t)
@[simp] theorem State.at_rtc (t : Nat) : (s.at t).rtc = s.rtc := State.rtc_of_bare (State.at_bare s t)
@[simp] theorem State.at_bootEvents (t : Nat) : (s.at t).bootEvents = s.bootEvents := State.bootEvents_of_bare (State.at_bare s t)
@[simp] theorem State.at_banks (t : Nat) : (s.at t).banks = s.banks := State.banks_of_bare (State.at_bare s t)
@[simp] theorem State.at_quads (t : Nat) : (s.at t).quads = s.quads := State.quads_of_bare (State.at_bare s t)
@[simp] theorem State.at_ports (t : Nat) : (s.at t).ports = s.ports := State.ports_of_bare (State.at_bare s t)
@[simp] theorem State.at_rounds (t : Nat) : (s.at t).rounds = s.rounds := State.rounds_of_bare (State.at_bare s t)
@[simp] theorem State.at_plans (t : Nat) : (s.at t).plans = s.plans := State.plans_of_bare (State.at_bare s t)
@[simp] theorem State.at_tags (t : Nat) : (s.at t).tags = s.tags := State.tags_of_bare (State.at_bare s t)
@[simp] theorem State.at_coex (t : Nat) : (s.at t).coex = s.coex := State.coex_of_bare (State.at_bare s t)
@[simp] theorem State.at_hsbErrors (t : Nat) : (s.at t).hsbErrors = s.hsbErrors := State.hsbErrors_of_bare (State.at_bare s t)
@[simp] theorem State.at_ldpc (t : Nat) : (s.at t).ldpc = s.ldpc := State.ldpc_of_bare (State.at_bare s t)
@[simp] theorem State.at_timers (t : Nat) : (s.at t).timers = s.timers := State.timers_of_bare (State.at_bare s t)
@[simp] theorem State.at_hfPorts (t : Nat) : (s.at t).hfPorts = s.hfPorts := State.hfPorts_of_bare (State.at_bare s t)
@[simp] theorem State.at_hfTx (t : Nat) : (s.at t).hfTx = s.hfTx := State.hfTx_of_bare (State.at_bare s t)
@[simp] theorem State.at_caps (t : Nat) : (s.at t).caps = s.caps := State.caps_of_bare (State.at_bare s t)
@[simp] theorem State.at_meters (t : Nat) : (s.at t).meters = s.meters := State.meters_of_bare (State.at_bare s t)
@[simp] theorem State.at_savedMeters (t : Nat) : (s.at t).savedMeters = s.savedMeters := State.savedMeters_of_bare (State.at_bare s t)
@[simp] theorem State.at_classes (t : Nat) : (s.at t).classes = s.classes := State.classes_of_bare (State.at_bare s t)
@[simp] theorem State.at_journals (t : Nat) : (s.at t).journals = s.journals := State.journals_of_bare (State.at_bare s t)
@[simp] theorem State.at_groups (t : Nat) : (s.at t).groups = s.groups := State.groups_of_bare (State.at_bare s t)
@[simp] theorem State.at_unresolved (t : Nat) : (s.at t).unresolved = s.unresolved := State.unresolved_of_bare (State.at_bare s t)

end Sys2Proof.Machine
end

