-- ==== Sys2Proof/Laws/Areas.lean ====
section
/-! SUPPORT. `State.outside`: what a list of areas leaves. An update of one area leaves the state outside that area; what writes only
the log leaves the state outside any list of areas. -/

namespace Sys2Proof.Machine

/-- Two areas are blanked in either order. -/
theorem State.without_comm (s : State) (a b : Area) : (s.without a).without b = (s.without b).without a := by
  cases a <;> cases b <;> rfl

theorem foldl_without (l : List Area) (s : State) (a : Area) :
    l.foldl State.without (s.without a) = (l.foldl State.without s).without a := by
  induction l generalizing s with
  | nil => rfl
  | cons b r ih => simp only [List.foldl_cons]; rw [State.without_comm s a b, ih]

/-- States that agree without one area agree outside a list that names it. -/
theorem foldl_without_mem {l : List Area} {a : Area} (h : a ∈ l) {s s' : State} (e : s'.without a = s.without a) :
    l.foldl State.without s' = l.foldl State.without s := by
  induction l generalizing s s' with
  | nil => simp at h
  | cons b r ih =>
    simp only [List.foldl_cons]
    by_cases hb : a ∈ r
    · exact ih hb (by rw [State.without_comm s' b a, State.without_comm s b a, e])
    · have : a = b := by simpa [hb] using h
      subst this; rw [e]

/-- What writes only the log leaves the state outside any areas. -/
theorem State.outside_of_bare {s s' : State} (h : s'.bare = s.bare) (l : List Area) : s'.outside l = s.outside l := by
  unfold State.outside; rw [h]

theorem LogOnly.outside {s s' : State} (h : LogOnly s s') (l : List Area) : s'.outside l = s.outside l :=
  State.outside_of_bare h.bare l

/-- What writes one area and the log leaves the state outside any areas that name it. -/
theorem State.outside_of_area {s s' : State} {a : Area} (e : s'.bare.without a = s.bare.without a) {l : List Area} (h : a ∈ l) :
    s'.outside l = s.outside l := foldl_without_mem h e

@[simp] theorem State.at_outside (s : State) (t : Nat) (l : List Area) : (s.at t).outside l = s.outside l :=
  State.outside_of_bare (State.at_bare s t) l

@[simp] theorem State.set_outside (s : State) (i j : Nat) (v : Int) (l : List Area) : (s.set i j v).outside l = s.outside l := rfl
@[simp] theorem State.setBytes_outside (s : State) (i j : Nat) (v : List Byte) (l : List Area) : (s.setBytes i j v).outside l = s.outside l := rfl
@[simp] theorem State.setFlag_outside (s : State) (i j : Nat) (v : Bool) (l : List Area) : (s.setFlag i j v).outside l = s.outside l := rfl
@[simp] theorem State.addTo_outside (s : State) (i j n : Nat) (l : List Area) : (s.addTo i j n).outside l = s.outside l := rfl
@[simp] theorem State.count_outside (s : State) (i j : Nat) (l : List Area) : (s.count i j).outside l = s.outside l := rfl
@[simp] theorem State.setPeak_outside (s : State) (i j n : Nat) (l : List Area) : (s.setPeak i j n).outside l = s.outside l := rfl
@[simp] theorem State.raise_outside (s : State) (c : Nat) (d r : List Nat) (lim : Option Limit) (l : List Area) :
    (s.raise c d r lim).outside l = s.outside l := (State.raise_keeps s c d r lim).outside l
@[simp] theorem State.lanternPush_outside (s : State) (ty : Nat) (c : List Nat) (l : List Area) :
    (s.lanternPush ty c).outside l = s.outside l := (State.lanternPush_keeps s ty c).outside l
@[simp] theorem State.lanternLoop_outside (s : State) (a b : Nat) (x y : Int) (n : Nat) (l : List Area) :
    (s.lanternLoop a b x y n).outside l = s.outside l := (State.lanternLoop_keeps s a b x y n).outside l
@[simp] theorem State.releaseLines_outside (s : State) (ls : List Nat) (l : List Area) :
    (s.releaseLines ls).outside l = s.outside l := (State.releaseLines_keeps s ls).outside l
@[simp] theorem State.takeIn_outside (s : State) (sh : Nat) (e : Bool) (c : Nat) (b : List Byte) (l : List Area) :
    (s.takeIn sh e c b).outside l = s.outside l := (State.takeIn_keeps s sh e c b).outside l

@[simp] theorem State.modBelfry_outside (s : State) (f : Belfry → Belfry) {l : List Area} (h : .belfry ∈ l) : (s.modBelfry f).outside l = s.outside l :=
  State.outside_of_area (s := s) (s' := (s.modBelfry f)) (a := .belfry) rfl h
@[simp] theorem State.modTimer_outside (s : State) (n : Nat) (f : Timer → Timer) {l : List Area} (h : .timers ∈ l) : (s.modTimer n f).outside l = s.outside l :=
  State.outside_of_area (s := s) (s' := (s.modTimer n f)) (a := .timers) rfl h
@[simp] theorem State.modQuad_outside (s : State) (q : Nat) (f : Quad → Quad) {l : List Area} (h : .radio ∈ l) : (s.modQuad q f).outside l = s.outside l :=
  State.outside_of_area (s := s) (s' := (s.modQuad q f)) (a := .radio) rfl h
@[simp] theorem State.modTx_outside (s : State) (q : Nat) (f : Tx → Tx) {l : List Area} (h : .radio ∈ l) : (s.modTx q f).outside l = s.outside l :=
  State.outside_of_area (s := s) (s' := (s.modTx q f)) (a := .radio) rfl h
@[simp] theorem State.modSeq_outside (s : State) (q : Nat) (f : Seq → Seq) {l : List Area} (h : .radio ∈ l) : (s.modSeq q f).outside l = s.outside l :=
  State.outside_of_area (s := s) (s' := (s.modSeq q f)) (a := .radio) rfl h
@[simp] theorem State.modPort_outside (s : State) (p : Nat) (f : Port → Port) {l : List Area} (h : .radio ∈ l) : (s.modPort p f).outside l = s.outside l :=
  State.outside_of_area (s := s) (s' := (s.modPort p f)) (a := .radio) rfl h
@[simp] theorem State.modBank_outside (s : State) (b : Nat) (f : Bank → Bank) {l : List Area} (h : .radio ∈ l) : (s.modBank b f).outside l = s.outside l :=
  State.outside_of_area (s := s) (s' := (s.modBank b f)) (a := .radio) rfl h
@[simp] theorem State.modChan_outside (s : State) (q n : Nat) (f : ChanEntry → ChanEntry) {l : List Area} (h : .radio ∈ l) : (s.modChan q n f).outside l = s.outside l :=
  State.outside_of_area (s := s) (s' := (s.modChan q n f)) (a := .radio) rfl h
@[simp] theorem State.modRound_outside (s : State) (p port : Nat) (f : Round → Round) {l : List Area} (h : .radio ∈ l) : (s.modRound p port f).outside l = s.outside l :=
  State.outside_of_area (s := s) (s' := (s.modRound p port f)) (a := .radio) rfl h
@[simp] theorem State.modPlan_outside (s : State) (p : Nat) (f : PlanRun → PlanRun) {l : List Area} (h : .tags ∈ l) : (s.modPlan p f).outside l = s.outside l :=
  State.outside_of_area (s := s) (s' := (s.modPlan p f)) (a := .tags) rfl h
@[simp] theorem State.modTag_outside (s : State) (n : Nat) (f : TagEntry → TagEntry) {l : List Area} (h : .tags ∈ l) : (s.modTag n f).outside l = s.outside l :=
  State.outside_of_area (s := s) (s' := (s.modTag n f)) (a := .tags) rfl h
@[simp] theorem State.modHf_outside (s : State) (i : Nat) (f : HfPort → HfPort) {l : List Area} (h : .hf ∈ l) : (s.modHf i f).outside l = s.outside l :=
  State.outside_of_area (s := s) (s' := (s.modHf i f)) (a := .hf) rfl h
@[simp] theorem State.modCap_outside (s : State) (n : Nat) (f : Cap → Cap) {l : List Area} (h : .hf ∈ l) : (s.modCap n f).outside l = s.outside l :=
  State.outside_of_area (s := s) (s' := (s.modCap n f)) (a := .hf) rfl h
@[simp] theorem State.modMeter_outside (s : State) (m : Nat) (f : Meter → Meter) {l : List Area} (h : .metering ∈ l) : (s.modMeter m f).outside l = s.outside l :=
  State.outside_of_area (s := s) (s' := (s.modMeter m f)) (a := .metering) rfl h
@[simp] theorem State.modCls_outside (s : State) (c : Nat) (f : ClassRun → ClassRun) {l : List Area} (h : .metering ∈ l) : (s.modCls c f).outside l = s.outside l :=
  State.outside_of_area (s := s) (s' := (s.modCls c f)) (a := .metering) rfl h
@[simp] theorem State.modJournal_outside (s : State) (sh : Nat) (f : Journal → Journal) {l : List Area} (h : .metering ∈ l) : (s.modJournal sh f).outside l = s.outside l :=
  State.outside_of_area (s := s) (s' := (s.modJournal sh f)) (a := .metering) rfl h
@[simp] theorem State.modPower_outside (s : State) (f : Power → Power) {l : List Area} (h : .power ∈ l) : (s.modPower f).outside l = s.outside l :=
  State.outside_of_area (s := s) (s' := (s.modPower f)) (a := .power) rfl h
@[simp] theorem State.modEth_outside (s : State) (f : Eth → Eth) {l : List Area} (h : .links ∈ l) : (s.modEth f).outside l = s.outside l :=
  State.outside_of_area (s := s) (s' := (s.modEth f)) (a := .links) rfl h
@[simp] theorem State.modSpire_outside (s : State) (f : Spire → Spire) {l : List Area} (h : .links ∈ l) : (s.modSpire f).outside l = s.outside l :=
  State.outside_of_area (s := s) (s' := (s.modSpire f)) (a := .links) rfl h
@[simp] theorem State.modSession_outside (s : State) (id : Nat) (f : Session → Session) {l : List Area} (h : .sessions ∈ l) : (s.modSession id f).outside l = s.outside l :=
  State.outside_of_area (s := s) (s' := (s.modSession id f)) (a := .sessions) rfl h
@[simp] theorem State.modTxn_outside (s : State) (num : Nat) (f : Txn → Txn) {l : List Area} (h : .sessions ∈ l) : (s.modTxn num f).outside l = s.outside l :=
  State.outside_of_area (s := s) (s' := (s.modTxn num f)) (a := .sessions) rfl h
@[simp] theorem State.modShade_outside (s : State) (i : Nat) (f : Shade → Shade) {l : List Area} (h : .shades ∈ l) : (s.modShade i f).outside l = s.outside l :=
  State.outside_of_area (s := s) (s' := (s.modShade i f)) (a := .shades) rfl h
@[simp] theorem State.touch_outside (s : State) (k : Nat) {l : List Area} (h : .store ∈ l) : (s.touch k).outside l = s.outside l :=
  State.outside_of_area (s := s) (s' := (s.touch k)) (a := .store) rfl h
@[simp] theorem State.drawn_outside (s : State){l : List Area} (h : .values ∈ l) : s.drawn.outside l = s.outside l :=
  State.outside_of_area (s := s) (s' := s.drawn) (a := .values) rfl h
@[simp] theorem State.drawnByRead_outside (s : State){l : List Area} (h : .values ∈ l) : s.drawnByRead.outside l = s.outside l :=
  State.outside_of_area (s := s) (s' := s.drawnByRead) (a := .values) rfl h

end Sys2Proof.Machine
end

