-- ==== Sys2Proof/Tests/Slice0.lean ====
section
/-! SUPPORT. Small tests: an ill-formed command for each check of `WellFormed.lean`, the check-value example of chapter 18, and for each
statement of `Obligations.lean` with hypotheses a concrete state and operands that meet them (`witness_<statement>`), with what the
command then does there. -/

namespace Sys2Proof.Tests
open Sys2Proof Sys2Proof.Machine

-- One theorem at a time: threads that wait for each other's kernel evaluations would only hold memory.
set_option Elab.async false

/-! ### Helpers -/

/-- The state that a command leaves. -/
def after (c : Instr) (s : State) : State :=
  match exec c s with
  | .next s' => s'
  | _ => s

/-- `State.sameObjects`, over the objects that either state lists. -/
def sameObj (s s' : State) (p : Nat → Bool) : Bool :=
  ((s.dict ++ s'.dict).map (·.1)).all (fun k => p (k / 256) || logObject k || decide (s'.val k = s.val k))

/-- The state after reset. -/
abbrev r0 : State := State.reset

/-! ### Well-formed operands: an ill-formed term for each check -/

/-- Operands that are well-formed, and one of each kind that is not. -/
def goodFrame : Frame :=
  { link := 1, src := { family := 4, port := 5000, bytes := [10#8, 0#8, 0#8, 2#8] }, version := 1, shade := 1, flags := 2, op := 1, session := 70, seq := 5
    lengthOk := true, authentic := true, payload := [] }
def badFrame : Frame := { goodFrame with link := 3 }
def z0 : Cx := { re := 0, im := 0 }
def bad0 : Cx := { re := 8192, im := 0 }
def goodAir : Air := { ports := [[], [], [], []], fwd := [] }
def badAir : Air := { goodAir with fwd := [bad0] }
def goodMove : CancMove := { coarseI := 0, coarseQ := 0, fineI := 0, fineQ := 0, taps := [0, 0, 0, 0] }
def badMove : CancMove := { goodMove with taps := [] }
def goodReading : CancReading := { residual := 0, analog := 0, digital := 0, dcI := 0, dcQ := 0 }
def badReading : CancReading := { goodReading with analog := 65536 }
def goodHypothesis : Hypothesis := { dev := 0, corr := [z0, z0, z0, z0] }
def goodHeard : Detection := { start := 0, hyps := [goodHypothesis], noise := [0, 0, 0, 0], heard := 0 }
def badHeard : Detection := { goodHeard with noise := [] }
def goodOpening : Opening := { quad := 0, pre := [[], [], [], []] }
def badOpening : Opening := { goodOpening with quad := 12 }
def goodWave : Wave := { vswr := 0, fwd := 0 }
def badWave : Wave := { goodWave with vswr := 65536 }
def goodEst : StreamEst := { signature := [z0, z0, z0, z0], start := 0, eigen := 0 }
def goodSettled : Settled := { air := goodAir, est := [goodEst] }
def badSettled : Settled := { goodSettled with air := badAir }
def goodCard : CardReply := { data := [], fdt := 0, collision := none, framing := false }
def badCard : CardReply := { goodCard with data := zeros 257 }
def badCharter : Charter := { charterE1 with uhfRule := 256 }

theorem test_frame_checks : goodFrame.wellFormed = true ∧
    [badFrame, { goodFrame with src := { goodFrame.src with bytes := [] } }, { goodFrame with src := { goodFrame.src with family := 5 } },
      { goodFrame with version := 256 }, { goodFrame with shade := 256 }, { goodFrame with flags := 256 }, { goodFrame with op := 256 },
      { goodFrame with session := 2 ^ 32 }, { goodFrame with seq := 2 ^ 32 }].all (fun f => !f.wellFormed) = true := by decide +kernel

theorem test_operand_checks : (goodAir.wellFormed && goodMove.wellFormed && goodReading.wellFormed && goodHeard.wellFormed && goodOpening.wellFormed && goodSettled.wellFormed &&
      goodWave.wellFormed && goodCard.wellFormed && charterE1.wellFormed) = true ∧
    [badAir, { goodAir with ports := [] }, { goodAir with ports := [[], [], [], [{ re := 0, im := -8193 }]] }].all (fun r => !r.wellFormed) = true ∧
    [badMove, { goodMove with taps := [0, 0, 0, -32769] }].all (fun r => !r.wellFormed) = true ∧
    [badReading, { goodReading with residual := 32768 }, { goodReading with digital := 65536 }].all (fun r => !r.wellFormed) = true ∧
    [badHeard, { goodHeard with hyps := List.replicate 10 goodHypothesis }, { goodHeard with hyps := [{ goodHypothesis with corr := [] }] },
      { goodHeard with heard := 2 ^ 32 }].all (fun r => !r.wellFormed) = true ∧
    [badOpening, { goodOpening with pre := [] }, { goodOpening with pre := [[], [], [], [bad0]] },
      { goodOpening with pre := [[], [], [], List.replicate 257 z0] }].all (fun r => !r.wellFormed) = true ∧
    [badSettled, { goodSettled with est := List.replicate 4 goodEst }, { goodSettled with est := [{ goodEst with signature := [] }] }].all (fun r => !r.wellFormed) = true ∧
    [badWave, { goodWave with fwd := -32769 }].all (fun r => !r.wellFormed) = true ∧
    badCard.wellFormed = false ∧
    [badCharter, { charterE1 with hfRule := 256 }, { charterE1 with check := 2 ^ 32 },
      { charterE1 with bands := charterE1.bands.map (fun b => { b with low := b.high + 1 }) }].all (fun c => !c.wellFormed) = true := by decide +kernel

/-! Every check of every command, by the operand that fails it. -/

theorem test_ill_formed_operands_1 : ([
    .slotBoundary 0 (List.replicate 9 0), .slotBoundary 0 [65536], .mainsEdgeCapture 0 (2 ^ 32) 0, .calSyncPulseReceived 0 (2 ^ 32) 0 0,
    .calSyncPulseReceived 0 0 (2 ^ 32) 0, .calSyncConflict 0 (2 ^ 32), .synthesizerHop 0 12 0 false 0 0, .synthesizerHop 0 0 0 false 64 0,
    .synthesizerHop 0 0 0 false 0 1024, .rampStart 0 12, .carrierAtSetPower 0 12, .cancellerSettled 0 48 [] [] [] [] [] [] [],
    .cancellerSettled 0 0 [32768] [] [] [] [] [] [], .cancellerSettled 0 0 [] [(0, 0)] [] [] [] [] [], .cancellerSettled 0 0 [] [] [(0, 0)] [] [] [] [], .cancellerSettled 0 0 [] [] [] [[0, 0, 0, 0]] [] [] [],
    .cancellerSettled 0 0 [] [] [] [] [0] [] [], .cancellerSettled 0 0 [] [] [] [] [] [0] [], .cancellerSettled 0 0 [] [] [] [] [] [] [(0, 0)], .cancellerShallow 0 48 [] [],
    .cancellerShallow 0 0 [badMove] [], .cancellerShallow 0 0 [] [badReading], .cancellerShallow 0 0 [] [goodReading], .synthesizerUnlock 0 12,
    .backgroundCalibration 0 12 0 0 false 0 0, .backgroundCalibration 0 0 64 0 false 0 0, .backgroundCalibration 0 0 0 48 false 0 0, .backgroundCalibration 0 0 0 0 false 64 0,
    .backgroundCalibration 0 0 0 0 false 0 1024, .powerLoopMeasurement 0 12 0, .powerLoopMeasurement 0 0 32768, .feedForwardRefresh 0 3 0,
    .feedForwardRefresh 0 0 65536, .powerShortfall 0 12 0, .powerShortfall 0 0 32768, .tunerStep 0 48 1 false 0,
    .tunerStep 0 0 0 false 0, .tunerStep 0 0 4 false 0, .tunerStep 0 0 1 false 65536, .mismatchTrip 0 48 goodWave] : List Instr).all (fun i => !i.wellFormed) = true := by decide +kernel

theorem test_ill_formed_operands_2 : ([
    .mismatchTrip 0 0 badWave, .hardShort 0 48 none, .hardShort 0 0 (some 65536), .paSupplyOutOfWindow 0 3 0,
    .paSupplyOutOfWindow 0 0 65536, .paSupplyBackInWindow 0 3 0, .paSupplyBackInWindow 0 0 65536, .rampAbandoned 0 12,
    .temperatureSample 0 32768 0 0, .temperatureSample 0 0 32768 0, .temperatureSample 0 0 0 32768, .portProbe 0 48 0 false 0,
    .portProbe 0 0 65536 false 0, .dwellLimit 0 12, .fusedCharterCheck 0 (2 ^ 32), .noiseSurveyDwell 0 12 (List.replicate 4 0),
    .noiseSurveyDwell 0 0 [], .noiseSurveyDwell 0 0 [32768, 0, 0, 0], .agcBlock 0 48 (List.replicate 8 z0) [], .agcBlock 0 0 [] [],
    .agcBlock 0 0 (bad0 :: List.replicate 7 z0) [], .agcBlock 0 0 (List.replicate 8 z0) [bad0], .isoSelect 0 12, .query 0 12,
    .queryadjust 0 12, .queryrep 0 12, .isoAck 0 12, .nak 0 12,
    .reqRn 0 12, .isoRead 0 12, .isoWrite 0 12, .kill 0 12,
    .lock 0 12, .access 0 12, .blockwrite 0 12, .blockerase 0 12,
    .blockpermalock 0 12, .untraceable 0 12, .authenticate 0 12 (zeros 10), .authenticate 0 0 (zeros 11)] : List Instr).all (fun i => !i.wellFormed) = true := by decide +kernel

theorem test_ill_formed_operands_3 : ([
    .hsbProbe 0 12, .hsbLoad 0 12, .hsbGroupack 0 12, .preambleDetected 0 12 goodHeard,
    .preambleDetected 0 0 badHeard, .coChannelHoldLimit 0 12, .detectionWithdrawn 0 12 [[], [], [], []] [[], [], [], []] [], .detectionWithdrawn 0 0 [] [[], [], [], []] [],
    .detectionWithdrawn 0 0 [[], [], [], [8192]] [[], [], [], []] [], .detectionWithdrawn 0 0 [[], [], [], []] [] [], .detectionWithdrawn 0 0 [[], [], [], []] [[], [], [], [8192]] [], .detectionWithdrawn 0 0 [[], [], [], []] [[], [], [], []] [bad0],
    .separationSettled 0 12 goodSettled, .separationSettled 0 0 badSettled, .replyDecision 0 12 goodAir, .replyDecision 0 0 badAir,
    .receiveWindowClose 0 12, .probeAnalysisDone 0 12 [[], [], [], []] [], .probeAnalysisDone 0 0 [] [], .probeAnalysisDone 0 0 [[], [], [], [bad0]] [],
    .probeAnalysisDone 0 0 [[], [], [], []] [bad0], .ldpcCodewordDone 0 4 [] [] [], .ldpcCodewordDone 0 0 [12] [] [], .ldpcCodewordDone 0 0 [] [[[], [], [], []]] [],
    .ldpcCodewordDone 0 0 [] [] [[]], .pseudonymResolved 0 16384 0, .pseudonymResolved 0 0 4096, .authenticationChecked 0 16384 false [],
    .provisionalLifetimeExpired 0 16384, .entryAgeOut 0 16384, .passStart 0 64, .passLimitReached 0 64,
    .resultTaken 0 12, .fifoEntryMoved 0 48, .capScan 0 (List.replicate 9 0), .capScan 0 (65536 :: List.replicate 7 0),
    .channelStuck 0 8, .hfServiceStart 0 8, .guardTimeExpiry 0 8, .reqa 0 8] : List Instr).all (fun i => !i.wellFormed) = true := by decide +kernel

theorem test_ill_formed_operands_4 : ([
    .wupa 0 8, .anticollision 0 8, .selectTypeA 0 8, .hlta 0 8,
    .reqb 0 8, .wupb 0 8, .slotMarker 0 8, .attrib 0 8,
    .hltb 0 8, .rats 0 8, .pps 0 8, .iBlock 0 8,
    .rAck 0 8, .rNak 0 8, .sWtx 0 8, .sDeselect 0 8,
    .inventory 0 8, .stayQuiet 0 8, .select15693 0 8, .resetToReady 0 8,
    .readSingleBlock 0 8, .readMultipleBlocks 0 8, .writeSingleBlock 0 8, .getSystemInformation 0 8,
    .cardReply 0 8 goodCard, .cardReply 0 0 badCard, .cardReplyTimeout 0 8, .stepTimeout 0 8,
    .hfFieldLoop 0 8 0 0, .hfFieldLoop 0 0 65536 0, .hfFieldLoop 0 0 0 65536, .hfPortFault 0 8 { value := 0, since := 0 },
    .hfPortFault 0 0 { value := 65536, since := 0 }, .hfPortProbe 0 8 0, .hfPortProbe 0 0 65536, .intervalBoundary 0 32,
    .recordsFormed 0 8, .batchPieceQueued 0 8, .redeliveryInterval 0 8, .retentionExpired 0 8] : List Instr).all (fun i => !i.wellFormed) = true := by decide +kernel

theorem test_ill_formed_operands_5 : ([
    .resyncMarkExpired 0 4096, .transactionExpired 0 (2 ^ 32), .storeAfterBoundaryRetry 0 (2 ^ 32), .event 0 8,
    .redeliveryTimeExpired 0 8, .halfOpenTimeout 0 (2 ^ 32), .sessionIdle 0 (2 ^ 32), .sessionLifetime 0 (2 ^ 32),
    .rotationSessionsEnd 0 8, .eraseDue 0 8, .trngHealthFailure 0 0, .trngHealthFailure 0 4,
    .arpRequest 0 (zeros 5), .dhcpv4Message 0 0 (zeros 4) (zeros 4) (zeros 4) (zeros 4) 0, .dhcpv4Message 0 9 (zeros 4) (zeros 4) (zeros 4) (zeros 4) 0, .dhcpv4Message 0 1 (zeros 5) (zeros 4) (zeros 4) (zeros 4) 0,
    .dhcpv4Message 0 1 (zeros 4) (zeros 5) (zeros 4) (zeros 4) 0, .dhcpv4Message 0 1 (zeros 4) (zeros 4) (zeros 5) (zeros 4) 0, .dhcpv4Message 0 1 (zeros 4) (zeros 4) (zeros 4) (zeros 5) 0, .dhcpv4Message 0 1 (zeros 4) (zeros 4) (zeros 4) (zeros 4) (2 ^ 32),
    .neighbourSolicitation 0 (zeros 17), .routerAdvertisement 0 (zeros 17) 0 [] 0, .routerAdvertisement 0 (zeros 16) 65536 [] 0, .routerAdvertisement 0 (zeros 16) 0 (zeros 1) 0,
    .routerAdvertisement 0 (zeros 16) 0 (zeros 1) 0, .routerAdvertisement 0 (zeros 16) 0 [] (2 ^ 32), .echoRequest 0 (zeros 5), .addressDuplicate 0 5,
    .addressRetry 0 5, .mdioPoll 0 (2 ^ 32) 0 0 0, .mdioPoll 0 0 65536 0 0, .mdioPoll 0 0 0 65536 0,
    .mdioPoll 0 0 0 0 65536, .spireTransferEnd 0 65536 (zeros 68), .spireTransferEnd 0 0 (zeros 69), .frameTransmitted 0 0 0,
    .frameTransmitted 0 3 0, .frameTransmitted 0 1 (2 ^ 32), .compareFire 0 16 0, .compareFire 0 0 2] : List Instr).all (fun i => !i.wellFormed) = true := by decide +kernel

theorem test_ill_formed_operands_6 : ([
    .capture 0 16 0 false, .capture 0 0 2 false, .prescaler 0 16, .timerReleased 0 16,
    .timerEventsSuppressed 0 16 0, .timerEventsSuppressed 0 0 2, .freezeExpired 0 (2 ^ 32), .stagedTimeDiscarded 0 (2 ^ 32),
    .crystalMeasurement 0 (2 ^ 32), .vbakMeasurement 0 65536, .backupDomainSupplyReturn 0 65536, .store 0 8 0 [],
    .store 0 0 8192 [], .store 0 0 0 (zeros 4065), .correctedWord 0 8192, .uncorrectablePage 0 8192,
    .mramScrub 0 8192, .scanComplete 0 (2 ^ 32) none, .coldBistPhase2Done 0 256 0, .coldBistPhase2Done 0 0 65536,
    .memorySlice 0 [(0, 72, 0, 0)] none, .logicSlice 0 12 false, .correctedMemoryError 0 4 0 0, .correctedMemoryError 0 0 (2 ^ 32) 0,
    .correctedMemoryError 0 0 0 72, .uncorrectableMemoryFault 0 4 0, .uncorrectableMemoryFault 0 0 (2 ^ 32), .vsysHeld 0 65536,
    .railTimeout 0 65536, .resetRelease 0 65536 0 0 0 [] [], .resetRelease 0 0 65536 0 0 [] [], .resetRelease 0 0 0 16 0 [] [],
    .resetRelease 0 0 0 0 65536 [] [], .resetRelease 0 0 0 0 0 [(8, 0)] [], .resetRelease 0 0 0 0 0 [] [(8, 0)], .vsysFall 0 65536,
    .railCollapse 0 0 0, .railCollapse 0 5 0, .railCollapse 0 1 65536, .hardThermalLimit 0 4 0] : List Instr).all (fun i => !i.wellFormed) = true := by decide +kernel

theorem test_ill_formed_operands_7 : ([
    .hardThermalLimit 0 0 32768, .thermalOffReading 0 32768 0 0 0, .thermalOffReading 0 0 32768 0 0, .thermalOffReading 0 0 0 32768 0,
    .thermalOffReading 0 0 0 0 32768, .vpaOutOfWindow 0 65536 0 0, .vpaOutOfWindow 0 0 65536 0, .vpaOutOfWindow 0 0 0 65536,
    .wake 0 0 0 0, .wake 0 6 0 0, .wake 0 1 8 0, .wake 0 1 0 65536,
    .receiveWindowOpen 0 badOpening, .rampDownComplete 0 12, .pseudonymWindowComputed 0 4096, .resyncSetComputed 0 4096,
    .reServeIntervalExpired 0 8, .ethernetFrameDiscarded 0 6, .addressAcquired 0 5, .vsysMeasurement 0 65536 0,
    .vsysMeasurement 0 0 32768, .charterWrittenByStation 0 badCharter, .cancellerSettled 0 0 [0] [(0, 0)] [(0, 0)] [[0, 0, 0]] [0] [0] [(0, 0)], .cancellerSettled 0 0 [0] [(0, 0)] [(0, 0)] [[32768, 0, 0, 0]] [0] [0] [(0, 0)],
    .cancellerSettled 0 0 [0] [(0, 0)] [(0, 0)] [[0, 0, 0, 0]] [65536] [0] [(0, 0)], .cancellerSettled 0 0 [0] [(0, 0)] [(0, 0)] [[0, 0, 0, 0]] [0] [65536] [(0, 0)], .ldpcCodewordDone 0 0 [0] [[]] [[]], .ldpcCodewordDone 0 0 [0] [[[], [], [], []]] [[bad0]]] : List Instr).all (fun i => !i.wellFormed) = true := by decide +kernel

theorem test_ill_formed_frames_1 : ([
    .hfRequestedState 0 badFrame, .hfReArm 0 badFrame, .requestedState 0 badFrame, .reArm 0 badFrame,
    .invalidateChannelMemory 0 badFrame, .forgetView 0 badFrame, .acknowledgeThrough 0 badFrame, .redeliverFrom 0 badFrame,
    .enrol 0 badFrame, .retire 0 badFrame, .resync 0 badFrame, .read 0 badFrame,
    .write 0 badFrame, .readBlock 0 badFrame, .txnOpen 0 badFrame, .txnStage 0 badFrame,
    .txnCommit 0 badFrame, .txnAbort 0 badFrame, .subscribe 0 badFrame, .ack 0 badFrame,
    .helloPhase1 0 badFrame, .helloPhase2 0 badFrame, .claim 0 badFrame, .reclaim 0 badFrame,
    .close 0 badFrame, .endSession 0 badFrame, .shadeOpened 0 badFrame, .rotateOwnerKey 0 badFrame,
    .erase 0 badFrame, .forcedErase 0 badFrame, .cancelForcedErase 0 badFrame, .ethernetEnable 0 badFrame,
    .spireLinkEnable 0 badFrame, .compareArm 0 badFrame, .triggerArm 0 badFrame, .forceOutput 0 badFrame,
    .secondsRead 0 badFrame, .centuryRead 0 badFrame, .stagedTimeWrite 0 badFrame, .timeCommit 0 badFrame] : List Instr).all (fun i => !i.wellFormed) = true := by decide +kernel

theorem test_ill_formed_frames_2 : ([
    .powerOffRequest 0 badFrame, .begin 0 badFrame, .data 0 badFrame, .verify 0 badFrame,
    .activateTrial 0 badFrame, .activateConfirm 0 badFrame, .compute 0 badFrame, .start 0 badFrame,
    .abort 0 badFrame, .startSweep 0 badFrame, .clear 0 badFrame, .freeze 0 badFrame,
    .release 0 badFrame, .snapshot 0 badFrame, .countersClear 0 badFrame, .enterFullOperation 0 badFrame,
    .enterStandby 0 badFrame, .enterDeepStandby 0 badFrame, .spreadOffFor 0 badFrame, .oapFrameDiscarded 0 badFrame] : List Instr).all (fun i => !i.wellFormed) = true := by decide +kernel

theorem test_well_formed_operands_1 : ([
    .slotBoundary 0 [], .mainsEdgeCapture 0 0 0, .calSyncPulseReceived 0 0 0 0, .calSyncConflict 0 0,
    .synthesizerHop 0 0 0 false 0 0, .rampStart 0 0, .carrierAtSetPower 0 0, .cancellerSettled 0 0 [] [] [] [] [] [] [],
    .cancellerShallow 0 0 [] [], .synthesizerUnlock 0 0, .backgroundCalibration 0 0 0 0 false 0 0, .powerLoopMeasurement 0 0 0,
    .feedForwardRefresh 0 0 0, .powerShortfall 0 0 0, .tunerStep 0 0 1 false 0, .mismatchTrip 0 0 goodWave,
    .hardShort 0 0 none, .paSupplyOutOfWindow 0 0 0, .paSupplyBackInWindow 0 0 0, .rampAbandoned 0 0,
    .temperatureSample 0 0 0 0, .portProbe 0 0 0 false 0, .dwellLimit 0 0, .fusedCharterCheck 0 0,
    .noiseSurveyDwell 0 0 (List.replicate 4 0), .agcBlock 0 0 (List.replicate 8 z0) [], .isoSelect 0 0, .query 0 0,
    .queryadjust 0 0, .queryrep 0 0, .isoAck 0 0, .nak 0 0,
    .reqRn 0 0, .isoRead 0 0, .isoWrite 0 0, .kill 0 0,
    .lock 0 0, .access 0 0, .blockwrite 0 0, .blockerase 0 0] : List Instr).all (fun i => i.wellFormed) = true := by decide +kernel

theorem test_well_formed_operands_2 : ([
    .blockpermalock 0 0, .untraceable 0 0, .authenticate 0 0 (zeros 10), .hsbProbe 0 0,
    .hsbLoad 0 0, .hsbGroupack 0 0, .preambleDetected 0 0 goodHeard, .coChannelHoldLimit 0 0,
    .detectionWithdrawn 0 0 [[], [], [], []] [[], [], [], []] [], .separationSettled 0 0 goodSettled, .replyDecision 0 0 goodAir, .receiveWindowClose 0 0,
    .probeAnalysisDone 0 0 [[], [], [], []] [], .ldpcCodewordDone 0 0 [] [] [], .pseudonymResolved 0 0 0, .authenticationChecked 0 0 false [],
    .provisionalLifetimeExpired 0 0, .entryAgeOut 0 0, .passStart 0 0, .passLimitReached 0 0,
    .resultTaken 0 0, .fifoEntryMoved 0 0, .capScan 0 (List.replicate 8 0), .channelStuck 0 0,
    .hfServiceStart 0 0, .guardTimeExpiry 0 0, .reqa 0 0, .wupa 0 0,
    .anticollision 0 0, .selectTypeA 0 0, .hlta 0 0, .reqb 0 0,
    .wupb 0 0, .slotMarker 0 0, .attrib 0 0, .hltb 0 0,
    .rats 0 0, .pps 0 0, .iBlock 0 0, .rAck 0 0] : List Instr).all (fun i => i.wellFormed) = true := by decide +kernel

theorem test_well_formed_operands_3 : ([
    .rNak 0 0, .sWtx 0 0, .sDeselect 0 0, .inventory 0 0,
    .stayQuiet 0 0, .select15693 0 0, .resetToReady 0 0, .readSingleBlock 0 0,
    .readMultipleBlocks 0 0, .writeSingleBlock 0 0, .getSystemInformation 0 0, .cardReply 0 0 goodCard,
    .cardReplyTimeout 0 0, .stepTimeout 0 0, .hfFieldLoop 0 0 0 0, .hfPortFault 0 0 { value := 0, since := 0 },
    .hfPortProbe 0 0 0, .hfRequestedState 0 goodFrame, .hfReArm 0 goodFrame, .requestedState 0 goodFrame,
    .reArm 0 goodFrame, .invalidateChannelMemory 0 goodFrame, .forgetView 0 goodFrame, .intervalBoundary 0 0,
    .recordsFormed 0 0, .batchPieceQueued 0 0, .acknowledgeThrough 0 goodFrame, .redeliverFrom 0 goodFrame,
    .redeliveryInterval 0 0, .retentionExpired 0 0, .enrol 0 goodFrame, .retire 0 goodFrame,
    .resync 0 goodFrame, .resyncMarkExpired 0 0, .read 0 goodFrame, .write 0 goodFrame,
    .readBlock 0 goodFrame, .txnOpen 0 goodFrame, .txnStage 0 goodFrame, .txnCommit 0 goodFrame] : List Instr).all (fun i => i.wellFormed) = true := by decide +kernel

theorem test_well_formed_operands_4 : ([
    .txnAbort 0 goodFrame, .transactionExpired 0 0, .storeAfterBoundaryRetry 0 0, .subscribe 0 goodFrame,
    .event 0 0, .ack 0 goodFrame, .redeliveryTimeExpired 0 0, .helloPhase1 0 goodFrame,
    .helloPhase2 0 goodFrame, .claim 0 goodFrame, .reclaim 0 goodFrame, .halfOpenTimeout 0 0,
    .sessionIdle 0 0, .sessionLifetime 0 0, .close 0 goodFrame, .endSession 0 goodFrame,
    .shadeOpened 0 goodFrame, .rotateOwnerKey 0 goodFrame, .rotationSessionsEnd 0 0, .erase 0 goodFrame,
    .forcedErase 0 goodFrame, .cancelForcedErase 0 goodFrame, .eraseDue 0 0, .trngHealthFailure 0 1,
    .arpRequest 0 (zeros 4), .dhcpv4Message 0 1 (zeros 4) (zeros 4) (zeros 4) (zeros 4) 0, .neighbourSolicitation 0 (zeros 16), .routerAdvertisement 0 (zeros 16) 0 [] 0,
    .echoRequest 0 (zeros 4), .addressDuplicate 0 4, .addressRetry 0 4, .mdioPoll 0 0 0 0 0,
    .ethernetEnable 0 goodFrame, .spireLinkEnable 0 goodFrame, .spireTransferEnd 0 0 (zeros 68), .frameTransmitted 0 1 0,
    .compareFire 0 0 0, .capture 0 0 0 false, .compareArm 0 goodFrame, .triggerArm 0 goodFrame] : List Instr).all (fun i => i.wellFormed) = true := by decide +kernel

theorem test_well_formed_operands_5 : ([
    .forceOutput 0 goodFrame, .prescaler 0 0, .timerReleased 0 0, .timerEventsSuppressed 0 0 0,
    .secondsRead 0 goodFrame, .centuryRead 0 goodFrame, .freezeExpired 0 0, .stagedTimeWrite 0 goodFrame,
    .stagedTimeDiscarded 0 0, .timeCommit 0 goodFrame, .crystalMeasurement 0 0, .vbakMeasurement 0 0,
    .powerOffRequest 0 goodFrame, .backupDomainSupplyReturn 0 0, .store 0 0 0 [], .correctedWord 0 0,
    .uncorrectablePage 0 0, .mramScrub 0 0, .begin 0 goodFrame, .data 0 goodFrame,
    .verify 0 goodFrame, .activateTrial 0 goodFrame, .activateConfirm 0 goodFrame, .compute 0 goodFrame,
    .start 0 goodFrame, .abort 0 goodFrame, .scanComplete 0 0 none, .coldBistPhase2Done 0 0 0,
    .startSweep 0 goodFrame, .memorySlice 0 [] none, .logicSlice 0 0 false, .correctedMemoryError 0 0 0 0,
    .uncorrectableMemoryFault 0 0 0, .clear 0 goodFrame, .freeze 0 goodFrame, .release 0 goodFrame,
    .snapshot 0 goodFrame, .countersClear 0 goodFrame, .vsysHeld 0 0, .railTimeout 0 0] : List Instr).all (fun i => i.wellFormed) = true := by decide +kernel

theorem test_well_formed_operands_6 : ([
    .resetRelease 0 0 0 0 0 [] [], .vsysFall 0 0, .railCollapse 0 1 0, .hardThermalLimit 0 0 0,
    .thermalOffReading 0 0 0 0 0, .vpaOutOfWindow 0 0 0 0, .enterFullOperation 0 goodFrame, .enterStandby 0 goodFrame,
    .enterDeepStandby 0 goodFrame, .wake 0 1 0 0, .spreadOffFor 0 goodFrame, .receiveWindowOpen 0 goodOpening,
    .rampDownComplete 0 0, .pseudonymWindowComputed 0 0, .resyncSetComputed 0 0, .reServeIntervalExpired 0 0,
    .oapFrameDiscarded 0 goodFrame, .ethernetFrameDiscarded 0 0, .addressAcquired 0 4, .vsysMeasurement 0 0 0,
    .charterWrittenByStation 0 charterE1, .cancellerSettled 0 0 [0] [(0, 0)] [(0, 0)] [[0, 0, 0, 0]] [0] [0] [(0, 0)], .ldpcCodewordDone 0 0 [0] [[[], [], [], []]] [[]]] : List Instr).all (fun i => i.wellFormed) = true := by decide +kernel


/-! ### A module at work -/

/-- Objects set one after the other. -/
def put (s : State) (l : List (Nat × Nat × Int)) : State := l.foldl (fun st e => st.set e.1 e.2.1 e.2.2) s

/-- The dictionary of a module at work: HSB windows of shade 1 over every quad in the first two cycles, shade 1 open with all ports and 100 places
of queue, ports U00 to U07 enabled. -/
def dAir : List (Nat × Val) :=
  [(key 0x1100 2, .num 1), (key 0x1310 1, .num 2), (key 0x1310 9, .num 100), (key 0x1311 1, .num 2), (key 0x1311 6, .num 0xFFFFFFFFFFFF),
   (key 0x1311 7, .num 0xFF), (key 0x1311 9, .num 100)] ++
  (List.range 32).map (fun i => (key 0x1B10 (i + 1), .num (2 * 2 ^ 30 + 2 ^ 27 + 0xFFF))) ++
  (List.range 8).map (fun p => (key (0x2100 + p) 1, .num 1)) ++ [(key 0x3300 1, .num 1), (key 0x3310 1, .num 0xFF)]

/-- A module whose dictionary is reachable and whose RF is ready, at the beginning of slot 1. -/
def sAir : State :=
  { r0 with
      dict := dAir, belfry := { belfryAtReset with slots := 1, phase := 2 ^ 44 }
      power := { powerAtReset with reachable := true, rfPending := false, paBias := true, phase2Done := true, phase2Passed := true }
      ports := r0.ports.map (fun p => { p with enabled := true })
      hfPorts := r0.hfPorts.map (fun p => { p with enabled := true }) }

/-- A step of a plan: kind, flags and bytes 2 to 15. -/
def step16 (kind flags : Nat) (rest : List Nat) : Val := .oct (fit 16 ([byte kind, byte flags] ++ rest.map byte))

/-- The module with plan 0 of shade 1: an inventory and a Read step, at +30 dBm, its pass running. -/
def sPlan : State :=
  let s := put sAir [(0x3000, 1, 1), (0x3000, 2, 1), (0x3000, 4, 0xFFFFFFFFFFFF)]
  { s with
    dict := NMap.put (NMap.put s.dict (key 0x3000 26) (step16 1 0 [0, 0, 4])) (key 0x3000 27) (step16 2 0 [1, 0, 0, 0, 1, 1])
    plans := tmod s.plans 0 (fun p => { p with running := true, due := some 0 }) }

/-- Quad 0 with the plan, hopped to list index 0. -/
def sHopped : State :=
  (sPlan.modTx 0 (fun x => { x with index := some 0, hopped := true })).modSeq 0 (fun x => { x with plan := some 0, port := 0, shade := 1, state := 1 })

/-- Quad 0 with its carrier at the set power on port U00. -/
def sOn : State := (put sHopped [(0x2200, 1, 3), (0x2200, 2, 114), (0x2200, 3, 0), (0x2200, 4, 3000)]).modTx 0 (fun x => { x with
  carrier := 2, port := 0, dwells := [{ index := 0, start := 0, stop := none }] })

/-! ### Steps and the Belfry -/

theorem witness_StepRunsTheFrontCommand : r0.pending = [] ∧ step r0 = .next r0 := ⟨rfl, rfl⟩

theorem witness_StepsAnswerAndKeepTheQueue :
    exec (.resetNRise 7) { r0 with pending := [.cxActFalls 9] } = .next (after (.resetNRise 7) { r0 with pending := [.cxActFalls 9] }) ∧
    (after (.resetNRise 7) { r0 with pending := [.cxActFalls 9] }).pending = [.cxActFalls 9] := ⟨rfl, rfl⟩

/-- A state whose dictionary lists an object. -/
def sCounted : State := r0.set 0x1B00 12 1

theorem witness_EveryStepKeepsTheShape : sCounted.Inv ∧ sCounted.dict ≠ [] ∧ step sCounted = .next sCounted :=
  ⟨⟨by constructor <;> decide +kernel, by decide +kernel, by decide +kernel, by decide +kernel⟩, by decide +kernel, rfl⟩

/-- One edge short of a capture, 20 ms periods of 50 Hz after the capture before it. -/
def sEdge : State := { r0 with belfry := { belfryAtReset with lastCapture := some 1000, edges := 40 } }

/-- Deep standby. -/
def sDeep : State := { r0 with power := { r0.power with mode := 2 } }

theorem witness_EdgesAreRejectedOrCaptured :
    (r0.power.mode ≠ 2 ∧ (after (.mainsSenseEdgeRejected 5) r0).nat 0x1B00 12 = 1 ∧ (after (.mainsSenseEdgeRejected 5) sDeep).nat 0x1B00 12 = 0) ∧
    (sEdge.power.mode ≠ 2 ∧ sEdge.nat 0x1B00 1 ≠ 2 ∧ sEdge.nat 0x1B01 3 ≤ sEdge.belfry.edges + 1 ∧ sEdge.belfry.lastCapture = some 1000 ∧
      (after (.mainsEdgeCapture (1000 + ms 20 * r0.nat 0x1B01 3) 114532461 0) sEdge).nat 0x1B00 7 = 5000) := by decide +kernel

/-- A tracker whose last accepted edge lies at tick 0, on its own mains. -/
def sMains : State := ({ r0 with belfry := { belfryAtReset with lastEdge := some 0, estimate := true } } : State).set 0x1B00 2 0

/-- A follower on CAL_SYNC, and one half a frame away from the pulse. -/
def sFollower : State := (r0.set 0x1B02 4 2).set 0x1B00 2 2
def sSlip : State := { sFollower with belfry := { sFollower.belfry with hadCalSync := true, phase := 2 ^ 50 } }

/-- A leader. -/
def sLeader : State := r0.set 0x1B02 4 1

theorem witness_LostSourcesAreReplaced :
    (sMains.power.mode ≠ 2 ∧ sMains.nat 0x1B00 1 ≠ 2 ∧
      peak (sMains.belfry.lastEdge.getD sMains.power.releaseTick) sMains.belfry.wakeTick + (sMains.nat 0x1B01 3 + 2) * sMains.nominalPeriod ≤
        peak sMains.now (sec 1) ∧ sMains.nat 0x1B00 2 = 0 ∧ sFollower.nat 0x1B00 2 ≠ 0 ∧
      (after (.mainsLost (sec 1)) sMains).nat 0x1B00 2 = 1 ∧ (after (.mainsLost (sec 1)) sMains).belfry.estimate = false) ∧
    (sFollower.power.mode ≠ 2 ∧ sFollower.role = 2 ∧ sFollower.nat 0x1B00 2 = 2 ∧
      16 * 2 ^ 48 * 1000 ≤ (peak sFollower.now (sec 1) - peak sFollower.belfry.lastPulse sFollower.belfry.wakeTick) * sFollower.belfry.rateK ∧
      (after (.calSyncLost (sec 1)) sFollower).nat 0x1B00 2 = 3) ∧
    (sLeader.power.mode ≠ 2 ∧ sLeader.role = 1 ∧ sLeader.belfry.pulseEnd ≤ peak sLeader.now 5 ∧ (after (.calSyncConflict 5 50) sLeader).role = 0) ∧
    (sFollower.power.released = true ∧ sSlip.role = 2 ∧ sSlip.power.released = true ∧
      (after (.calSyncPulseReceived 9 999 114532461 0) sFollower).nat 0x1B00 12 = 1 ∧
      (after (.calSyncPulseReceived 9 10001 114532461 0) sFollower).nat 0x1B00 12 = 1 ∧
      sFollower.belfry.hadCalSync = false ∧ (after (.calSyncPulseReceived 9 1000 114532461 0) sFollower).nat 0x1B00 11 = 0 ∧
      (after (.calSyncPulseReceived 9 10000 114532461 0) sFollower).nat 0x1B00 11 = 1 ∧
      (after (.calSyncPulseReceived 9 4000 114532461 0) sFollower).belfry.noWindow = false ∧
      sSlip.belfry.hadCalSync = true ∧ 2 ^ 44 < (sSlip.at 9).frameAt ((sSlip.at 9).pulseBoundary 1000) ∧
      (sSlip.at 9).frameAt ((sSlip.at 9).pulseBoundary 1000) < 2 ^ 51 - 2 ^ 44 ∧
      (after (.calSyncPulseReceived 9 1000 114532461 0) sSlip).belfry.noWindow = true ∧
      (after (.calSyncPulseReceived 9 1000 114532461 0) sSlip).nat 0x1B00 2 = 2) ∧
    (sDeep.power.mode = 2 ∧ (after (.mainsLost (sec 9)) sDeep).nat 0x1B00 1 = 0) := by decide +kernel

/-! ### UHF transmit -/

/-- Quad 0 ready to hop: before a cold hop that follows a failed calibration, and with a valid entry. -/
def sHop : State := (sPlan.modTx 0 (fun x => { x with index := some 0, coldFails := 1 })).modSeq 0 (fun x => { x with plan := some 0, port := 0, shade := 1, state := 1 })
def sWarm : State := sHop.modChan 0 0 (fun e => { e with synthValid := true, calTemp := 250 })
def sHop0 : State := sHop.modTx 0 (fun x => { x with coldFails := 0 })

/-- The state that `HopsCalibrationsAndChannelMemory` names. -/
def hopped (s : State) (t q : Nat) : State := (if (s.tx q).index.isSome && !(s.at t).hopServes q then (s.at t).dropHop q else s.at t).assignHop q

/-- A quad faulted by calibrations, its ports with cause 4, the first with cause 1 before that; and one that failed once. -/
def sCold : State :=
  ((put r0 [(0x2100, 3, 4), (0x2101, 3, 4)]).modTx 0 (fun x => { x with faulted := true, coldFails := 2 })).modPort 0 (fun p => { p with causeBefore := 1 })
def sOnce : State := r0.modTx 0 (fun x => { x with coldFails := 1 })

theorem witness_HopsCalibrationsAndChannelMemory :
    ([sHop, sHop0, sWarm].all (fun s => decide (s.quads.length = 12) && !s.carrierOn 0 && !(s.tx 0).faulted && s.power.paBias && !s.inSafe &&
        !(s.tx 0).hopped && decide (((hopped s 9 0).seq 0).plan = some 0) && !((hopped s 9 0).tx 0).hopped &&
        decide (((hopped s 9 0).tx 0).index.or ((hopped s 9 0).chooseChannel 0 ((hopped s 9 0).seq 0).shade ((hopped s 9 0).planModulation 0) 0) = some 0)) = true ∧
      (hopped sHop 9 0).coldReason 0 (entryNo 0 0) ≠ 0 ∧ (hopped sWarm 9 0).coldReason 0 (entryNo 0 0) = 0 ∧
      ((after (.synthesizerHop 9 0 0 true 70 1025) sHop).chan 0 0).map (fun e => (e.synthValid, e.vcoBand, e.capCode)) = some (true, 6, 1) ∧
      ((after (.synthesizerHop 9 0 0 true 70 1025) sHop).tx 0).hopped = true ∧
      ((after (.synthesizerHop 9 0 0 false 70 1025) sHop).tx 0).faulted = true ∧ (after (.synthesizerHop 9 0 0 false 70 1025) sHop).nat 0x2103 3 = 4 ∧
      ((after (.synthesizerHop 9 0 0 false 70 1025) sHop0).tx 0).coldFails = 1 ∧ ((after (.synthesizerHop 9 0 0 false 70 1025) sHop0).tx 0).faulted = false ∧
      ((after (.synthesizerHop 9 0 0 false 70 1025) sWarm).tx 0).hopped = true ∧
      (after (.synthesizerHop 9 0 0 false 70 1025) sHop).outside [.radio] = sHop.outside [.radio]) ∧
    (sCold.quads.length = 12 ∧ sCold.carrierOn 0 = false ∧ (sCold.tx 0).hopped = false ∧ (sCold.tx 0).survey = none ∧ (sCold.at 9).sliceDue 0 = false ∧
      7 < sCold.channels.length ∧ (sCold.tx 0).faulted = true ∧ sOnce.coldPart 0 (entryNo 7 3) ≠ 0 ∧
      (after (.backgroundCalibration 9 0 7 3 true 1 2) sCold).nat 0x2100 3 = 1 ∧ (after (.backgroundCalibration 9 0 7 3 true 1 2) sCold).nat 0x2101 3 = 0 ∧
      ((after (.backgroundCalibration 9 0 7 3 true 1 2) sCold).tx 0).faulted = false ∧
      (after (.backgroundCalibration 9 0 7 3 false 1 2) sOnce).nat 0x2102 3 = 4) ∧
    (sWarm.quads.length = 12 ∧ sWarm.power.mode ≠ 2 ∧ sWarm.store.chanTick + sec 600 ≤ sec 600 ∧ sWarm.dirtyPages ≠ [] ∧ sWarm.supplyStable = true ∧
      ((after (.channelMemoryWrite (sec 600)) sWarm).tx 0).dirty = [] ∧
      (after (.channelMemoryWrite (sec 600)) { sWarm with power := { sWarm.power with vsys := 4700 } }).nat 0x1600 5 = 1) ∧
    (sDeep.power.mode = 2 ∧ peak sWarm.now (sec 600 - 1) < sWarm.store.chanTick + sec 600) := by decide +kernel

/-- Quad 0 during its rise, and during its fall. -/
def sRise : State := after (.rampStart 0 0) sHopped
def sFall : State := sOn.modTx 0 (fun x => { x with carrier := 4, rampTick := 0 })

theorem witness_RampsStartAndEnd :
    (((sHopped.at 0).tx 0).carrier = 0 ∧ ((sHopped.at 0).tx 0).hopped = true ∧ ((sHopped.at 0).tx 0).faulted = false ∧ (sHopped.at 0).power.paBias = true ∧
      ((sHopped.at 0).bank 0).inWindow = true ∧ (sHopped.at 0).atStagger 0 = true ∧ (sHopped.at 0).actPermits = true ∧ (sHopped.at 0).requested = true ∧
      ((sHopped.at 0).seq 0).plan = some 0 ∧ ((sHopped.at 0).tx 0).index = some 0 ∧ (sHopped.at 0).gateOpen 0 = true ∧ (sHopped.at 0).fifoRoom 0 = true ∧
      ((sHopped.at 0).takeCredit ((sHopped.at 0).seq 0).shade ((sHopped.at 0).slotCredits 0 { inventory := 0, access := [1] })).1 = true ∧
      (sHopped.at 0).nextGroup 0 0 = some { inventory := 0, access := [1] } ∧ (sHopped.at 0).bandOf ((sHopped.at 0).channelAt 0) = some 0 ∧
      (sHopped.at 0).workFits 0 ((sHopped.at 0).now + (sHopped.at 0).riseWorst 0 0 0 { inventory := 0, access := [1] }) = true ∧
      (sRise.tx 0).carrier = 1 ∧ sRise.int 0x2200 4 = 2900 ∧ sRise.nat 0x2200 8 = (sHopped.at 0).bindingLimit 1 0 0 3000 ∧
      sRise.outside [.radio, .tags] = sHopped.outside [.radio, .tags] ∧ sameObj sHopped sRise (fun i => i == 0x2200) = true) ∧
    ((sRise.tx 0).carrier = 1 ∧ (sRise.tx 0).rampTick + (sRise.rampTicks 0 - (sRise.tx 0).ramped) ≤ us 100 ∧
      5 < (sRise.tx 0).rampTick + (sRise.rampTicks 0 - (sRise.tx 0).ramped) ∧ (sRise.seq 0).plan = some 0 ∧
      ((after (.carrierAtSetPower (us 100) 0) sRise).tx 0).carrier = 2 ∧ (after (.carrierAtSetPower (us 100) 0) sRise).nat 0x2133 3 = 2 ∧
      ((after (.carrierAtSetPower 5 0) sRise).tx 0).carrier = 1 ∧
      (after (.carrierAtSetPower (us 100) 0) sRise).outside [.radio] = sRise.outside [.radio]) ∧
    ((sFall.tx 0).carrier = 4 ∧ (sFall.tx 0).rampTick + sFall.rampTicks 0 ≤ us 100 ∧ 5 < (sFall.tx 0).rampTick + sFall.rampTicks 0 ∧
      (after (.rampDownComplete (us 100) 0) sFall).carrierOn 0 = false ∧ (after (.rampDownComplete (us 100) 0) sFall).nat 0x2200 2 = 0xFFFF ∧
      (after (.rampDownComplete (us 100) 0) sFall).outside [.radio, .pins] = sFall.outside [.radio, .pins] ∧
      sameObj sFall (after (.rampDownComplete (us 100) 0) sFall) (quadObject 0) = true) := by decide +kernel

/-- Bank 0 with its supply out of its window, and a ramp held since tick 5. -/
def sLow : State := after (.paSupplyOutOfWindow 5 0 10999) sRise

theorem witness_PaSupplyHoldsRamps :
    (sRise.banks.length = 3 ∧ (sRise.bank 0).inWindow = true ∧ (sLow.tx 0).carrier = 3 ∧ sLow.nat 0x2060 8 = setBit (sRise.nat 0x2060 8) 0 false ∧
      ((after (.paSupplyOutOfWindow 5 0 11000) sRise).tx 0).carrier = 1 ∧ ((after (.paSupplyOutOfWindow 5 0 13001) sRise).tx 0).carrier = 3) ∧
    (sLow.banks.length = 3 ∧ (sLow.bank 0).inWindow = false ∧ (sLow.bank 0).outTick + us 2 < peak sLow.now (6 + us 2) ∧
      ((after (.paSupplyBackInWindow (6 + us 2) 0 13000) sLow).tx 0).carrier = 1 ∧ ((after (.paSupplyBackInWindow (5 + us 2) 0 13000) sLow).tx 0).carrier = 3 ∧
      (after (.paSupplyBackInWindow (6 + us 2) 0 13000) sLow).nat 0x2060 8 = sRise.nat 0x2060 8) ∧
    ((sLow.tx 0).heldTick + us 200 ≤ 5 + us 200 ∧ 4 + us 200 < (sLow.tx 0).heldTick + us 200 ∧
      (after (.rampAbandoned (5 + us 200) 0) sLow).carrierOn 0 = false ∧ (after (.rampAbandoned (5 + us 200) 0) sLow).nat 0x2200 14 = 1 ∧
      (after (.rampAbandoned (4 + us 200) 0) sLow).carrierOn 0 = true) := by decide +kernel

theorem witness_UnlockAndDwellEndTheCarrier :
    (sOn.carrierOn 0 = true ∧ (after (.synthesizerUnlock 7 0) sOn).carrierOn 0 = false ∧
      ((after (.synthesizerUnlock 7 0) sOn).tx 0).coldNext = [0] ∧
      (after (.synthesizerUnlock 7 0) sOn).outside [.radio, .tags, .pins] = sOn.outside [.radio, .tags, .pins] ∧
      sameObj sOn (after (.synthesizerUnlock 7 0) sOn) (quadObject 0) = true) ∧
    ((sOn.tx 0).index = some 0 ∧ fits ((sOn.at (sec 4)).now + 1) ((sOn.at (sec 4)).dwellEnd 0 0) = false ∧
      fits ((sOn.at (sec 4 - 1)).now + 1) ((sOn.at (sec 4 - 1)).dwellEnd 0 0) = true ∧
      (after (.dwellLimit (sec 4) 0) sOn).carrierOn 0 = false ∧ ((after (.dwellLimit (sec 4) 0) sOn).tx 0).reuse = [(0, sec 4 + ms 100)]) := by
  decide +kernel

/-- Port U00 faulted, its probe due, its quad idle. -/
def sFaulted : State :=
  put ({ sPlan with now := sec 60, belfry := { sPlan.belfry with tick := sec 60, slotTick := sec 60 } } : State) [(0x2100, 3, 1)]

theorem witness_PortsFaultAndClear :
    (sOn.transmits 0 = true ∧ tripVswr (sOn.inForce.nat 0x2100 9) < hardVswr - 1 ∧
      (after (.mismatchTrip 7 0 { vswr := tripVswr (sOn.nat 0x2100 9) + 1, fwd := 1000 }) sOn).nat 0x2100 3 = 1 ∧
      (after (.mismatchTrip 7 0 { vswr := tripVswr (sOn.nat 0x2100 9) + 1, fwd := 999 }) sOn).nat 0x2100 3 = 0 ∧
      (after (.mismatchTrip 7 0 { vswr := tripVswr (sOn.nat 0x2100 9), fwd := 1000 }) sOn).nat 0x2100 3 = 0 ∧
      (after (.mismatchTrip 7 0 { vswr := hardVswr - 1, fwd := 999 }) sOn).nat 0x2100 3 = 0 ∧ (after (.mismatchTrip 7 0 { vswr := hardVswr, fwd := 999 }) sOn).nat 0x2100 3 = 2) ∧
    ((after (.hardShort 7 0 (some 900)) sOn).nat 0x2100 3 = 2 ∧ (after (.hardShort 7 0 (some 899)) sOn).nat 0x2100 3 = 0 ∧
      (after (.hardShort 7 0 none) sOn).nat 0x2100 3 = 3 ∧ (after (.hardShort 7 0 none) sOn).nat 0x2100 15 = 1) ∧
    (sFaulted.quads.length = 12 ∧ (sFaulted.at (sec 60)).actual 0 = 3 ∧ (sFaulted.at (sec 60)).nat 0x2100 3 = 1 ∧
      ((sFaulted.at (sec 60)).port 0).probeTick + sec ((sFaulted.at (sec 60)).nat 0x2100 14) ≤ (sFaulted.at (sec 60)).now ∧
      (sFaulted.at (sec 60)).carrierOn 0 = false ∧ ((sFaulted.at (sec 60)).tx 0).faulted = false ∧ (sFaulted.at (sec 60)).power.paBias = true ∧
      (sFaulted.at (sec 60)).inWindow 0 = true ∧
      (sFaulted.at (sec 60)).guardPassed 0 = true ∧ (sFaulted.at (sec 60)).atStagger 0 = true ∧ (sFaulted.at (sec 60)).granted = true ∧
      (sFaulted.at (sec 60)).requested = true ∧ (sFaulted.at (sec 60)).actPermits = true ∧
      ((sFaulted.at (sec 60)).bank 0).inWindow = true ∧ (sFaulted.at (sec 60)).chooseFrom 0 ((sFaulted.at (sec 60)).inForce.probeSet 0) 0 = some 0 ∧
      fits (sec 60 + us 50) ((sFaulted.at (sec 60)).windowEnd 0) = true ∧ fits (sec 60 + us 50) ((sFaulted.at (sec 60)).dwellEnd 0 0) = true ∧
      (after (.portProbe (sec 60) 0 (clearVswr (sFaulted.nat 0x2100 9)) false 0) sFaulted).nat 0x2100 4 = 1 ∧
      (after (.portProbe (sec 60) 0 (clearVswr (sFaulted.nat 0x2100 9) + 1) false 0) sFaulted).nat 0x2100 4 = sFaulted.nat 0x2100 4 ∧
      (after (.portProbe (sec 60) 0 (tripVswr (sFaulted.nat 0x2100 9) + 1) false 0) sFaulted).nat 0x2100 15 = 1 ∧
      (after (.portProbe (sec 60) 0 hardVswr false 0) sFaulted).nat 0x2100 3 = 2 ∧ (after (.portProbe (sec 60) 0 100 true 0) sFaulted).nat 0x2100 3 = 3 ∧
      sameObj sFaulted (after (.portProbe (sec 60) 0 180 false 0) sFaulted) (fun i => i == 0x2100 || i == 0x2200) = true) := by decide +kernel

/-- Quad 0 on an unmodulated carrier between slots, its port settled, and one short of power since tick 0. -/
def sIdle : State := put sOn [(0x2130, 2, 2)]
def sShort : State := sIdle.modTx 0 (fun x => { x with short := some (0, false) })

theorem witness_PowerLoopsStep :
    ((sIdle.at (us 2)).unmodulated 0 = true ∧ sIdle.quads.length = 12 ∧ (sIdle.tx 0).loopTick + us 2 ≤ us 2 ∧
      (after (.powerLoopMeasurement (us 2) 0 2900) sIdle).int 0x2200 5 = 2900 ∧
      (after (.powerLoopMeasurement (us 2 - 1) 0 2900) sIdle).int 0x2200 5 = sIdle.int 0x2200 5) ∧
    (sIdle.banks.length = 3 ∧ (sIdle.bank 2).ffTick + us 100 ≤ us 100 ∧ ((after (.feedForwardRefresh (us 100) 2 11900) sIdle).bank 2).ffSupply = 11900 ∧
      ((after (.feedForwardRefresh (us 100 - 1) 2 11900) sIdle).bank 2).ffTick = 0) ∧
    ((sShort.tx 0).carrier = 2 ∧ (sShort.tx 0).short = some (0, false) ∧ 0 + us 20 < peak sShort.now (us 20 + 1) ∧ (2949 : Int) < sShort.int 0x2200 4 - 50 ∧
      (after (.powerShortfall (us 20 + 1) 0 2949) sShort).nat 0x2200 12 = 1 ∧ (after (.powerShortfall (us 20 + 1) 0 2950) sShort).nat 0x2200 12 = 0) ∧
    (sIdle.ports.length = 48 ∧ sIdle.nat 0x2100 10 = 0 ∧ (sIdle.at (us 20)).unmodulated 0 = true ∧ (sIdle.seq 0).state ≤ 2 ∧ (sIdle.at (us 20)).rxState 0 = 2 ∧
      (sIdle.port 0).tunerTick + us 20 ≤ us 20 ∧ sIdle.nat 0x2100 11 < 2 ^ 18 ∧ (put sIdle [(0x2100, 10, 1)]).nat 0x2100 10 ≠ 0 ∧
      tunerCode ((after (.tunerStep (us 20) 0 3 true 150) sIdle).nat 0x2100 11) 3 = tunerCode (sIdle.nat 0x2100 11) 3 + 1 ∧
      (after (.tunerStep (us 20) 0 3 true 150) (put sIdle [(0x2100, 11, 2 ^ 18 - 1)])).nat 0x2100 16 = 1) := by decide +kernel

/-- A charter whose stored check value is 77. -/
def sCharter : State := { r0 with fuses := { r0.fuses with charter := { charterE1 with check := 77 } } }
def sUncharted : State := { r0 with fuses := { ordering := 2, charterState := 0, charter := charterG1, written := none } }

theorem witness_TemperaturesAndCharterAreChecked :
    (sOn.banks.length = 3 ∧ (after (.temperatureSample 5 1250 200 200) sOn).inSafe = true ∧ bitOf (sOn.nat 0x1110 2) 3 = false ∧ sOn.inSafe = false ∧
      bitOf ((after (.temperatureSample 5 1250 200 200) sOn).nat 0x1110 2) 3 = true ∧
      (after (.temperatureSample 5 1249 200 200) sOn).inSafe = false ∧
      bitOf ((after (.temperatureSample 9 1149 0 0) (after (.temperatureSample 5 1250 200 200) sOn)).nat 0x1110 2) 3 = false ∧
      ((after (.temperatureSample 5 (sOn.int 0x2060 1 + 1) 0 0) sOn).bank 0).derating = true) ∧
    (sCharter.power.charterChecked = false ∧ sCharter.fuses.charterState = 1 ∧ (76 : Nat) ≠ sCharter.fuses.charter.check ∧ sCharter.inSafe = false ∧
      (after (.fusedCharterCheck 5 76) sCharter).fuses.charterState = 2 ∧ (after (.fusedCharterCheck 5 76) sCharter).nat 0x1110 3 = 16 ∧
      (after (.fusedCharterCheck 5 77) sCharter).inSafe = false ∧ (after (.fusedCharterCheck 5 77) sCharter).power.charterChecked = true) ∧
    (sUncharted.fuses.ordering = 2 ∧ sUncharted.fuses.charterState = 0 ∧ sUncharted.fuses.written = none ∧ charterFits charterU1 = true ∧
      (after (.charterWrittenByStation 5 charterU1) sUncharted).fuses.written = some charterU1) := by
  decide +kernel

/-- Coexistence enabled under actions 1 and 2, with CX_REQ high and waiting since tick 0; the line granted; and granted under action 0. -/
def sCx : State := put { sOn with pins := { sOn.pins with cxReq := true }, coex := { reqTick := 0, waiting := true } }
  [(0x2300, 1, 1), (0x2300, 4, 1), (0x2300, 5, 2)]
def sCxGranted : State := after (.cxGntChange 5 true) sCx
def sCxAfter : State := put sCxGranted [(0x2300, 4, 0), (0x2300, 5, 1)]

theorem witness_CoexistenceLines :
    ((put sAir [(0x2300, 1, 1)]).flag 0x2300 1 = true ∧ sAir.pins.cxReq = false ∧ sAir.power.released = true ∧ sAir.power.resetLow = false ∧
      sAir.power.refclkLost = false ∧ sAir.inSafe = false ∧ (after (.cxReqRaised 5) (put sAir [(0x2300, 1, 1)])).pins.cxReq = true) ∧
    (sCx.pins.cxGnt = false ∧ sCxGranted.pins.cxGnt = true ∧ sCxGranted.coex.waiting = false) ∧
    (sCxGranted.quads.length = 12 ∧ sCxGranted.flag 0x2300 1 = true ∧ sCxGranted.emitting ≠ 0 ∧ sCxGranted.nat 0x2300 4 = 1 ∧
      (after (.cxGntChange 9 false) sCxGranted).emitting = 0 ∧ (after (.cxGntChange 9 false) sCxGranted).nat 0x2300 8 = 1 ∧
      sCxAfter.nat 0x2300 4 ≠ 1 ∧ ((after (.cxGntChange 9 false) sCxAfter).tx 0).carrier = 4 ∧
      ((after (.cxGntChange 9 false) (sCxAfter.modSeq 0 (fun x => { x with state := 2 }))).seq 0).offNow = true ∧
      (after (.cxGntChange 9 false) (sCxAfter.modTx 0 (fun x => { x with carrier := 3 }))).carrierOn 0 = false) ∧
    (sCx.flag 0x2300 1 = true ∧ sCx.pins.cxReq = true ∧ sCx.coex.waiting = true ∧ sCx.coex.reqTick + ms (sCx.nat 0x2300 3) ≤ ms 100 ∧
      (after (.grantWaitExpired (ms 100)) sCx).pins.cxReq = false) ∧
    (sCx.pins.cxAct = false ∧ sCx.nat 0x2300 5 = 2 ∧ sCxAfter.nat 0x2300 5 = 1 ∧ sOn.nat 0x2300 5 = 0 ∧ (after (.foreignActivity 5) sCx).emitting = 0 ∧
      (after (.foreignActivity 5) sCx).nat 0x2300 9 = 1 ∧ (after (.foreignActivity 9) sCxAfter).nat 0x2300 9 = 1 ∧
      (after (.foreignActivity 9) sCxAfter).emitting ≠ 0 ∧ (after (.foreignActivity 9) sOn).nat 0x2300 9 = 0) ∧
    (after (.cxActFalls 9) (after (.foreignActivity 5) sCx)).pins.cxAct = false := by decide +kernel

/-! ### UHF receive and the air protocols -/

/-- One iteration of port U00's canceller with a residual and a move of the coarse I component, in both reports. -/
def settled (t : Nat) (residual move : Int) : Instr := .cancellerSettled t 0 [residual] [(move, 0)] [(0, 0)] [[0, 0, 0, 0]] [0] [0] [(0, 0)]
def shallow (residual move : Int) : Instr := .cancellerShallow 5 0 [{ goodMove with coarseI := move }] [{ goodReading with residual := residual }]

/-- Port U00 settling from a stored block with four residuals behind it; and settled, with one component at the end of its range. -/
def sSettling : State := (put sOn [(0x2130, 2, 1), (0x2130, 3, 1)]).modPort 0 (fun p => { p with recent := [-4000, -4010, -4020, -4030] })
def sTracking : State := (put sOn [(0x2130, 2, 2), (0x2130, 3, 3)]).modPort 0 (fun p => { p with vector := [2047, 0, 0, 0] })

/-- A block whose greatest sample has a magnitude. -/
def block8 (n : Int) : List Cx := { re := n, im := 0 } :: List.replicate 7 czero

theorem witness_CancellersSettleAndGainMoves :
    ((sSettling.tx 0).carrier = 2 ∧ sSettling.ports.length = 48 ∧ (sSettling.at 5).rxState 0 = 1 ∧ sSettling.nat 0x2130 3 = 1 ∧
      (sTracking.at 5).rxState 0 = 2 ∧ sTracking.nat 0x2130 3 = 3 ∧ (-4000 : Int) ≤ sSettling.int 0x2210 1 ∧ ¬(0 : Int) ≤ sSettling.int 0x2210 1 ∧
      ((after (settled 5 (-4000) 1) sSettling).port 0).converged = true ∧
      (after (settled 5 (-4000) 1) sSettling).nat 0x2130 3 = 3 ∧
      (after (shallow (-4000) 1) sSettling).nat 0x2130 3 = 3 ∧
      (after (settled 5 0 1) sSettling).nat 0x2130 3 = 1 ∧
      (sSettling.tx 0).powerTick + us 150 ≤ us 150 ∧ (after (settled (us 150) 0 1) sSettling).nat 0x2130 3 = 4 ∧
      pinnedStage (sTracking.port 0).vector [1, 0, 0, 0] ≠ 0 ∧ pinnedStage (sTracking.port 0).vector [-1, 0, 0, 0] = 0 ∧
      (after (settled 5 (-4000) 1) sTracking).nat 0x2130 12 = 1 ∧ (after (settled 5 (-4000) (-1)) sTracking).nat 0x2130 12 = 0 ∧
      (after (shallow 0 1) sTracking).nat 0x2130 3 = 4) ∧
    (2 ≤ (((put sOn [(0x2130, 2, 4), (0x2130, 8, 40)]).modSeq 0 (fun x => { x with state := 3 })).seq 0).state ∧ (sOn.seq 0).frozen = [] ∧
      (put sOn [(0x2130, 2, 4), (0x2130, 8, 40)]).fixedGain 0 = false ∧ (put sOn [(0x2130, 2, 4), (0x2130, 8, 40)]).gMin 0 ≤ 28 ∧
      (after (.agcBlock 5 0 (block8 8191) []) ((put sOn [(0x2130, 2, 4), (0x2130, 8, 40)]).modSeq 0 (fun x => { x with state := 3 }))).nat 0x2130 8 = 28 ∧
      blockClips (block8 8191) = true ∧ blockClips (block8 0) = false ∧
      (after (.agcBlock 5 0 (block8 8191) []) ((put sOn [(0x2130, 2, 5)]).modSeq 0 (fun x => { x with state := 4 }))).nat 0x2130 11 = 1) := by decide +kernel

/-- A quiet slot that includes quad 0, its survey enabled for list index 7 alone; and a dwell there since tick 0. -/
def sQuiet : State := put { r0 with fuses := sUncharted.fuses } [(0x1B10, 1, 1), (0x2210, 4, 1), (0x2210, 6, 128)]
def sDwell : State := sQuiet.modTx 0 (fun x => { x with survey := some (7, 0) })

/-- Quad 0 receiving the long frame of an HSB_Load, and core 1 of the pool with a codeword of it whose values are `v`. -/
def sLoad (v : Int) : State :=
  let s := (put sOn [(0x2240, 1, 1)]).modSeq 0 (fun x => { x with state := 4, cmd := { cmd := 19, arg := 0, step := 1 }, hsb := { x.hsb with words := 28 } })
  { s with ldpcCores := [none, some { quad := 0, exchange := 0, place := 0, code := 5, values := v :: List.replicate 1023 (-5) }, none, none] }

theorem witness_SurveyDwellsAndCodewordsAreCounted :
    ((sQuiet.tx 0).survey = none ∧ sQuiet.quads.length = 12 ∧ (sQuiet.at 5).flag 0x2210 4 = true ∧ (sQuiet.at 5).power.mode = 0 ∧
      (sQuiet.at 5).carrierOn 0 = false ∧ (sQuiet.at 5).sliceFits (some 0) (us ((sQuiet.at 5).nat 0x2210 5)) = true ∧ (sQuiet.at 5).sliceDue 0 = false ∧
      (sQuiet.at 5).calibrationDue 0 = false ∧ ((sQuiet.at 5).surveyList 0).find? (fun i => decide (((sQuiet.at 5).tx 0).surveyNext ≤ i)) = some 7 ∧
      ((after (.noiseSurveyDwell 5 0 [0, 0, 0, 0]) sQuiet).tx 0).survey = some (7, 5) ∧ (after (.noiseSurveyDwell 5 0 [0, 0, 0, 0]) sQuiet).nat 0x2131 2 = 6) ∧
    ((sDwell.tx 0).survey = some (7, 0) ∧ 0 + us (sDwell.nat 0x2210 5) ≤ peak sDwell.now (ms 1) ∧ (sDwell.surveyList 0).any (fun j => decide (7 < j)) = false ∧
      ((put sDwell [(0x2210, 6, 384)]).surveyList 0).any (fun j => decide (7 < j)) = true ∧
      (after (.noiseSurveyDwell (ms 1) 0 [-12750, -12700, -12650, -50]) sDwell).nat 0x2220 8 = 0xFF030201 ∧
      (after (.noiseSurveyDwell (ms 1) 0 [-12750, -12700, -12650, -50]) sDwell).nat 0x2210 7 = 1) ∧
    ((sLoad 5).ldpcCores.length = 4 ∧ (tget (sLoad 5).ldpcCores 1 none).isSome = true ∧ ((sLoad 5).seq 0).frozen = [] ∧ ((sLoad 5).seq 0).state = 4 ∧
      ((sLoad 5).seq 0).cmd.cmd = 19 ∧ ((sLoad 5).seq 0).exchange = 0 ∧
      (after (.ldpcCodewordDone 9 1 [] [] []) (sLoad 5)).nat 0x2240 4 = 1) := by
  decide +kernel

/-- Quad 0 settled with a command due. -/
def sDue (cmd arg : Nat) : State := sIdle.modSeq 0 (fun x => { x with due := [{ cmd := cmd, arg := arg, step := 1 }] })

/-- The gates of a command at tick `us 200`. -/
theorem witness_maySend (cmd : Nat) (h : cmd ∈ [2, 6]) :
    ((sDue cmd 4).at (us 200)).maySend 0 { cmd := cmd, arg := 4, step := 1 } 0 { inventory := 0, access := [1] } := by
  have h2 : cmd = 2 ∨ cmd = 6 := by simpa using h
  rcases h2 with rfl | rfl <;> constructor <;> decide +kernel

theorem witness_maySend_select (arg : Nat) (h : arg ∈ [0, 255]) :
    ((sDue 1 arg).at (us 200)).maySend 0 { cmd := 1, arg := arg, step := 1 } 0 { inventory := 0, access := [1] } := by
  have h2 : arg = 0 ∨ arg = 255 := by simpa using h
  rcases h2 with rfl | rfl <;> constructor <;> decide +kernel

theorem witness_CommandsAreSent :
    airCommand (us 200) 0 [] 2 = some (.query (us 200) 0) ∧ Due.silent { cmd := 2, arg := 4, step := 1 } = false ∧ sIdle.quads.length = 12 ∧
    sIdle.ports.length = 48 ∧ (sIdle.seq 0).port < 48 ∧
    ((after (.query (us 200) 0) (sDue 2 4)).seq 0).state = 2 ∧ ((after (.query (us 200) 0) (sDue 2 4)).seq 0).reserved = true ∧
    (after (.query (us 200) 0) (sDue 2 4)).nat 0x2131 2 = 3 ∧ ((after (.query (us 200) 0) (sDue 2 4)).seq 0).credits = 1 ∧
    ((after (.isoSelect (us 200) 0) (sDue 1 0)).seq 0).exchange = 1 ∧ ((after (.isoSelect (us 200) 0) (sDue 1 255)).seq 0).exchange = 1 ∧
    (after (.nak (us 200) 0) (sDue 6 4)).nat 0x3310 10 = 1 ∧ ((after (.nak (us 200) 0) (sDue 6 4)).port 0).fifo.map (fun e => e.1.length) = [32] ∧
    ((sDue 2 4).at (us 200)).comesDue 0 3 = false := by
  decide +kernel

/-- Quad 0 with an exchange in a state, its command's last symbol at tick 1000 and a FIFO entry reserved. -/
def sExchange (state cmd : Nat) : State :=
  (sOn.modSeq 0 (fun x => { x with
    state := state, cmd := { cmd := cmd, arg := 0, step := 1 }, cmdStart := 100, cmdEnd := 1000, cmdChannel := 114, reserved := true, inSlot := true
    reception := { noReception with signature := [{ re := 1000, im := 0 }, czero, czero, czero], noise := [1, 1, 1, 1], k := 1 } })).modPort 0
    (fun p => { p with reserved := 1 })

/-- Hypotheses of a preamble that port 0 hears well. -/
def heardWell : List Hypothesis := [{ dev := 3000, corr := List.replicate 4 { re := 9000, im := 0 } }, { dev := 20, corr := { re := 1000, im := 0 } :: List.replicate 3 czero }]

/-- Those hypotheses at a reply start, with a noise at each port. -/
def heard (start noise : Nat) : Detection := { start := start, hyps := heardWell, noise := List.replicate 4 noise, heard := 16 }

/-- Quad 1 beside quad 0 on the same channel, its last command's end at tick 6000, with co-channel rejection on and quad 0 held since tick 0. -/
def sShared (state : Nat) : State :=
  (((put (sExchange state 2) [(0x2201, 1, 3), (0x2201, 2, 114), (0x2230, 6, 1)]).modTx 1 (fun x => { x with carrier := 2, index := some 0 })).modSeq 1 (fun x => { x with
    state := 3, plan := some 0, port := 4, cmdStart := 5000, cmdEnd := 6000, cmdChannel := 113 })).modSeq 0 (fun x => { x with holds := [(1, 0)] })

/-- The exchange of a reply in FM0 at 640 kHz; and that of an HSB_Probe with every port excluded. -/
def sFm : State := put (sExchange 4 2) [(0x3300, 7, 1), (0x3300, 6, 1), (0x3300, 5, 640000)]
def sProbed : State := (portsOf 0).foldl (fun st p => st.modPort p (fun y => { y with excluded := true })) (sExchange 4 18)

/-- A constant input, which violates FM0's coding in every bit. -/
def steadyAir (n : Nat) : Air := { ports := List.replicate 4 (List.replicate n { re := 100, im := 0 }), fwd := [] }

theorem witness_ReceiveWindowsAndDetections :
    (((sExchange 2 2).seq 0).state = 2 ∧ (sExchange 2 2).quads.length = 12 ∧ (sExchange 2 2).ports.length = 48 ∧
      ((sExchange 2 2).seq 0).cmdEnd + (((sExchange 2 2).at (us 100)).seen 0).windowOpens 0 ≤ us 100 ∧
      ((after (.receiveWindowOpen (us 100) { quad := 0, pre := [] }) (sExchange 2 2)).seq 0).state = 3 ∧ ((after (.receiveWindowOpen (us 100) { quad := 0, pre := [] }) (sExchange 2 2)).port 0).excluded = true) ∧
    ((((sExchange 3 2).at 6000).seen 0).allExcluded 0 = false ∧ 6000 ≤ 1000 + (((sExchange 3 2).at 6000).seen 0).windowCloses 0 + ns 111 ∧
      (((sExchange 3 2).at 6000).seen 0).preambleOverlapped 0 6000 = false ∧ (((sExchange 3 2).at 6000).seen 0).inSpan 0 6000 = true ∧
      ((((sExchange 3 2).at 6000).seen 0).bestHypothesis 0 [1, 1, 1, 1] heardWell).map (·.dev) = some 20 ∧
      (((sExchange 3 2).at 6000).seen 0).noiseAt 0 [1, 1, 1, 1] 16 = [1, 1, 1, 1] ∧
      ((after (.preambleDetected 6000 0 (heard 5000 1)) (sExchange 3 2)).seq 0).state = 4 ∧
      ((after (.preambleDetected 6000 0 (heard 5000 9)) (put (sExchange 3 2) [(0x2230, 1, 4000)])).seq 0).state = 3) ∧
    ((((sShared 3).at 9000).seen 0).foreign 0 (1000 + 9000) = some 1 ∧ (((sShared 3).at 9000).seen 0).inSpan 0 (1000 + 9000) = false ∧
      (((sShared 3).at 9000).seen 0).preambleOverlapped 0 (1000 + 9000) = false ∧ ((sShared 3).seq 0).cmd.cmd < 18 ∧
      (((sShared 3).at 9000).seen 0).allExcluded 0 = false ∧ 9000 ≤ 1000 + (((sShared 3).at 9000).seen 0).windowCloses 0 + ns 111 ∧
      (after (.preambleDetected 9000 0 (heard 9000 1)) (sShared 3)).nat 0x2230 13 = 1) ∧
    (((((sFm.at 9000).seen 0).primarySoFar 0 (steadyAir 40)).map (fun y => (decide (y.bits.length ≤ 16), decide (sFm.nat 0x2230 2 ≤ y.violations)))) = some (true, true) ∧
      ((after (.detectionWithdrawn 9000 0 (List.replicate 4 (List.replicate 40 100)) (List.replicate 4 (List.replicate 40 0)) []) sFm).seq 0).state = 3 ∧ (after (.detectionWithdrawn 9000 0 (List.replicate 4 (List.replicate 40 100)) (List.replicate 4 (List.replicate 40 0)) []) sFm).nat 0x2230 9 = 1) ∧
    (((put (sExchange 4 2) [(0x2230, 3, 1)]).at 9).nat 0x2230 3 = 1 ∧ ((sExchange 4 2).seq 0).cmd.cmd = 2 ∧
      ((after (.separationSettled 9 0 { air := goodAir, est := [] }) (put (sExchange 4 2) [(0x2230, 3, 1)])).seq 0).reception.k = 1) ∧
    (((sShared 1).seq 0).offNow = false ∧ (1, 0) ∈ ((sShared 1).seq 0).holds ∧ 0 + us (((sShared 1).at (us 5000)).seen 0 |>.nat 0x3101 4) ≤ us 5000 ∧
      ((after (.coChannelHoldLimit (us 5000) 0) (sShared 1)).seq 0).holds = []) := by decide +kernel

theorem witness_ExchangesEndWithADescriptor :
    (((sExchange 4 2).seq 0).port < 48 ∧ ((sExchange 4 2).seq 0).reserved = true ∧ ((sExchange 4 2).seq 0).cmd.cmd ≠ 18 ∧ ((sExchange 4 2).seq 0).cmd.cmd ≠ 20 ∧
      ((after (.replyDecision 9000 0 (steadyAir 50)) (sExchange 4 2)).port 0).fifo.map (fun e => e.1.length) = [32] ∧
      ((after (.replyDecision 9000 0 (steadyAir 50)) (sExchange 4 2)).seq 0).reserved = false) ∧
    (((sExchange 3 2).seq 0).state = 3 ∧ ((sExchange 3 2).seq 0).cmdEnd + (((sExchange 3 2).at (ms 1)).seen 0).windowCloses 0 ≤ ms 1 ∧
      ((after (.receiveWindowClose (ms 1) 0) (sExchange 3 2)).port 0).fifo.map (fun e => e.1.length) = [32]) ∧
    ((sProbed.seq 0).cmd.cmd = 18 ∧ (sProbed.seq 0).state = 4 ∧ (sProbed.seq 0).reserved = true ∧
      ((after (.probeAnalysisDone (ms 1) 0 goodAir.ports goodAir.fwd) sProbed).port 0).fifo.map (fun e => e.1.length) = [32]) := by
  decide +kernel

/-! ### The tag table, passes and meter reads -/

theorem witness_PassesStartAndEnd :
    (sPlan.plans.length = 64 ∧ ((sPlan.modPlan 0 (fun p => { p with running := false })).plan 0).due = some 0 ∧ sPlan.planObj 0 2 = 1 ∧
      ((sPlan.modPlan 0 (fun p => { p with running := false })).plan 0).running = false ∧
      (after (.passStart 5 0) (sPlan.modPlan 0 (fun p => { p with running := false }))).planObj 0 43 = 1) ∧
    ((put sPlan [(0x3000, 9, 500)]).planObj 0 9 ≠ 0 ∧ ((put sPlan [(0x3000, 9, 500)]).plan 0).overrun = false ∧ ((put sPlan [(0x3000, 9, 500)]).plan 0).due = some 0 ∧
      ((put sPlan [(0x3000, 9, 500)]).plan 0).running = true ∧ ((after (.passStart 5 0) (put sPlan [(0x3000, 9, 500)])).plan 0).overrun = true) ∧
    ((sPlan.plan 0).running = true ∧ (sPlan.plan 0).started + ms (sPlan.planObj 0 10) ≤ ms 60000 ∧
      ((after (.passLimitReached (ms 60000) 0) sPlan).plan 0).running = false ∧ (after (.passLimitReached (ms 60000) 0) sPlan).planObj 0 45 = 60000 ∧
      ((after (.passLimitReached (ms 60000 - 1) 0) sPlan).plan 0).running = true) := by decide +kernel

/-- An entry of plan 0 and quad 0. -/
def tagOf (confirmed meter resolved : Bool) (reply : List Byte) : TagEntry :=
  { confirmed := confirmed, meter := meter, authenticated := false, pending := false, relay := false, ambiguous := false, clipped := false,
    arrival := 0, plan := 0, pc := 0x3000, words := 6, epc := [0xB6#8, 3#8] ++ zeros 10, crc := 0, claimQuad := 0xFF, claimPlan := 0, claimPass := 0,
    identity := 9, owner := 1, merged := none, routed := 0, firstSeen := 0, lastSeen := 0, firstCycle := 0, lastCycle := 0, reads := 1, heard := 1,
    ports := [], undo := none, exchange := 0, quad := 0, born := 0, confirmedAt := 0, holds := 0, credited := false, reply := reply,
    challenge := [], resolved := resolved, counter := 41, resync := false, maker := 0, window := 1, reports := [] }

/-- A meter of class 3 whose next counter is 41. -/
def meter3 : Meter :=
  { cls := 3, ref := [], key := [], cNext := 41, cLast := none, winFrom := 41, winDue := some 0, marked := some 0, setReady := true, retiring := false,
    last := none, readings := [], pending := none, flags := 0, baseRaw := none, baseBoundary := none, lastSeq := 0, lastBoundary := 0, lastFlags := 0, missing := 0,
    backward := 0, accepted := 0, readsNow := 0 }

/-- A module that holds tag entry 5 and meter 9, class 3 owned by shade 1. -/
def sTag (e : TagEntry) : State := put { sPlan with tags := [(5, e)], meters := [(9, meter3)] } [(0x4013, 1, 1), (0x4013, 14, 16)]

/-- Heads of the FIFO of port U00 with a result and without, and a result of quad 0. -/
def sFifo (tail : List Byte) : State := sOn.modPort 0 (fun p => { p with fifo := [(zeros 32, tail)] })
def sResult : State := sOn.modQuad 0 (fun x => { x with results := [zeros 48] })

theorem witness_EntriesMoveAndLeave :
    (sOn.quads.length = 12 ∧ ((sFifo (zeros 16)).at 5).stageTurn 4 = some 0 ∧ ((sFifo []).at 5).stageTurn 4 = some 0 ∧
      ((sFifo (zeros 16)).port 0).fifo = [(zeros 32, zeros 16)] ∧ ((after (.fifoEntryMoved 5 0) (sFifo (zeros 16))).quad 0).results = [zeros 48] ∧
      ((after (.fifoEntryMoved 5 0) (sFifo [])).port 0).fifo = [] ∧
      (sResult.at 5).stageTurn 3 = some 0 ∧ (sResult.quad 0).results = [zeros 48] ∧ (after (.resultTaken 5 0) sResult).nat 0x5000 8 = 1 ∧
      (sOn.at 5).stageTurn 4 ≠ some 0 ∧ (sOn.at 5).stageTurn 3 ≠ some 0) ∧
    ((sTag (tagOf false false false [])).tag 5 = some (tagOf false false false []) ∧ (sTag (tagOf false false false [])).power.mode ≠ 2 ∧
      (after (.provisionalLifetimeExpired (ms ((sTag (tagOf false false false [])).nat 0x3101 3)) 5) (sTag (tagOf false false false []))).tag 5 = none ∧
      ((after (.provisionalLifetimeExpired (ms ((sTag (tagOf false false false [])).nat 0x3101 3) - 1) 5) (sTag (tagOf false false false []))).tag 5).isSome = true ∧
      (sTag (tagOf true false false [])).tag 5 = some (tagOf true false false []) ∧
      (after (.entryAgeOut 5 5) { sTag (tagOf true false false []) with rtc := { rtcAtReset with total := (sTag (tagOf true false false [])).nat 0x3101 1 } }).tag 5 = none ∧
      sDeep.power.mode = 2) := by
  decide +kernel

/-! The Dome's AES is opaque here: an entry that shows the pseudonym of the first counter of the window, or of the resync set, is found
whatever it answers. -/

theorem find_first {α : Type} (n : Nat) (f : Nat → α) (p : α → Bool) (h : p (f 0) = true) : ((List.range (n + 1)).map f).find? p = some (f 0) := by
  simp [List.range_succ_eq_map, h]

theorem resolution_of (s : State) (first : Nat) (e : TagEntry) (m : Nat) (x : Meter) (r : Nat × Bool) (words : e.words = 6) (header : byteAt e.epc 0 = 0xB6)
    (cls : byteAt e.epc 1 < 32) (owner : s.clsObj (byteAt e.epc 1) 1 = s.planOwner e.plan) (only : s.meters.map (·.1) = [m]) (here : s.meter m = some x)
    (same : x.cls = byteAt e.epc 1) (shown : s.shownAt x (slice e.epc 2 10) = some r) : s.resolution first e = some (m, r) := by
  by_cases h : first ≤ m <;> simp [State.resolution, words, header, cls, owner, only, here, same, shown, h, Nat.lt_of_not_le]

/-- A provisional entry that shows the pseudonym of counter 41, with a window of 16 values and with none. -/
def shownEntry : TagEntry := { tagOf false true false [] with epc := [0xB6#8, 3#8] ++ pseudonymOf [] 3 41 }
def sShown (window : Nat) : State := put (sTag shownEntry) [(0x4013, 14, window)]

theorem shown_slice : slice shownEntry.epc 2 10 = pseudonymOf [] 3 41 := by
  simp [shownEntry, slice, pseudonymOf, List.take_take]

theorem witness_MeterReadsAreResolvedAndChecked_resolved :
    (sShown 16).resolution 0 shownEntry = some (9, 41, true) ∧ (sShown 0).resolution 0 shownEntry = some (9, 41, false) ∧
    (sShown 16).tag 5 = some shownEntry ∧ shownEntry.confirmed = false ∧ shownEntry.resolved = false ∧ shownEntry.meter = true := by
  have h16 : (sShown 16).clsObj meter3.cls 14 = 15 + 1 := by decide +kernel
  have h0 : (sShown 0).clsObj meter3.cls 14 = 0 := by decide +kernel
  have hs : meter3.shows (pseudonymOf [] 3 41) 41 = true := by simp [Meter.shows, meter3]
  refine ⟨resolution_of _ 0 _ 9 meter3 _ rfl (by decide +kernel) (by decide +kernel) (by decide +kernel) (by decide +kernel) (by decide +kernel) (by decide +kernel) ?_,
    resolution_of _ 0 _ 9 meter3 _ rfl (by decide +kernel) (by decide +kernel) (by decide +kernel) (by decide +kernel) (by decide +kernel) (by decide +kernel) ?_, rfl, rfl, rfl, rfl⟩
  · have hw : (sShown 16).inWindowOf meter3 41 = true := by decide +kernel
    rw [shown_slice, State.shownAt, h16, find_first 15 _ _ (by simp only [show meter3.winFrom + 0 = 41 from rfl, hw, hs, Bool.and_self])]
    rfl
  · rw [shown_slice, State.shownAt, h0]
    have hf := find_first 4095 (meter3.next + ·) (meter3.shows (pseudonymOf [] 3 41)) hs
    simp only [List.range_zero, List.map_nil, List.find?_nil, show (meter3.marked.isSome && meter3.setReady) = true from rfl, if_true]
    rw [show (4096 : Nat) = 4095 + 1 from rfl, hf]
    rfl

theorem witness_MeterReadsAreResolvedAndChecked :
    ((sTag (tagOf false true false [])).meter 9 = some meter3 ∧ meter3.winDue ≠ none ∧ meter3.marked = some 0 ∧ (sTag (tagOf false true false [])).power.mode ≠ 2) ∧
    ((sTag { tagOf false true false [] with words := 5 }).resolution 0 { tagOf false true false [] with words := 5 } = none ∧
      (after (.pseudonymResolved 5 5 0) (sTag { tagOf false true false [] with words := 5 })).nat 0x4000 15 = 1) ∧
    (((after (.authenticationChecked 5 5 true []) (sTag (tagOf false true true [1#8]))).meter 9).map (fun x => (x.cLast, x.accepted)) = some (some 41, 1)) ∧
    ((after (.authenticationChecked 5 5 false []) (sTag (tagOf false true true [1#8]))).tag 5 = none) ∧
    ((after (.pseudonymWindowComputed 5 9) (sTag (tagOf false true true []))).meter 9 = some { meter3 with winFrom := 41, winDue := none }) ∧
    ((after (.resyncSetComputed 5 9) (sTag (tagOf false true true []))).meter 9 = some { meter3 with setReady := true }) ∧
    ((after (.resyncMarkExpired (sec 86400) 9) (sTag (tagOf false true true []))).meter 9 = some { meter3 with marked := none, setReady := false }) := by decide +kernel

/-! ### Worked examples of the spec -/

/-- Chapter 18, Table 1: the check values of "123456789"; R557's example of a codeword. -/
theorem test_check_values :
    (List.range 6).map (fun a => crcBytes a (ascii "123456789")) = [0x00, 0xD64E, 0xBF05, 0x906E, 0xCBF43926, 0xE3069283] ∧
    crcShown (crcAlg 4) (crcRun (crcAlg 4) (crcAlg 4).preset (crcBits (crcAlg 4) (ascii "123456789" ++ [0x26#8, 0x39#8, 0xF4#8, 0xCB#8]))) = 0xDEBB20E3 ∧
    crcBytes 4 (ascii "123456789" ++ [0x26#8, 0x39#8, 0xF4#8, 0xCB#8]) = 0x2144DF1C ∧ (crcAlg 4).residue = 0xDEBB20E3 := by decide +kernel

/-- Chapter 16: 2100-01-01 lies 36,525 days after 2000-01-01 and is a Friday, 2100-02-28 is a Sunday, and 2100 has no 29 February. -/
theorem test_calendar : daysOf { year := 2100, month := 1, day := 1 } = 36525 ∧ weekdayOf 36525 = 5 ∧
    weekdayOf (daysOf { year := 2100, month := 2, day := 28 }) = 7 ∧ monthDays 2100 2 = 28 ∧ monthDays 2000 2 = 29 ∧
    newTime (86400 * daysOf { year := 2100, month := 2, day := 28 }) [(5, 0x29)] 0 = none := by decide +kernel

/-- Chapter 16: a crystal 12.30 ppm fast wants the trim −13, reached one step each period. -/
theorem test_trim : (after (.trimPeriodEnd 5) (put { r0 with rtc := { r0.rtc with periodEnded := true } } [(0x1A03, 1, -12), (0x1A03, 2, 1), (0x1A03, 3, 1230)])).int 0x1A03 1 = -13 ∧
    (after (.trimPeriodEnd 5) (put { r0 with rtc := { r0.rtc with periodEnded := true } } [(0x1A03, 1, -13), (0x1A03, 2, 1), (0x1A03, 3, 1230)])).int 0x1A03 1 = -13 := by decide +kernel

/-- Chapter 10: an 8-digit register of at most 20,000 steps an hour that wraps from 99,998,740 to 915 within 45,000 cycles is adopted as wrapped. -/
theorem test_meter_wraps :
    let s := put { r0 with meters := [(9, { meter3 with last := some { raw := 99998740, time := 0, cycle := 5120000, unlocked := false, resync := false } })] }
      [(0x1B01, 1, 5000), (0x4013, 5, 1), (0x4013, 6, 8), (0x4013, 9, 20000)]
    (((s.checkRead 9 { meter3 with last := some { raw := 99998740, time := 0, cycle := 5120000, unlocked := false, resync := false } }
      { raw := 915, time := 0, cycle := 5165000, unlocked := false, resync := false }).meter 9).map (fun x => (x.flags, x.last.map (·.raw)))) = some (2, some 915) := by
  decide +kernel

/-- Chapter 3: port U17 with a 9.00 dBi antenna behind 1.40 dB of cable in a band of +36.00 dBm EIRP, narrowed to +35.00 dBm by the site. -/
theorem test_power_limits :
    let s := put r0 [(0x2111, 6, 900), (0x2111, 7, 140)]
    (quarter (s.fromEirp 17 3600), quarter (s.fromEirp 17 3500), smallest [3000, 3000, s.fromEirp 17 3600, 3000, s.fromEirp 17 3500, 2900, 2700]) = (2825, 2725, 2700) := by
  decide +kernel

/-! ### Slot boundaries, HF ports and capacitive channels -/

/-- A module whose accumulator reaches the next slot boundary at tick 1: port U00 is requested dark with its carrier on. -/
def sBoundary : State := put { sOn with belfry := { sOn.belfry with phase := 2 ^ 45 } } [(0x2100, 1, 0)]

theorem witness_SlotBoundariesAndWindowEnds :
    ((sBoundary.at 1).boundaryDue = true ∧ sBoundary.carrierOn 0 = true ∧ sBoundary.enabled (sBoundary.tx 0).port = false ∧
      (after (.slotBoundary 1 []) sBoundary).carrierOn 0 = false) ∧
    ((sOn.at 1).boundaryDue = false ∧ (after (.slotBoundary 1 []) sOn).belfry.slots = 1) ∧
    (sOn.quads.length = 12 ∧ (sOn.tx 0).carrier = 2 ∧ ((sOn.at (ms 40)).windowEnd 0).isSome = true ∧ ((sOn.at (ms 40)).windowEnd 0).getD 0 ≤ ms 40 ∧
      (sOn.at 5).inWindow 0 = true ∧ ms 1 < ((sOn.at (ms 1)).windowEnd 0).getD 0 ∧ ((after (.windowEnd (ms 1)) sOn).tx 0).carrier = 2 ∧
      (sOn.seq 0).state ≤ 1 ∧ ((after (.windowEnd (ms 40)) sOn).tx 0).carrier = 4 ∧
      ((after (.windowEnd (ms 40)) (sOn.modSeq 0 (fun x => { x with state := 3 }))).seq 0).offNow = true ∧
      ((put sOn [(0x1B10, 2, 0)]).at 5).inWindow 0 = false ∧ ((after (.windowEnd 5) (put sOn [(0x1B10, 2, 0)])).tx 0).carrier = 4) := by decide +kernel

/-- A module with card plan 0 of shade 1 on HF port 0, for a detection and for a poll. -/
def sCard : State :=
  let s := put sAir [(0x3400, 1, 1), (0x3400, 2, 1), (0x3400, 4, 0xFF), (0x3400, 8, 3)]
  { s with dict := NMap.put (NMap.put s.dict (key 0x3400 13) (step16 1 0 [0, 2])) (key 0x2400 1) (.num 1) }

/-- HF port 0 with a service. -/
def sService (v : HfService) : State := { sCard with hfPorts := tmod sCard.hfPorts 0 (fun x => { x with service := some v }), hfTx := [some 0, none] }

/-- Both transmitters busy, port 1 with a poll, and a detection's request on port 0. -/
def sBusy : State := { sCard with
  hfPorts := tmod (tmod sCard.hfPorts 0 (fun x => { x with request := some (0, false) })) 1 (fun x => { x with service := some { newService with poll := true, phase := 2 } })
  hfTx := [some 1, some 2] }

/-- A detection's request on port 0. -/
def sAsked : State := sCard.modHf 0 (fun x => { x with request := some (0, false) })

/-- The poll of port 1 awaits a reply. -/
def sBusyWaits : State := sBusy.modHf 1 (fun x => { x with service := some { newService with poll := true, phase := 2, waiting := true, due := [{ code := 3, arg := 0 }] } })

theorem witness_ServicesStart :
    (sAsked.hfPorts.length = 8 ∧ sAsked.hfTx.length = 2 ∧ (sAsked.hf 0).request = some (0, false) ∧ (sAsked.hf 0).service = none ∧ sAsked.txOf 0 = none ∧
      sAsked.mayField 0 = true ∧ sAsked.power.rfPending = false ∧ sAsked.power.mode ≠ 2 ∧ sAsked.power.modeDue ≠ some 2 ∧ sAsked.freeTx = some 0 ∧
      sAsked.firstInLine 0 0 false = true ∧ sAsked.cardPlans 0 false (sAsked.hf 0).pollShade = [0] ∧ (after (.hfServiceStart 5 0) sAsked).nat 0x2400 15 = 0) ∧
    ([sBusy, sBusyWaits].all (fun s => decide (s.hfPorts.length = 8) && decide (s.hfTx.length = 2) && decide ((s.hf 0).request = some (0, false)) &&
        (s.hf 0).service.isNone && s.mayField 0 && !s.power.rfPending && decide (s.power.mode ≠ 2) && decide (s.power.modeDue ≠ some 2) && s.freeTx.isNone &&
        s.firstInLine 0 0 false && decide (s.pollOn = some 1) && decide ((s.svc 1).phase ≠ 4) && decide (s.cardPlans 0 false (s.hf 0).pollShade ≠ [])) = true ∧
      (sBusy.svc 1).waiting = false ∧ (sBusyWaits.svc 1).waiting = true ∧
      (after (.hfServiceStart 5 0) sBusy).nat 0x2401 19 = 1 ∧ (after (.hfServiceStart 5 0) sBusy).nat 0x2400 15 = 0 ∧
      ((after (.hfServiceStart 5 0) sBusyWaits).svc 1).phase = 4 ∧ ((after (.hfServiceStart 5 0) sBusyWaits).svc 1).endBy = ms 2 ∧
      (after (.hfServiceStart (ms 2) 0) sBusyWaits).nat 0x2400 15 = 0) ∧
    sDeep.power.mode = 2 ∧
    (((sService newService).hf 0).service = some newService ∧ newService.phase = 1 ∧ newService.again = false ∧ ((sService newService).at (us 20000)).pollOver 0 = false ∧
      newService.onTick + us ((sService newService).nat 0x2400 8) ≤ us 20000 ∧
      ((after (.guardTimeExpiry (us 20000) 0) (sService newService)).svc 0).due.map HfCmd.code = [1] ∧
      ((after (.guardTimeExpiry (us 20000) 0) (sService { newService with proto := 2 })).svc 0).due.map HfCmd.code = [6]) := by decide +kernel

/-- A working service with a frame due. -/
def sFrame (code phase : Nat) : State :=
  sService { newService with phase := phase, due := [{ code := code, arg := 0 }], plan := some 0, proto := if code < 6 then 1 else if code < 11 then 2 else if code < 18 then 1 else 3 }

theorem witness_CardFramesAreSent :
    ((List.range 26).drop 1).all (fun code => ((sFrame code 2).at 5).cardDue 0 code && (cardCommand 5 0 code).isSome) = true ∧
    (sFrame 1 2).hfPorts.length = 8 ∧ (sFrame 1 2).hfForbidden 0 = false ∧ ((sFrame 1 2).at 5).pollOver 0 = false ∧ (put (sFrame 1 2) [(0x2400, 1, 0)]).hfForbidden 0 = true ∧
    ((put (sFrame 1 2) [(0x2400, 1, 0)]).at 5).cardDue 0 1 = true ∧ ((sFrame 1 2).at 5).cardDue 0 2 = false ∧
    ((after (.reqa 5 0) (sFrame 1 2)).svc 0).sentEnd = 5 + cycles (9 * 128) ∧ ((after (.inventory 5 0) (sFrame 18 2)).svc 0).waiting = true ∧
    ((sFrame 5 3).svc 0).phase = 3 ∧ ((sFrame 5 3).svc 0).due.length = 1 ∧ (after (.hlta 5 0) (sFrame 5 3)).nat 0x2400 15 = 0xFF ∧
    ((after (.hlta 5 0) (sFrame 5 2)).svc 0).sent.code = 5 ∧ byteAt (sCard.cardStep 0 (newService.step + 1)) 0 = 0 ∧
    (after (.reqa 5 0) (put (sFrame 1 2) [(0x2400, 1, 0)])).txOf 0 = none := by decide +kernel

/-- The same plan with a second step, and Stay quiet due. -/
def sQuietCard : State := { sFrame 19 2 with dict := NMap.put (sFrame 19 2).dict (key 0x3400 14) (step16 1 0 [0, 2]) }

theorem witness_CardFramesAreSent_stayQuiet : (sQuietCard.at 5).cardDue 0 19 = true ∧ (sQuietCard.svc 0).plan = some 0 ∧
    sQuietCard.hfForbidden 0 = false ∧ (sQuietCard.at 5).pollOver 0 = false ∧ byteAt (sQuietCard.cardStep 0 ((sQuietCard.svc 0).step + 1)) 0 = 1 ∧
    ((after (.stayQuiet 5 0) sQuietCard).svc 0).step = 1 ∧ ((after (.stayQuiet 5 0) sQuietCard).svc 0).due.map HfCmd.code = [13] := by decide +kernel

/-- A service that awaits the reply to a Type A frame. -/
def sWait (code : Nat) : State :=
  sService { newService with phase := 2, sent := { code := code, arg := 0 }, waiting := true, plan := if code = 13 then some 0 else none }

/-- A Type A reply with bytes, at a frame delay time on the grid. -/
def cardSays (data : List Byte) (collision : Option Nat) : CardReply := { data := data, fdt := 1172, collision := collision, framing := false }

/-- Action 1 on a relay suspect; a poll that a detection has pre-empted at 2 ms. -/
def sSuspect : State := put (sWait 1) [(0x2400, 12, 1)]
def sEnding : State := (sWait 1).modHf 0 (fun x => { x with service := x.service.map (fun v => { v with phase := 4, poll := true, endBy := ms 2 }) })

theorem witness_CardRepliesAndTimeouts :
    ((sWait 1).hfPorts.length = 8 ∧ ((sWait 1).svc 0).waiting = true ∧ ((sWait 1).svc 0).phase = 2 ∧ ((sWait 1).svc 0).proto = 1 ∧ ((sWait 1).svc 0).frozen = [] ∧
      (((sWait 1).at 5).seenHf 0).suspect 0 1172 = false ∧ (((sWait 1).at 5).seenHf 0).hfForbidden 0 = false ∧
      ((after (.cardReply 5 0 (cardSays [4#8, 0#8] none)) (sWait 1)).svc 0).due.map HfCmd.code = [3] ∧
      ((after (.cardReply 5 0 (cardSays (zeros 5) (some 31))) (sWait 3)).svc 0).card.known.length = 32 ∧
      ((after (.cardReply 5 0 (cardSays (zeros 5) (some 0))) (sWait 3)).svc 0).card.known = [true] ∧
      bccOf [1#8, 2#8, 3#8, 4#8, 4#8] = 0#8 ∧
      ((after (.cardReply 5 0 (cardSays [1#8, 2#8, 3#8, 4#8, 4#8] none)) (sWait 3)).svc 0).due.map HfCmd.code = [4] ∧
      (0x24#8).toNat.testBit 2 = true ∧ ((sWait 4).svc 0).card.level < 3 ∧
      ((after (.cardReply 5 0 (cardSays (withCrcA [0x24#8]) none)) (sWait 4)).svc 0).card.level = 2) ∧
    ((sSuspect.svc 0).proto ≠ 3 ∧ ((sSuspect.at 5).seenHf 0).suspect 0 9000 = true ∧ ((sSuspect.at 5).seenHf 0).nat 0x2400 12 = 1 ∧
      (after (.cardReply 5 0 { cardSays [4#8, 0#8] none with fdt := 9000 }) sSuspect).nat 0x2400 18 = 1 ∧
      (sEnding.svc 0).phase = 4 ∧ (sEnding.svc 0).waiting = true ∧ (after (.cardReply 5 0 (cardSays [4#8, 0#8] none)) sEnding).txOf 0 = none) ∧
    (((sWait 1).svc 0).sentEnd + cycles ((sWait 1).svc 0).waitCycles ≤ ms 5 ∧ ((sWait 1).svc 0).protos = [] ∧ ((sWait 1).svc 0).again = false ∧
      (((sWait 1).at (ms 5)).seenHf 0).hfForbidden 0 = false ∧ (after (.cardReplyTimeout (ms 5) 0) (sWait 1)).txOf 0 = none ∧
      ((sWait 13).svc 0).sentEnd + cycles ((sWait 13).svc 0).waitCycles ≤ ms 5 ∧ ((sWait 13).svc 0).retries < 2 ∧
      ((after (.cardReplyTimeout (ms 5) 0) (sWait 13)).svc 0).due.map HfCmd.code = [15]) ∧
    ((sEnding.svc 0).endBy ≤ ms 2 ∧ (after (.cardReplyTimeout (ms 2) 0) sEnding).txOf 0 = none) ∧
    (((sWait 13).svc 0).plan = some 0 ∧ ((sWait 13).svc 0).planTick + ms ((((sWait 13).at (ms 60000)).seenHf 0).cardObj 0 11) ≤ ms 60000 ∧
      ((after (.stepTimeout (ms 60000) 0) (sWait 13)).svc 0).plan = none) := by
  decide +kernel

/-- A card present on HF port 0 that is served again every second. -/
def sPresent : State := (put sCard [(0x2400, 9, 1)]).modHf 0 (fun x => { x with isPresent := true })

theorem witness_HfPortsFaultAndRecover :
    (((sService newService).hf 0).service = some newService ∧ ((sService newService).at (us 10)).frameNow 0 = false ∧ newService.onTick ≤ us 10 ∧
      newService.loopTick + us 10 ≤ us 10 ∧ us 10 - 1 < newService.loopTick + us 10 ∧
      newService.drive + (sService newService).fieldPower 0 - 180 ≤ (sService newService).fieldBound 65535 ∧
      (sService newService).fieldBound 1 < newService.drive + (sService newService).fieldPower 0 - 180 ∧
      ((after (.hfFieldLoop (us 10) 0 180 65535) (sService newService)).hf 0).pinned = 0 ∧
      ((after (.hfFieldLoop (us 10) 0 180 1) (sService newService)).svc 0).drive = 1 ∧
      (after (.hfFieldLoop (us 10 - 1) 0 180 1) (sService newService)).nat 0x2400 16 = (sService newService).nat 0x2400 16) ∧
    (((sService newService).txOf 0).isSome = true ∧ peak 9 ((sService newService).svc 0).onTick + us 5 ≤ 9 + us 5 ∧
      (after (.hfPortFault (9 + us 5) 0 { value := 15001, since := 9 }) (sService newService)).nat 0x2400 3 = 1 ∧
      (after (.hfPortFault (8 + us 5) 0 { value := 15001, since := 9 }) (sService newService)).nat 0x2400 3 = 0 ∧
      (after (.hfPortFault (9 + us 5) 0 { value := 15000, since := 9 }) (sService newService)).nat 0x2400 3 = 0 ∧
      (after (.hfPortFault (9 + us 5) 0 { value := 4000, since := 9 }) (sService newService)).nat 0x2400 3 = 0 ∧
      (after (.hfPortFault (9 + us 5) 0 { value := 3999, since := 9 }) (sService newService)).nat 0x2400 3 = 2) ∧
    ((put sCard [(0x2400, 3, 1)]).hfActual 0 = 3 ∧ sCard.freeTx.isSome = true ∧ ((put sCard [(0x2400, 3, 1)]).hf 0).probeTick + sec (sCard.nat 0x2400 14) ≤ sec 600 ∧
      (after (.hfPortProbe (sec 600) 0 13000) (put sCard [(0x2400, 3, 1)])).nat 0x2400 4 = 1 ∧
      (after (.hfPortProbe (sec 600) 0 6000) (put sCard [(0x2400, 3, 1)])).nat 0x2400 4 = 1 ∧
      (after (.hfPortProbe (sec 600) 0 13001) (put sCard [(0x2400, 3, 1)])).nat 0x2400 4 = sCard.nat 0x2400 4) ∧
    ((sPresent.hf 0).isPresent = true ∧ (sPresent.hf 0).service = none ∧ (sPresent.hf 0).request = none ∧ sPresent.mayField 0 = true ∧ sPresent.nat 0x2400 9 ≠ 0 ∧
      (sPresent.hf 0).servedTick + sec (sPresent.nat 0x2400 9) ≤ sec 1 ∧
      ((after (.reServeIntervalExpired (sec 1) 0) sPresent).hf 0).request = some (sec 1, false)) := by
  decide +kernel

/-- Capacitive channel 3 enabled, its baseline 1000 counts, one scan short of a detection. -/
def sCap : State := { put sCard [(0x2500, 1, 8)] with caps := tmod r0.caps 3 (fun x => { x with baseline := 65536000, scans := 4, above := (put sCard [(0x2500, 1, 8)]).nat 0x2500 4 - 1 }) }

/-- Channel 3 detected since tick 5, with no service. -/
def sStuck : State := put { sCap with caps := tmod r0.caps 3 (fun x => { x with last := 7, detectTick := 5 }) } [(0x2500, 25, 8)]

theorem witness_CapacitiveDetections :
    (sCap.caps.length = 8 ∧ sCap.nat 0x2500 1 = 2 ^ 3 ∧ sCap.nat 0x2500 26 = 0 ∧ sCap.nat 0x2500 25 = 0 ∧ (sCap.cap 3).scanTick + sCap.scanPeriod ≤ ms 20 ∧
      4 ≤ (sCap.cap 3).scans ∧ (sCap.cap 3).high < 15 ∧ (sCap.cap 3).low < 15 ∧ (sCap.cap 3).baseline / 65536 + sCap.nat 0x2500 (8 + 3) ≤ 2000 ∧
      sCap.nat 0x2500 4 ≤ (sCap.cap 3).above + 1 ∧ (after (.capScan (ms 20) [0, 0, 0, 2000, 0, 0, 0, 0]) sCap).nat 0x2500 25 = 8 ∧
      (after (.capScan (ms 20) [0, 0, 0, 1000, 0, 0, 0, 0]) sCap).nat 0x2500 25 = 0) ∧
    ((List.range 8).all (fun n => !(sCap.at 5).scans n) = true ∧ (after (.capScan 5 [0, 0, 0, 2000, 0, 0, 0, 0]) sCap).nat 0x2500 25 = 0) ∧
    ((sStuck.nat 0x2500 25).testBit 3 = true ∧ (sStuck.cap 3).detectTick + sec (sStuck.nat 0x2500 7) ≤ 5 + sec 65535 ∧ (sStuck.hf 3).servedTick = 0 ∧
      ((after (.channelStuck (5 + sec 65535) 3) sStuck).cap 3).baseline = 65536 * 7) := by decide +kernel

theorem witness_SlotsCountOneByOne : (sBoundary.at 1).boundaryDue = true ∧ (sOn.at 1).boundaryDue = false ∧
    (after (.safeNLow 5) r0).belfry.slots = r0.belfry.slots ∧ (after (.mainsLost 5) sOn).frameSlot = sOn.frameSlot := by decide +kernel

/-! ### Metering -/

/-- Meter 9 of class 3, an hourly class of shade 1 with boundary plan 0, at RTC second 3700; the journal of shade 1 may hold `limit` slots. -/
def sMetered (limit : Int) (rtc : Nat) (run : ClassRun) : State :=
  put { sPlan with meters := [(9, meter3)], classes := tmod r0.classes 3 (fun _ => run), rtc := { rtcAtReset with total := rtc } }
    [(0x4013, 1, 1), (0x4013, 11, 60), (0x4013, 12, 60), (0x4013, 13, 0), (0x1311, 10, limit)]

/-- A class whose boundary 3600 has begun. -/
abbrev begun3600 : ClassRun := { seen := 3600, begun := some (3600, 77) }

theorem witness_BoundariesFormRecords :
    ((sMetered 100 3601 { seen := 0, begun := none }).classes.length = 32 ∧ (sMetered 100 3601 { seen := 0, begun := none }).plans.length = 64 ∧
      (sMetered 100 3601 { seen := 0, begun := none }).power.mode ≠ 2 ∧ ((sMetered 100 3601 { seen := 0, begun := none }).clsRun 3).begun = none ∧
      (sMetered 100 3601 { seen := 0, begun := none }).metersOf 3 ≠ [] ∧ (sMetered 100 3601 { seen := 0, begun := none }).clsInterval 3 = 3600 ∧
      (sMetered 100 3601 { seen := 0, begun := none }).rtcSec = 3601 ∧
      ((after (.intervalBoundary 5 3) (sMetered 100 3601 { seen := 0, begun := none })).clsRun 3).begun.map (·.1) = some 3600 ∧
      ((after (.intervalBoundary 5 3) (sMetered 100 3601 { seen := 0, begun := none })).plan 0).due = some 5 ∧
      ((after (.intervalBoundary 5 3) (sMetered 100 3599 { seen := 0, begun := none })).clsRun 3).begun = none) ∧
    ((sMetered 100 3660 begun3600).journals.length = 8 ∧ (sMetered 100 3660 begun3600).domeFailed = false ∧ (sMetered 100 3660 begun3600).power.mode ≠ 2 ∧
      (sMetered 100 3660 begun3600).classesDue 1 = [(3, 3600, 77)] ∧ (sMetered 100 3659 begun3600).classesDue 1 = [] ∧
      (sMetered 100 3660 begun3600).slotsFor 1 [(sMetered 100 3660 begun3600).intervalDraft 9 meter3 3600 77] = 7 ∧
      (sMetered 100 3660 begun3600).hasRoom 1 7 = true ∧
      (after (.recordsFormed 5 1) (sMetered 100 3660 begun3600)).groups.map (fun g => (g.shade, g.boundary, g.batches.map Batch.n)) =
        [(1, some 3600, [2])] ∧
      bitOf ((sMetered 100 3660 begun3600).intervalDraft 9 meter3 3600 77).flags 5 = true) ∧
    (({ sMetered 100 3660 begun3600 with meters := [(9, { meter3 with retiring := true })] } : State).classesDue 1 = [(3, 3600, 77)] ∧
      ({ sMetered 100 3660 begun3600 with meters := [(9, { meter3 with retiring := true })] } : State).hasRoom 1
        (({ sMetered 100 3660 begun3600 with meters := [(9, { meter3 with retiring := true })] } : State).slotsFor 1 []) = true ∧
      (after (.recordsFormed 5 1) { sMetered 100 3660 begun3600 with meters := [(9, { meter3 with retiring := true })] }).groups = [] ∧
      (after (.recordsFormed 5 1) { sMetered 100 3660 begun3600 with meters := [(9, { meter3 with retiring := true })] }).classesDue 1 = []) ∧
    (((sMetered 6 3660 begun3600).makeRoom 1 7 0).hasRoom 1 7 = false ∧ (sMetered 7 3660 begun3600).hasRoom 1 7 = true ∧
      (after (.recordsFormed 5 1) (sMetered 6 3660 begun3600)).groups = [] ∧
      (after (.recordsFormed 5 1) (sMetered 6 3660 begun3600)).nat 0x4111 11 = 1) := by decide +kernel

/-- A batch of two records and its group, which retires meter 9. -/
def batch0 : Batch := { seq := 0, n := 2, bytes := zeros 384, acked := none }
def group0 (waited : Bool) : CommitGroup :=
  { shade := 1, boundary := some 3600, batches := [batch0], retire := [9], chain := { value := [], nextRecord := 2, nextBatch := 1, started := true },
    waited := waited, nextTick := 3 }

/-- A module with that group, its supply stable or not. -/
def sGroup (stable waited : Bool) : State :=
  let s := { sMetered 100 3660 { seen := 3600, begun := none } with groups := [group0 waited] }
  { s with power := { s.power with vsys := if stable then 5000 else 4749 } }

theorem witness_GroupsAreCommitted :
    ((sGroup true true).journals.length = 8 ∧ (group0 true).nextTick ≤ ms 20 ∧ (group0 true).shade < 8 ∧ (sGroup true true).supplyStable = true ∧ ((after (.commitGroup (ms 20)) (sGroup true true)).journal 1).batches = [batch0] ∧
      (after (.commitSupplyRetry (ms 20)) (sGroup true true)).meters = [] ∧ (after (.commitSupplyRetry (ms 20)) (sGroup true false)).groups = [group0 false]) ∧
    (r0.groups.head?.any (fun g => g.waited) = false ∧ (sGroup false false).supplyStable = false ∧ (after (.commitGroup 5) (sGroup false false)).nat 0x4100 8 = 1 ∧
      (after (.commitGroup 5) (sGroup false false)).groups.map (·.nextTick) = [5 + ms 10]) := by decide +kernel

/-- Shade 1 with two batches, the first of two pieces. -/
def sBatches (nextOut delivered : Nat) (acked : Option Nat) : State :=
  (sGroup true false).modJournal 1 (fun j => { j with
    batches := [{ batch0 with bytes := zeros 1153, acked := acked }, { batch0 with seq := 1 }], nextOut := nextOut, delivered := delivered })

theorem witness_BatchesAreDelivered :
    ((sBatches 0 0 none).shades.length = 8 ∧ (sBatches 0 0 none).journals.length = 8 ∧ (sBatches 0 0 none).power.mode ≠ 2 ∧ sDeep.power.mode = 2 ∧
      ((sBatches 0 0 none).journal 1).batches.find? (fun b => decide (((sBatches 0 0 none).journal 1).nextOut ≤ b.seq)) = some { batch0 with bytes := zeros 1153 } ∧
      (sBatches 0 0 none).joined 1 = true ∧ (sBatches 0 0 none).pieceRoom 1 = true ∧ ((after (.batchPieceQueued 5 1) (sBatches 0 0 none)).journal 1).piece = 1 ∧
      (((after (.batchPieceQueued 5 1) (sBatches 0 0 none)).shade 1).items.map (fun x => x.content.take 8)) =
        [[32#8, 0#8, 1#8, 0#8, 2#8, 0#8, 0x80#8, 4#8]] ∧
      ((after (.batchPieceQueued 5 1) (sBatches 1 1 none)).journal 1).delivered = 2) ∧
    (((sBatches 1 1 none).journal 1).oldest = 0 ∧ ((sBatches 1 1 none).journal 1).lastOut + sec ((sBatches 1 1 none).nat 0x4100 5) ≤ sec 86400 ∧
      ((after (.redeliveryInterval (sec 86400) 1) (sBatches 1 1 none)).journal 1).nextOut = 0 ∧
      ((after (.redeliveryInterval (sec 86400) 1) (sBatches 1 1 (some 0))).journal 1).nextOut = 1) ∧
    (((after (.retentionExpired 5 1) (sBatches 2 2 (some 3660))).journal 1).batches.length = 2 ∧
      ((after (.retentionExpired 5 1) ({ sBatches 2 2 (some 3660) with rtc := { rtcAtReset with total := 3660 + (sBatches 2 2 none).nat 0x4100 4 } })).journal 1).batches.map Batch.seq = [1]) := by
  decide +kernel

/-- R350: with a page of the newer control copy failed, a boot goes on from the older one; what was committed after it is a torn group. -/
theorem test_boot_from_older_control :
    let s := after (.commitGroup (ms 20)) (sGroup true true)
    let bad := after (.uncorrectablePage 9 2560) s
    (s.newerControl = 0 ∧ s.olderControl = s) ∧
    (bad.olderControl.newerControl = 1 ∧ (bad.olderControl.journal 1).batches = [] ∧
      bad.olderControl.bootEvents.map (·.code) = bad.bootEvents.map (·.code) ++ [0x5009] ∧ bad.olderControl.nat 0x4100 7 = 1) := by decide +kernel

/-! ### Requests -/

/-- A host's address. -/
def addr0 : Addr := { family := 4, port := 5000, bytes := [10#8, 0#8, 0#8, 2#8] }

/-- A frame of session 70 + `sh` of a shade, over Ethernet. -/
def ask (sh op : Nat) (payload : List Byte) : Frame :=
  { link := 1, src := addr0, version := 1, shade := sh, flags := 2, op := op, session := 70 + sh, seq := 5, lengthOk := true, authentic := true,
    payload := payload }

/-- That session, open since tick 0. -/
def ses (sh : Nat) : Session := { newSession (70 + sh) sh 1 (ask sh 1 []) [] [] 0 0 with isOpen := true, hiSeq := 4 }

/-- The item of a WRITE, with the type of the object. -/
def item (i j : Nat) (v : Val) : List Byte :=
  match rowOf? (key i j) with
  | some r => le 2 i ++ [byte j, byte r.ty.code] ++ le 2 (r.ty.bytes v).length ++ zeros 2 ++ r.ty.bytes v
  | none => []

/-- A WRITE by the session of a shade. -/
def wr (sh i j : Nat) (v : Val) : Frame := ask sh 2 (item i j v)

/-- The dictionary of a module with its Ethernet link up: Slate, shade 1 open with every port, 100 places of queue, and shade 2 open. -/
def dHost : List (Nat × Val) :=
  [(key 0x1200 3, .num 1), (key 0x1200 5, .num 1), (key 0x1310 1, .num 2), (key 0x1310 9, .num 100), (key 0x1311 1, .num 2), (key 0x1311 6, .num 0xFFFFFFFFFFFF),
   (key 0x1311 7, .num 0xFF), (key 0x1311 9, .num 100), (key 0x1311 10, .num 100), (key 0x1312 1, .num 2)]

/-- That module, dark, with sessions of Slate, shade 1 and shade 2. -/
def sHost : State :=
  { r0 with dict := dHost, sessions := [ses 0, ses 1, ses 2], power := { sAir.power with mode := 0 }
            belfry := { belfryAtReset with slots := 1, phase := 2 ^ 44 } }

/-- `State.mayAsk`, computed. -/
def askOk (s : State) (f : Frame) (x : Session) : Bool :=
  (s.takeFrame f).isSome && wellFramed f && decide (s.session? f.session = some x) && decide (x.link = f.link) && decide (x.shade = f.shade) &&
  x.isOpen && decide (requestCheck f = 0) && f.authentic && x.fresh f.seq && decide (peak x.hiSeq f.seq < 0xFFFFFFFE) &&
  decide (x.txSeq + 1 < 0xFFFFFFFD) && decide (s.waitingReplies.length < 16)

theorem mayAsk_of (s : State) (f : Frame) (x : Session) (h : askOk s f x = true) : s.mayAsk f x := by
  simp only [askOk, Bool.and_eq_true, decide_eq_true_eq] at h
  obtain ⟨⟨⟨⟨⟨⟨⟨⟨⟨⟨⟨a, b⟩, c⟩, d⟩, e⟩, g⟩, i⟩, j⟩, k⟩, l⟩, m⟩, n⟩ := h
  exact ⟨a, b, c, d, e, g, i, j, k, l, m, n⟩

/-- `State.mayWriteTo`, computed. -/
def writeOk (s : State) (f : Frame) (x : Session) (i j : Nat) (v : Val) : Bool :=
  askOk s f x && decide (f.op = 2) && decide ((takeItem f.payload).1.index = i) && decide ((takeItem f.payload).1.sub = j) &&
  decide ((s.accept f x).itemCheck x.shade false (takeItem f.payload).1 = (0, { key := objKey x.shade i j, val := v })) &&
  decide (fieldAt (takeItem f.payload).1.value 0 (takeItem f.payload).1.value.length = v.toInt.toNat) &&
  decide ((s.accept f x).verdict (writerOf x) [{ key := objKey x.shade i j, val := v }] = (0, 0xFF)) &&
  decide ((s.accept f x).verifyFails { key := objKey x.shade i j, val := v } = false) && s.supplyStable

theorem mayWriteTo_of (s : State) (f : Frame) (x : Session) (i j : Nat) (v : Val) (h : writeOk s f x i j v = true) : s.mayWriteTo f x i j v := by
  simp only [writeOk, Bool.and_eq_true, decide_eq_true_eq] at h
  obtain ⟨⟨⟨⟨⟨⟨⟨⟨a, b⟩, c⟩, d⟩, e⟩, g⟩, i⟩, j⟩, k⟩ := h
  exact ⟨mayAsk_of _ _ _ a, b, c, d, e, g, i, j, k⟩

/-- Ops, status and first bytes of the frames that a command sent. -/
def sent (s s' : State) : List (Nat × Nat) := (s'.txq.drop s.txq.length).map (fun o => (o.op, fieldAt o.payload 4 2))

theorem witness_OnlyAuthenticFramesAct :
    ((after (.write 5 { wr 1 0x1500 7 (.num 2000) with authentic := false }) sHost).nat 0x1500 23 = sHost.nat 0x1500 23 ∧
      (after (.write 5 (wr 1 0x1500 7 (.num 2000))) sHost).nat 0x1500 23 = 2000) ∧
    (sHost.hears (ask 1 1 []) = true ∧ wellFramed { ask 1 1 [] with flags := 0 } = false ∧
      (after (.oapFrameDiscarded 5 { ask 1 1 [] with flags := 0 }) sHost).nat 0x1200 9 = 1) := by decide +kernel

/-- A READ of one object, by shade 1. -/
def rd (i j part : Nat) : Frame := ask 1 1 ([1#8, 0#8, 0#8, 0#8] ++ le 2 i ++ [byte j, byte part])

theorem witness_ReadsAreAnswered :
    ((sHost.at 5).mayAsk (rd 0x1500 7 0) (ses 1) ∧ sHost.replyRoom (ses 1)) ∧
    (sent sHost (after (.read 5 (rd 0x1500 7 0)) sHost) = [(1, 0)]) ∧
    ((sHost.at 5).mayAsk (ask 1 3 (zeros 12)) (ses 1) ∧ sent sHost (after (.readBlock 5 (ask 1 3 (zeros 12))) sHost) = [(3, 0x0101)]) ∧
    ((sHost.at 5).mayAsk (rd 0x1A00 1 0) (ses 1) ∧ ((after (.secondsRead 5 (rd 0x1A00 1 0)) sHost).session? 71).map (·.shadow) = some (some (5, 0))) ∧
    ((sHost.at 5).mayAsk (rd 0x1A00 8 0) (ses 1) ∧
      ((after (.centuryRead 5 { rd 0x1A00 8 0 with seq := 6 }) (after (.secondsRead 5 (rd 0x1A00 1 0)) sHost)).session? 71).map (·.shadow) = some none) := by
  refine ⟨⟨mayAsk_of _ _ _ ?_, ?_, ?_⟩, ?_, ⟨mayAsk_of _ _ _ ?_, ?_⟩, ⟨mayAsk_of _ _ _ ?_, ?_⟩, ⟨mayAsk_of _ _ _ ?_, ?_⟩⟩ <;> decide +kernel

theorem witness_ObjectsAreGuarded :
    ((sHost.at 5).mayAsk (rd 0x7000 0 0) (ses 1) ∧ sHost.replyRoom (ses 1) ∧ within tableFourNamed 0x7000 = false ∧ within tableFourRanges 0x7000 = false ∧
      (after (.read 5 (rd 0x7000 0 0)) sHost).txq.map (fun o => o.payload.drop 8) = [refusedItem 0x7000 0 0x0101]) ∧
    ((sHost.at 5).mayAsk (rd 0x3112 1 0) (ses 1) ∧
      (after (.read 5 (rd 0x3112 1 0)) sHost).txq.map (fun o => o.payload.drop 8) = [refusedItem 0x3112 1 0x0103]) ∧
    ((sHost.at 5).mayAsk (wr 0 0x3117 1 (.num 0)) (ses 0) ∧ sent sHost (after (.write 5 (wr 0 0x3117 1 (.num 0))) sHost) = [(2, 0x0103)]) ∧
    ((sHost.at 5).mayAsk (wr 1 0x2300 4 (.num 0)) (ses 1) ∧ within slateWritten 0x2300 = true ∧ within slateWritten 0x220C = false ∧ subExists 0x2300 4 = true ∧
      sent sHost (after (.write 5 (wr 1 0x2300 4 (.num 0))) sHost) = [(2, 0x0104)]) ∧
    ((sHost.at 5).mayAsk (ask 1 2 ([0#8, 0x70#8, 0#8, 5#8, 1#8, 0#8, 0#8, 0#8, 0#8])) (ses 1) ∧
      sent sHost (after (.write 5 (ask 1 2 ([0#8, 0x70#8, 0#8, 5#8, 1#8, 0#8, 0#8, 0#8, 0#8]))) sHost) = [(2, 0x0101)]) := by
  refine ⟨⟨mayAsk_of _ _ _ ?_, ⟨?_, ?_⟩, ?_, ?_, ?_⟩, ⟨mayAsk_of _ _ _ ?_, ?_⟩, ⟨mayAsk_of _ _ _ ?_, ?_⟩, ⟨mayAsk_of _ _ _ ?_, ?_, ?_, ?_, ?_⟩,
    ⟨mayAsk_of _ _ _ ?_, ?_⟩⟩ <;> decide +kernel

theorem witness_WritesTakeEffectOrAreRefused :
    ((sHost.at 5).mayAsk (wr 1 0x1B10 1 (.num 0)) (ses 1) ∧ sHost.replyRoom (ses 1) ∧
      (((sHost.at 5).accept (wr 1 0x1B10 1 (.num 0)) (ses 1)).itemCheck 1 false (takeItem (wr 1 0x1B10 1 (.num 0)).payload).1).1 = 0x0104 ∧
      sent sHost (after (.write 5 (wr 1 0x1B10 1 (.num 0))) sHost) = [(2, 0x0104)]) ∧
    ((sHost.at 5).mayWriteTo (wr 1 0x1500 7 (.num 2000)) (ses 1) 0x1500 7 (.num 2000) ∧ clsOf (objKey 1 0x1500 7) ≠ .c ∧
      isStored (objKey 1 0x1500 7) = true) ∧
    ((sHost.at 5).mayAsk (wr 0 0x1B10 1 (.num 0)) (ses 0) ∧ clsOf (objKey 0 0x1B10 1) = .c ∧
      sent sHost (after (.write 5 (wr 0 0x1B10 1 (.num 0))) sHost) = [(2, 0x0104)]) := by
  refine ⟨⟨mayAsk_of _ _ _ ?_, ⟨?_, ?_⟩, ?_, ?_⟩, ⟨mayWriteTo_of _ _ _ _ _ _ ?_, ?_, ?_⟩, mayAsk_of _ _ _ ?_, ?_, ?_⟩ <;> decide +kernel

/-- A transaction of the session of shade 1 that stages a redelivery time. -/
def txn1 (waiting : Bool) (l : List Staged) : Txn :=
  { num := 9, session := 71, shade := 1, waiting := waiting, lastTick := 0, staged := l, boundary := { kind := 0, slot := 4, frame := 0 }
    accepted := 0 }

/-- A module with a transaction. -/
def sTxn (y : Txn) : State := { sHost with txns := [y], nextTxn := 10 }

/-- Its write, with the change count as it was `c`. -/
def staged1 (c : Nat) : Staged := { key := key 0x1500 23, val := .num 2000, count := c }

/-- Frames of the transaction's session. -/
def stageFrame : Frame := ask 1 0x11 (le 4 9 ++ [1#8, 0#8, 0#8, 0#8] ++ item 0x1500 7 (.num 2000))
def commitFrame (mode slot : Nat) : Frame := ask 1 0x12 (le 4 9 ++ [byte mode, 0#8, 0#8, 0#8] ++ le 4 slot ++ zeros 4)
def abortFrame : Frame := ask 1 0x13 (le 4 9)

theorem judge_of (s : State) (w : Writer) (ps : List Put) (h : s.verdict w ps = (0, 0xFF))
    (v : firstBad (fun p => if s.verifyFails p then 0x0106 else 0) 1 ps = none) : s.judge w ps = ((0, 0xFF), s) := by
  simp [State.judge, h, v]

theorem witness_TransactionsStageCommitAndEnd_judge :
    (((sTxn (txn1 false [staged1 0])).at 5).accept (commitFrame 3 4) (ses 1)).judge (writerOf (ses 1)) (txn1 false [staged1 0]).puts =
      ((0, 0xFF), ((sTxn (txn1 false [staged1 0])).at 5).accept (commitFrame 3 4) (ses 1)) := by
  apply judge_of <;> decide +kernel

theorem witness_TransactionsStageCommitAndEnd :
    ((sHost.at 5).mayAsk (ask 1 0x10 (zeros 4)) (ses 1) ∧ sHost.replyRoom (ses 1) ∧ sHost.inSafe = false ∧ sHost.placeFor 1 = true ∧ sHost.txns = [] ∧
      sent sHost (after (.txnOpen 5 (ask 1 0x10 (zeros 4))) sHost) = [(0x10, 0)]) ∧
    ((sTxn (txn1 false [])).txns.any (fun y => decide (y.session = 71) && !y.waiting) = true ∧
      sent (sTxn (txn1 false [])) (after (.txnOpen 5 (ask 1 0x10 (zeros 4))) (sTxn (txn1 false []))) = [(0x10, 0x0401)]) ∧
    (((sTxn (txn1 false [])).at 5).mayAsk stageFrame (ses 1) ∧ (sTxn (txn1 false [])).staging? 71 9 = some (txn1 false []) ∧
      (((sTxn (txn1 false [])).at 5).accept stageFrame (ses 1)).stageItems 1 1 (takeItems (byteAt stageFrame.payload 4) (stageFrame.payload.drop 8)) [] =
        ((0, 0xFF), [staged1 0]) ∧
      ((after (.txnStage 5 stageFrame) (sTxn (txn1 false []))).staging? 71 9).map (·.staged) = some [staged1 0]) ∧
    (((sTxn (txn1 false [staged1 0])).at 5).mayAsk (commitFrame 3 4) (ses 1) ∧ (sTxn (txn1 false [staged1 0])).conflict [staged1 0] = none ∧
      (((sTxn (txn1 false [staged1 0])).at 5).accept (commitFrame 3 4) (ses 1)).boundaryOf 3 4 false = some (some { kind := 0, slot := 4, frame := 0 }) ∧
      sHost.supplyStable = true ∧
      (after (.txnCommit 5 (commitFrame 3 4)) (sTxn (txn1 false [staged1 0]))).txns.map (fun z => (z.waiting, z.boundary.slot)) = [(true, 4)]) ∧
    (((sTxn (txn1 false [staged1 7])).at 5).mayAsk (commitFrame 0 0) (ses 1) ∧ (sTxn (txn1 false [staged1 7])).conflict [staged1 7] = some (0x0201, 1) ∧
      (sTxn (txn1 false [])).txnStats.length = 8 ∧
      sent (sTxn (txn1 false [staged1 7])) (after (.txnCommit 5 (commitFrame 0 0)) (sTxn (txn1 false [staged1 7]))) = [(0x12, 0x0201)]) ∧
    (((sTxn (txn1 false [])).at 5).mayAsk abortFrame (ses 1) ∧ (after (.txnAbort 5 abortFrame) (sTxn (txn1 false []))).txns = [] ∧
      ((sTxn (txn1 true [])).at 5).mayAsk abortFrame (ses 1) ∧ (txn1 true []).waiting = true ∧
      peak (sTxn (txn1 true [])).now 5 + us 200 <
        ((sTxn (txn1 true [])).at 5).earliestBoundary (((sTxn (txn1 true [])).at 5).boundaryAhead (txn1 true []).boundary) ∧
      (after (.txnAbort 5 abortFrame) (sTxn (txn1 true []))).txns = [] ∧
      ((sTxn (txn1 true [])).at (ms 5)).earliestBoundary (((sTxn (txn1 true [])).at (ms 5)).boundaryAhead (txn1 true []).boundary) ≤ ms 5 + us 200 ∧
      sent (sTxn (txn1 true [])) (after (.txnAbort (ms 5) abortFrame) (sTxn (txn1 true []))) = [(0x13, 0x0401)]) ∧
    ((sTxn (txn1 false [])).txns.find? (fun z => decide (z.num = 9)) = some (txn1 false []) ∧ (txn1 false []).lastTick + sec 10 ≤ sec 10 ∧
      (after (.transactionExpired (sec 10) 9) (sTxn (txn1 false []))).txns = [] ∧ (after (.transactionExpired (sec 10 - 1) 9) (sTxn (txn1 false []))).txns.length = 1) ∧
    ((after (.storeAfterBoundaryRetry 5 9) { sHost with lateStores := [{ num := 9, shade := 1, nextTick := 5 }] }).lateStores = [] ∧
      (after (.storeAfterBoundaryRetry 5 9)
        { sHost with lateStores := [{ num := 9, shade := 1, nextTick := 5 }], power := { sHost.power with vsys := 0 } }).nat 0x1600 5 = 1) := by
  refine ⟨⟨mayAsk_of _ _ _ ?_, ⟨?_, ?_⟩, ?_⟩, ?_, ⟨mayAsk_of _ _ _ ?_, ?_⟩, ⟨mayAsk_of _ _ _ ?_, ?_⟩, ⟨mayAsk_of _ _ _ ?_, ?_⟩,
    ⟨mayAsk_of _ _ _ ?_, ?_, mayAsk_of _ _ _ ?_, ?_⟩, ?_⟩ <;> decide +kernel

/-- An item of a shade's queue. -/
def qItem (number : Option Nat) : QItem := { isEvent := true, cls := 0, content := zeros 20, number := number, sentTick := 0, again := false, lines := [] }

/-- Shade 1 subscribed with one item, delivered to its session. -/
def sQueued (number : Option Nat) : State :=
  sHost.modShade 1 (fun y => { y with delivery := 71, subFlags := 3, classMask := eventClasses, nextNumber := 8, items := [qItem number] })

/-- Frames of the session of shade 1. -/
def subscribeFrame (flags : Nat) : Frame := ask 1 0x20 ([byte flags, 0#8, 0#8, 0#8] ++ le 32 2)
def ackFrame (n : Nat) : Frame := ask 1 0x22 (le 4 n)

theorem witness_ItemsAreDeliveredAndAcknowledged :
    ((sHost.at 5).mayAsk (subscribeFrame 3) (ses 1) ∧ sHost.replyRoom (ses 1) ∧ sHost.shades.length = 8 ∧ (2 &&& eventClasses = 2) ∧
      bitOf 7 2 = true ∧ bitOf 3 2 = false ∧
      ((after (.subscribe 5 (subscribeFrame 7)) (sQueued (some 7))).shade 1).items.map (·.again) = [true] ∧
      ((after (.subscribe 5 (subscribeFrame 3)) sHost).shade 1).delivery = 0) ∧
    ((sQueued none).session? ((sQueued none).shade 1).delivery = some (ses 1) ∧ (ses 1).shade = 1 ∧ (ses 1).isOpen = true ∧ (ses 1).txSeq + 1 < 0xFFFFFFFD ∧
      ((sQueued none).at 5).stageTurn 2 = some 1 ∧ ((sQueued none).shade 1).oldestAgain = none ∧ ((sQueued none).shade 1).items = [qItem none] ∧
      ((after (.event 5 1) (sQueued none)).shade 1).items.map (·.number) = [some 8] ∧ ((after (.event 5 1) (sQueued none)).txq.map (·.op)) = [0x21]) ∧
    (((sQueued (some 7)).at 5).mayAsk (ackFrame 7) (ses 1) ∧ 7 < ((sQueued (some 7)).shade 1).nextNumber ∧
      ((after (.ack 5 (ackFrame 7)) (sQueued (some 7))).shade 1).items = [] ∧ ((after (.ack 5 (ackFrame 6)) (sQueued (some 7))).shade 1).items.length = 1) ∧
    (sHost.at 5).stageTurn 2 ≠ some 1 ∧
    (((sQueued (some 7)).shade 1).items.any (fun i => i.number.isSome && !i.again &&
        decide (i.sentTick + ms ((sQueued (some 7)).nat 0x1500 (16 * 1 + 7)) ≤ peak (sQueued (some 7)).now (sec 3600))) = true ∧
      ((after (.redeliveryTimeExpired (sec 3600) 1) { sQueued (some 7) with sessions := [] }).shade 1).items.map (·.again) = [true]) := by
  refine ⟨⟨mayAsk_of _ _ _ ?_, ⟨?_, ?_⟩, ?_⟩, ?_, ⟨mayAsk_of _ _ _ ?_, ?_⟩, ?_⟩ <;> decide +kernel

/-! ### Writes -/

/-- A write of an object passes its checks at tick 5, in the session of a shade. -/
def passes (s : State) (sh i j : Nat) (v : Val) : Bool := writeOk (s.at 5) (wr sh i j v) (ses sh) i j v

/-- The state after a WRITE. -/
def wrote (s : State) (sh i j : Nat) (v : Val) : State := after (.write 5 (wr sh i j v)) s

theorem mayWriteTo_of_passes (s : State) (sh i j : Nat) (v : Val) (h : passes s sh i j v = true) :
    (s.at 5).mayWriteTo (wr sh i j v) (ses sh) i j v := mayWriteTo_of _ _ _ _ _ _ h

theorem witness_ManagementCommandsAreWrites :
    manageRow (.requestedState 5 (wr 0 0x2103 1 (.num 1))) = some (5, wr 0 0x2103 1 (.num 1), fun _ => rowsRequestedState) ∧
    (sHost.at 5).writesTo (wr 0 0x2103 1 (.num 1)) rowsRequestedState = true ∧ (wr 0 0x2103 1 (.num 1)).op = 2 ∧
    (sHost.at 5).writesTo (wr 0 0x2103 5 (.num 1)) rowsRequestedState = false ∧
    ((sTxn (txn1 false [{ key := key 0x1310 3, val := .num 0, count := 0 }])).at 5).writesTo (ask 1 0x12 (le 4 9 ++ zeros 12)) rowsShadeOpened = true := by
  refine ⟨rfl, ?_⟩; decide +kernel

/-- A fault on a UHF and an HF port whose causes have cleared. -/
def sFaults : State := put sHost [(0x2103, 3, 1), (0x2103, 4, 1), (0x2403, 3, 1), (0x2403, 4, 1)]

/-- A range of identities 9 to 12 for shade 1, its class 3, and some meters. -/
def sReg (l : List (Nat × Meter)) : State := put { sHost with meters := l } [(0x4013, 1, 1), (0x4000, 5, 65536 * 9 + 4), (0x4013, 11, 60)]

/-- Shade 1 with a batch delivered. -/
def sDelivered : State := sHost.modJournal 1 (fun j => { j with batches := [batch0], nextOut := 1, delivered := 1 })

/-- The 40 bytes that enrol meter 9 in class 3. -/
def enrol9 : Val := .oct (fit 40 [9#8, 0#8, 3#8, 0#8, 41#8])

theorem witness_PortAndMeterWrites :
    (passes sHost 0 0x2103 1 (.num 1) = true ∧ ((wrote sHost 0 0x2103 1 (.num 1)).port 3).enabled = true ∧ passes sHost 0 0x2103 1 (.num 0) = true ∧
      ((wrote (wrote sHost 0 0x2103 1 (.num 1)) 0 0x2103 1 (.num 0)).port 3).enabled = true) ∧
    (passes sFaults 0 0x2103 5 (.num 1) = true ∧ (wrote sFaults 0 0x2103 5 (.num 1)).nat 0x2103 3 = 0 ∧
      passes (sFaults.set 0x2103 3 4) 0 0x2103 5 (.num 1) = true ∧ (wrote (sFaults.set 0x2103 3 4) 0 0x2103 5 (.num 1)).nat 0x2103 3 = 4 ∧ passes sHost 0 0x2103 5 (.num 1) = false) ∧
    (passes sHost 0 0x2403 1 (.num 1) = true ∧ passes sFaults 0 0x2403 5 (.num 1) = true) ∧
    (passes sHost 0 0x2203 16 (.num 1) = true ∧ passes sHost 1 0x3100 4 (.num 1) = true) ∧
    (passes sDelivered 1 0x4111 4 (.num 0) = true ∧ ((wrote sDelivered 1 0x4111 4 (.num 0)).journal 1).batches.map Batch.acked = [some 0] ∧
      passes sDelivered 1 0x4111 4 (.num 1) = false ∧ passes sDelivered 1 0x4111 5 (.num 0) = true) ∧
    (passes (sReg []) 1 0x4031 1 enrol9 = true ∧ ((wrote (sReg []) 1 0x4031 1 enrol9).meter 9).map Meter.cNext = some 41 ∧
      passes (sReg [(9, meter3)]) 1 0x4031 1 enrol9 = false) ∧
    (passes (sReg [(9, meter3)]) 1 0x4031 2 (.num 9) = true ∧ passes (sReg [(9, meter3)]) 1 0x4031 3 (.num 9) = true ∧
      ((wrote (sReg [(9, meter3)]) 1 0x4031 3 (.num 9)).meter 9).map Meter.marked = some (some 5)) := by decide +kernel

/-- The module with a second session of shade 1, or with a request of Slate on its way over the Spire link. -/
def sTwo : State := { sHost with sessions := sHost.sessions ++ [{ ses 1 with id := 75 }] }
def spire (f : Frame) : Frame := { f with link := 2 }
def sSpire (f : Frame) : State :=
  let s := put { sHost with sessions := [{ ses 0 with link := 2 }] } [(0x1210, 3, 1)]
  { s with spire := { s.spire with inbox := [frameHeader (spire f) ++ zeros (f.payload.length + 16)] } }
def passesSpire (s : State) (f : Frame) (i j : Nat) (v : Val) : Bool := writeOk (s.at 5) (spire f) { ses 0 with link := 2 } i j v

/-- Ethernet off, with strap settings that select the 10BASE-T1S interface. -/
def sOff (f : Frame) : State := put (sSpire f) [(0x1200, 3, 0), (0x1200, 5, 0)]

theorem witness_ShadeAndLinkWrites :
    (passes sTwo 1 0x1321 5 (.num 75) = true ∧ (wrote sTwo 1 0x1321 5 (.num 75)).session? 75 = none ∧ passes sTwo 1 0x1321 5 (.num 71) = false) ∧
    (passes sHost 1 0x1311 14 (.num 1) = true ∧ (wrote sHost 1 0x1311 14 (.num 1)).shadeState 1 = 0 ∧ (wrote sHost 1 0x1311 14 (.num 1)).session? 71 = none) ∧
    (passes sHost 0 0x1311 14 (.num 2) = true ∧ (wrote sHost 0 0x1311 14 (.num 2)).shadeState 1 = 3) ∧
    (passes (sHost.set 0x1311 1 3) 0 0x1311 14 (.num 3) = true ∧ passes sHost 0 0x1311 14 (.num 3) = false) ∧
    (passesSpire (sSpire (wr 0 0x1200 5 (.num 0))) (wr 0 0x1200 5 (.num 0)) 0x1200 5 (.num 0) = true ∧ sHost.ethInterface = 1 ∧
      (after (.ethernetEnable 5 (spire (wr 0 0x1200 5 (.num 0)))) (sSpire (wr 0 0x1200 5 (.num 0)))).linkUp 1 = false) ∧
    (passesSpire (sOff (wr 0 0x1200 5 (.num 1))) (wr 0 0x1200 5 (.num 1)) 0x1200 5 (.num 1) = true ∧
      (sOff (wr 0 0x1200 5 (.num 1))).linkUp 1 = false ∧ (sOff (wr 0 0x1200 5 (.num 1))).eth.mdioStarted = false ∧
      (after (.ethernetEnable 5 (spire (wr 0 0x1200 5 (.num 1)))) (sOff (wr 0 0x1200 5 (.num 1)))).linkUp 1 = true) ∧
    (passes sHost 0 0x1210 1 (.num 0) = true ∧ passes sHost 0 0x1210 1 (.num 1) = true) := by decide +kernel

/-- Timer 4 held by shade 1, its channel 0 in a mode. -/
def sTimer4 (mode : Nat) : State := put { sHost with timers := tmod r0.timers 4 (fun x => { x with holder := 1 }) } [(0x1914, 5, mode)]

/-- An alarm that restores power. -/
def sAlarm : State := put sHost [(0x1A10, 1, 1), (0x1A10, 9, 4)]

theorem witness_TimerClockAndPowerWrites :
    (modeOf ((sTimer4 1).chanConfig 4 0) = 1 ∧ passes (sTimer4 1) 1 0x1914 6 (.num 9) = true ∧
      (((wrote (sTimer4 1) 1 0x1914 6 (.num 9)).timer 4).ch 0).state = 1) ∧
    (modeOf ((sTimer4 3).chanConfig 4 0) = 3 ∧ passes (sTimer4 3) 1 0x1914 6 (.num 9) = true ∧
      (((wrote (sTimer4 3) 1 0x1914 6 (.num 9)).timer 4).ch 0).state = 2) ∧
    (passes (sTimer4 1) 1 0x1914 13 (.num 1) = true ∧ ((wrote (sTimer4 1) 1 0x1914 13 (.num 1)).timer 4).output = true) ∧
    (passes sHost 0 0x1A00 2 (.num 0x30) = true ∧ passes sHost 0 0x1A00 1 (.num 0x15) = true ∧ newTime sHost.rtc.total (ses 0).staged 0x15 = some 15 ∧
      (wrote sHost 0 0x1A00 1 (.num 0x15)).rtc.total = 15) ∧
    (passes sAlarm 0 0x1A20 2 (.num 10) = true ∧ (wrote sAlarm 0 0x1A20 2 (.num 10)).rtc.offDue = some 10 ∧ passes sHost 0 0x1A20 2 (.num 0) = true) ∧
    (passes { sHost with power := { sHost.power with mode := 1 } } 0 0x1101 1 (.num 0) = true ∧ sHost.power.mode = 0 ∧
      passes sHost 0 0x1101 1 (.num 1) = true ∧ passes sAlarm 0 0x1101 1 (.num 2) = true ∧
      (wrote sHost 0 0x1101 1 (.num 1)).power.modeDue = some 1) ∧
    (passes sHost 0 0x1104 3 (.num 10) = true ∧ (wrote sHost 0 0x1104 3 (.num 10)).power.spreadEnd = some (5 + sec 600)) := by decide +kernel

/-- A module with image slot B at a state, the whole of an image of 1,024 bytes loaded, whose header names SHA-256 of no bytes; slot A
runs at another state. -/
def sImage (b a : Nat) : State :=
  put { sHost with store := { storeAtReset with
    slotB := { storeAtReset.slotB with state := b, verifies := true }, slotA := { storeAtReset.slotA with state := a }, loadLength := 1024
    mram := ([0x4A, 0x48, 0x34, 0x38, 1, 3, 0, 0, 0, 0, 0, 0, 0, 4, 0, 0, 1, 0, 0, 0, 0xE3, 0xB0, 0xC4, 0x42, 0x98, 0xFC, 0x1C, 0x14, 0x9A, 0xFB, 0xF4, 0xC8,
      0x99, 0x6F, 0xB9, 0x24, 0x27, 0xAE, 0x41, 0xE4, 0x64, 0x9B, 0x93, 0x4C, 0xA4, 0x95, 0x99, 0x1B, 0x78, 0x52, 0xB8, 0x55].zipIdx.map
        (fun e => (4096 * slotBase 1 + e.2, byte e.1))).filter (fun e => e.2 ≠ 0) } } [(0x1620, 2, 1024)]

/-- A scan of 8 bytes of region 0 with algorithm 2, and a computation over 8 bits. -/
def scan8 : Val := .oct [0#8, 2#8, 0#8, 0#8, 0#8, 0#8, 0#8, 0#8, 8#8, 0#8, 0#8, 0#8]
def compute8 : Val := .oct (fit 1032 [2#8, 0#8, 8#8, 0#8, 0#8, 0#8, 0#8, 0#8, 0x31#8])

/-- The scan of shade 1 running. -/
def sScan : State := sHost.modSession 71 (fun x => { x with scan := { x.scan with state := 2 } })

/-- Each shade's note of a full queue as it is. -/
def sSettled : State := { sHost with shades := sHost.shades.mapIdx (fun h y => { y with wasFull := sHost.isFull h }) }

theorem witness_FirmwareEngineAndTestWrites :
    (passes sHost 0 0x1620 1 (.num 4096) = true ∧ passes (sImage 1 4) 0 0x1620 3 (.oct (zeros 1028)) = true ∧
      passes (sImage 2 4) 0 0x1620 5 (.num 1) = true ∧ (wrote (sImage 2 4) 0 0x1620 5 (.num 1)).store.coldStartDue = some (5 + ms 100)) ∧
    (passes (sImage 0 3) 0 0x1620 5 (.num 2) = true ∧ passes (sImage 0 4) 0 0x1620 5 (.num 2) = false ∧
      ((wrote (sImage 0 3) 0 0x1620 5 (.num 2)).store.slot 0).state = 4) ∧
    (passes sHost 1 0x1801 1 compute8 = true ∧ sHost.scanning = none ∧ sHost.scansQueued = [] ∧ passes sHost 1 0x1810 1 scan8 = true ∧
      ((wrote sHost 1 0x1810 1 scan8).session? 71).map (fun x => x.scan.state) = some 2) ∧
    (sScan.scanning.map Session.id = some 71 ∧ passes sScan 0 0x1810 1 scan8 = true ∧
      ((wrote sScan 0 0x1810 1 scan8).session? 70).map (fun x => x.scan.state) = some 1) ∧
    (((wrote sScan 1 0x1810 2 (.num 1)).session? 71).map (fun x => x.scan.state) = some 5) ∧
    (passes sHost 0 0x1700 3 (.num 1) = true ∧ passes (put sHost [(0x1110, 1, 1)]) 0 0x1110 5 (.num 1) = true ∧ (put sHost [(0x1110, 1, 1)]).inSafe = true) ∧
    (passes sHost 0 0x1710 4 (.num 1) = true ∧ (wrote sHost 0 0x1710 4 (.num 1)).box.frozen = 2 ∧
      passes { sHost with box := { sHost.box with frozen := 2 } } 0 0x1710 5 (.num 1) = true) ∧
    (passes sHost 0 0x1750 1 (.num 1) = true ∧
      (List.range 8).all (fun h => (sSettled.shade h).wasFull == sSettled.isFull h && (sSettled.shade h).dropped == 0) ∧ passes sSettled 0 0x1750 2 (.num 1) = true) := by decide +kernel

theorem witness_FirmwareEngineAndTestWrites_room : sSettled.replyRoom (ses 0) := by constructor <;> decide +kernel

/-- Verify passes where the Dome finds the hash and the signature of the header right. -/
theorem witness_FirmwareEngineAndTestWrites_verify (hash : fit 32 (Config.sha256 []) = slice ((sImage 1 4).fwHeader 1) 20 32)
    (signed : Config.firmwareVerify (((sImage 1 4).fwHeader 1).take 52) (slice ((sImage 1 4).fwHeader 1) 52 64) = true) :
    (sImage 1 4).verifyCheck = 0 := by
  have e : Memory.readAll (sImage 1 4).store.mram (4096 * slotBase 1 + 1024) (fieldAt ((sImage 1 4).fwHeader 1) 12 4 - 1024) = [] := by decide +kernel
  have t : (sImage 1 4).store.target = 1 := by decide +kernel
  simp only [State.verifyCheck, t, e, hash, signed, decide_true]
  decide +kernel

/-- A key of 33 bytes, and a new key with its signature. -/
def key33 : List Byte := fit 33 [2#8, 9#8]
def rotation : List Byte := fit 97 [3#8, 7#8]

/-- Shade 3 closed, a transaction of Slate that stages its owner key. -/
def sOpening : State :=
  { sHost with
      txns := [{ txn1 false [{ key := key 0x1313 3, val := .oct key33, count := 0 }] with session := 70, shade := 0 }]
      nextTxn := 10 }

/-- The frame that commits it. -/
def openShade : Frame := ask 0 0x12 (le 4 9 ++ zeros 12)

theorem verdict_of (s : State) (w : Writer) (p : Put) (right : s.rightCheck w.shade p.key = 0) (rule : State.rule s (s.applied [p]) w [p] p = 0)
    (bound : (s.applied [p]).bound p = 0) : s.verdict w [p] = (0, 0xFF) := by
  simp [State.verdict, firstBad, firstOf, right, rule, bound]

theorem rule_shades (o n : State) (w : Writer) (ps : List Put) (h j k : Nat) (v : Val) (hh : h < 8) (i : keyIndex k = 0x1310 + h) (e : keySub k = j) :
    State.rule o n w ps { key := k, val := v } = State.ruleShades o n w ps (0x1310 + h) j v := by
  simp only [State.rule, i, e]
  rw [if_neg (by omega), if_neg (by omega), if_pos (by omega)]

/-- Where the Dome finds the key a point of the curve, the commit that opens shade 3 passes its checks. -/
theorem witness_ShadeAndLinkWrites_open (curve : Config.onCurve key33 = true) :
    ((sOpening.at 5).accept openShade (ses 0)).verdict (writerOf (ses 0)) [{ key := key 0x1313 3, val := .oct key33 }] = (0, 0xFF) ∧
    (sOpening.at 5).mayAsk openShade (ses 0) ∧ sOpening.conflict [{ key := key 0x1313 3, val := .oct key33, count := 0 }] = none ∧
    (sOpening.staging? 70 (fieldAt openShade.payload 0 4)).map Txn.puts = some [{ key := key 0x1313 3, val := .oct key33 }] := by
  refine ⟨verdict_of _ _ _ ?_ ?_ ?_, mayAsk_of _ _ _ ?_, ?_, ?_⟩
  · decide +kernel
  · have st : ((sOpening.at 5).accept openShade (ses 0)).shadeState 3 = 0 := by decide +kernel
    have := rule_shades ((sOpening.at 5).accept openShade (ses 0)) (((sOpening.at 5).accept openShade (ses 0)).applied [{ key := key 0x1313 3, val := .oct key33 }])
      (writerOf (ses 0)) [{ key := key 0x1313 3, val := .oct key33 }] 3 3 (key 0x1313 3) (.oct key33) (by omega) rfl rfl
    rw [this]
    simp [State.ruleShades, st, refuse, Val.toBytes, curve]
  all_goals decide +kernel

/-- Where the Dome finds a new key and its signature right, a rotation of the key of shade 1 passes its checks. -/
theorem witness_ShadeAndLinkWrites_rotate (curve : Config.onCurve (rotation.take 33) = true)
    (signed : Config.verify (rotation.take 33) (ascii "HJ48 rotate" ++ [byte 1] ++ rotation.take 33) (rotation.drop 33) = true) :
    ((sHost.at 5).accept (wr 1 0x1311 4 (.oct rotation)) (ses 1)).verdict (writerOf (ses 1)) [{ key := key 0x1311 4, val := .oct rotation }] = (0, 0xFF) ∧
    (sHost.at 5).mayAsk (wr 1 0x1311 4 (.oct rotation)) (ses 1) ∧
    ((sHost.at 5).accept (wr 1 0x1311 4 (.oct rotation)) (ses 1)).itemCheck 1 false (takeItem (wr 1 0x1311 4 (.oct rotation)).payload).1 =
      (0, { key := key 0x1311 4, val := .oct rotation }) := by
  refine ⟨verdict_of _ _ _ ?_ ?_ ?_, mayAsk_of _ _ _ ?_, ?_⟩
  · decide +kernel
  · have := rule_shades ((sHost.at 5).accept (wr 1 0x1311 4 (.oct rotation)) (ses 1))
      (((sHost.at 5).accept (wr 1 0x1311 4 (.oct rotation)) (ses 1)).applied [{ key := key 0x1311 4, val := .oct rotation }])
      (writerOf (ses 1)) [{ key := key 0x1311 4, val := .oct rotation }] 1 4 (key 0x1311 4) (.oct rotation) (by omega) rfl rfl
    rw [this]
    simpa [State.ruleShades, refuse, Val.toBytes, curve] using signed
  all_goals decide +kernel

/-! ### The Dome, sessions and links -/

/-- A HELLO of phase 1 for an owner session of shade 1, and one of phase 2 on session 76 with a payload. -/
def hello1 : Frame := { ask 1 0x30 ([1#8, 0#8] ++ zeros 70) with session := 0, flags := 0 }
def hello2 (sh : Nat) (payload : List Byte) : Frame := { ask sh 0x30 payload with session := 76 }

/-- A half-open session 76 of a shade and mode beside the others; Slate stands at a state. -/
def sHalf (sh mode slate : Nat) : State := put { sHost with sessions := [newSession 76 sh mode (ask sh 1 []) [] [] 0 0, ses 2] } [(0x1310, 1, slate)]

/-- The hypotheses that the Dome's own functions do not enter; those functions are opaque, so what they answer is not computed here. -/
theorem witness_HandshakesOpenSessions :
    ((sHost.takeFrame hello1).isSome = true ∧ wellFramed hello1 = true ∧ bitOf hello1.flags 1 = false ∧ bitOf hello1.flags 0 = false ∧
      byteAt hello1.payload 0 = 1 ∧ byteAt hello1.payload 1 = 0 ∧ sHost.waitingReplies = [] ∧ hello1.payload.length = 72 ∧ sHost.modeAllowed 1 0 = true ∧ sHost.claimLocked = false ∧
      sHost.sessionRoom 1 = true ∧ sHost.nat 0x1300 1 ≠ 1 ∧ sHost.place 1 = true ∧ sent sHost (after (.helloPhase1 5 { hello1 with flags := 1 }) sHost) = [(0x7F, 0x0106)]) ∧
    (((sHalf 1 0 2).takeFrame (hello2 1 ([2#8] ++ zeros 67))).isSome = true ∧ ((sHalf 1 0 2).sessions.filter (fun z => z.isOpen)).length < 16 ∧
      (hello2 1 []).authentic = true ∧ bitOf (hello2 1 []).flags 1 = true ∧ (hello2 1 []).seq ≠ 0xFFFFFFFF ∧ wellFramed (hello2 1 ([2#8] ++ zeros 67)) = true ∧
      ((sHalf 1 0 2).session? 76).map (fun x => (x.isOpen, x.shade, x.mode, x.link, x.fresh 5)) = some (false, 1, 0, 1, true) ∧
      (hello2 1 ([2#8] ++ zeros 67)).payload.length = 68 ∧ (sHalf 1 0 2).modeAllowed 1 0 = true ∧
      sent (sHalf 1 0 2) (after (.helloPhase2 5 (hello2 1 ([2#8] ++ zeros 66))) (sHalf 1 0 2)) = [(0x7F, 0x0105)]) := by decide +kernel

/-- The same in safe state with SAFE_N low. -/
def sReclaim : State :=
  let s := put (sHalf 0 2 2) [(0x1110, 1, 1)]
  { s with pins := { s.pins with safeN := false }, safe := { s.safe with entryCause := 0 } }

theorem witness_ClaimsNeedTheClaimKey :
    ((sHalf 0 1 0).takeFrame (hello2 0 ([2#8] ++ zeros 135))).isSome = true ∧
    (after (.reclaim 5 (hello2 0 ([2#8] ++ zeros 135))) (sHalf 0 1 0)).session? 76 = (sHalf 0 1 0).session? 76 ∧
    ((sHalf 0 2 2).session? 76).map (fun x => x.mode) = some 2 ∧ sReclaim.modeAllowed 0 2 = true ∧
    ((sHalf 0 1 0).sessions.filter (fun z => z.isOpen)).length < 16 ∧ wellFramed (hello2 0 ([2#8] ++ zeros 135)) = true ∧
    ((sHalf 0 1 0).session? 76).map (fun x => (x.isOpen, x.shade, x.mode, x.link, x.fresh 5)) = some (false, 0, 1, 1, true) ∧
    (hello2 0 ([2#8] ++ zeros 135)).payload.length = 136 ∧ (sHalf 0 1 0).modeAllowed 0 1 = true ∧ (sHalf 0 1 0).claimLocked = false ∧
    (sHalf 0 1 2).modeAllowed 0 1 = false ∧ (after (.claim 5 (hello2 0 ([2#8] ++ zeros 135))) (sHalf 0 1 2)).session? 76 = none := by decide +kernel

/-- Shade 1 with its session due to end at tick 9 with reason 5. -/
def sRotated : State := sHost.modSession 71 (fun x => { x with endDue := some (9, 5) })

/-- CLOSE frames that a command sent. -/
def closes (s s' : State) : List (List Byte) := (s'.txq.drop s.txq.length).map (·.payload)

theorem witness_SessionsEnd :
    (((sHalf 1 0 2).session? 76).map (fun x => (x.isOpen, x.startTick)) = some (false, 0) ∧ sHost.session? 71 = some (ses 1) ∧ (ses 1).isOpen = true ∧
      sHost.power.mode ≠ 2 ∧ sDeep.power.mode = 2 ∧ (ses 1).lastTick = 0 ∧ (ses 1).startTick = 0 ∧
      (after (.halfOpenTimeout (sec 5) 76) (sHalf 1 0 2)).session? 76 = none ∧ (after (.halfOpenTimeout (sec 5 - 1) 76) (sHalf 1 0 2)).session? 76 ≠ none) ∧
    ((after (.sessionIdle (sec (sHost.nat 0x1300 5)) 71) sHost).session? 71 = none ∧ closes sHost (after (.sessionIdle (sec (sHost.nat 0x1300 5)) 71) sHost) = [[2#8]] ∧
      (after (.sessionIdle (sec (sHost.nat 0x1300 5) - 1) 71) sHost).session? 71 = some (ses 1)) ∧
    (closes sHost (after (.sessionLifetime (sec 86400) 71) sHost) = [[3#8]]) ∧
    (askOk (sHost.at 5) (ask 1 0x3F [0#8]) (ses 1) = true ∧ closes sHost (after (.close 5 (ask 1 0x3F [0#8])) sHost) = [[1#8]]) ∧
    (sRotated.openOf 1 = [{ ses 1 with endDue := some (9, 5) }] ∧ (after (.rotationSessionsEnd 9 1) sRotated).session? 71 = none ∧ (after (.rotationSessionsEnd 8 1) sRotated).session? 71 ≠ none) := by decide +kernel

theorem witness_DomeTimesAndRandomSource :
    ((put sHost [(0x1311, 1, 3), (0x1311, 15, 1)]).shadeState 1 = 3 ∧ (put sHost [(0x1311, 1, 3), (0x1311, 15, 1)]).nat 0x1311 15 = 1 ∧ sHost.shades.length = 8 ∧
      sHost.power.mode ≠ 2 ∧ sHost.nat 0x1300 7 = 0 ∧ sHost.nat 0x1300 1 ≠ 1 ∧
      (after (.eraseDue 5 1) { put sHost [(0x1311, 1, 3), (0x1311, 15, 1)] with rtc := { rtcAtReset with total := 1 } }).shadeState 1 = 0 ∧
      (after (.eraseDue 5 1) (put sHost [(0x1311, 1, 3), (0x1311, 15, 1)])).shadeState 1 = 3) ∧
    ((after (.claimLockExpired 5) { put sHost [(0x1300, 7, 1)] with rtc := { rtcAtReset with total := 1 } }).nat 0x1300 7 = 0) ∧
    ((after (.trngHealthFailure 5 2) sHost).nat 0x1300 1 = 1 ∧ (after (.trngRetest (sec 1) true) (put sHost [(0x1300, 1, 1)])).nat 0x1300 1 = 0 ∧
      (after (.trngRetest (sec 1) false) (put sHost [(0x1300, 1, 1)])).nat 0x1300 1 = 1) := by decide +kernel

/-- The address 10.0.0.9, and the module with it in use or on probe. -/
def ip9 : List Byte := [10#8, 0#8, 0#8, 9#8]
def sIp : State := sHost.setBytes 0x1203 5 ip9
def sProbe : State := sHost.modEth (fun e => { e with tentative4 := ip9, tentative4Source := 2, tentative6 := zeros 15 ++ [1#8] })

theorem witness_EthernetAnswersForItsAddresses :
    sIp.linkUp 1 = true ∧ (put sIp [(0x1200, 3, 0)]).linkUp 1 = false ∧ (after (.arpRequest 5 ip9) (put sIp [(0x1200, 3, 0)])).nat 0x1200 7 = 0 ∧
    (after (.arpRequest 5 ip9) sIp).eth.sent = [(1, ip9)] ∧ (after (.arpRequest 5 (zeros 4)) sIp).eth.sent = [] ∧
    sIp.flag 0x1200 6 = true ∧ sIp.holds ip9 = true ∧ (after (.echoRequest 5 ip9) sIp).eth.sent = [(10, ip9)] ∧
    (after (.echoRequest 5 ip9) (sIp.modEth (fun e => { e with echoes := List.replicate 100 0 }))).eth.sent = [] ∧
    (after (.echoRequest (sec 1) ip9) (sIp.modEth (fun e => { e with echoes := List.replicate 100 0 }))).eth.sent = [(10, ip9)] ∧
    (after (.echoRequest 5 ip9) (sIp.set 0x1200 6 0)).eth.sent = [] ∧ (after (.ethernetFrameDiscarded 5 2) sIp).nat 0x1200 10 = 1 := by decide +kernel

theorem witness_AddressesComeAndGo :
    (sHost.linkUp 1 = true ∧ sHost.nat 0x1203 1 = 1 ∧
      (after (.dhcpv4Message 5 5 ip9 ip9 (zeros 4) (zeros 4) 60) (sIp.modEth (fun e => { e with dhcpState := 2, dhcpServer := ip9 }))).eth.leaseEnd =
        some (5 + sec 60) ∧
      (after (.dhcpv4Message 5 6 ip9 ip9 (zeros 4) (zeros 4) 60) (sIp.modEth (fun e => { e with dhcpState := 3, dhcpServer := ip9 }))).ip4 = zeros 4 ∧
      (after (.dhcpv4Message 5 2 ip9 ip9 (zeros 4) (zeros 4) 60) (sHost.modEth (fun e => { e with dhcpState := 1 }))).eth.sent = [(5, ip9)] ∧
      (after (.dhcpv4Message 5 5 ip9 ip9 (zeros 4) (zeros 4) 60) (sHost.modEth (fun e => { e with dhcpState := 2, dhcpServer := ip9 }))).eth.tentative4 = ip9 ∧
      sHost.ip4 ≠ ip9) ∧
    (sHost.nat 0x1203 7 = 1 ∧ sHost.ip6 = zeros 16 ∧ sHost.eth.tentative6 = [] ∧ sHost.eth.retry6 = none ∧
      (after (.routerAdvertisement 5 (zeros 16) 9 (zeros 8) 9) sHost).eth.tentative6.take 8 = zeros 8) ∧
    ((after (.addressAcquired 5 4) sProbe).ip4 = ip9 ∧ (after (.addressAcquired 5 6) sProbe).ip6 = zeros 15 ++ [1#8]) ∧
    ((after (.addressRetry 5 6) (sHost.modEth (fun e => { e with retry6 := some 5 }))).eth.sent = [(8, [])] ∧ sHost.ip4 = zeros 4 ∧
      (after (.addressRetry 5 4) (sHost.modEth (fun e => { e with retry4 := some 5 }))).eth.sent = [(4, [])]) ∧
    (sIp.ip4 ≠ zeros 4 ∧ (after (.addressDuplicate 5 6) sProbe).eth.retry6 = some (5 + sec 10) ∧ (after (.addressDuplicate 5 4) sIp).ip4 = zeros 4 ∧ (after (.addressDuplicate 5 4) sProbe).eth.retry4 = some (5 + sec 10)) ∧
    ((after (.dhcpLeaseExpired 5) (sIp.modEth (fun e => { e with leaseEnd := some 5, source4 := 2 }))).ip4 = zeros 4) := by decide +kernel

/-- Straps that select RGMII, with the external PHY started and the link at `up`. -/
def sRgmii (up : Int) (started : Bool) : State :=
  { put sHost [(0x1200, 3, up)] with pins := { sHost.pins with straps := 1 }, eth := { ethAtReset with mdioStarted := started } }

/-- A frame of a link in the transmit queue. -/
def out (link op : Nat) : OutFrame := { link := link, src := [], dst := addr0, shade := 1, session := 71, op := op, reply := true, seq := 1, key := [], payload := [] }

theorem witness_PhysAreFollowedAndFramesLeave :
    ((sRgmii 0 false).ethRuns = true ∧ (sRgmii 0 false).ethInterface = 2 ∧ (after (.mdioPoll 5 7 4 256 0) (sRgmii 0 false)).eth.mdioStarted = true ∧
      sHost.ethInterface ≠ 2 ∧ (after (.mdioPoll 5 7 4 256 0) sHost).eth.mdioStarted = false ∧ (4).testBit 2 = true ∧ (sRgmii 0 true).eth.unsupported = false) ∧
    ((sRgmii 0 true).resolveSpeed 256 0 = 100 ∧ (sRgmii 0 true).resolveSpeed 0 2048 = 1000 ∧ (sRgmii 0 true).resolveSpeed 0 0 = 0 ∧
      (after (.mdioPoll 5 7 4 256 0) (sRgmii 0 true)).linkUp 1 = true ∧ (after (.mdioPoll 5 7 0 256 0) (sRgmii 1 true)).linkUp 1 = false) ∧
    (sHost.nat 0x1201 8 ≠ 2 ∧ sHost.nat 0x1201 8 ≠ 1 ∧ (after (.plcaStatusChanged 5) (put sHost [(0x1201, 8, 2)])).nat 0x1201 8 = 1 ∧ (after (.plcaBeaconReceived 5) (put sHost [(0x1201, 8, 1)])).nat 0x1201 8 = 2) ∧
    (sHost.power.reachable = true ∧ sHost.waitingReplies = [] ∧ (after (.frameTransmitted 5 2 3) { sHost with txq := [out 1 1] }).txq.length = 1 ∧
      (after (.frameTransmitted 5 1 3) { sHost with txq := [out 1 1] }).txq = [] ∧ (after (.frameTransmitted 5 1 3) { sHost with txq := [out 1 1] }).nat 0x1201 9 = 3) ∧
    ((put sHost [(0x1210, 3, 1)]).linkUp 2 = true ∧
      ((after (.frameTransmitted 5 2 0) { put sHost [(0x1210, 3, 1)] with txq := [out 2 1] }).spire.toSend).length = (fragments (out 2 1).bytes).length) := by
  decide +kernel

/-- The Spire link, its register loaded and Ready promised, and a whole frame of one fragment from the host. -/
def sLoaded : State := { sHost with spire := { spireAtReset with loaded := true, outReg := spireFrame (statusByte false false true false 3 3) [] , promised := true } }
def fromHost : List Byte := spireFrame (statusByte true true true false 0 2) [1#8, 2#8]

theorem witness_SpireTransfersAndTimeouts :
    (sLoaded.power.mode ≠ 2 ∧ sLoaded.spireRuns = true ∧ sLoaded.spire.loaded = true ∧ sLoaded.spire.promised = true ∧ (spireRead fromHost).map (fun x => (x.echo, x.frag, x.seq)) = some (2, [1#8, 2#8], 0) ∧ (sLoaded.spire.lastIn + 1) % 3 = 0 ∧
      (after (.spireTransferEnd 5 544 fromHost) sLoaded).spire.inbox = [[1#8, 2#8]] ∧ (after (.spireTransferEnd 5 544 fromHost) sLoaded).linkUp 2 = true) ∧
    ((after (.spireTransferEnd 5 543 fromHost) sLoaded).nat 0x1210 7 = 1 ∧ spireRead (fromHost.set 10 1#8) = none ∧
      (after (.spireTransferEnd 5 544 (fromHost.set 10 1#8)) sLoaded).nat 0x1210 6 = 1) ∧
    ((spireRead (spireFrame (statusByte true false true false 0 2) (zeros 60))).map (fun x => (x.first, x.last)) = some (true, false) ∧
      (after (.spireTransferEnd 5 544 (spireFrame (statusByte true false true false 0 2) (zeros 60))) sLoaded).spire.partialIn = zeros 60 ∧
      (after (.spireTransferEnd 5 544 (spireFrame (statusByte false true true false 0 2) [2#8]))
        { sLoaded with spire := { sLoaded.spire with assembling := true, partialIn := [1#8] } }).spire.inbox = [[1#8, 2#8]] ∧
      (after (.spireTransferEnd 5 544 (spireFrame (statusByte false false true false 0 2) (zeros 60)))
        { sLoaded with spire := { sLoaded.spire with assembling := true, partialIn := [1#8] } }).spire.partialIn = [1#8] ++ zeros 60) ∧
    (sHost.spire.loaded = false ∧ sHost.spireRuns = true ∧ (after (.spireTransferEnd 5 544 fromHost) sHost).nat 0x1210 8 = 1 ∧ sDeep.power.mode = 2) ∧
    (byteAt (after (.outboundFrameLoaded 5) sHost).spire.outReg 1 / 64 = 3 ∧ (after (.outboundFrameLoaded 5) sHost).spire.outReg.length = 68) ∧
    ((after (.spireLinkTimeout (sec 60)) (put sHost [(0x1210, 3, 1)])).linkUp 2 = false ∧ (after (.spireLinkTimeout 5) (put sHost [(0x1210, 3, 1)])).linkUp 2 = true) := by
  decide +kernel

/-- R615: a session whose idle limit passes in deep standby is ended at wake. -/
theorem test_idle_in_deep_standby :
    ((after (.sessionIdle (sec (sHost.nat 0x1300 5)) 71) (sHost.modPower (fun p => { p with mode := 2 }))).session? 71).isSome = true := by
  decide +kernel

/-! ### Timers, the clock and the backup domain -/

/-- Timer 4 of shade 1: channel 0 armed in compare mode with action 1 and events, channel 1 waiting for it, capture on a pin in timer 5. -/
def sTimers : State :=
  let l := tmod r0.timers 4 (fun x => { x with holder := 1, ch0 := { chanAtReset with state := 1, compare := 5 }, ch1 := { chanAtReset with state := 2, offset := 7 } })
  put { sHost with timers := tmod l 5 (fun x => { x with holder := 1 }) }
    [(0x1311, 8, 48), (0x1914, 5, 1 + 8 + 32), (0x1914, 9, 3 + 4 * 2 ^ 24), (0x1915, 5, 2), (0x1940, 1, 0), (0x1940, 2, 5)]

theorem witness_TimersFireCaptureAndFollowGrants :
    ((sTimers.timer 4).due 0 5 = true ∧ (sTimers.timer 4).due 0 4 = false ∧ modeOf (sTimers.chanConfig 4 0) = 1 ∧ sTimers.takesMaster 4 1 4 0 = true ∧
      ((after (.compareFire 5 4 0) sTimers).timer 4).output = true ∧ (((after (.compareFire 5 4 0) sTimers).timer 4).ch 1).compare = 13) ∧
    (modeOf (sTimers.chanConfig 5 0) = 2 ∧ sTimers.mayCapture 5 (sTimers.chanConfig 5 0) = true ∧ passesEdge (sTimers.chanConfig 5 0) true = true ∧
      (((after (.capture 9 5 0 true) sTimers).timer 5).ch 0).capture = 9) ∧
    (sTimers.takesMaster 4 0 4 0 = false ∧ (sTimers.timer 4).p = sTimers.nat 0x1914 2 ∧ sTimers.granteeOf 4 = (sTimers.timer 4).holder ∧
      ((sTimers.timer 4).ch 0).suppressed = 0 ∧ passesEdge (sTimers.chanConfig 5 0) false = false ∧ modeOf (sTimers.chanConfig 4 1) ≠ 2 ∧
      8 ≤ (sHost.timer 6).holder ∧ (put sHost [(0x1311, 8, 64)]).granteeOf 6 ≠ (sHost.timer 6).holder ∧
      ((after (.timerReleased 9 6) (put sHost [(0x1311, 8, 64)])).timer 6).holder = 1) ∧
    ((sTimers.timer 5).p ≠ (put sTimers [(0x1915, 2, 3)]).nat 0x1915 2 ∧ ((after (.prescaler 9 5) (put sTimers [(0x1915, 2, 3)])).timer 5).count 17 = 9 ∧
      ((after (.prescaler 9 5) (put sTimers [(0x1915, 2, 3)])).timer 5).count 18 = 10) ∧
    (sTimers.granteeOf 4 = 1 ∧ (put sTimers [(0x1311, 8, 0)]).granteeOf 4 = 0xFF ∧
      ((after (.timerReleased 9 4) (put sTimers [(0x1311, 8, 0)])).timer 4).holder = 0xFF ∧
      (after (.timerReleased 9 4) (put sTimers [(0x1311, 8, 0)])).nat 0x1914 5 = 0) ∧
    ((((after (.timerEventsSuppressed (sec 60) 4 0) (sTimers.modTimer 4 (fun x => x.modCh 0 (fun y => { y with suppressed := 2 })))).timer 4).ch 0).suppressed = 0) := by
  decide +kernel

/-- Alarm 0 set for the first second of a minute, driving PWR_ON; the clock one second before it. -/
def sClock : State := { put sHost [(0x1A10, 1, 1), (0x1A10, 8, 0x3E), (0x1A10, 9, 4)] with
  rtc := { rtcAtReset with total := 59, lostPending := false }, pins := { sHost.pins with pwrOn := false } }

theorem witness_SecondsAreCountedAndAlarmsFire :
    (sHost.rtc.running = true ∧ sHost.rtc.domainUp = true ∧ sHost.flag (alarmIndex 0) 1 = false ∧ sHost.flag (alarmIndex 1) 1 = false ∧
      (after (.rtcSecond 5) sHost).rtc.total = 1 ∧
      (after (.rtcSecond 5) { sHost with rtc := { rtcAtReset with total := centuriesSec - 1 } }).rtc.total = 0) ∧
    (sClock.flag (alarmIndex 0) 1 = true ∧ sClock.alarmMatches 0 60 = true ∧ sClock.alarmMatches 0 59 = false ∧
      (after (.rtcSecond 5) sClock).pins.pwrOn = true ∧ (after (.rtcSecond 5) sClock).flag (alarmIndex 0) 10 = true ∧
      (after (.rtcSecond 5) sClock).flag (alarmIndex 0) 1 = false) ∧
    ((after (.oscillatorStopped 5) sHost).rtc.running = false ∧
      (after (.oscillatorRestart 9) (after (.oscillatorStopped 5) sHost)).flag 0x1A02 1 = true) := by decide +kernel

/-- The domain on VBAK, and without supply. -/
def sVbak : State := { sHost with rtc := { rtcAtReset with onVbak := true } }
def sLost : State := { sHost with rtc := { rtcAtReset with domainUp := false, running := false } }

theorem witness_OneAlarmOfTwo :
    (sClock.rtc.total + 1 ≠ centuriesSec ∧ sClock.alarmMatches 0 (sClock.rtc.total + 1) = true ∧ sClock.flag (alarmIndex 1) 1 = false ∧
      ((after (.rtcSecond 5) sClock).rtc.lateAlarms = [])) ∧
    (sLost.rtc.running = false ∧ (after (.rtcSecond 5) sLost).rtc.total = sLost.rtc.total ∧ sHost.rtc.running = true ∧
      ((after (.rtcSecond 5) { sHost with rtc := { rtcAtReset with k := 31 } }).rtc.periodEnded = true)) := by decide +kernel

/-- The clock with a trim period just ended, auto-trim on and the error `e` hundredths of a ppm. -/
def trimming (trim e : Int) : State :=
  { put sHost [(0x1A03, 1, trim), (0x1A03, 2, 1), (0x1A03, 3, e)] with rtc := { rtcAtReset with periodEnded := true } }

theorem witness_TheBackupDomainTrimsMeasuresAndSwitches :
    (sHost.rtc.periodEnded = false ∧ (trimming 0 1000).rtc.periodEnded = true ∧ (trimming 0 1000).flag 0x1A03 2 = true ∧ sHost.vsysPresent = true ∧
      (after (.trimPeriodEnd 5) (trimming 0 1000)).int 0x1A03 1 = -1 ∧ (after (.trimPeriodEnd 5) (trimming 0 1000)).rtc.periodEnded = false ∧
      (after (.trimPeriodEnd 5) (trimming 0 (-1000))).int 0x1A03 1 = 1 ∧ (after (.trimPeriodEnd 5) (trimming 0 0)).int 0x1A03 1 = 0 ∧
      (after (.trimPeriodEnd 5) (trimming 511 (-100000))).rtc.pinned = 1 ∧
      (put (trimming 0 1000) [(0x1A03, 2, 0)]).flag 0x1A03 2 = false ∧ (after (.trimPeriodEnd 5) (put (trimming 0 1000) [(0x1A03, 2, 0)])).int 0x1A03 1 = 0) ∧
    (sHost.power.refclkLost = false ∧ (after (.crystalMeasurement 5 3932160000) sHost).int 0x1A03 3 = 0 ∧
      (after (.crystalMeasurement 5 3932160000) sHost).flag 0x1A03 4 = true) ∧
    ((after (.vbakMeasurement 5 0) sHost).rtc.vbakLowRaised = true ∧ sHost.nat 0x1A02 9 < 3000 ∧ sHost.rtc.vbakDue ≤ 5 ∧
      (after (.vbakMeasurement 5 3000) sHost).rtc.vbakLowRaised = false ∧ (after (.vbakMeasurement 5 3000) sHost).rtc.vbakDue = 5 + sec 60 ∧
      peak (after (.vbakMeasurement 5 3000) sHost).now 9 < (after (.vbakMeasurement 5 3000) sHost).rtc.vbakDue) ∧
    (sLost.vsysPresent = true ∧ sLost.rtc.running = false ∧ (after (.crystalMeasurement 5 9) sLost).flag 0x1A03 4 = false) ∧
    (sHost.rtc.offDue = none ∧ sHost.rtc.onVbak = false ∧ sVbak.rtc.onVbak = true ∧ sHost.rtc.domainUp = true ∧ sLost.rtc.domainUp = false ∧
      (after (.writeLockRelease 5) { after (.writeLock 5) sHost with power := { sHost.power with reachable := false } }).rtc.locked = true ∧
      (after (.backupDomainSupplyLost 5) { sVbak with power := { sVbak.power with offUntil := 9 } }).power.offBroken = true) ∧
    ((after (.powerOffByPwrOn 5) { sHost with rtc := { rtcAtReset with total := 7, offDue := some 7 } }).pins.pwrOn = false) ∧
    ((after (.writeLock 5) sHost).rtc.locked = true ∧ (after (.writeLockRelease 5) (after (.writeLock 5) sHost)).rtc.locked = false) ∧
    ((after (.switchOverToVbak 5) sHost).rtc.onVbak = true ∧ (after (.returnToVsys 5) sVbak).rtc.onVbak = false) ∧
    ((after (.backupDomainSupplyLost 5) sVbak).rtc.domainUp = false ∧ (after (.backupDomainSupplyReturn 5 3000) sLost).nat 0x1A02 2 = 2) ∧
    (((after (.freezeExpired (ms 250) 71) (sHost.modSession 71 (fun x => { x with shadow := some (0, 9) }))).session? 71).map (·.shadow) = some none ∧
      ((after (.freezeExpired (ms 250 - 1) 71) (sHost.modSession 71 (fun x => { x with shadow := some (0, 9) }))).session? 71).map (·.shadow) = some (some (0, 9))) ∧
    (((after (.stagedTimeDiscarded (sec 10) 71) (sHost.modSession 71 (fun x => { x with staged := [(2, 3)] }))).session? 71).map (·.staged) = some []) := by
  decide +kernel

/-! ### MRAM, self-test, safe state and Lantern -/

/-- The module with its supply falling. -/
def sFalling : State := { sHost with power := { sHost.power with vsys := 4500 } }

/-- The module in a trial of slot A that began at tick 0. -/
def sTrial : State := { sHost with store := { storeAtReset with slotA := { storeAtReset.slotA with state := 3 } } }

theorem witness_StoresPagesAndScans :
    ((sHost.at 5).supplyStable = true ∧ (after (.store 5 2 0 []) sHost).store.copyB.generation = 2 ∧ (after (.store 5 2 0 []) sHost).store.copyA = sHost.store.copyA ∧
      sHost.store.copyB.order < sHost.store.copyA.order) ∧
    (partitionOf (partitionBase 3 + 5) = 3 ∧ partitionOf (partitionBase 5 + 5) = 5 ∧ ((after (.store 5 3 5 [7#8]) sHost).page 2309).writes = 1 ∧
      ((after (.store 5 5 5 [7#8]) sHost).page 2565).operation = 3) ∧
    ((sFalling.at 5).supplyStable = false ∧ (after (.store 5 3 5 [7#8]) sFalling).nat 0x1600 5 = 1 ∧ ((after (.store 5 3 5 [7#8]) sFalling).page 2309).writes = 0) ∧
    ((after (.correctedWord 5 2309) sHost).nat 0x1600 7 = 1 ∧ (after (.correctedWord 5 2309) sHost).nat 0x1600 4 = 1 ∧ (after (.correctedWord 5 2309) sFalling).nat 0x1600 5 = 1) ∧
    ((after (.uncorrectablePage 5 2100) sHost).store.copyA.valid = false ∧ (after (.uncorrectablePage 5 2176) sHost).store.copyA.valid = true ∧
      (after (.uncorrectablePage 5 1023) sHost).store.slotA.verifies = false) ∧
    (((after (.store 5 3 5 [7#8]) sHost).page 2309).isSealed = true ∧ (after (.mramScrub 9 2309) (after (.store 5 3 5 [7#8]) sHost)).nat 0x1600 12 = 1) ∧
    ((after (.vsysMeasurement 5 4800 (-20)) sHost).live (ses 0) 0x1600 3 = some (.num (-20))) ∧
    (sHost.power.stage = 2 ∧ (after (.activationColdStart 5) { sHost with store := { storeAtReset with coldStartDue := some 5 } }).power.stage = 3) ∧
    (sTrial.store.inTrial = true ∧ ((after (.trialTimeExpired (sec 900)) sTrial).store.slot 0).state = 5 ∧
      ((after (.trialTimeExpired (sec 900 - 1)) sTrial).store.slot 0).state = 3) ∧
    (((after (.scanComplete 5 71 none) (sHost.modSession 71 (fun x => { x with scan := { x.scan with state := 2, length := 4, algorithm := 1 } }))).session? 71).map
        (fun x => (x.scan.state, x.scan.done)) = some (3, 4)) ∧
    (((after (.scanComplete 5 71 (some 2)) (sHost.modSession 71 (fun x => { x with scan := { x.scan with state := 2, length := 4 } }))).session? 71).map
        (fun x => x.scan.error) = some 1) ∧
    ((after (.store 5 2 0 []) sHost).store.bootCopy.map (fun c => (c.1, c.2.generation)) = some (1, 2) ∧ storeAtReset.copyB.order < storeAtReset.copyA.order ∧
      (after (.store 5 2 0 []) (after (.store 5 2 0 []) sHost)).store.copyA.generation = 3 ∧
      (after (.store 5 2 0 []) sHost).store.copyA.order ≤ (after (.store 5 2 0 []) sHost).store.copyB.order) := by decide +kernel

theorem witness_ScansAndReadsThatWait :
    (((after (.mramScrub 9 2309) (after (.store 5 3 5 [7#8]) sHost)).page 2309).readDue = 9 + sec 604800 ∧
      (after (.mramScrub 10 2309) (after (.mramScrub 9 2309) (after (.store 5 3 5 [7#8]) sHost))).nat 0x1600 12 = 1 ∧
      (sHost.page 2309).isSealed = false ∧ (after (.mramScrub 9 2309) sHost).nat 0x1600 12 = 0) ∧
    (sHost.store.coldStartDue = none ∧ (after (.activationColdStart 5) sHost).power.stage = 2 ∧ sHost.store.inTrial = false ∧
      (after (.trialTimeExpired (sec 900)) sHost).power.stage = 2 ∧
      (sHost.session? 71).map (·.scan.state) = some 0 ∧ (after (.scanComplete 5 71 none) sHost).nat 0x1800 1 = 0) := by decide +kernel

/-- A sweep that runs. -/
def sSweep (w : Sweep) : State := put { sHost with sweep := { w with running := true } } [(0x1700, 1, 1), (0x1B10, 2, 0xFFF)]

/-- One slice short of the end. -/
def lastSlice : Sweep := { sweepAtReset with memDone := 6015, nextMem := 6015, logicDone := List.replicate 12 32 }

theorem witness_SelfTestFindsRepairsAndStops :
    (({ sHost with power := { sHost.power with phase2Done := false } } : State).inSafe = false ∧
      (after (.coldBistPhase2Done 5 0 9) { sHost with power := { sHost.power with phase2Done := false } }).inSafe = false ∧
      (after (.coldBistPhase2Done 5 3 9) { sHost with power := { sHost.power with phase2Done := false } }).inSafe = true) ∧
    ((put sHost [(0x1700, 1, 1)]).sweep.everStarted = false ∧ (after (.sweepDue 5) (put sHost [(0x1700, 1, 1)])).sweep.running = true) ∧
    (((sSweep sweepAtReset).at 5).sweeping = true ∧ ((sSweep sweepAtReset).at 5).sliceFits none (us 400) = true ∧
      (after (.memorySlice 5 [] none) (sSweep sweepAtReset)).sweep.memDone = 1 ∧
      (after (.memorySlice 5 [] none) (sSweep { sweepAtReset with front := [7] })).sweep.memDone = 0) ∧
    ((after (.memorySlice 5 [] none) (sSweep lastSlice)).sweep.running = false) ∧
    ((sSweep sweepAtReset).sparesGone (memoryOf 0) (bankOf (memoryOf 0) 0) + 1 < sparesIn (memoryOf 0) ∧
      (after (.memorySlice 5 [(0, 3, 1, 1)] none) (sSweep sweepAtReset)).sweep.repairs.length = 1 ∧
      sparesIn (memoryOf 0) ≤ (sSweep sweepAtReset).sparesGone (memoryOf 0) (bankOf (memoryOf 0) 0) + 64 ∧
      (sSweep sweepAtReset).sweep.front = []) ∧
    (((sSweep sweepAtReset).at 5).sliceFits (some 3) (us 1000) = true ∧ (sSweep sweepAtReset).carrierOn 3 = false ∧ (sSweep sweepAtReset).power.mode = 0 ∧
      tget (after (.logicSlice 5 3 true) (sSweep sweepAtReset)).sweep.logicDone 3 0 = 1) ∧
    ((after (.sweepLate (sec 86400)) (sSweep sweepAtReset)).sweep.late = true) ∧
    ((after (.correctedMemoryError 5 0 8192 3) sHost).sweep.front.contains 2 = true ∧ sHost.inSafe = false) ∧
    ((after (.repairTableRetry 5) { sHost with sweep := { sweepAtReset with retryTick := some 5 } }).sweep.genA = 1 ∧
      (after (.repairTableRetry 5) { sFalling with sweep := { sweepAtReset with retryTick := some 5 } }).sweep.retryTick = some (5 + ms 10)) := by decide +kernel

theorem witness_SelfTestThatWaits :
    (sHost.power.phase2Done = true ∧ (after (.coldBistPhase2Done 5 3 9) sHost).inSafe = false) ∧
    ((put sHost [(0x1700, 1, 0)]).flag 0x1700 1 = false ∧ (after (.sweepDue 5) (put sHost [(0x1700, 1, 0)])).sweep.running = false ∧ sHost.sweep.running = false ∧
      (after (.sweepLate (sec 86400)) sHost).sweep.late = false ∧ sHost.sweep.retryTick = none ∧ (after (.repairTableRetry 5) sHost).sweep.genA = sHost.sweep.genA) ∧
    ((sHost.at 5).sweeping = false ∧ (after (.memorySlice 5 [] none) sHost).sweep.memDone = 0 ∧ tget sHost.sweep.logicDone 3 32 = 0 ∧
      (after (.logicSlice 5 3 false) sHost).inSafe = false) ∧
    ((after (.logicSlice 5 3 false) (sSweep sweepAtReset)).inSafe = true ∧ ((sSweep sweepAtReset).tx 3).survey = none ∧
      (after (.uncorrectableMemoryFault 5 0 8192) sHost).inSafe = true ∧ (after (.uncorrectableMemoryFault 5 0 8192) sHost).nat 0x1700 12 = 1) ∧
    ((after (.memorySlice 5 [(0, 3, 1, 64)] none) (sSweep sweepAtReset)).inSafe = true ∧ (after (.memorySlice 5 [] (some 8)) (sSweep sweepAtReset)).inSafe = true) ∧
    (sweepAtReset.order false ≤ sweepAtReset.order true ∨ sweepAtReset.order true < sweepAtReset.order false) := by decide +kernel

theorem witness_SafeNAndLanternTime :
    (sHost.inSafe = false ∧ (after (.safeNLow 5) sHost).inSafe = true ∧ (after (.safeNLow 5) sOn).carrierOn 0 = false) ∧
    ((put sHost [(0x1110, 1, 1), (0x1110, 2, 4)]).inSafe = true ∧ (after (.safeNLow 5) (put sHost [(0x1110, 1, 1), (0x1110, 2, 4)])).nat 0x1110 2 = 5) ∧
    ((after (.safeNCleared 5) (put sHost [(0x1110, 1, 1), (0x1110, 2, 5)])).nat 0x1110 2 = 4 ∧ (after (.safeNCleared 5) (put sHost [(0x1110, 1, 1), (0x1110, 2, 5)])).inSafe = true) ∧
    ((put sHost [(0x1730, 1, 1)]).lantern.dropped = 0 ∧ ((put sHost [(0x1730, 1, 1)]).at 5).lantern.fifo = [] ∧
      (after (.lanternTimeRecord 5) (put sHost [(0x1730, 1, 1)])).lantern.fifo.length = 1) ∧
    (bitOf (sHost.nat 0x1110 2) 0 = false ∧ (after (.safeNCleared 5) sHost).pins.safeN = true ∧ sHost.flag 0x1730 1 = false ∧
      (after (.lanternTimeRecord 5) sHost).lantern.fifo = [] ∧ (after (.lanternTimeRecord 5) sHost).lantern.lastTime = 5) := by decide +kernel

/-! ### Power, resets and modes -/

/-- The module at a stage and step of its supplies. -/
def sStage (stage step : Nat) : State := { sHost with power := { sHost.power with stage := stage, step := step } }

/-- The internal release has ended a power-up; the logic waits for its reset release. -/
def sReleased (low : Bool) : State := { sHost with power := { sHost.power with released := false, reachable := false, resetLow := low } }

/-- Ready for RF but for the event. -/
def sReady : State := { sHost with power := { sHost.power with rfPending := true, charterChecked := true } }

theorem witness_PowerUpReleaseAndRfReady :
    ((sStage 0 0).power.offUntil ≤ 5 ∧ (sStage 0 0).power.thermalOff = false ∧ (after (.vsysHeld 5 5000) (sStage 0 0)).power.stage = 1 ∧
      (sStage 0 0).power.vsysHeld = true ∧ (after (.minimumOffTime 5) (sStage 0 0)).power.step = 1) ∧
    ((after (.railInRegulation 5) (sStage 1 4)).power.step = 5 ∧ (after (.internalRelease 5) (sStage 1 5)).power.stage = 2) ∧
    ((sReleased true).power.stage = 2 ∧ (sReleased true).power.internalRelease = true ∧ (after (.resetRelease 5 0 9 0 3000 [] []) (sReleased true)).power.released = false ∧
      (sReleased false).pins.safeN = true ∧ (after (.resetRelease 5 0 9 0 3000 [] []) (sReleased false)).power.released = true ∧
      (after (.resetRelease 5 0 9 0 3000 [] []) (sReleased false)).sessions = []) ∧
    ((after (.resetRelease 5 3 9 0 3000 [] []) (sReleased false)).power.phase1Failed = 3) ∧
    ({ sHost with power := { sHost.power with reachable := false } }.power.phase1Failed = 0 ∧
      (after (.dictionaryReachable 5) { sHost with power := { sHost.power with reachable := false } }).power.reachTick = 5) ∧
    (sReady.power.phase2Passed = true ∧ sReady.power.phase2Done = true ∧ sReady.fuses.charterState ≠ 2 ∧ sReady.inSafe = false ∧ sReady.power.recovery = false ∧
      sReady.flag 0x1100 2 = false ∧ sReady.power.resetLow = false ∧ sReady.power.refclkLost = false ∧ (after (.rfReady 5) sReady).flag 0x1100 2 = true) ∧
    (sDeep.wakes 5 = true ∧ sDeep.wakes 4 = true ∧ (after (.wake 5 4 0 0) sDeep).power.mode = 0 ∧ (after (.wake 5 5 0 0) sDeep).inSafe = true) ∧
    ((after (.spreadRestored 5) { sHost with power := { sHost.power with spreadEnd := some 5 } }).power.spreadEnd = none) := by decide +kernel

/-- Configuration copy A holds the module's objects, and is the one to boot. -/
def sConfigured : State := after (.store 5 2 0 []) (sReleased false)

theorem witness_PowerUpThatWaits :
    ((after (.vsysHeld 5 5000) { sStage 0 0 with power := { (sStage 0 0).power with offBroken := true } }).power.offUntil = 5 + ms 19 ∧
      (after (.vsysHeld 5 5000) { sStage 0 0 with power := { (sStage 0 0).power with offBroken := true } }).power.stage = 0 ∧
      (sStage 0 0).power.offBroken = false ∧
      (after (.minimumOffTime 5) { sStage 0 0 with power := { (sStage 0 0).power with offUntil := 9 } }).power.stage = 0) ∧
    ((after (.railInRegulation 5) (sStage 1 5)).power.step = 5 ∧ (after (.internalRelease 5) (sStage 1 4)).power.stage = 1 ∧
      sHost.power.reachable = true ∧ (after (.dictionaryReachable 5) sHost).power.reachTick = sHost.power.reachTick ∧
      (after (.rfReady 5) (sReady.modPower (fun p => { p with phase2Done := false }))).flag 0x1100 2 = false ∧
      (after (.wake 5 4 0 0) sHost).power.mode = 0 ∧ sHost.power.spreadEnd = none) ∧
    (sConfigured.store.bootCopy.map (·.1) = some 1 ∧ (sConfigured.store.bootCopy.map (fun c => NMap.wf c.2.content)) = some true ∧
      (after (.resetRelease 5 0 9 0 3000 [] []) sConfigured).power.released = true ∧
      (after (.resetRelease 5 0 9 0 3000 [] []) (sReleased true)).power.released = false) ∧
    ((after (.wake 5 4 0 0) sDeep).belfry.wakeTick = 5 ∧ (after (.wake 5 4 0 0) sDeep).belfry.lastCapture = none ∧
      (after (.spreadRestored 5) { sHost with power := { sHost.power with spreadEnd := some 9 } }).power.spreadEnd = some 9) := by decide +kernel

theorem witness_PowerDownCollapseAndHolds :
    ((after (.vsysFall 5 4400) sHost).power.stage = 3 ∧ (after (.vsysFall 5 4400) (sStage 0 0)).power.vsysHeld = false) ∧
    ((after (.railCollapse 5 2 700) sHost).power.stage = 5 ∧ (after (.railTimeout 5 700) (sStage 1 2)).nat 0x1102 5 = 513) ∧
    ((after (.powerDownStep 5) (sStage 3 4)).power.step = 5 ∧ (after (.powerDownStep 5) (sStage 3 6)).power.stage = 0 ∧
      (after (.powerDownStep 5) { sStage 5 0 with power := { (sStage 5 0).power with collapses := 3 } }).power.stage = 4 ∧
      (sStage 3 4).power.returnStep = none ∧ (after (.supplyReturnDuringShutdown 5) (sStage 3 4)).power.returnStep = some 4) ∧
    ((after (.resetNLow 5) sHost).power.resetLow = true ∧ (after (.resetNRise 9) (after (.resetNLow 5) sHost)).power.resetLow = false ∧
      (after (.refclkLost 5) sHost).power.trigger = 4 ∧ (after (.refclkReturned (ms 20)) { sHost with power := { sHost.power with refclkLost := true } }).power.refclkLost = false ∧
      (after (.supervisorTimeout 5) sHost).power.cause = 7) ∧
    ((after (.hardThermalLimit 5 1 1400) sHost).power.thermalOff = true ∧
      (after (.thermalOffReading 5 999 999 999 999) { sStage 0 0 with power := { (sStage 0 0).power with thermalOff := true } }).power.stage = 1 ∧
      (after (.thermalOffReading 5 999 1000 999 999) { sStage 0 0 with power := { (sStage 0 0).power with thermalOff := true } }).power.thermalOff = true) ∧
    ((after (.railCollapse 5 2 700) (sStage 0 0)).power.stage = 0 ∧ (after (.railTimeout 5 700) (sStage 1 5)).power.stage = 1 ∧
      (after (.powerDownStep 5) sHost).power.stage = 2 ∧ (after (.supplyReturnDuringShutdown 5) sHost).power.returnStep = none ∧
      (after (.resetNLow 5) (sStage 0 0)).power.resetLow = true ∧ (after (.refclkLost 5) (sStage 0 0)).nat 0x1104 5 = 1 ∧
      (after (.refclkReturned 5) sHost).bootEvents = sHost.bootEvents ∧
      (after (.supervisorTimeout 5) (sHost.modPower (fun p => { p with reachable := false }))).power.stage = 2 ∧
      (after (.hardThermalLimit 5 1 1399) sHost).power.stage = 2 ∧ (after (.thermalOffReading 5 0 0 0 0) sHost).power.stage = 2) ∧
    (sHost.banks.length = 3 ∧ sHost.quads.length = 12 ∧ (sHost.bank 0).inWindow = true ∧
      ((after (.vpaOutOfWindow 5 10999 12000 12000) (sHost.modTx 0 (fun x => { x with carrier := 1 }))).tx 0).carrier = 3 ∧
      ((after (.vpaOutOfWindow 5 12000 12000 12000) (sHost.modTx 0 (fun x => { x with carrier := 1 }))).tx 0).carrier = 1 ∧
      ((after (.vpaOutOfWindow 5 10999 13001 12000) sHost).bank 1).inWindow = false ∧ ((after (.vpaOutOfWindow 5 10999 13001 12000) sHost).bank 0).outTick = 5) ∧
    ((after (.vpaOutOfWindow 5 10999 12000 12000) sHost).live (ses 0) 0x1100 4 = some (.num 10999)) := by decide +kernel

end Sys2Proof.Tests
end

section
/-! SUPPORT. The queue of those that wait, through every operation and every command. Each operation of the model has one lemma: what it
leaves has the queue that was there. The lemma unfolds its operation once and takes the operation's own branches (`fun_cases`, or
`fun_induction` where it recurses); the lemmas of the operations that it calls, which stand before it, close each branch. Where
`-implicitDefEqProofs` stands, a step that holds by `rfl` is cited as a lemma, so that the kernel does not unfold the state to see it. -/

namespace Sys2Proof.Machine

/-- What writes only the log leaves the queue. -/
theorem LogOnly.pending {s s' : State} (h : LogOnly s s') : s'.pending = s.pending := State.pending_of_bare h.bare

/-- A fold of operations that leave the queue leaves it. -/
@[simp] theorem pending_foldl {α : Type} (f : State → α → State) (hf : ∀ st x, (f st x).pending = st.pending) (l : List α) (s : State) :
    (l.foldl f s).pending = s.pending := by
  induction l generalizing s with
  | nil => rfl
  | cons x r ih => exact (ih _).trans (hf s x)

@[simp] theorem pending_ite (p : Prop) [Decidable p] (a b : State) :
    (if p then a else b).pending = if p then a.pending else b.pending := apply_ite State.pending p a b

variable (s : State)

/-! ### Objects, lines, shade queues and events -/

@[simp] theorem State.selfSet_pending (k : Nat) (v : Val) : (s.selfSet k v).pending = s.pending := by simp [State.selfSet]
@[simp] theorem State.toDefault_pending (k : Nat) : (s.toDefault k).pending = s.pending := by simp [State.toDefault]
@[simp] theorem State.overlay_pending (old : List (Nat × Val)) : (s.overlay old).pending = s.pending := by simp [State.overlay]

@[simp] theorem State.awake_pending (f : State → State) (hf : ∀ st, (f st).pending = st.pending) : (s.awake f).pending = s.pending := by
  unfold State.awake; split <;> simp [hf]

@[simp] theorem State.lanternQuad_pending (q ty : Nat) (content : List Nat) : (s.lanternQuad q ty content).pending = s.pending := by
  simp [State.lanternQuad]

@[simp] theorem State.allocLines_pending (n tag : Nat) : (s.allocLines n tag).1.pending = s.pending := (State.allocLines_keeps s n tag).pending

@[simp] theorem State.appendItem_pending (sh : Nat) (isEvent : Bool) (cls : Nat) (content : List Byte) :
    (s.appendItem sh isEvent cls content).pending = s.pending :=
  (State.appendItem_keeps s sh isEvent cls content).pending

@[simp] theorem State.formOverrun_pending (sh : Nat) : (s.formOverrun sh).pending = s.pending := (State.formOverrun_keeps s sh).pending

@[simp] theorem State.admitCredited_pending (sh cls : Nat) (content : List Byte) : (s.admitCredited sh cls content).pending = s.pending := by
  simp [State.admitCredited]

@[simp] theorem State.takeCredit_pending (sh n : Nat) : (s.takeCredit sh n).2.pending = s.pending := by fun_cases State.takeCredit <;> simp
@[simp] theorem State.giveCredit_pending (sh n : Nat) : (s.giveCredit sh n).pending = s.pending := by simp [State.giveCredit]
@[simp] theorem State.noteChange_pending (region off len : Nat) : (s.noteChange region off len).pending = s.pending := by simp [State.noteChange]

@[simp] theorem State.boxAppend_pending (code : Nat) (record : List Byte) : (s.boxAppend code record).pending = s.pending :=
  (State.boxAppend_keeps s code record).pending

@[simp] theorem State.raise0_pending (code : Nat) (detail : List Nat) (reach : List Nat) (lim : Option Limit) :
    (s.raise0 code detail reach lim).pending = s.pending :=
  (State.raise0_keeps s code detail reach lim).pending

@[simp] theorem State.settle_pending : s.settle.pending = s.pending := (State.settle_keeps s).pending
@[simp] theorem State.dropLines_pending (id : Nat) : (s.dropLines id).pending = s.pending := by simp [State.dropLines]
@[simp] theorem State.holdLines_pending (id n sh : Nat) : (s.holdLines id n sh).pending = s.pending := by simp [State.holdLines]

/-! ### The RTC and its backup domain (chapter 16) -/

@[simp] theorem State.fireAlarm_pending (a : Nat) : (s.fireAlarm a).pending = s.pending := by simp [State.fireAlarm]
@[simp] theorem State.checkAlarm_pending (a : Nat) : (s.checkAlarm a).pending = s.pending := by simp [State.checkAlarm]
@[simp] theorem State.rtcSecond_pending : s.rtcSecond.pending = s.pending := by simp [State.rtcSecond]
@[simp] theorem State.autoTrim_pending : s.autoTrim.pending = s.pending := by simp [State.autoTrim]
@[simp] theorem State.trimPeriodEnd_pending : s.trimPeriodEnd.pending = s.pending := by simp [State.trimPeriodEnd]
@[simp] theorem State.crystalMeasured_pending (ticks : Nat) : (s.crystalMeasured ticks).pending = s.pending := by simp [State.crystalMeasured]
@[simp] theorem State.vbakMeasured_pending (mv : Nat) : (s.vbakMeasured mv).pending = s.pending := by simp [State.vbakMeasured]
@[simp] theorem State.oscillatorStopped_pending : s.oscillatorStopped.pending = s.pending := by simp [State.oscillatorStopped]
@[simp] theorem State.oscillatorRestart_pending : s.oscillatorRestart.pending = s.pending := by simp [State.oscillatorRestart]
@[simp] theorem State.powerOffByPwrOn_pending : s.powerOffByPwrOn.pending = s.pending := by fun_cases State.powerOffByPwrOn <;> simp +zetaDelta
@[simp] theorem State.lockWrites_pending : s.lockWrites.pending = s.pending := by simp [State.lockWrites]
@[simp] theorem State.unlockWrites_pending : s.unlockWrites.pending = s.pending := by simp [State.unlockWrites]
@[simp] theorem State.switchToVbak_pending : s.switchToVbak.pending = s.pending := by simp [State.switchToVbak]
@[simp] theorem State.returnToVsys_pending : s.returnToVsys.pending = s.pending := by simp [State.returnToVsys]
@[simp] theorem State.domainLost_pending : s.domainLost.pending = s.pending := by simp [State.domainLost]
@[simp] theorem State.domainAfresh_pending (vbak : Nat) : (s.domainAfresh vbak).pending = s.pending := by simp [State.domainAfresh]
@[simp] theorem State.landTime_pending (new : Nat) (dowComputed : Bool) : (s.landTime new dowComputed).pending = s.pending := by simp [State.landTime]

/-! ### The MRAM store (chapter 17) -/

@[simp] theorem State.noteMram_pending (a len : Nat) : (s.noteMram a len).pending = s.pending := by simp [State.noteMram]
@[simp] theorem State.wearPage_pending (page op : Nat) : (s.wearPage page op).pending = s.pending := by simp [State.wearPage]

@[simp] theorem State.writePage_pending (page op : Nat) (content : List Byte) : (s.writePage page op content).pending = s.pending := by
  simp [State.writePage]

@[simp] theorem State.storeRefused_pending (partition : Nat) : (s.storeRefused partition).pending = s.pending := by simp [State.storeRefused]
@[simp] theorem State.storeDone_pending : s.storeDone.pending = s.pending := by simp [State.storeDone]
@[simp] theorem State.storeConfig_pending : s.storeConfig.pending = s.pending := by simp [State.storeConfig]
@[simp] theorem State.setSlot_pending (i : Nat) (f : FwSlot) : (s.setSlot i f).pending = s.pending := by simp [State.setSlot]
@[simp] theorem State.fwBegin_pending (len : Nat) : (s.fwBegin len).pending = s.pending := by simp -implicitDefEqProofs [State.fwBegin]
@[simp] theorem State.fwData_pending (off : Nat) (bytes : List Byte) : (s.fwData off bytes).pending = s.pending := by simp [State.fwData]

@[simp] theorem State.fwVerify_pending (hashOk signatureOk : Bool) : (s.fwVerify hashOk signatureOk).pending = s.pending := by
  unfold State.fwVerify
  extract_lets i r h f s1
  have h1 : s1.pending = s.pending := rfl
  split <;> simp [h1]

@[simp] theorem State.fwActivate_pending : s.fwActivate.pending = s.pending := by simp [State.fwActivate]
@[simp] theorem State.fwConfirm_pending : s.fwConfirm.pending = s.pending := by simp [State.fwConfirm]
@[simp] theorem State.bootTrailer_pending (i : Nat) (f : FwSlot) : (s.bootTrailer i f).pending = s.pending := by simp [State.bootTrailer]

@[simp] theorem State.bootSlot_pending : s.bootSlot.pending = s.pending := by
  unfold State.bootSlot
  extract_lets +onlyGivenNames a b inC t ga gb good fallback
  have h : fallback.1.pending = s.pending := by
    unfold fallback
    clear_value t good
    split
    · dsimp only
      simp only [apply_ite Prod.fst, apply_ite State.pending, State.bootTrailer_pending, ite_self]
    · rfl
  clear_value t good fallback
  split
  · exact h
  · split
    · exact h
    · exact h

@[simp] theorem State.store1_pending (partition page : Nat) (content : List Byte) : (s.store1 partition page content).pending = s.pending := by
  simp [State.store1]

@[simp] theorem State.correctedWord_pending (page : Nat) : (s.correctedWord page).pending = s.pending := by simp [State.correctedWord]
@[simp] theorem State.uncorrectablePage_pending (page : Nat) : (s.uncorrectablePage page).pending = s.pending := by simp [State.uncorrectablePage]
@[simp] theorem State.scrub_pending (page : Nat) : (s.scrub page).pending = s.pending := by simp [State.scrub]
@[simp] theorem State.vsysMeasured_pending (mv : Nat) (slope : Int) : (s.vsysMeasured mv slope).pending = s.pending := by simp [State.vsysMeasured]

/-! ### The charter (chapter 3) -/

@[simp] theorem State.hopSetsFell_pending (o s : State) : (State.hopSetsFell o s).pending = s.pending := by simp [State.hopSetsFell]

/-! ### Timers (chapter 15) -/

@[simp] theorem State.belfryTick_pending (n c v : Nat) : (s.belfryTick n c v).pending = s.pending := by simp [State.belfryTick]
@[simp] theorem State.timerEvent_pending (code n c v : Nat) : (s.timerEvent code n c v).pending = s.pending := by simp [State.timerEvent]
@[simp] theorem State.placeChannel_pending (n c : Nat) : (s.placeChannel n c).pending = s.pending := by simp [State.placeChannel]
@[simp] theorem State.masterEvent_pending (m mc : Nat) : (s.masterEvent m mc).pending = s.pending := by simp [State.masterEvent]
@[simp] theorem State.fire_pending (n c : Nat) : (s.fire n c).pending = s.pending := by simp [State.fire]
@[simp] theorem State.armChannel_pending (n c v : Nat) : (s.armChannel n c v).2.pending = s.pending := by fun_cases State.armChannel <;> simp
@[simp] theorem State.forceOutput_pending (n : Nat) (level : Bool) : (s.forceOutput n level).pending = s.pending := by simp [State.forceOutput]
@[simp] theorem State.configChanged_pending (n c old : Nat) : (s.configChanged n c old).pending = s.pending := by simp [State.configChanged]
@[simp] theorem State.applyPrescaler_pending (n : Nat) : (s.applyPrescaler n).pending = s.pending := by simp [State.applyPrescaler]
@[simp] theorem State.captureEdge_pending (n c : Nat) (rising : Bool) : (s.captureEdge n c rising).pending = s.pending := by simp [State.captureEdge]

@[simp] theorem State.strikeTimer_pending (n millis : Nat) : (s.strikeTimer n millis).2.pending = s.pending := by
  fun_cases State.strikeTimer <;> simp +zetaDelta

@[simp] theorem State.clearTimer_pending (n : Nat) : (s.clearTimer n).pending = s.pending := by simp [State.clearTimer]
@[simp] theorem State.releaseTimer_pending (n cause : Nat) : (s.releaseTimer n cause).pending = s.pending := by simp [State.releaseTimer]
@[simp] theorem State.followGrant_pending (n cause : Nat) : (s.followGrant n cause).pending = s.pending := by simp [State.followGrant]
@[simp] theorem State.followGrants_pending (cause : Nat) : (s.followGrants cause).pending = s.pending := by simp [State.followGrants]
@[simp] theorem State.sumSuppressed_pending (n c : Nat) : (s.sumSuppressed n c).pending = s.pending := by simp [State.sumSuppressed]

@[simp] theorem State.timersDeep_pending (oscillatorStopped : Bool) : (s.timersDeep oscillatorStopped).pending = s.pending := by
  simp [State.timersDeep]

@[simp] theorem State.timersWake_pending : s.timersWake.pending = s.pending := by fun_cases State.timersWake <;> simp

/-! ### The Belfry (chapter 2) -/

@[simp] theorem State.setSource_pending (src : Nat) : (s.setSource src).pending = s.pending := by simp [State.setSource]
@[simp] theorem State.sourceAfterLoss_pending : s.sourceAfterLoss.pending = s.pending := by simp [State.sourceAfterLoss]
@[simp] theorem State.mainsLost_pending (cause : Nat) : (s.mainsLost cause).pending = s.pending := by simp [State.mainsLost]
@[simp] theorem State.correct_pending (incF : Nat) (want err : Int) : (s.correct incF want err).pending = s.pending := by simp [State.correct]
@[simp] theorem State.ownMains_pending : s.ownMains.pending = s.pending := by simp [State.ownMains]

@[simp] theorem State.capture_pending (incF : Nat) (want : Int) : (s.capture incF want).pending = s.pending := by
  unfold State.capture
  split <;> simp

@[simp] theorem State.mainsEdge_pending (incF : Nat) (want : Int) : (s.mainsEdge incF want).pending = s.pending := by simp [State.mainsEdge]
@[simp] theorem State.edgesMissing_pending : s.edgesMissing.pending = s.pending := by simp [State.edgesMissing]
@[simp] theorem State.firstPulse_pending (at' : Int) : (s.firstPulse at').pending = s.pending := by simp [State.firstPulse]
@[simp] theorem State.realignFrame_pending (at' : Int) : (s.realignFrame at').pending = s.pending := by simp [State.realignFrame]

@[simp] theorem State.validPulse_pending (marker : Bool) (width incF : Nat) (want : Int) :
    (s.validPulse marker width incF want).1.pending = s.pending := by
  simp [State.validPulse]

@[simp] theorem State.calSyncLost_pending : s.calSyncLost.pending = s.pending := by simp [State.calSyncLost]
@[simp] theorem State.calSyncConflict_pending (width : Nat) : (s.calSyncConflict width).pending = s.pending := by simp [State.calSyncConflict]
@[simp] theorem State.belfryWakes_pending : s.belfryWakes.pending = s.pending := by simp [State.belfryWakes]

/-! ### The lines of a plan -/

@[simp] theorem State.planLines_pending (p : Nat) : (s.planLines p).pending = s.pending := by simp [State.planLines]

/-! ### The tag table (chapter 7) -/

@[simp] theorem State.freeTag_pending (n : Nat) : (s.freeTag n).pending = s.pending := by simp [State.freeTag]
@[simp] theorem State.undoMerge_pending (t : TagEntry) : (s.undoMerge t).pending = s.pending := by fun_cases State.undoMerge <;> simp
@[simp] theorem State.freeTags_pending (f : TagEntry → Bool) : (s.freeTags f).pending = s.pending := by simp [State.freeTags]
@[simp] theorem State.allocTag_pending : s.allocTag.2.pending = s.pending := by fun_cases State.allocTag <;> simp

theorem State.pending_of_allocTag {s s' : State} {n : Option Nat} (h : s.allocTag = (n, s')) : s'.pending = s.pending := by
  rw [← State.allocTag_pending s, h]

@[simp] theorem State.routeTag_pending (n : Nat) (credited : Bool) : (s.routeTag n credited).pending = s.pending := by
  fun_cases State.routeTag <;> simp

@[simp] theorem State.mergeTag_pending (n e : Nat) (t : TagEntry) : (s.mergeTag n e t).pending = s.pending := by fun_cases State.mergeTag <;> simp

@[simp] theorem State.createTag_pending (d : Sighting) : (s.createTag d).2.pending = s.pending := by
  fun_cases State.createTag
  case case1 h => simp [State.pending_of_allocTag h]
  case case2 h _ _ _ _ => simp +zetaDelta [State.pending_of_allocTag h, apply_ite State.pending]
  case case3 h _ _ _ => simp +zetaDelta [State.pending_of_allocTag h]

theorem State.pending_of_createTag {s s' : State} {d : Sighting} {n : Option Nat} (h : s.createTag d = (n, s')) : s'.pending = s.pending := by
  rw [← State.createTag_pending s d, h]

@[simp] theorem State.confirmEntry_pending (n : Nat) : (s.confirmEntry n).pending = s.pending := by fun_cases State.confirmEntry <;> simp +zetaDelta

@[simp] theorem State.releaseReports_pending (n : Nat) (t : TagEntry) : (s.releaseReports n t).pending = s.pending := by
  fun_cases State.releaseReports <;> simp

@[simp] theorem State.confirmTag_pending (n : Nat) : (s.confirmTag n).pending = s.pending := by fun_cases State.confirmTag <;> simp +zetaDelta

@[simp] theorem State.cancelTag_pending (n cause : Nat) : (s.cancelTag n cause).pending = s.pending := by
  fun_cases State.cancelTag <;> simp +zetaDelta

@[simp] theorem State.claimTag_pending (n plan pass q : Nat) : (s.claimTag n plan pass q).pending = s.pending := by simp [State.claimTag]
@[simp] theorem State.endClaims_pending (q : Nat) : (s.endClaims q).pending = s.pending := by simp [State.endClaims]
@[simp] theorem State.claimSkip_pending (n plan q by' : Nat) : (s.claimSkip n plan q by').pending = s.pending := by simp [State.claimSkip]
@[simp] theorem State.lifetimeExpired_pending (n : Nat) : (s.lifetimeExpired n).pending = s.pending := by fun_cases State.lifetimeExpired <;> simp
@[simp] theorem State.ageOut_pending (n : Nat) : (s.ageOut n).pending = s.pending := by fun_cases State.ageOut <;> simp
@[simp] theorem State.forgetView_pending (sh : Nat) : (s.forgetView sh).pending = s.pending := by simp [State.forgetView]

/-! ### Quads (chapter 3) -/

@[simp] theorem State.each_pending (l : List Nat) (f : State → Nat → State) (hf : ∀ st i, (f st i).pending = st.pending) :
    (s.each l f).pending = s.pending := pending_foldl f hf l s

@[simp] theorem State.modChan_pending (q n : Nat) (f : ChanEntry → ChanEntry) : (s.modChan q n f).pending = s.pending := by simp [State.modChan]
@[simp] theorem State.releaseSlot_pending (q : Nat) : (s.releaseSlot q).pending = s.pending := by simp [State.releaseSlot]

@[simp] theorem State.dropProvisional_pending (q : Nat) (t : Tag) : (s.dropProvisional q t).pending = s.pending := by
  fun_cases State.dropProvisional <;> simp

@[simp] theorem State.endSequence_pending (q : Nat) (cut : Bool) : (s.endSequence q cut).pending = s.pending := by simp [State.endSequence]
@[simp] theorem State.endHold_pending (r q code : Nat) : (s.endHold r q code).pending = s.pending := by fun_cases State.endHold <;> simp +zetaDelta
@[simp] theorem State.endOwnHolds_pending (r code : Nat) : (s.endOwnHolds r code).pending = s.pending := by simp [State.endOwnHolds]
@[simp] theorem State.abandon_pending (q : Nat) : (s.abandon q).pending = s.pending := by simp [State.abandon]
@[simp] theorem State.storeVectors_pending (q : Nat) : (s.storeVectors q).pending = s.pending := by fun_cases State.storeVectors <;> simp
@[simp] theorem State.receiversOff_pending (q : Nat) : (s.receiversOff q).pending = s.pending := by simp -implicitDefEqProofs [State.receiversOff]
@[simp] theorem State.cxRest_pending : s.cxRest.pending = s.pending := by simp [State.cxRest]
@[simp] theorem State.carrierOff_pending (q : Nat) : (s.carrierOff q).pending = s.pending := by simp -implicitDefEqProofs [State.carrierOff]
@[simp] theorem State.dropHop_pending (q : Nat) : (s.dropHop q).pending = s.pending := by simp [State.dropHop]
@[simp] theorem State.cutQuad_pending (q : Nat) : (s.cutQuad q).pending = s.pending := by simp [State.cutQuad]
@[simp] theorem State.rampDown_pending (q : Nat) : (s.rampDown q).pending = s.pending := by simp [State.rampDown]
@[simp] theorem State.closeAfterExchange_pending (q : Nat) : (s.closeAfterExchange q).pending = s.pending := by simp [State.closeAfterExchange]

@[simp] theorem State.underOld_pending (q : Nat) (f : State → State) (hf : ∀ st, (f st).pending = st.pending) :
    (s.underOld q f).pending = s.pending := by
  unfold State.underOld
  extract_lets old s1 s2
  have h1 : s1.pending = s.pending := by unfold s1; split <;> simp [State.dictAs, hf]
  have h2 : s2.pending = s.pending := by simp [s2, h1]
  split <;> simp [h2]

@[simp] theorem State.quadFaulted_pending (q : Nat) : (s.quadFaulted q).pending = s.pending := by simp -implicitDefEqProofs [State.quadFaulted]
@[simp] theorem State.quadMended_pending (q : Nat) : (s.quadMended q).pending = s.pending := by simp [State.quadMended]
@[simp] theorem State.modRound_pending (p port : Nat) (f : Round → Round) : (s.modRound p port f).pending = s.pending := by simp [State.modRound]
@[simp] theorem State.supplyOut_pending (b : Nat) : (s.supplyOut b).pending = s.pending := by simp -implicitDefEqProofs [State.supplyOut]
@[simp] theorem State.supplyBack_pending (b : Nat) : (s.supplyBack b).pending = s.pending := by fun_cases State.supplyBack <;> simp +zetaDelta
@[simp] theorem State.supplyMeasured_pending (b mv : Nat) : (s.supplyMeasured b mv).pending = s.pending := by simp [State.supplyMeasured]

/-! ### Inventory slots (chapter 7) -/

@[simp] theorem State.reserveFifo_pending (q : Nat) : (s.reserveFifo q).pending = s.pending := by simp [State.reserveFifo]
@[simp] theorem State.reserveNext_pending (q : Nat) : (s.reserveNext q).pending = s.pending := by simp [State.reserveNext]

@[simp] theorem State.assign_pending (q shade kind window : Nat) : (s.assign q shade kind window).pending = s.pending := by
  fun_cases State.assign <;> simp

@[simp] theorem State.assignNow_pending (q : Nat) : (s.assignNow q).pending = s.pending := by simp [State.assignNow]
@[simp] theorem State.neverFits_pending (q : Nat) : (s.neverFits q).pending = s.pending := by fun_cases State.neverFits <;> simp
@[simp] theorem State.noFit_pending (q ends : Nat) : (s.noFit q ends).pending = s.pending := by simp [State.noFit]
@[simp] theorem State.endPass_pending (p outcome : Nat) : (s.endPass p outcome).pending = s.pending := by simp [State.endPass]
@[simp] theorem State.endPart_pending (p q : Nat) : (s.endPart p q).pending = s.pending := by simp [State.endPart]
@[simp] theorem State.partOver_pending (p q : Nat) : (s.partOver p q).pending = s.pending := by simp [State.partOver]
@[simp] theorem State.goOn_pending (q : Nat) : (s.goOn q).pending = s.pending := by fun_cases State.goOn <;> simp +zetaDelta

@[simp] theorem State.skipGroups_pending (p port : Nat) (fuel : Nat) : (s.skipGroups p port fuel).pending = s.pending := by
  fun_induction State.skipGroups <;> simp +zetaDelta [*]

@[simp] theorem State.skipIdle_pending (p : Nat) : (s.skipIdle p).pending = s.pending := by simp [State.skipIdle]
@[simp] theorem State.groupDone_pending (q : Nat) : (s.groupDone q).pending = s.pending := by fun_cases State.groupDone <;> simp +zetaDelta
@[simp] theorem State.endSlot_pending (q : Nat) : (s.endSlot q).pending = s.pending := by simp [State.endSlot]

/-! ### The transmitters (chapter 3) -/

@[simp] theorem State.calibrated_pending (q n : Nat) (byHop : Bool) (band cap : Nat) : (s.calibrated q n byHop band cap).pending = s.pending := by
  simp [State.calibrated]

@[simp] theorem State.loadTuners_pending (q n : Nat) : (s.loadTuners q n).pending = s.pending := by
  fun_cases State.loadTuners <;> simp +zetaDelta -implicitDefEqProofs

@[simp] theorem State.fixTuners_pending (q : Nat) : (s.fixTuners q).pending = s.pending := by simp -implicitDefEqProofs [State.fixTuners]
@[simp] theorem State.assignAhead_pending (q : Nat) : (s.assignAhead q).pending = s.pending := by fun_cases State.assignAhead <;> simp
@[simp] theorem State.assignHop_pending (q : Nat) : (s.assignHop q).pending = s.pending := by fun_cases State.assignHop <;> simp +zetaDelta

@[simp] theorem State.hop_pending (q draw : Nat) (calOk : Bool) (band cap : Nat) : (s.hop q draw calOk band cap).pending = s.pending := by
  fun_cases State.hop <;> simp +zetaDelta

@[simp] theorem State.backgroundCal_pending (q i p : Nat) (ok : Bool) (band cap : Nat) : (s.backgroundCal q i p ok band cap).pending = s.pending := by
  simp [State.backgroundCal]

@[simp] theorem State.unlock_pending (q : Nat) : (s.unlock q).pending = s.pending := by simp [State.unlock]
@[simp] theorem State.writeChannels_pending : s.writeChannels.pending = s.pending := by simp -implicitDefEqProofs [State.writeChannels]
@[simp] theorem State.invalidateChannels_pending (q : Nat) : (s.invalidateChannels q).pending = s.pending := by simp [State.invalidateChannels]
@[simp] theorem State.rampStart_pending (q : Nat) : (s.rampStart q).pending = s.pending := by fun_cases State.rampStart <;> simp +zetaDelta
@[simp] theorem State.atPower_pending (q : Nat) : (s.atPower q).pending = s.pending := by fun_cases State.atPower <;> simp +zetaDelta
@[simp] theorem State.rampedDown_pending (q : Nat) : (s.rampedDown q).pending = s.pending := by simp [State.rampedDown]
@[simp] theorem State.rampAbandoned_pending (q : Nat) : (s.rampAbandoned q).pending = s.pending := by simp [State.rampAbandoned]
@[simp] theorem State.powerLoop_pending (q : Nat) (fwd : Int) : (s.powerLoop q fwd).pending = s.pending := by simp [State.powerLoop]
@[simp] theorem State.feedForward_pending (b mv : Nat) : (s.feedForward b mv).pending = s.pending := by simp [State.feedForward]

@[simp] theorem State.shortfall_pending (q : Nat) (measured : Int) : (s.shortfall q measured).pending = s.pending := by
  fun_cases State.shortfall <;> simp

@[simp] theorem State.tunerStep_pending (p bank : Nat) (up : Bool) (vswr : Nat) : (s.tunerStep p bank up vswr).pending = s.pending := by
  fun_cases State.tunerStep <;> simp +zetaDelta

@[simp] theorem State.tripped_pending (p cause vswr : Nat) : (s.tripped p cause vswr).pending = s.pending := by simp [State.tripped]
@[simp] theorem State.trip_pending (p cause vswr : Nat) : (s.trip p cause vswr).pending = s.pending := by simp [State.trip]
@[simp] theorem State.hardShort_pending (p vswr : Nat) (excess : Bool) : (s.hardShort p vswr excess).pending = s.pending := by simp [State.hardShort]
@[simp] theorem State.mismatch_pending (p vswr : Nat) (fwd : Int) : (s.mismatch p vswr fwd).pending = s.pending := by simp [State.mismatch]
@[simp] theorem State.shorted_pending (p : Nat) (gamma : Option Nat) : (s.shorted p gamma).pending = s.pending := by simp [State.shorted]
@[simp] theorem State.probed_pending (p i vswr : Nat) (excess : Bool) : (s.probed p i vswr excess).pending = s.pending := by simp [State.probed]

@[simp] theorem State.probe_pending (p vswr : Nat) (excess : Bool) (draw : Nat) : (s.probe p vswr excess draw).pending = s.pending := by
  fun_cases State.probe <;> simp

@[simp] theorem State.reArm_pending (p : Nat) : (s.reArm p).pending = s.pending := by simp [State.reArm]
@[simp] theorem State.dwellLimit_pending (q : Nat) : (s.dwellLimit q).pending = s.pending := by fun_cases State.dwellLimit <;> simp
@[simp] theorem State.cxLevel_pending (bit : Nat) (v : Bool) : (s.cxLevel bit v).pending = s.pending := by simp [State.cxLevel]
@[simp] theorem State.cxRequest_pending : s.cxRequest.pending = s.pending := by simp [State.cxRequest]
@[simp] theorem State.cxGrant_pending (level : Bool) : (s.cxGrant level).pending = s.pending := by simp [State.cxGrant]
@[simp] theorem State.grantWait_pending : s.grantWait.pending = s.pending := by simp -implicitDefEqProofs [State.grantWait]
@[simp] theorem State.foreignActivity_pending : s.foreignActivity.pending = s.pending := by simp [State.foreignActivity]
@[simp] theorem State.activityEnds_pending : s.activityEnds.pending = s.pending := by simp [State.activityEnds]

/-! ### The receivers (chapter 4) -/

@[simp] theorem State.blank_pending (q : Nat) : (s.blank q).pending = s.pending := State.each_pending s _ _ fun st p => by simp -implicitDefEqProofs
@[simp] theorem State.openGain_pending (p : Nat) : (s.openGain p).pending = s.pending := by simp [State.openGain]
@[simp] theorem State.listen_pending (q : Nat) (pre : List (List Cx)) : (s.listen q pre).pending = s.pending := by simp [State.listen]
@[simp] theorem State.track_pending (q : Nat) : (s.track q).pending = s.pending := by simp -implicitDefEqProofs [State.track]
@[simp] theorem State.freezeGains_pending (q : Nat) : (s.freezeGains q).pending = s.pending := by simp -implicitDefEqProofs [State.freezeGains]
@[simp] theorem State.agcPins_pending (q : Nat) : (s.agcPins q).pending = s.pending := by simp [State.agcPins]
@[simp] theorem State.cancStep_pending (p : Nat) (i : CancIter) : (s.cancStep p i).pending = s.pending := by simp [State.cancStep]
@[simp] theorem State.tracks_pending (p : Nat) : (s.tracks p).pending = s.pending := by simp [State.tracks]
@[simp] theorem State.shallow_pending (p : Nat) : (s.shallow p).pending = s.pending := by simp [State.shallow]
@[simp] theorem State.judgeCanceller_pending (p : Nat) : (s.judgeCanceller p).pending = s.pending := by simp [State.judgeCanceller]
@[simp] theorem State.cancRun_pending (p : Nat) (steps : List CancIter) : (s.cancRun p steps).pending = s.pending := by simp [State.cancRun]
@[simp] theorem State.clipBlock_pending (p : Nat) : (s.clipBlock p).pending = s.pending := by simp [State.clipBlock]
@[simp] theorem State.agcBlock_pending (p : Nat) (block fwd : List Cx) : (s.agcBlock p block fwd).pending = s.pending := by simp [State.agcBlock]
@[simp] theorem State.sweepSurveyed_pending (q : Nat) : (s.sweepSurveyed q).pending = s.pending := by simp [State.sweepSurveyed]
@[simp] theorem State.surveyReceivers_pending (q : Nat) (on : Bool) : (s.surveyReceivers q on).pending = s.pending := by simp [State.surveyReceivers]

@[simp] theorem State.surveyEnd_pending (q : Nat) (levels : List Int) : (s.surveyEnd q levels).pending = s.pending := by
  fun_cases State.surveyEnd <;> simp +zetaDelta -implicitDefEqProofs

@[simp] theorem State.surveyBegin_pending (q : Nat) : (s.surveyBegin q).pending = s.pending := by fun_cases State.surveyBegin <;> simp +zetaDelta
@[simp] theorem State.surveyAbort_pending (q : Nat) : (s.surveyAbort q).pending = s.pending := by simp [State.surveyAbort]

/-! ### The baseband (chapter 5) -/

@[simp] theorem State.assignTones_pending (q : Nat) (pre : List (List Cx)) : (s.assignTones q pre).pending = s.pending := by
  simp -implicitDefEqProofs [State.assignTones]

/-! ### The sequencers (chapter 6) -/

@[simp] theorem State.noteSlot_pending (q : Nat) (d : Due) : (s.noteSlot q d).pending = s.pending := by fun_cases State.noteSlot <;> simp
@[simp] theorem State.retarget_pending (q : Nat) : (s.retarget q).pending = s.pending := by fun_cases State.retarget <;> simp

@[simp] theorem State.send_pending (q : Nat) (d : Due) (rest : List Due) : (s.send q d rest).pending = s.pending := by
  simp -implicitDefEqProofs [State.send]

@[simp] theorem State.tryCommand_pending (q : Nat) : (s.tryCommand q).pending = s.pending := by
  unfold State.tryCommand
  dsimp only
  split <;> simp

@[simp] theorem State.command_pending (q cmd : Nat) : (s.command q cmd).pending = s.pending := by simp [State.command]

@[simp] theorem State.stepReport_pending (q step status : Nat) (data : List Byte) : (s.stepReport q step status data).pending = s.pending := by
  fun_cases State.stepReport <;> simp

@[simp] theorem State.reportIfAsked_pending (q step status : Nat) (data : List Byte) : (s.reportIfAsked q step status data).pending = s.pending := by
  fun_cases State.reportIfAsked <;> simp

@[simp] theorem State.beginTag_pending (q : Nat) (t : Tag) : (s.beginTag q t).2.pending = s.pending := by fun_cases State.beginTag <;> simp +zetaDelta

@[simp] theorem State.serve_pending (q : Nat) (l : List Tag) : (s.serve q l).pending = s.pending := by
  fun_induction State.serve <;> simp +zetaDelta [*]

@[simp] theorem State.finishTag_pending (q : Nat) : (s.finishTag q).pending = s.pending := by simp [State.finishTag]
@[simp] theorem State.failTag_pending (q : Nat) : (s.failTag q).pending = s.pending := by simp [State.failTag]
@[simp] theorem State.advance_pending (q : Nat) : (s.advance q).pending = s.pending := by simp [State.advance]
@[simp] theorem State.stepDone_pending (q : Nat) (data : List Byte) : (s.stepDone q data).pending = s.pending := by simp [State.stepDone]

@[simp] theorem State.authenticate_pending (q : Nat) (challenge : List Byte) : (s.authenticate q challenge).pending = s.pending := by
  simp [State.authenticate]

@[simp] theorem State.hsbProbe_pending (q : Nat) : (s.hsbProbe q).pending = s.pending := by simp [State.hsbProbe]
@[simp] theorem State.groupAck_pending (q : Nat) : (s.groupAck q).pending = s.pending := by simp [State.groupAck]

/-! ### Detection (chapter 5) -/

@[simp] theorem State.windowOpen_pending (q : Nat) (pre : List (List Cx)) : (s.windowOpen q pre).pending = s.pending := by simp [State.windowOpen]
@[simp] theorem State.endHolds_pending (q code : Nat) : (s.endHolds q code).pending = s.pending := by simp [State.endHolds]
@[simp] theorem State.beginHolds_pending (q : Nat) : (s.beginHolds q).pending = s.pending := by simp -implicitDefEqProofs [State.beginHolds]
@[simp] theorem State.holdLimit_pending (r : Nat) : (s.holdLimit r).pending = s.pending := by simp [State.holdLimit]

@[simp] theorem State.detected_pending (q : Nat) (d : Detection) : (s.detected q d).pending = s.pending := by
  fun_cases State.detected <;> simp +zetaDelta -implicitDefEqProofs

@[simp] theorem State.withdraw_pending (q : Nat) (air : Air) : (s.withdraw q air).pending = s.pending := by
  fun_cases State.withdraw <;> simp +zetaDelta -implicitDefEqProofs

@[simp] theorem State.settleStreams_pending (q : Nat) (air : Air) (est : List StreamEst) : (s.settleStreams q air est).pending = s.pending := by
  simp [State.settleStreams]

@[simp] theorem State.receiveOver_pending (q : Nat) : (s.receiveOver q).pending = s.pending := by simp [State.receiveOver]

/-! ### Singulation (chapter 6) -/

@[simp] theorem State.countVerdict_pending (q : Nat) (v : Verdict) : (s.countVerdict q v).pending = s.pending := by
  unfold State.countVerdict
  extract_lets s1 s2 s3 s4
  have h1 : s1.pending = s.pending := by simp [s1]
  have h2 : s2.pending = s.pending := by simp [s2, h1]
  have h3 : s3.pending = s.pending := by simp [s3, h2]
  have h4 : s4.pending = s.pending := by unfold s4; split <;> simp [h3]
  split <;> simp [h4]

@[simp] theorem State.putBuffer_pending (q : Nat) (l : List Byte) : (s.putBuffer q l).pending = s.pending := by simp [State.putBuffer]

@[simp] theorem State.writeDescriptor_pending (q : Nat) (v : Verdict) (r : Reply) (d : Described) (result : Bool) :
    (s.writeDescriptor q v r d result).pending = s.pending := by
  simp [State.writeDescriptor]

@[simp] theorem State.adapt_pending (q : Nat) (up : Bool) : (s.adapt q up).pending = s.pending := by fun_cases State.adapt <;> simp +zetaDelta
@[simp] theorem State.adaptAfter_pending (q : Nat) (v : Verdict) (r : Reply) : (s.adaptAfter q v r).pending = s.pending := by simp [State.adaptAfter]

@[simp] theorem State.updateQ_pending (q : Nat) (v : Verdict) : (s.updateQ q v).pending = s.pending := by
  unfold State.updateQ
  dsimp only
  split <;> simp

@[simp] theorem State.afterReply_pending (q : Nat) (v : Verdict) (r : Reply) : (s.afterReply q v r).pending = s.pending := by simp [State.afterReply]
@[simp] theorem State.afterNone_pending (q : Nat) : (s.afterNone q).pending = s.pending := by simp [State.afterNone]
@[simp] theorem State.discardT1_pending (q : Nat) : (s.discardT1 q).pending = s.pending := by simp [State.discardT1]
@[simp] theorem State.rnDone_pending (q : Nat) (v : Verdict) : (s.rnDone q v).pending = s.pending := by simp [State.rnDone]

@[simp] theorem State.enterTag_pending (q : Nat) (e : EpcReply) (r : Reply) (relay : Bool) (holds : Nat) :
    (s.enterTag q e r relay holds).2.pending = s.pending := by
  fun_cases State.enterTag
  case case1 => rfl
  all_goals
    have h := State.pending_of_createTag ‹_›
    simp +zetaDelta [h]

@[simp] theorem State.ackDone_pending (q : Nat) (v : Verdict) (r : Reply) (holds : Nat) : (s.ackDone q v r holds).pending = s.pending := by
  fun_cases State.ackDone <;> simp +zetaDelta

/-! ### Access commands (chapter 6) -/

@[simp] theorem State.failStep_pending (q status : Nat) (data : List Byte) : (s.failStep q status data).pending = s.pending := by
  simp [State.failStep]

@[simp] theorem State.handleLost_pending (q : Nat) : (s.handleLost q).pending = s.pending := by simp [State.handleLost]
@[simp] theorem State.resend_pending (q : Nat) : (s.resend q).pending = s.pending := by simp [State.resend]
@[simp] theorem State.outcomeUnknown_pending (q : Nat) : (s.outcomeUnknown q).pending = s.pending := by simp [State.outcomeUnknown]
@[simp] theorem State.tagError_pending (q code : Nat) : (s.tagError q code).pending = s.pending := by simp [State.tagError]

@[simp] theorem State.accessOk_pending (q : Nat) (data : List Bool) : (s.accessOk q data).pending = s.pending := by
  unfold State.accessOk
  extract_lets x s1
  have h1 : s1.pending = s.pending := by
    unfold s1
    repeat' split
    all_goals simp
  simp [h1]

@[simp] theorem State.accessDone_pending (q : Nat) (v : Verdict) : (s.accessDone q v).pending = s.pending := by fun_cases State.accessDone <;> simp

/-! ### Sliced backscatter (chapter 8) -/

@[simp] theorem State.modHsb_pending (q : Nat) (f : HsbStep → HsbStep) : (s.modHsb q f).pending = s.pending := by simp [State.modHsb]

@[simp] theorem State.startError_pending (q kind : Nat) (e : Int) : (s.startError q kind e).pending = s.pending := by
  unfold State.startError
  extract_lets x l s1
  have h1 : s1.pending = s.pending := by unfold s1; split <;> rfl
  split
  · rfl
  · split <;> simp [h1]

@[simp] theorem State.hsbFail_pending (q status : Nat) : (s.hsbFail q status).pending = s.pending := by simp [State.hsbFail]
@[simp] theorem State.hsbEvent_pending (q code : Nat) (detail : List Nat) : (s.hsbEvent q code detail).pending = s.pending := by simp [State.hsbEvent]
@[simp] theorem State.notCapable_pending (q why : Nat) : (s.notCapable q why).pending = s.pending := by simp [State.notCapable]
@[simp] theorem State.tooWeak_pending (q margin cap : Nat) : (s.tooWeak q margin cap).pending = s.pending := by simp [State.tooWeak]
@[simp] theorem State.loadNext_pending (q : Nat) : (s.loadNext q).pending = s.pending := by fun_cases State.loadNext <;> simp

@[simp] theorem State.afterHsb_pending (q : Nat) (v : Verdict) (symbols : Nat) : (s.afterHsb q v symbols).pending = s.pending := by
  simp [State.afterHsb]

@[simp] theorem State.hsbDone_pending (q : Nat) (v : Verdict) (r : Reply) : (s.hsbDone q v r).pending = s.pending := by simp [State.hsbDone]

@[simp] theorem State.probeChosen_pending (q : Nat) (header : List Bool) (snr : List Nat) (e : Int) :
    (s.probeChosen q header snr e).pending = s.pending := by
  simp [State.probeChosen]

@[simp] theorem State.probeDone_pending (q : Nat) (air : Air) : (s.probeDone q air).pending = s.pending := by simp [State.probeDone]
@[simp] theorem State.feedCores_pending : s.feedCores.pending = s.pending := pending_foldl _ (fun st i => by split <;> rfl) _ s

@[simp] theorem State.deliverWords_pending (q : Nat) (soft : List Int) (fuel : Nat) : (s.deliverWords q soft fuel).pending = s.pending := by
  fun_induction State.deliverWords <;> simp +zetaDelta [*]

@[simp] theorem State.deliverFrame_pending (q : Nat) (air : Air) : (s.deliverFrame q air).pending = s.pending := by simp [State.deliverFrame]

@[simp] theorem State.coreDone_pending (core : Nat) : (s.coreDone core).pending = s.pending := by
  unfold State.coreDone
  split <;> simp

@[simp] theorem State.deliverFrames_pending (qs : List Nat) (ps : List (List (List Cx))) (fs : List (List Cx)) :
    (s.deliverFrames qs ps fs).pending = s.pending := by
  fun_induction State.deliverFrames <;> simp +zetaDelta [*]

@[simp] theorem State.hsbResult_pending (q : Nat) (b : List Bool) : (s.hsbResult q b).pending = s.pending := by simp [State.hsbResult]
@[simp] theorem State.frameFailed_pending (q : Nat) : (s.frameFailed q).pending = s.pending := by simp [State.frameFailed]
@[simp] theorem State.frameDone_pending (q : Nat) (air : Air) : (s.frameDone q air).pending = s.pending := by simp [State.frameDone]
@[simp] theorem State.modListed_pending (q i : Nat) (f : Tag → Tag) : (s.modListed q i f).pending = s.pending := by simp [State.modListed]

@[simp] theorem State.discardTag_pending (q : Nat) (t : Tag) : (s.discardTag q t).pending = s.pending := by
  fun_cases State.discardTag <;> simp +zetaDelta

@[simp] theorem State.serveGroup_pending (q : Nat) : (s.serveGroup q).pending = s.pending := by simp [State.serveGroup]

@[simp] theorem State.slotDone_pending (q : Nat) (v : Verdict) (r : Reply) (holds : Nat) : (s.slotDone q v r holds).pending = s.pending := by
  unfold State.slotDone
  extract_lets x i error s0 off e a s1
  have h0 : s0.pending = s.pending := by unfold s0; split <;> simp
  have ha : a.2.pending = s.pending := by unfold a; split <;> simp [h0]
  have h1 : s1.pending = s.pending := by
    unfold s1
    split
    · split <;> simp [ha]
    · simp [ha]
  split <;> simp [h1]

/-! ### Decisions and passes (chapter 7) -/

@[simp] theorem State.conclude_pending (q : Nat) (v : Verdict) (r : Reply) (holds : Nat) : (s.conclude q v r holds).pending = s.pending := by
  simp [State.conclude]

@[simp] theorem State.decision_pending (q : Nat) (air : Air) : (s.decision q air).pending = s.pending := by simp [State.decision]
@[simp] theorem State.windowClose_pending (q : Nat) : (s.windowClose q).pending = s.pending := by simp [State.windowClose]
@[simp] theorem State.afterSilent_pending (q : Nat) : (s.afterSilent q).pending = s.pending := by simp [State.afterSilent]
@[simp] theorem State.silentCommand_pending (q cmd : Nat) : (s.silentCommand q cmd).pending = s.pending := by simp [State.silentCommand]
@[simp] theorem State.agePorts_pending (p : Nat) : (s.agePorts p).pending = s.pending := by simp [State.agePorts]
@[simp] theorem State.beginPass_pending (p : Nat) : (s.beginPass p).pending = s.pending := by simp [State.beginPass]
@[simp] theorem State.passStart_pending (p : Nat) : (s.passStart p).pending = s.pending := by fun_cases State.passStart <;> simp
@[simp] theorem State.leavePlan_pending (p q : Nat) : (s.leavePlan p q).pending = s.pending := by simp [State.leavePlan]
@[simp] theorem State.passLimit_pending (p : Nat) : (s.passLimit p).pending = s.pending := by simp [State.passLimit]
@[simp] theorem State.moveEntry_pending (p : Nat) : (s.moveEntry p).pending = s.pending := by fun_cases State.moveEntry <;> simp +zetaDelta
@[simp] theorem State.takeResult_pending (q : Nat) : (s.takeResult q).pending = s.pending := by fun_cases State.takeResult <;> simp

/-! ### HF ports, services and cards -/

@[simp] theorem State.modSvc_pending (h : Nat) (f : HfService → HfService) : (s.modSvc h f).pending = s.pending := by simp [State.modSvc]
@[simp] theorem State.modCard_pending (h : Nat) (f : HfCard → HfCard) : (s.modCard h f).pending = s.pending := by simp [State.modCard]

/-! ### HF services (chapter 9) -/

@[simp] theorem State.sendCard_pending (h kind step status : Nat) (received data : List Byte) :
    (s.sendCard h kind step status received data).pending = s.pending := by
  fun_cases State.sendCard <;> simp

@[simp] theorem State.cardError_pending (h why : Nat) : (s.cardError h why).pending = s.pending := by simp [State.cardError]

@[simp] theorem State.planEnd_pending (h : Nat) (complete : Bool) : (s.planEnd h complete).pending = s.pending := by
  fun_cases State.planEnd <;> simp +zetaDelta

@[simp] theorem State.closeField_pending (h : Nat) : (s.closeField h).pending = s.pending := by simp [State.closeField]
@[simp] theorem State.endService_pending (h : Nat) : (s.endService h).pending = s.pending := by simp [State.endService]

@[simp] theorem State.cutService_pending (h status : Nat) : (s.cutService h status).pending = s.pending := by
  fun_cases State.cutService <;> simp +zetaDelta

@[simp] theorem State.nextCardPlan_pending (h : Nat) : (s.nextCardPlan h).pending = s.pending := by simp [State.nextCardPlan]
@[simp] theorem State.strike_pending (h p : Nat) (b : List Byte) : (s.strike h p b).pending = s.pending := by simp [State.strike]

@[simp] theorem State.runStep_pending (h : Nat) (fuel : Nat) : (s.runStep h fuel).pending = s.pending := by
  fun_induction State.runStep <;> simp +zetaDelta [*]

@[simp] theorem State.stepEnds_pending (h status : Nat) (received data : List Byte) : (s.stepEnds h status received data).pending = s.pending := by
  fun_cases State.stepEnds <;> simp +zetaDelta

@[simp] theorem State.beginPlan_pending (h p : Nat) (left : List Nat) (credits : Nat) : (s.beginPlan h p left credits).pending = s.pending := by
  simp [State.beginPlan]

@[simp] theorem State.tryPlans_pending (h : Nat) (l : List Nat) : (s.tryPlans h l).pending = s.pending := by
  fun_induction State.tryPlans <;> simp +zetaDelta [*]

@[simp] theorem State.identified_pending (h : Nat) : (s.identified h).pending = s.pending := by simp [State.identified]
@[simp] theorem State.noCardHere_pending (h : Nat) : (s.noCardHere h).pending = s.pending := by fun_cases State.noCardHere <;> simp +zetaDelta

@[simp] theorem State.requestService_pending (h : Nat) (poll : Bool) (shade : Nat) : (s.requestService h poll shade).pending = s.pending := by
  simp [State.requestService]

@[simp] theorem State.preempt_pending (h by' since : Nat) : (s.preempt h by' since).pending = s.pending := by simp [State.preempt]

@[simp] theorem State.takeTx_pending (h t since : Nat) (poll : Bool) : (s.takeTx h t since poll).pending = s.pending := by
  fun_cases State.takeTx <;> simp +zetaDelta

@[simp] theorem State.serviceStart_pending (h : Nat) : (s.serviceStart h).pending = s.pending := by fun_cases State.serviceStart <;> simp +zetaDelta
@[simp] theorem State.endPoll_pending (h : Nat) : (s.endPoll h).pending = s.pending := by simp [State.endPoll]
@[simp] theorem State.guardExpired_pending (h : Nat) : (s.guardExpired h).pending = s.pending := by simp [State.guardExpired]

/-! ### Card replies (chapter 9) -/

@[simp] theorem State.afterLeave_pending (h : Nat) : (s.afterLeave h).pending = s.pending := by simp [State.afterLeave]
@[simp] theorem State.hfSend_pending (h code : Nat) : (s.hfSend h code).pending = s.pending := by simp [State.hfSend]
@[simp] theorem State.flagRelay_pending (h fdt : Nat) : (s.flagRelay h fdt).pending = s.pending := by simp [State.flagRelay]
@[simp] theorem State.traceCard_pending (h status : Nat) : (s.traceCard h status).pending = s.pending := by simp [State.traceCard]

@[simp] theorem State.replyEnds_pending (h status : Nat) (received data : List Byte) : (s.replyEnds h status received data).pending = s.pending := by
  simp [State.replyEnds]

@[simp] theorem State.dueCard_pending (h code arg : Nat) : (s.dueCard h code arg).pending = s.pending := by simp [State.dueCard]
@[simp] theorem State.retryBlock_pending (h : Nat) : (s.retryBlock h).pending = s.pending := by simp [State.retryBlock]
@[simp] theorem State.nextSlotB_pending (h : Nat) : (s.nextSlotB h).pending = s.pending := by simp [State.nextSlotB]
@[simp] theorem State.nextSlotV_pending (h : Nat) : (s.nextSlotV h).pending = s.pending := by simp [State.nextSlotV]
@[simp] theorem State.replyMissing_pending (h : Nat) : (s.replyMissing h).pending = s.pending := by fun_cases State.replyMissing <;> simp
@[simp] theorem State.replyBad_pending (h why : Nat) : (s.replyBad h why).pending = s.pending := by simp [State.replyBad]
@[simp] theorem State.gotAtqa_pending (h : Nat) (r : CardReply) : (s.gotAtqa h r).pending = s.pending := by simp [State.gotAtqa]
@[simp] theorem State.gotPart_pending (h : Nat) (r : CardReply) : (s.gotPart h r).pending = s.pending := by fun_cases State.gotPart <;> simp
@[simp] theorem State.gotSak_pending (h : Nat) (p : List Byte) : (s.gotSak h p).pending = s.pending := by simp [State.gotSak]
@[simp] theorem State.gotAtqb_pending (h : Nat) (p : List Byte) : (s.gotAtqb h p).pending = s.pending := by simp [State.gotAtqb]
@[simp] theorem State.layer4_pending (h : Nat) : (s.layer4 h).pending = s.pending := by simp [State.layer4]
@[simp] theorem State.gotAts_pending (h : Nat) (p : List Byte) : (s.gotAts h p).pending = s.pending := by simp [State.gotAts]
@[simp] theorem State.gotInventory_pending (h : Nat) (p : List Byte) : (s.gotInventory h p).pending = s.pending := by simp [State.gotInventory]
@[simp] theorem State.gotApdu_pending (h : Nat) : (s.gotApdu h).pending = s.pending := by simp [State.gotApdu]

@[simp] theorem State.gotBlock_pending (h : Nat) (p : List Byte) : (s.gotBlock h p).pending = s.pending := by
  fun_cases State.gotBlock <;> simp +zetaDelta

@[simp] theorem State.gotStep_pending (h : Nat) (p : List Byte) : (s.gotStep h p).pending = s.pending := by simp [State.gotStep]
@[simp] theorem State.collided_pending (h : Nat) : (s.collided h).pending = s.pending := by fun_cases State.collided <;> simp +zetaDelta

@[simp] theorem State.received_pending (h : Nat) (r : CardReply) : (s.received h r).pending = s.pending := by
  fun_cases State.received <;> simp +zetaDelta

@[simp] theorem State.cardReply_pending (h : Nat) (r : CardReply) : (s.cardReply h r).pending = s.pending := by simp [State.cardReply]

@[simp] theorem State.underOldHf_pending (h : Nat) (f : State → State) (hf : ∀ st, (f st).pending = st.pending) :
    (s.underOldHf h f).pending = s.pending := by
  fun_cases State.underOldHf <;> simp +zetaDelta [State.dictAs, hf]

@[simp] theorem State.cardTimeout_pending (h : Nat) : (s.cardTimeout h).pending = s.pending := by simp [State.cardTimeout]
@[simp] theorem State.stepTimeout_pending (h : Nat) : (s.stepTimeout h).pending = s.pending := by fun_cases State.stepTimeout <;> simp +zetaDelta

/-! ### HF fields, probes and the capacitive channels (chapter 9) -/

@[simp] theorem State.fieldLoop_pending (h delivered limit : Nat) : (s.fieldLoop h delivered limit).pending = s.pending := by
  simp -implicitDefEqProofs [State.fieldLoop]

@[simp] theorem State.hfFault_pending (h current since : Nat) : (s.hfFault h current since).pending = s.pending := by simp [State.hfFault]
@[simp] theorem State.hfProbe_pending (h current : Nat) : (s.hfProbe h current).pending = s.pending := by simp [State.hfProbe]
@[simp] theorem State.hfReArm_pending (h : Nat) : (s.hfReArm h).pending = s.pending := by simp [State.hfReArm]
@[simp] theorem State.nearPort_pending (h : Nat) : (s.nearPort h).pending = s.pending := by simp [State.nearPort]
@[simp] theorem State.cardGone_pending (h : Nat) : (s.cardGone h).pending = s.pending := by simp [State.cardGone]
@[simp] theorem State.ping_pending (h current : Nat) : (s.ping h current).pending = s.pending := by simp [State.ping]
@[simp] theorem State.reServe_pending (h : Nat) : (s.reServe h).pending = s.pending := by simp [State.reServe]
@[simp] theorem State.padFault_pending (n cause : Nat) : (s.padFault n cause).pending = s.pending := by simp [State.padFault]
@[simp] theorem State.capDetected_pending (n : Nat) : (s.capDetected n).pending = s.pending := by simp [State.capDetected]
@[simp] theorem State.scanCap_pending (n count : Nat) : (s.scanCap n count).pending = s.pending := by simp [State.scanCap]
@[simp] theorem State.capScan_pending (counts : List Nat) : (s.capScan counts).pending = s.pending := by simp [State.capScan]
@[simp] theorem State.capStuck_pending (n : Nat) : (s.capStuck n).pending = s.pending := by simp [State.capStuck]
@[simp] theorem State.capEnabled_pending (old new : Nat) : (s.capEnabled old new).pending = s.pending := by simp [State.capEnabled]

/-! ### Meters (chapter 10) -/

@[simp] theorem State.unresolvedTag_pending (n : Nat) (t : TagEntry) : (s.unresolvedTag n t).pending = s.pending := by simp [State.unresolvedTag]

@[simp] theorem State.resolveTag_pending (n m c : Nat) (x : Meter) (old : Bool) : (s.resolveTag n m c x old).pending = s.pending := by
  fun_cases State.resolveTag <;> simp +zetaDelta

@[simp] theorem State.pseudonym_pending (n first : Nat) : (s.pseudonym n first).pending = s.pending := by fun_cases State.pseudonym <;> simp
@[simp] theorem State.windowComputed_pending (m : Nat) : (s.windowComputed m).pending = s.pending := by fun_cases State.windowComputed <;> simp
@[simp] theorem State.markResync_pending (m : Nat) : (s.markResync m).pending = s.pending := by simp [State.markResync]
@[simp] theorem State.resyncComputed_pending (m : Nat) : (s.resyncComputed m).pending = s.pending := by simp [State.resyncComputed]
@[simp] theorem State.resyncExpired_pending (m : Nat) : (s.resyncExpired m).pending = s.pending := by fun_cases State.resyncExpired <;> simp
@[simp] theorem State.adopt_pending (m flags : Nat) (r : Reading) : (s.adopt m flags r).pending = s.pending := by simp [State.adopt]

@[simp] theorem State.checkRead_pending (m : Nat) (x : Meter) (r : Reading) : (s.checkRead m x r).pending = s.pending := by
  fun_cases State.checkRead <;> simp

@[simp] theorem State.takeRead_pending (m plan : Nat) (custom : List Byte) (r : Reading) : (s.takeRead m plan custom r).pending = s.pending := by
  fun_cases State.takeRead <;> simp

@[simp] theorem State.authenticated_pending (n : Nat) (ok : Bool) (custom : List Byte) : (s.authenticated n ok custom).pending = s.pending := by
  fun_cases State.authenticated <;> simp +zetaDelta

/-! ### The journal (chapter 10) -/

@[simp] theorem State.makeRoom_pending (sh need : Nat) (fuel : Nat) : (s.makeRoom sh need fuel).pending = s.pending := by
  fun_induction State.makeRoom with
  | case3 s n _ _ x _ ih => exact ih.trans (State.modJournal_pending s x _)
  | _ => rfl

@[simp] theorem State.startChain_pending (sh : Nat) : (s.startChain sh).pending = s.pending := by simp [State.startChain]
@[simp] theorem State.draw32_pending : s.draw32.2.pending = s.pending := by simp [State.draw32]

@[simp] theorem State.formBatch_pending (sh : Nat) (c : ChainEnd) (ds : List Draft) : (s.formBatch sh c ds).1.pending = s.pending := by
  simp [State.formBatch]

@[simp] theorem State.formGroup_pending (sh : Nat) (boundary : Option Nat) (ds : List Draft) (retire : List Nat) :
    (s.formGroup sh boundary ds retire).pending = s.pending := by
  unfold State.formGroup
  extract_lets +onlyGivenNames r
  have hr : r.1.pending = s.pending :=
    List.foldlRecOn (motive := fun a : State × ChainEnd × List Batch => a.1.pending = s.pending) _ _ rfl
      (fun a ha l _ => by simpa using ha)
  simp [hr]

@[simp] theorem State.intervalBoundary_pending (c : Nat) : (s.intervalBoundary c).pending = s.pending := by simp [State.intervalBoundary]

@[simp] theorem State.deferBoundary_pending (sh : Nat) (due : List (Nat × Nat × Nat)) : (s.deferBoundary sh due).pending = s.pending := by
  simp [State.deferBoundary]

@[simp] theorem State.recordsFormed_pending (sh : Nat) : (s.recordsFormed sh).pending = s.pending := by
  unfold State.recordsFormed
  extract_lets due ds need s1 first s2 s3
  have h1 : s1.pending = s.pending := State.makeRoom_pending s sh need _
  have h2 : s2.pending = s.pending := by simp [s2, h1]
  have h3 : s3.pending = s2.pending := pending_foldl _ (fun st e => by simp) _ s2
  split
  · rfl
  · split
    · simp [h1]
    · refine (pending_foldl _ (fun st e => ?_) _ s3).trans (h3.trans h2)
      split <;> simp

@[simp] theorem State.highWater_pending (before : Nat) : (s.highWater before).pending = s.pending := by simp [State.highWater]
@[simp] theorem State.sealControl_pending : s.sealControl.pending = s.pending := by simp [State.sealControl]

@[simp] theorem State.sealGroup_pending (g : CommitGroup) : (s.sealGroup g).pending = s.pending := by
  unfold State.sealGroup
  split <;> simp

@[simp] theorem State.tryCommit_pending : s.tryCommit.pending = s.pending := by fun_cases State.tryCommit <;> simp +zetaDelta
@[simp] theorem State.queuePiece_pending (sh : Nat) : (s.queuePiece sh).pending = s.pending := by fun_cases State.queuePiece <;> simp +zetaDelta
@[simp] theorem State.redeliver_pending (sh b : Nat) : (s.redeliver sh b).pending = s.pending := by simp [State.redeliver]
@[simp] theorem State.redeliverAll_pending (sh : Nat) : (s.redeliverAll sh).pending = s.pending := by simp [State.redeliverAll]
@[simp] theorem State.acknowledge_pending (sh b : Nat) : (s.acknowledge sh b).pending = s.pending := by simp [State.acknowledge]
@[simp] theorem State.redeliveryInterval_pending (sh : Nat) : (s.redeliveryInterval sh).pending = s.pending := by simp [State.redeliveryInterval]
@[simp] theorem State.retentionExpired_pending (sh : Nat) : (s.retentionExpired sh).pending = s.pending := by simp [State.retentionExpired]

@[simp] theorem State.registerGroup_pending (sh : Nat) (l : List (Nat × Nat)) : (s.registerGroup sh l).pending = s.pending := by
  simp -implicitDefEqProofs [State.registerGroup]

@[simp] theorem State.registerMeters_pending (sh : Nat) (enrol : List (List Byte)) (retire : List Nat) :
    (s.registerMeters sh enrol retire).pending = s.pending := by
  simp -implicitDefEqProofs [State.registerMeters]

@[simp] theorem State.formWaiting_pending : s.formWaiting.pending = s.pending := by simp [State.formWaiting]
@[simp] theorem State.eraseMetering_pending (sh : Nat) : (s.eraseMetering sh).pending = s.pending := by simp [State.eraseMetering]
@[simp] theorem State.timeChanged_pending (old : Nat) : (s.timeChanged old).pending = s.pending := by simp [State.timeChanged]
@[simp] theorem State.clsChanged_pending (c : Nat) : (s.clsChanged c).pending = s.pending := by simp [State.clsChanged]

/-! ### Safe state (chapters 19 and 20) -/

@[simp] theorem State.freezeBox_pending (reason : Nat) : (s.freezeBox reason).pending = s.pending := by simp [State.freezeBox]
@[simp] theorem State.releaseBox_pending : s.releaseBox.pending = s.pending := by simp [State.releaseBox]
@[simp] theorem State.snapshot_pending : s.snapshot.pending = s.pending := by simp -implicitDefEqProofs [State.snapshot]
@[simp] theorem State.clearCounters_pending : s.clearCounters.pending = s.pending := by simp [State.clearCounters]

@[simp] theorem State.discardTxns_pending (cause : Nat) : (s.discardTxns cause).pending = s.pending :=
  pending_foldl _ (fun st sh => by split <;> simp) _ _

@[simp] theorem State.safeQuad_pending (q : Nat) : (s.safeQuad q).pending = s.pending := by simp [State.safeQuad]
@[simp] theorem State.rfOff_pending : s.rfOff.pending = s.pending := by simp [State.rfOff]
@[simp] theorem State.enterSafe_pending (cause unit : Nat) : (s.enterSafe cause unit).pending = s.pending := by simp [State.enterSafe]
@[simp] theorem State.clearCause_pending (cause : Nat) : (s.clearCause cause).pending = s.pending := by simp [State.clearCause]
@[simp] theorem State.driveSafeStat_pending : s.driveSafeStat.pending = s.pending := by simp [State.driveSafeStat]
@[simp] theorem State.leaveSafe_pending : s.leaveSafe.pending = s.pending := by simp [State.leaveSafe]
@[simp] theorem State.safeNLow_pending : s.safeNLow.pending = s.pending := by simp [State.safeNLow]
@[simp] theorem State.safeNCleared_pending : s.safeNCleared.pending = s.pending := by simp [State.safeNCleared]
@[simp] theorem State.sampleBank_pending (b : Nat) (temp : Int) : (s.sampleBank b temp).pending = s.pending := by simp [State.sampleBank]

@[simp] theorem State.sampleBanks_pending (a b c : Int) : (s.sampleBanks a b c).pending = s.pending := by
  fun_cases State.sampleBanks <;> simp +zetaDelta

@[simp] theorem State.checkCharter_pending (crc : Nat) : (s.checkCharter crc).pending = s.pending := by simp [State.checkCharter]

/-! ### Self-test (chapter 19) -/

@[simp] theorem State.phase2Done_pending (failed duration : Nat) : (s.phase2Done failed duration).pending = s.pending := by simp [State.phase2Done]

@[simp] theorem State.logFailure_pending (m result addr bit element spare : Nat) :
    (s.logFailure m result addr bit element spare).pending = s.pending := by
  unfold State.logFailure
  extract_lets e s1 s2
  have h1 : s1.pending = s.pending := pending_foldl _ (fun st i => by simp) _ s
  simp only [State.raise_pending, s2, State.count_pending, State.setBytes_pending, h1]

@[simp] theorem State.storeRepairs_pending : s.storeRepairs.pending = s.pending := by simp [State.storeRepairs]
@[simp] theorem State.retryRepairs_pending : s.retryRepairs.pending = s.pending := by fun_cases State.retryRepairs <;> simp
@[simp] theorem State.sweepComplete_pending : s.sweepComplete.pending = s.pending := by fun_cases State.sweepComplete <;> simp +zetaDelta
@[simp] theorem State.repairRow_pending (m : Nat) (f : Nat × Nat × Nat × Nat) : (s.repairRow m f).pending = s.pending := by simp [State.repairRow]

@[simp] theorem State.memorySlice_pending (failures : List (Nat × Nat × Nat × Nat)) (saveError : Option Nat) :
    (s.memorySlice failures saveError).pending = s.pending := by
  unfold State.memorySlice
  extract_lets w slice m s1 s2
  have h2 : s2.pending = s.pending := by unfold s2; split <;> simp [s1]
  repeat' split
  all_goals simp [h2]

@[simp] theorem State.logicSlice_pending (q : Nat) (ok : Bool) : (s.logicSlice q ok).pending = s.pending := by simp [State.logicSlice]
@[simp] theorem State.startSweep_pending : s.startSweep.pending = s.pending := by simp [State.startSweep]
@[simp] theorem State.sweepDue_pending : s.sweepDue.pending = s.pending := by simp [State.sweepDue]
@[simp] theorem State.sweepLate_pending : s.sweepLate.pending = s.pending := by simp [State.sweepLate]
@[simp] theorem State.sweepSwitched_pending : s.sweepSwitched.pending = s.pending := by simp [State.sweepSwitched]
@[simp] theorem State.correctedError_pending (m addr bit : Nat) : (s.correctedError m addr bit).pending = s.pending := by simp [State.correctedError]

@[simp] theorem State.uncorrectableMemory_pending (m addr : Nat) : (s.uncorrectableMemory m addr).pending = s.pending := by
  simp [State.uncorrectableMemory]

@[simp] theorem State.lanternTime_pending : s.lanternTime.pending = s.pending := by simp [State.lanternTime]

/-! ### Sessions (chapters 11 and 13) -/

@[simp] theorem State.enqueue_pending (f : OutFrame) : (s.enqueue f).pending = s.pending := by simp [State.enqueue]
@[simp] theorem State.offer_pending (f : OutFrame) : (s.offer f).pending = s.pending := by fun_cases State.offer <;> simp +zetaDelta
@[simp] theorem State.refill_pending : s.refill.pending = s.pending := by simp [State.refill]
@[simp] theorem State.discardFrames_pending (gone : OutFrame → Bool) : (s.discardFrames gone).2.pending = s.pending := by simp [State.discardFrames]
@[simp] theorem State.framesLost_pending (link : Nat) : (s.framesLost link).pending = s.pending := by simp [State.framesLost]
@[simp] theorem State.nextScan_pending : s.nextScan.pending = s.pending := by fun_cases State.nextScan <;> simp

@[simp] theorem State.sendUnder_pending (x : Session) (op : Nat) (reply : Bool) (payload : List Byte) (info : String) :
    (s.sendUnder x op reply payload info).pending = s.pending := by
  simp [State.sendUnder]

@[simp] theorem State.expireTxn_pending (x : Txn) (cause : Nat) : (s.expireTxn x cause).pending = s.pending := by simp [State.expireTxn]
@[simp] theorem State.forgetSession_pending (x : Session) : (s.forgetSession x).pending = s.pending := by simp [State.forgetSession]

@[simp] theorem State.endSession_pending (sid reason : Nat) : (s.endSession sid reason).pending = s.pending := by
  fun_cases State.endSession <;> simp +zetaDelta

@[simp] theorem State.sendTo_pending (sid op : Nat) (reply : Bool) (payload : List Byte) : (s.sendTo sid op reply payload).pending = s.pending := by
  fun_cases State.sendTo <;> simp +zetaDelta

@[simp] theorem State.errorReply_pending (sid : Nat) (f : Frame) (status : Nat) : (s.errorReply sid f status).pending = s.pending := by
  simp [State.errorReply]

@[simp] theorem State.clearReply_pending (f : Frame) (sid op : Nat) (payload : List Byte) : (s.clearReply f sid op payload).pending = s.pending := by
  simp [State.clearReply]

@[simp] theorem State.clearError_pending (f : Frame) (status : Nat) : (s.clearError f status).pending = s.pending := by simp [State.clearError]
@[simp] theorem State.unknownSession_pending (f : Frame) : (s.unknownSession f).pending = s.pending := by simp [State.unknownSession]

@[simp] theorem State.refuseHello_pending (f : Frame) (phase status : Nat) : (s.refuseHello f phase status).pending = s.pending := by
  unfold State.refuseHello
  extract_lets s1
  have h1 : s1.pending = s.pending := by
    unfold s1
    split
    · split <;> simp
    · rfl
  simp [h1]

theorem State.takeFrame_pending {s s' : State} {f : Frame} (h : s.takeFrame f = some s') : s'.pending = s.pending := by
  revert h
  fun_cases State.takeFrame <;> simp <;> (rintro rfl; rfl)

@[simp] theorem State.checkFrame_pending (x : Session) (f : Frame) : (s.checkFrame x f).2.pending = s.pending := by
  fun_cases State.checkFrame <;> simp +zetaDelta

theorem State.pending_of_checkFrame {s s' : State} {x : Session} {f : Frame} {y : Option Session} (h : s.checkFrame x f = (y, s')) :
    s'.pending = s.pending := by rw [← State.checkFrame_pending s x f, h]

@[simp] theorem State.afterRequest_pending (sid : Nat) : (s.afterRequest sid).pending = s.pending := by fun_cases State.afterRequest <;> simp

@[simp] theorem State.receive_pending (f : Frame) (act : State → Session → State)
    (hact : ∀ st x, (act st x).pending = st.pending) :
    (s.receive f act).pending = s.pending := by
  fun_cases State.receive
  case case1 => rfl
  all_goals have h1 := State.takeFrame_pending ‹_›
  case case7 _ h => simp [State.pending_of_checkFrame h, h1]
  case case8 _ h _ => simp [State.pending_of_checkFrame h, h1]
  case case9 _ h _ => simp [hact, State.pending_of_checkFrame h, h1]
  all_goals simp [h1]

@[simp] theorem State.halfOpenTimeout_pending (sid : Nat) : (s.halfOpenTimeout sid).pending = s.pending := by fun_cases State.halfOpenTimeout <;> simp
@[simp] theorem State.sessionIdle_pending (sid : Nat) : (s.sessionIdle sid).pending = s.pending := by fun_cases State.sessionIdle <;> simp
@[simp] theorem State.sessionLifetime_pending (sid : Nat) : (s.sessionLifetime sid).pending = s.pending := by fun_cases State.sessionLifetime <;> simp

@[simp] theorem State.rotationEnds_pending (sh : Nat) : (s.rotationEnds sh).pending = s.pending := by
  refine pending_foldl _ (fun st x => ?_) _ s
  split
  · split <;> simp
  · rfl

@[simp] theorem State.frameDiscarded_pending (f : Frame) : (s.frameDiscarded f).pending = s.pending := by simp [State.frameDiscarded]

theorem State.popFrame_pending {s s' : State} {link : Nat} {f : OutFrame} (h : s.popFrame link = some (f, s')) : s'.pending = s.pending := by
  revert h
  fun_cases State.popFrame <;> simp
  rintro - rfl
  rfl

/-! ### Shades and the Dome (chapter 11) -/

@[simp] theorem State.keep_pending (num sh : Nat) : (s.keep num sh).pending = s.pending := by simp [State.keep]
@[simp] theorem State.sealRecord_pending (n : Nat) : (s.sealRecord n).pending = s.pending := by simp [State.sealRecord]
@[simp] theorem State.defaults_pending (index lo hi : Nat) : (s.defaults index lo hi).pending = s.pending := by simp [State.defaults]
@[simp] theorem State.newStorageKey_pending (sh : Nat) : (s.newStorageKey sh).pending = s.pending := by simp [State.newStorageKey]
@[simp] theorem State.openShade_pending (sh : Nat) : (s.openShade sh).pending = s.pending := by simp [State.openShade]
@[simp] theorem State.rotate_pending (sh : Nat) (new : List Byte) : (s.rotate sh new).pending = s.pending := by simp [State.rotate]

@[simp] theorem State.erasePlans_pending (sh : Nat) : (s.erasePlans sh).pending = s.pending := by
  unfold State.erasePlans
  extract_lets plans cards s1 s2 s3 s4
  have h1 : s1.pending = s.pending := pending_foldl _ (fun st q => by
    split
    · split <;> simp
    · rfl) _ s
  have h2 : s2.pending = s1.pending := pending_foldl _ (fun st h => by
    split
    · split <;> simp
    · rfl) _ s1
  have h3 : s3.pending = s2.pending := pending_foldl _ (fun st p => by simp) _ s2
  have h4 : s4.pending = s3.pending := pending_foldl _ (fun st p => by simp) _ s3
  simp [h4, h3, h2, h1]

@[simp] theorem State.eraseQueue_pending (sh : Nat) : (s.eraseQueue sh).pending = s.pending := by
  unfold State.eraseQueue
  dsimp only
  simp only [State.releaseLines_pending, State.modShade_pending]

@[simp] theorem State.erase_pending (sh cause : Nat) : (s.erase sh cause).pending = s.pending := by simp [State.erase]
@[simp] theorem State.eraseDue_pending (sh : Nat) : (s.eraseDue sh).pending = s.pending := by simp [State.eraseDue]

@[simp] theorem State.closeShade_pending (sh : Nat) : (s.closeShade sh).pending = s.pending := by
  unfold State.closeShade
  extract_lets due s1
  simp only [State.raise_pending, State.sealRecord_pending, State.set_pending, s1, State.modShade_pending]

@[simp] theorem State.cancelClose_pending (sh : Nat) : (s.cancelClose sh).pending = s.pending := by simp [State.cancelClose]
@[simp] theorem State.claimRefused_pending (why : Nat) : (s.claimRefused why).pending = s.pending := by simp [State.claimRefused]
@[simp] theorem State.proofFailed_pending : s.proofFailed.pending = s.pending := by simp [State.proofFailed]
@[simp] theorem State.lockExpired_pending : s.lockExpired.pending = s.pending := by simp [State.lockExpired]
@[simp] theorem State.halfOpen_pending (f : Frame) (mode : Nat) : (s.halfOpen f mode).pending = s.pending := by simp [State.halfOpen]
@[simp] theorem State.helloOne_pending (f : Frame) : (s.helloOne f).pending = s.pending := by simp [State.helloOne]

@[simp] theorem State.helloPhaseOne_pending (f : Frame) : (s.helloPhaseOne f).pending = s.pending := by
  fun_cases State.helloPhaseOne
  case case1 | case2 => rfl
  all_goals simp [State.takeFrame_pending ‹_›]

@[simp] theorem State.claimed_pending (mode : Nat) (new : List Byte) : (s.claimed mode new).pending = s.pending := by simp [State.claimed]
@[simp] theorem State.openSession_pending (x : Session) : (s.openSession x).pending = s.pending := by simp [State.openSession]
@[simp] theorem State.phaseTwo_pending (x : Session) (f : Frame) : (s.phaseTwo x f).pending = s.pending := by simp [State.phaseTwo]

@[simp] theorem State.helloPhaseTwo_pending (f : Frame) (modes : List Nat) : (s.helloPhaseTwo f modes).pending = s.pending := by
  fun_cases State.helloPhaseTwo
  case case2 | case4 => exact State.receive_pending _ _ _ fun st y => by simp
  case case8 | case9 | case10 | case11 | case12 | case13 => simp [State.takeFrame_pending ‹_›]
  all_goals rfl

@[simp] theorem State.trngFailed_pending (kind : Nat) : (s.trngFailed kind).pending = s.pending := by simp [State.trngFailed]
@[simp] theorem State.trngRetest_pending (ok : Bool) : (s.trngRetest ok).pending = s.pending := by simp [State.trngRetest]

/-! ### Ethernet (chapter 13) -/

@[simp] theorem State.ethSend_pending (kind : Nat) (subject : List Byte) : (s.ethSend kind subject).pending = s.pending := by simp [State.ethSend]
@[simp] theorem State.ethQuiet_pending : s.ethQuiet.pending = s.pending := by simp [State.ethQuiet]
@[simp] theorem State.probe4_pending (a : List Byte) (source : Nat) : (s.probe4 a source).pending = s.pending := by simp [State.probe4]
@[simp] theorem State.probe6_pending (a : List Byte) (source : Nat) : (s.probe6 a source).pending = s.pending := by simp [State.probe6]
@[simp] theorem State.acquire4_pending : s.acquire4.pending = s.pending := by simp [State.acquire4]
@[simp] theorem State.acquire6_pending : s.acquire6.pending = s.pending := by simp [State.acquire6]
@[simp] theorem State.drop4_pending : s.drop4.pending = s.pending := by simp [State.drop4]
@[simp] theorem State.drop6_pending : s.drop6.pending = s.pending := by simp [State.drop6]
@[simp] theorem State.readdress_pending (s0 : State) (six : Bool) : (s0.readdress six).pending = s0.pending := by simp [State.readdress]
@[simp] theorem State.addressAcquired_pending (family : Nat) : (s.addressAcquired family).pending = s.pending := by simp [State.addressAcquired]
@[simp] theorem State.addressDuplicate_pending (family : Nat) : (s.addressDuplicate family).pending = s.pending := by simp [State.addressDuplicate]
@[simp] theorem State.addressRetry_pending (family : Nat) : (s.addressRetry family).pending = s.pending := by simp [State.addressRetry]

@[simp] theorem State.leased_pending (mask router : List Byte) (lease : Nat) : (s.leased mask router lease).pending = s.pending := by
  simp [State.leased]

@[simp] theorem State.dhcpMessage_pending (kind : Nat) (address server mask router : List Byte) (lease : Nat) :
    (s.dhcpMessage kind address server mask router lease).pending = s.pending := by
  simp [State.dhcpMessage]

@[simp] theorem State.leaseExpired_pending : s.leaseExpired.pending = s.pending := by simp [State.leaseExpired]
@[simp] theorem State.arpRequest_pending (target : List Byte) : (s.arpRequest target).pending = s.pending := by simp [State.arpRequest]

@[simp] theorem State.neighbourSolicitation_pending (target : List Byte) : (s.neighbourSolicitation target).pending = s.pending := by
  simp [State.neighbourSolicitation]

@[simp] theorem State.routerAdvertisement_pending (router : List Byte) (lifetime : Nat) (pfx : List Byte) (valid : Nat) :
    (s.routerAdvertisement router lifetime pfx valid).pending = s.pending := by
  simp [State.routerAdvertisement]

@[simp] theorem State.echoRequest_pending (target : List Byte) : (s.echoRequest target).pending = s.pending := by simp [State.echoRequest]
@[simp] theorem State.ethDiscarded_pending (why : Nat) : (s.ethDiscarded why).pending = s.pending := by simp [State.ethDiscarded]
@[simp] theorem State.setPlca_pending (new : Nat) : (s.setPlca new).pending = s.pending := by simp [State.setPlca]
@[simp] theorem State.ethUp_pending (speed : Nat) : (s.ethUp speed).pending = s.pending := by simp [State.ethUp]
@[simp] theorem State.ethDown_pending (cause : Nat) : (s.ethDown cause).pending = s.pending := by simp [State.ethDown]
@[simp] theorem State.ethStart_pending : s.ethStart.pending = s.pending := by simp [State.ethStart]
@[simp] theorem State.ethEnabled_pending (on : Bool) : (s.ethEnabled on).pending = s.pending := by simp [State.ethEnabled]
@[simp] theorem State.plcaChanged_pending : s.plcaChanged.pending = s.pending := by simp [State.plcaChanged]
@[simp] theorem State.plcaLost_pending : s.plcaLost.pending = s.pending := by simp [State.plcaLost]
@[simp] theorem State.plcaBeacon_pending : s.plcaBeacon.pending = s.pending := by simp [State.plcaBeacon]

@[simp] theorem State.mdioPoll_pending (id reg1 reg5 reg10 : Nat) : (s.mdioPoll id reg1 reg5 reg10).pending = s.pending := by
  simp -implicitDefEqProofs [State.mdioPoll]

/-! ### The Spire link (chapter 13) -/

@[simp] theorem State.spireError_pending (kind : Nat) : (s.spireError kind).pending = s.pending := by simp [State.spireError]
@[simp] theorem State.spireAssemble_pending (x : SpireIn) : (s.spireAssemble x).pending = s.pending := by simp [State.spireAssemble]
@[simp] theorem State.spireFragment_pending (x : SpireIn) : (s.spireFragment x).pending = s.pending := by simp [State.spireFragment]
@[simp] theorem State.spireTake_pending (x : SpireIn) : (s.spireTake x).pending = s.pending := by simp [State.spireTake]

@[simp] theorem State.transferEnd_pending (edges : Nat) (register : List Byte) : (s.transferEnd edges register).pending = s.pending := by
  fun_cases State.transferEnd <;> simp +zetaDelta

@[simp] theorem State.loadOutbound_pending : s.loadOutbound.pending = s.pending := by simp [State.loadOutbound]
@[simp] theorem State.spireDown_pending (cause : Nat) : (s.spireDown cause).pending = s.pending := by simp [State.spireDown]
@[simp] theorem State.spireTimeout_pending : s.spireTimeout.pending = s.pending := by simp [State.spireTimeout]
@[simp] theorem State.spireEnabled_pending (on : Bool) : (s.spireEnabled on).pending = s.pending := by simp [State.spireEnabled]

@[simp] theorem State.frameTransmitted_pending (link collisions : Nat) : (s.frameTransmitted link collisions).pending = s.pending := by
  fun_cases State.frameTransmitted
  case case4 h _ => simp [State.popFrame_pending h]
  case case5 h _ _ => simp [State.popFrame_pending h]
  all_goals rfl

/-! ### Power and resets (chapter 20) -/

@[simp] theorem State.boxOnly_pending (code : Nat) (detail : List Nat) : (s.boxOnly code detail).pending = s.pending := by simp [State.boxOnly]
@[simp] theorem State.atBoot_pending (code : Nat) (detail : List Nat) : (s.atBoot code detail).pending = s.pending := by simp [State.atBoot]
@[simp] theorem State.startPowerUp_pending : s.startPowerUp.pending = s.pending := by simp [State.startPowerUp]
@[simp] theorem State.thermalReading_pending (temps : List Int) : (s.thermalReading temps).pending = s.pending := by simp [State.thermalReading]
@[simp] theorem State.railUp_pending : s.railUp.pending = s.pending := by simp [State.railUp]
@[simp] theorem State.internalReleased_pending : s.internalReleased.pending = s.pending := by simp [State.internalReleased]
@[simp] theorem State.holdLogic_pending (trigger cause : Nat) : (s.holdLogic trigger cause).pending = s.pending := by simp [State.holdLogic]
@[simp] theorem State.tornGroup_pending : s.tornGroup.pending = s.pending := by fun_cases State.tornGroup <;> simp
@[simp] theorem State.shutdown_pending (trigger cause : Nat) : (s.shutdown trigger cause).pending = s.pending := by simp [State.shutdown]
@[simp] theorem State.shutdownEnds_pending : s.shutdownEnds.pending = s.pending := by simp [State.shutdownEnds]
@[simp] theorem State.powerDownStep_pending : s.powerDownStep.pending = s.pending := by simp [State.powerDownStep]
@[simp] theorem State.collapse_pending (rail mv : Nat) : (s.collapse rail mv).pending = s.pending := by simp [State.collapse]
@[simp] theorem State.supplyReturns_pending : s.supplyReturns.pending = s.pending := by simp [State.supplyReturns]
@[simp] theorem State.vpaLow_pending (mv : List Nat) : (s.vpaLow mv).pending = s.pending := by simp [State.vpaLow]
@[simp] theorem State.resetNLow_pending : s.resetNLow.pending = s.pending := by simp [State.resetNLow]
@[simp] theorem State.refclkLost_pending : s.refclkLost.pending = s.pending := by simp -implicitDefEqProofs [State.refclkLost]
@[simp] theorem State.refclkReturned_pending : s.refclkReturned.pending = s.pending := by simp [State.refclkReturned]
@[simp] theorem State.supervisor_pending : s.supervisor.pending = s.pending := by simp [State.supervisor]
@[simp] theorem State.hardLimit_pending (sensor : Nat) (temp : Int) : (s.hardLimit sensor temp).pending = s.pending := by simp [State.hardLimit]
@[simp] theorem State.activationStart_pending : s.activationStart.pending = s.pending := by fun_cases State.activationStart <;> simp
@[simp] theorem State.trialExpired_pending : s.trialExpired.pending = s.pending := by simp [State.trialExpired]
@[simp] theorem State.tornPage_pending (page op : Nat) : (s.tornPage page op).pending = s.pending := by simp [State.tornPage]
@[simp] theorem State.chooseImage_pending : s.chooseImage.pending = s.pending := by simp [State.chooseImage]
@[simp] theorem State.restart_pending (phase1 straps : Nat) : (s.restart phase1 straps).pending = s.pending := by simp [State.restart]

@[simp] theorem State.olderControl_pending : s.olderControl.pending = s.pending := by
  unfold State.olderControl
  split
  · rfl
  · exact pending_foldl _ (fun st sh => by dsimp only; split <;> simp) _ s

@[simp] theorem State.loadConfig_pending : s.loadConfig.pending = s.pending := by fun_cases State.loadConfig <;> simp
@[simp] theorem State.takeCharter_pending : s.takeCharter.pending = s.pending := by fun_cases State.takeCharter <;> simp
@[simp] theorem State.bootShort_pending : s.bootShort.pending = s.pending := by simp [State.bootShort]
@[simp] theorem State.loadChannels_pending : s.loadChannels.pending = s.pending := by simp [State.loadChannels]
@[simp] theorem State.applyConfig_pending : s.applyConfig.pending = s.pending := by simp -implicitDefEqProofs [State.applyConfig]

@[simp] theorem State.lostRecord_pending (kind n : Nat) : (s.lostRecord kind n).pending = s.pending := by
  unfold State.lostRecord
  extract_lets s1
  have h1 : s1.pending = s.pending := by simp [s1]
  clear_value s1
  repeat' split
  all_goals simp only [State.set_pending, State.toDefault_pending, State.modShade_pending, State.erase_pending, h1]

@[simp] theorem State.domainEvents_pending (vbak : Nat) : (s.domainEvents vbak).pending = s.pending := by simp [State.domainEvents]

@[simp] theorem State.release_pending (phase1 duration straps vbak : Nat) (torn lost : List (Nat × Nat)) :
    (s.release phase1 duration straps vbak torn lost).pending = s.pending := by
  simp -implicitDefEqProofs [State.release]

@[simp] theorem State.reachDictionary_pending : s.reachDictionary.pending = s.pending := by fun_cases State.reachDictionary <;> simp +zetaDelta
@[simp] theorem State.rfIsReady_pending : s.rfIsReady.pending = s.pending := by simp [State.rfIsReady]
@[simp] theorem State.uhfDown_pending : s.uhfDown.pending = s.pending := by simp -implicitDefEqProofs [State.uhfDown]
@[simp] theorem State.linksShut_pending : s.linksShut.pending = s.pending := by simp [State.linksShut]
@[simp] theorem State.changeMode_pending : s.changeMode.pending = s.pending := by fun_cases State.changeMode <;> simp +zetaDelta
@[simp] theorem State.askMode_pending (m : Nat) : (s.askMode m).pending = s.pending := by simp [State.askMode]
@[simp] theorem State.wake_pending (source channel hfReady : Nat) : (s.wake source channel hfReady).pending = s.pending := by simp [State.wake]
@[simp] theorem State.spreadOn_pending : s.spreadOn.pending = s.pending := by fun_cases State.spreadOn <;> simp +zetaDelta
@[simp] theorem State.spreadOff_pending (minutes : Nat) : (s.spreadOff minutes).pending = s.pending := by simp [State.spreadOff]

/-! ### The check value engine (chapter 18) -/

@[simp] theorem State.compute_pending (sid : Nat) (v : List Byte) : (s.compute sid v).pending = s.pending := by simp [State.compute]
@[simp] theorem State.startScan_pending (sid : Nat) (v : List Byte) : (s.startScan sid v).pending = s.pending := by simp [State.startScan]
@[simp] theorem State.abortScan_pending (sid : Nat) : (s.abortScan sid).pending = s.pending := by fun_cases State.abortScan <;> simp +zetaDelta

@[simp] theorem State.scanComplete_pending (sid : Nat) (error : Option Nat) : (s.scanComplete sid error).pending = s.pending := by
  fun_cases State.scanComplete <;> simp +zetaDelta

/-! ### The effect of a write (chapter 12) -/

@[simp] theorem State.applied_pending (ps : List Put) : (s.applied ps).pending = s.pending := by simp [State.applied]
@[simp] theorem State.bootPuts_pending (ps : List Put) : (s.bootPuts ps).pending = s.pending := by simp [State.bootPuts]
@[simp] theorem State.effectPower_pending (index sub v : Nat) : (s.effectPower index sub v).pending = s.pending := by simp [State.effectPower]

@[simp] theorem State.effectLinks_pending (changed : Bool) (index sub v : Nat) : (s.effectLinks changed index sub v).pending = s.pending := by
  simp [State.effectLinks]

@[simp] theorem State.effectShades_pending (w : Writer) (index sub : Nat) (v : Val) : (s.effectShades w index sub v).pending = s.pending := by
  simp [State.effectShades]

@[simp] theorem State.effectFirmware_pending (sub : Nat) (v : Val) : (s.effectFirmware sub v).pending = s.pending := by simp [State.effectFirmware]

@[simp] theorem State.effectTest_pending (changed : Bool) (index sub v : Nat) : (s.effectTest changed index sub v).pending = s.pending := by
  simp [State.effectTest]

@[simp] theorem State.effectEngine_pending (w : Writer) (index sub : Nat) (v : Val) : (s.effectEngine w index sub v).pending = s.pending := by
  simp [State.effectEngine]

@[simp] theorem State.effectTimers_pending (o s : State) (index sub v : Nat) : (State.effectTimers o s index sub v).pending = s.pending := by
  simp [State.effectTimers]

@[simp] theorem State.dropStaged_pending (sid : Nat) : (s.dropStaged sid).pending = s.pending := by simp [State.dropStaged]
@[simp] theorem State.commitTime_pending (sid v : Nat) : (s.commitTime sid v).pending = s.pending := by fun_cases State.commitTime <;> simp +zetaDelta
@[simp] theorem State.powerOff_pending (n : Nat) : (s.powerOff n).pending = s.pending := by simp [State.powerOff]

@[simp] theorem State.effectRtc_pending (w : Writer) (index sub v : Nat) : (s.effectRtc w index sub v).pending = s.pending := by
  simp [State.effectRtc]

@[simp] theorem State.effectBelfry_pending (changed : Bool) (index sub v : Nat) : (s.effectBelfry changed index sub v).pending = s.pending := by
  simp [State.effectBelfry]

@[simp] theorem State.effectPorts_pending (o s : State) (index sub v : Nat) : (State.effectPorts o s index sub v).pending = s.pending := by
  fun_cases State.effectPorts <;> simp

@[simp] theorem State.stopPlan_pending (p : Nat) : (s.stopPlan p).pending = s.pending := by simp [State.stopPlan]
@[simp] theorem State.replan_pending (o s : State) (p : Nat) : (State.replan o s p).pending = s.pending := by simp [State.replan]
@[simp] theorem State.freshPlan_pending (o s : State) (p : Nat) : (State.freshPlan o s p).pending = s.pending := by simp [State.freshPlan]

@[simp] theorem State.effectPlans_pending (o s : State) (w : Writer) (changed : Bool) (index sub v : Nat) :
    (State.effectPlans o s w changed index sub v).pending = s.pending := by
  simp [State.effectPlans]

@[simp] theorem State.effectMeters_pending (o s : State) (w : Writer) (changed : Bool) (index sub v : Nat) :
    (State.effectMeters o s w changed index sub v).pending = s.pending := by
  simp [State.effectMeters]

@[simp] theorem State.effect_pending (o s : State) (w : Writer) (p : Put) : (State.effect o s w p).pending = s.pending := by
  fun_cases State.effect <;> simp

@[simp] theorem State.effectGrants_pending (o s : State) (ps : List Put) : (State.effectGrants o s ps).pending = s.pending := by
  simp [State.effectGrants]

@[simp] theorem State.effectCharter_pending (o s : State) : (State.effectCharter o s).pending = s.pending := by
  fun_cases State.effectCharter <;> simp +zetaDelta

@[simp] theorem State.effectRegister_pending (o s : State) (w : Writer) (ps : List Put) : (State.effectRegister o s w ps).pending = s.pending := by
  fun_cases State.effectRegister <;> simp +zetaDelta

@[simp] theorem State.holdBack_pending (o s : State) (ps : List Put) : (State.holdBack o s ps).pending = s.pending := by simp [State.holdBack]

@[simp] theorem State.freezeOld_pending (o s : State) (ps : List Put) : (State.freezeOld o s ps).pending = s.pending := by
  fun_cases State.freezeOld <;> simp +zetaDelta

@[simp] theorem State.commit_pending (w : Writer) (num : Nat) (ps : List Put) : (s.commit w num ps).pending = s.pending := by simp [State.commit]

/-! ### Requests of a host (chapter 12) -/

@[simp] theorem State.freezeAsRead_pending (sid index sub : Nat) : (s.freezeAsRead sid index sub).pending = s.pending := by simp [State.freezeAsRead]

@[simp] theorem State.readValue_pending (sid index sub : Nat) : (s.readValue sid index sub).2.pending = s.pending := by
  fun_cases State.readValue <;> simp +zetaDelta

@[simp] theorem State.readItem_pending (sid : Nat) (b : List Byte) : (s.readItem sid b).2.pending = s.pending := by
  unfold State.readItem
  extract_lets index sub flags a r r1
  have hr : r.2.pending = s.pending := by
    unfold r
    split
    · rfl
    · split <;> simp [a]
  show r1.2.pending = s.pending
  unfold r1
  split <;> simp [hr]

@[simp] theorem State.readItems_pending (sid : Nat) (n : Nat) (b : List Byte) : (s.readItems sid n b).2.pending = s.pending := by
  fun_induction State.readItems <;> simp +zetaDelta [*]

@[simp] theorem State.onRead_pending (x : Session) (f : Frame) : (s.onRead x f).pending = s.pending := by simp [State.onRead]

@[simp] theorem State.readBlock_pending (x : Session) (p : List Byte) : (s.readBlock x p).2.2.pending = s.pending := by
  fun_cases State.readBlock <;> simp +zetaDelta

@[simp] theorem State.onReadBlock_pending (x : Session) (f : Frame) : (s.onReadBlock x f).pending = s.pending := by simp [State.onReadBlock]
@[simp] theorem State.judge_pending (w : Writer) (ps : List Put) : (s.judge w ps).2.pending = s.pending := by fun_cases State.judge <;> simp
@[simp] theorem State.refuseStore_pending (ps : List Put) : (s.refuseStore ps).pending = s.pending := by simp [State.refuseStore]

@[simp] theorem State.refusedAt_pending (sid index sub status : Nat) : (s.refusedAt sid index sub status).pending = s.pending := by
  simp [State.refusedAt]

@[simp] theorem State.inEffect_pending (sh num : Nat) : (s.inEffect sh num).pending = s.pending := by simp [State.inEffect]
@[simp] theorem State.dropTxn_pending (num : Nat) : (s.dropTxn num).pending = s.pending := by simp [State.dropTxn]
@[simp] theorem State.newTxn_pending (t : Txn) : (s.newTxn t).pending = s.pending := by simp [State.newTxn]

@[simp] theorem State.writeClassC_pending (x : Session) (f : Frame) (p : Put) : (s.writeClassC x f p).pending = s.pending := by
  simp [State.writeClassC]

@[simp] theorem State.onWrite_pending (x : Session) (f : Frame) : (s.onWrite x f).pending = s.pending := by simp [State.onWrite]

@[simp] theorem State.onTxnOpen_pending (x : Session) (f : Frame) : (s.onTxnOpen x f).pending = s.pending := by
  fun_cases State.onTxnOpen <;> simp +zetaDelta

@[simp] theorem State.onTxnStage_pending (x : Session) (f : Frame) : (s.onTxnStage x f).pending = s.pending := by
  fun_cases State.onTxnStage <;> simp +zetaDelta

@[simp] theorem State.commitChecks_pending (w : Writer) (t : Txn) (mode value : Nat) : (s.commitChecks w t mode value).2.2.pending = s.pending := by
  fun_cases State.commitChecks <;> simp +zetaDelta

@[simp] theorem State.onTxnCommit_pending (x : Session) (f : Frame) : (s.onTxnCommit x f).pending = s.pending := by
  fun_cases State.onTxnCommit <;> simp +zetaDelta

@[simp] theorem State.onTxnAbort_pending (x : Session) (f : Frame) : (s.onTxnAbort x f).pending = s.pending := by
  fun_cases State.onTxnAbort <;> simp +zetaDelta

@[simp] theorem State.txnIdle_pending (num : Nat) : (s.txnIdle num).pending = s.pending := by fun_cases State.txnIdle <;> simp
@[simp] theorem State.retryStore_pending (num : Nat) : (s.retryStore num).pending = s.pending := by fun_cases State.retryStore <;> simp
@[simp] theorem State.onSubscribe_pending (x : Session) (f : Frame) : (s.onSubscribe x f).pending = s.pending := by simp [State.onSubscribe]
@[simp] theorem State.sendEvents_pending (sh : Nat) : (s.sendEvents sh).pending = s.pending := by fun_cases State.sendEvents <;> simp
@[simp] theorem State.onAck_pending (x : Session) (f : Frame) : (s.onAck x f).pending = s.pending := by fun_cases State.onAck <;> simp +zetaDelta
@[simp] theorem State.redeliveryTime_pending (sh : Nat) : (s.redeliveryTime sh).pending = s.pending := by fun_cases State.redeliveryTime <;> simp

@[simp] theorem State.hostRequest_pending (f : Frame) (op : Nat) (act : State → Session → Frame → State)
    (hact : ∀ st x g, (act st x g).pending = st.pending) :
    (s.hostRequest f op act).pending = s.pending := by
  unfold State.hostRequest
  split
  · exact State.receive_pending s f _ (fun st x => hact st x f)
  · rfl

/-! ### Management rows (chapter 12) -/

@[simp] theorem State.writeRow_pending (f : Frame) (p : Nat → Nat → Nat → Bool) : (s.writeRow f p).pending = s.pending := by simp [State.writeRow]
@[simp] theorem State.readRow_pending (f : Frame) (index sub : Nat) : (s.readRow f index sub).pending = s.pending := by simp [State.readRow]
@[simp] theorem State.freezeExpired_pending (sid : Nat) : (s.freezeExpired sid).pending = s.pending := by simp [State.freezeExpired]
@[simp] theorem State.stagedExpired_pending (sid : Nat) : (s.stagedExpired sid).pending = s.pending := by simp [State.stagedExpired]

/-! ### The slot boundary (chapter 2) -/

@[simp] theorem State.takeDue_pending (t : Txn) : (s.takeDue t).pending = s.pending := by fun_cases State.takeDue <;> simp +zetaDelta
@[simp] theorem State.takeDues_pending : s.takeDues.pending = s.pending := by simp [State.takeDues]

@[simp] theorem State.cutForbidden_pending (before : List Nat) (q : Nat) : (s.cutForbidden before q).pending = s.pending := by
  simp [State.cutForbidden]

@[simp] theorem State.portsDark_pending : s.portsDark.pending = s.pending := by simp [State.portsDark]
@[simp] theorem State.loweredDone_pending : s.loweredDone.pending = s.pending := by simp [State.loweredDone]
@[simp] theorem State.nothingHeld_pending : s.nothingHeld.pending = s.pending := by simp [State.nothingHeld]
@[simp] theorem State.hfCut_pending (h : Nat) : (s.hfCut h).pending = s.pending := by simp [State.hfCut]
@[simp] theorem State.quietErased_pending : s.quietErased.pending = s.pending := by fun_cases State.quietErased <;> simp +zetaDelta
@[simp] theorem State.frameCount_pending : s.frameCount.pending = s.pending := by simp [State.frameCount]
@[simp] theorem State.calendarEvent_pending : s.calendarEvent.pending = s.pending := by simp [State.calendarEvent]

@[simp] theorem State.heldForCredit_pending (q : Nat) : (s.heldForCredit q).pending = s.pending := by
  fun_cases State.heldForCredit <;> simp +zetaDelta

@[simp] theorem State.openWindow_pending (q : Nat) : (s.openWindow q).pending = s.pending := by simp [State.openWindow]
@[simp] theorem State.offWindow_pending (q : Nat) : (s.offWindow q).pending = s.pending := by simp [State.offWindow]
@[simp] theorem State.suspendPlan_pending (p : Nat) : (s.suspendPlan p).pending = s.pending := by simp [State.suspendPlan]

@[simp] theorem State.hfWindow_pending (pings : List Nat) (h : Nat) : (s.hfWindow pings h).pending = s.pending := by
  unfold State.hfWindow
  extract_lets e s1
  have h1 : s1.pending = s.pending := by
    unfold s1
    split
    · split <;> simp
    · rfl
  repeat' split
  all_goals simp [h1]

@[simp] theorem State.lanternQueues_pending : s.lanternQueues.pending = s.pending := by simp [State.lanternQueues]
@[simp] theorem State.lanternLoops_pending : s.lanternLoops.pending = s.pending := by simp [State.lanternLoops]
@[simp] theorem State.lanternSlot_pending : s.lanternSlot.pending = s.pending := by simp [State.lanternSlot]
@[simp] theorem State.nextSlotCount_pending : s.nextSlotCount.pending = s.pending := by simp [State.nextSlotCount]
@[simp] theorem State.frameWork_pending : s.frameWork.pending = s.pending := by simp [State.frameWork]
@[simp] theorem State.forbidWork_pending (before : List Nat) : (s.forbidWork before).pending = s.pending := by simp [State.forbidWork]
@[simp] theorem State.windowWork_pending (pings : List Nat) : (s.windowWork pings).pending = s.pending := by simp [State.windowWork]
@[simp] theorem State.slotBoundary_pending (pings : List Nat) : (s.slotBoundary pings).pending = s.pending := by simp [State.slotBoundary]
@[simp] theorem State.endWindow_pending (q : Nat) : (s.endWindow q).pending = s.pending := by fun_cases State.endWindow <;> simp
@[simp] theorem State.windowEnds_pending : s.windowEnds.pending = s.pending := by simp [State.windowEnds]

@[simp] theorem State.calSyncPulse_pending (width incF : Nat) (want : Int) : (s.calSyncPulse width incF want).pending = s.pending := by
  fun_cases State.calSyncPulse <;> simp +zetaDelta

/-! ### The drain order (chapter 14) -/

@[simp] theorem State.serveStage_pending (stage unit : Nat) (f : State → State) (hf : ∀ st, (f st).pending = st.pending) :
    (s.serveStage stage unit f).pending = s.pending := by
  unfold State.serveStage
  split
  · exact hf s
  · rfl

/-! ### Commands and steps -/

/-- A command moves the instant and then, out of deep standby, runs an operation. -/
theorem State.at_awake_pending (s : State) (t : Nat) (f : State → State) (hf : ∀ st, (f st).pending = st.pending) :
    ((s.at t).awake f).pending = s.pending := (State.awake_pending _ f hf).trans (State.at_pending s t)

/-- Every command answers a next state, with the waiting commands as they were: each moves the instant and then works through operations
that leave the queue alone. -/
theorem exec_answers (c : Instr) (s : State) : ∃ s', exec c s = .next s' ∧ s'.pending = s.pending := by
  cases c
  case channelMemoryWrite t => exact ⟨_, rfl, State.at_awake_pending s t State.writeChannels State.writeChannels_pending⟩
  case mainsSenseEdgeRejected t => exact ⟨_, rfl, State.at_awake_pending s t _ fun st => State.count_pending st _ _⟩
  case spreadRestored t =>
    refine ⟨_, rfl, ?_⟩
    dsimp only
    split <;> simp
  all_goals exact ⟨_, rfl, by simp⟩

/-- A step on an empty queue idles. -/
theorem step_of_empty {s : State} (h : s.pending = []) : step s = .next s := by
  unfold step; rw [h]

/-- A step runs the front command. -/
theorem step_of_front {s : State} {c : Instr} {rest : List Instr} (h : s.pending = c :: rest) :
    step s = exec c { s with pending := rest } := by
  unfold step; rw [h]

/-- Settles O2: a step runs the front command on the queue's rest, or idles on an empty queue, and `exec_answers` says the rest. That no
command stops the block and that an empty queue idles are the model's choices (log entries 65 and 5). -/
theorem stepsAnswerAndKeepTheQueue : Obligations.StepsAnswerAndKeepTheQueue := by
  unfold Obligations.StepsAnswerAndKeepTheQueue
  refine ⟨fun c s s' h => ?_, fun s => ?_⟩
  · obtain ⟨s1, hs1, hq⟩ := exec_answers c s
    have he : s1 = s' := Host.Outcome.next.inj (hs1.symm.trans h)
    exact he ▸ hq
  · cases hp : s.pending with
    | nil => exact ⟨s, step_of_empty hp⟩
    | cons c rest =>
      obtain ⟨s', hs', -⟩ := exec_answers c { s with pending := rest }
      exact ⟨s', (step_of_front hp).trans hs'⟩

end Sys2Proof.Machine
end
